-- ==== Sys2Proof/Word.lean ====
section
/-! DEFINITION. The word types of the block and their plainest arithmetic (R9, R13).
Fields that the manual lays out as bits are bit vectors; counts, addresses and sizes are natural numbers. -/
namespace Sys2Proof

/-- One byte of memory or of a packet. -/
abbrev Byte := BitVec 8
/-- A run of bytes, lowest address first. -/
abbrev Bytes := List Byte
/-- A time tag, a packet sequence number or a ring index: 32 bits that wrap. -/
abbrev W32 := BitVec 32
/-- A 64-bit register. -/
abbrev W64 := BitVec 64
/-- A work entry, a ring context image or a Silus header: 64 bytes, byte k in bits [8k+7:8k] (R9). -/
abbrev W512 := BitVec 512

/-- R57, R127, R273: the difference of two wrapping numbers, `(a - b) mod 2^w`, as a count. -/
def serialDiff (a b : BitVec w) : Nat := (a - b).toNat

/-- R127 and R273: `a` is newer than `b` when `(a - b) mod 2^32` lies in 1 to 2^31 - 1. -/
def serialNewer (a b : W32) : Bool := 1 ≤ serialDiff a b && serialDiff a b ≤ 0x7FFFFFFF

end Sys2Proof
end

