-- ==== Sys2Proof/Machine/Param.lean ====
section
/-! DEFINITION. What a dictionary parameter is (R13, R94, R96, R97): type, kind, scope, default and range.
The parameters themselves stand in CatalogA.lean to CatalogC.lean, one definition each, named by their D number. -/
namespace Sys2Proof.Machine

/-- R13: the types of a parameter. `string n` and `blob n` carry their stated maximum length. -/
inductive PType where
  | u8 | u16 | u32 | u64 | i32 | bool | enum | ticks
  | string (max : Nat)
  | blob (len : Nat)
  deriving DecidableEq, Repr

/-- R13: the kinds of a parameter. RW1C is in the table of R13; no parameter of revision A1 has it. -/
inductive PKind where
  | ro | rw | wo | rw1c | sh | lv
  deriving DecidableEq, Repr

/-- R13: the scopes of a parameter; all but package carry one instance index. -/
inductive PScope where
  | package | tower | port | tenant
  deriving DecidableEq, Repr

/-- The range a table of parameters states, in the form the table has it. -/
inductive PRange where
  /-- Every value of the type. -/
  | any
  /-- Unsigned bounds, both included. -/
  | nat (lo hi : Nat)
  /-- Two's complement bounds, both included. -/
  | int (lo hi : Int)
  /-- The listed values only. -/
  | oneOf (vs : List Nat)
  /-- Zero, or unsigned bounds, both included. -/
  | zeroOr (lo hi : Nat)
  /-- Two fields: bits [11:0] from 0 to 4,095 and bits [28:16] from 0 to 4,096; the other bits zero. -/
  | rangePair
  /-- D8.0030: bytes 0 to 4 each from 1 to 255, bytes 5 to 7 zero. -/
  | classWeights
  /-- D13.0001: the lane assignment of R508. -/
  | laneAssign
  /-- D20.0070: from 300 to ten times the part's TDP. -/
  | powerCap
  deriving DecidableEq, Repr

/-- One parameter of the dictionary. -/
structure Param where
  group : Nat
  item  : Nat
  ty    : PType
  kind  : PKind
  scope : PScope
  dflt  : Nat
  range : PRange
  deriving DecidableEq, Repr

/-- R97: the byte width of a fixed-width type; none for a string or a blob. -/
def PType.width : PType → Option Nat
  | .u8 | .bool | .enum => some 1
  | .u16 => some 2
  | .u32 | .i32 => some 4
  | .u64 | .ticks => some 8
  | .string _ | .blob _ => none

/-- R97: the maximum length of a value, in bytes. -/
def PType.maxLen : PType → Nat
  | .u8 | .bool | .enum => 1
  | .u16 => 2
  | .u32 | .i32 => 4
  | .u64 | .ticks => 8
  | .string n | .blob n => n

/-- R102: both sets hold the parameters of kind SH, RW and LV. -/
def PKind.inSets : PKind → Bool
  | .sh | .rw | .lv => true
  | .ro | .wo | .rw1c => false

/-- R94, R110: addresses compare in ascending order of GROUP, ITEM, INDEX0, INDEX1. -/
def paramKey (group item i0 i1 : Nat) : Nat := ((group * 65536 + item) * 65536 + i0) * 65536 + i1

/-- The key of an instance of a parameter. -/
def Param.key (p : Param) (i0 : Nat) : Nat := paramKey p.group p.item i0 0

/-- R94: the parameter address that a key stands for: [15:0] ITEM, [23:16] GROUP, [47:32] INDEX0, [63:48] INDEX1. -/
def keyAddress (k : Nat) : Nat :=
  let i1 := k % 65536
  let i0 := k / 65536 % 65536
  let item := k / 4294967296 % 65536
  let group := k / 281474976710656
  item + group * 65536 + i0 * 4294967296 + i1 * 281474976710656

/-- The key that a parameter address names (its reserved byte [31:24] is judged by R112). -/
def addressKey (a : Nat) : Nat :=
  paramKey (a / 65536 % 256) (a % 65536) (a / 4294967296 % 65536) (a / 281474976710656 % 65536)

end Sys2Proof.Machine
end

