-- ==== Sys2Proof/Machine/Table.lean ====
section
/-! DEFINITION. Sparse tables in canonical form: keys strictly rising, no entry equal to what an absent key reads as.
Memory and every numbered group of state is such a table, so that equal contents are equal data. -/
namespace Sys2Proof.Machine

/-- A sparse table: (key, value), keys strictly rising. [DESIGN CHOICE, log 4] -/
abbrev Tbl (α : Type) := List (Nat × α)

/-- The entry at `k`, if there is one. -/
def tget (k : Nat) : Tbl α → Option α
  | [] => none
  | (j, v) :: t => if k = j then some v else tget k t

/-- The entry at `k`, or what an absent key reads as. -/
def tgetD (t : Tbl α) (k : Nat) (d : α) : α := (tget k t).getD d

/-- Enter `v` at `k`. [DESIGN CHOICE, log 4] -/
def tset (k : Nat) (v : α) : Tbl α → Tbl α
  | [] => [(k, v)]
  | (j, u) :: t => if k < j then (k, v) :: (j, u) :: t else if k = j then (k, v) :: t else (j, u) :: tset k v t

/-- Remove the entry at `k`. -/
def terase (k : Nat) : Tbl α → Tbl α
  | [] => []
  | (j, u) :: t => if k = j then t else (j, u) :: terase k t

/-- Enter `v` at `k`, where an absent key reads as `d`: writing `d` removes the entry. [DESIGN CHOICE, log 4] -/
def tput [DecidableEq α] (d : α) (k : Nat) (v : α) (t : Tbl α) : Tbl α :=
  if v = d then terase k t else tset k v t

/-- Change the entry at `k`, if there is one. -/
def tmodify (k : Nat) (f : α → α) : Tbl α → Tbl α
  | [] => []
  | (j, u) :: t => if k = j then (j, f u) :: t else (j, u) :: tmodify k f t

/-- Change every entry. -/
def tmap (f : Nat → α → α) (t : Tbl α) : Tbl α := t.map (fun (k, v) => (k, f k v))

/-- Keep the entries for which `p` holds. -/
def tfilter (p : Nat → α → Bool) (t : Tbl α) : Tbl α := t.filter (fun (k, v) => p k v)

/-- The lowest key, of those below `n`, that the table does not list. -/
def tfree (t : Tbl α) : Nat → Nat → Option Nat
  | 0, _ => none
  | n + 1, k => if (tget k t).isNone then some k else tfree t n (k + 1)

/-- Every key is at least `lo` and the keys rise strictly. -/
def risingFrom : Nat → Tbl α → Bool
  | _, [] => true
  | lo, (k, _) :: t => lo ≤ k && risingFrom (k + 1) t

/-- The canonical form: keys strictly rising, no entry equal to `d`. [DESIGN CHOICE, log 4] -/
def twfD [DecidableEq α] (d : α) (t : Tbl α) : Bool := risingFrom 0 t && t.all (fun e => e.2 ≠ d)

end Sys2Proof.Machine
end

