-- ==== Sys2Proof/Machine/DictState.lean ====
section
/-! DEFINITION. The state of the parameter dictionary (R94 to R129): the two sets, the armed swap, the queues. -/
namespace Sys2Proof.Machine

/-- R99: the requester classes. A VF is its tenant. -/
inductive ReqClass where
  | pf0 | pf1
  | vf (tenant : Nat)
  | bmc | seg | fm | fw
  deriving DecidableEq, Repr

/-- R102: one set. `ints` holds the fixed-width values that differ from their default, by parameter key; `blobs` the
bytes of blobs that differ from zero, by parameter key times 2^24 plus offset. -/
structure ParamSet where
  ints  : Tbl Nat := []
  blobs : Tbl Byte := []
  deriving DecidableEq, Repr

/-- R675: the path by which a request came and its response returns. -/
inductive Route where
  /-- R551: the mailbox of a function. -/
  | mailbox (fn : Nat)
  /-- R686: MCTP over I3C. -/
  | mctp
  /-- R678: the segment: the source's MAC address, IPv6 address and UDP port, and SEQ. -/
  | segment (mac : BitVec 48) (ip : BitVec 128) (port : BitVec 16) (seq : BitVec 32)
  /-- R687: a datagram: its source adapter, its PATH, and SEQ. -/
  | fabric (src path : Nat) (seq : BitVec 32)
  /-- R689: a link-scoped datagram: its arrival port, its source adapter, and SEQ. -/
  | link (port src : Nat) (seq : BitVec 32)
  /-- Adapter firmware. -/
  | firmware
  deriving DecidableEq, Repr

/-- R109, R113: a request waiting in the dictionary's queue: where its answer goes, and its bytes. -/
structure DictRequest where
  route : Route
  bytes : Bytes
  deriving DecidableEq, Repr

/-- R119: an armed swap. -/
structure ArmedSwap where
  tick   : Nat
  swapId : BitVec 32
  late   : Bool
  deriving DecidableEq, Repr

/-- R718: the counters of the moment in which D20.0040 was written to 1: stored and computed values by parameter key, SEQ
by 64 × tenant + stage, and by 16 × tower + channel the descriptors that ended and those that ended badly. -/
structure FrozenCounters where
  ro       : Tbl Nat := []
  values   : Tbl Nat := []
  stageSeq : Tbl Nat := []
  descs    : Tbl (BitVec 32 × BitVec 32) := []
  deriving DecidableEq, Repr

/-- R113 to R126: the dictionary's own state. -/
structure DictState where
  active     : ParamSet := {}
  shadow     : ParamSet := {}
  generation : BitVec 32 := 0
  armed      : Option ArmedSwap := none
  /-- R126: the shadow set is being rebuilt since this time. -/
  copying    : Option Nat := none
  lastTick   : Nat := 0
  lastFlags  : BitVec 8 := 0
  lastReason : BitVec 8 := 0
  lastDetail : BitVec 64 := 0
  lastSwapId : BitVec 32 := 0
  queue      : List DictRequest := []
  /-- R718: what counters read while D20.0040 is 1: the stored counters and the computed ones as they stood. -/
  frozen     : Option FrozenCounters := none
  deriving DecidableEq, Repr

end Sys2Proof.Machine
end

