-- ==== Sys2Proof/Machine/Packet.lean ====
section
/-! DEFINITION. A Silus packet as it stands on a link (R259 to R266). -/
namespace Sys2Proof.Machine

/-- R259, R261, R264: a packet: the 24-byte base header, the extension as its bytes from byte 24 read low byte first,
the payload, and the trailer. `badEnd`: the frame ended with the link's bad-end marker (R268). -/
structure Packet where
  hdr     : BitVec 192
  ext     : BitVec 448
  payload : Bytes
  trailer : Bytes
  badEnd  : Bool
  deriving DecidableEq, Repr

/-- A packet as it arrives at a network port: the port, the hop class of its SOP block (R526), the bytes of a received
encapsulation before the Silus packet (18 for Ethernet, 66 for UDP/IPv6, none on a fabric link, R256), the packet, and
whether the host translates every page of its range, should it need host translation (R231, R558). -/
structure Rx where
  port : Nat
  cls : Nat
  outer : Bytes
  pkt : Packet
  translates : Bool
  deriving DecidableEq, Repr

end Sys2Proof.Machine
end

