-- ==== Sys2Proof/Machine/TimeState.lean ====
section
/-! DEFINITION. The state of fabric time (R52 to R89): the counter, its servo, the grandmaster selection, the ports'
exchanges, the pulse pins and the armed triggers. -/
namespace Sys2Proof.Machine

/-- R63: the time states, in the order of D2.0001. -/
inductive TimeMode where
  | freeRun | acquiring | locked | holdover
  deriving DecidableEq, Repr

/-- D2.0005: what the adapter takes its time from. -/
inductive TimeRef where
  | port (n : Nat)
  | self
  | pps
  | none
  deriving DecidableEq, Repr

/-- R69, R79: the body of an announcement; the fields in the order the comparison of R79 does not follow. -/
structure Announce where
  priority1    : BitVec 8
  clockClass   : BitVec 8
  accuracy     : BitVec 8
  priority2    : BitVec 8
  variance     : BitVec 16
  stepsRemoved : BitVec 16
  identity     : BitVec 64
  utcOffset    : BitVec 16
  deriving DecidableEq, Repr

/-- R79, R81: an announcement held as a candidate, with the time it was last renewed. -/
structure Candidate where
  ann     : Announce
  renewed : Nat
  deriving DecidableEq, Repr

/-- R70, R71: a SYNC sent on a port and not yet answered; `t1` in quarter ticks. -/
structure SyncSent where
  seq : BitVec 8
  t1  : Nat
  at_ : Nat
  deriving DecidableEq, Repr

/-- R71 to R74: what the adapter keeps of time exchange on one network port. -/
structure TimePort where
  seq      : BitVec 8 := 0
  annSeq   : BitVec 8 := 0
  syncs    : Nat := 0
  nextSync : Nat := 0
  pendingSyncs : List SyncSent := []
  mean     : Option Int := none
  offset   : Int := 0
  cand     : Option Candidate := none
  ptpSeq   : BitVec 16 := 0
  ptpNext  : Nat := 0
  /-- IEEE 1588: the two-step Sync that waits for its Follow_Up: its sequence number and receive time. -/
  ptpT1    : Option (BitVec 16 × Int) := none
  /-- The last Sync's receive time less its origin time, quarter ticks. -/
  ptpSync  : Option Int := none
  /-- The delay request sent last, and when. -/
  ptpReq   : Option (BitVec 16 × Nat) := none
  /-- A two-step Pdelay_Resp that waits for its Follow_Up: what is known of twice the delay. -/
  ptpResp  : Option (BitVec 16 × Int) := none
  ptpDelay : Option Int := none
  deriving DecidableEq, Repr

/-- R89: the kinds of event that one period releases, in their order after the swap and the spire slots. -/
inductive TriggerKind where
  | reduce | mover | deadline
  deriving DecidableEq, Repr

/-- R59, R87: an armed trigger: its 64-bit time, its kind, the tower that holds it, and what it releases: a ring's
chain and entry, or a speculation. -/
structure Trigger where
  time  : Nat
  kind  : TriggerKind
  tower : Nat
  ring  : Nat
  first : BitVec 32
  entry : Nat
  /-- R60, R66: it fires with the late-trigger flag. -/
  late  : Bool := false
  deriving DecidableEq, Repr

/-- Fabric time and everything that keeps it. -/
structure TimeState where
  /-- R52: the count of ticks, modulo 2^64. -/
  now        : Nat := 0
  mode       : TimeMode := .freeRun
  ref        : TimeRef := .none
  /-- R54: the 32-bit fraction below the tick. -/
  fraction   : BitVec 32 := 0
  /-- R55: the frequency correction and the phase correction still to be slewed, in 2^-32 tick per period and in
  quarter ticks. -/
  freq       : Int := 0
  phaseLeft  : Int := 0
  lastOffset : Int := 0
  errorQ     : Nat := 0
  errorLock  : Nat := 0
  holdSince  : Nat := 0
  /-- R67, the row of HOLDOVER: the reference is regained and consecutive offsets are being counted. -/
  regained   : Bool := false
  inBand     : Nat := 0
  /-- R67: the next accepted offset is the first from a port that carries the same grandmaster. -/
  firstOffset : Bool := false
  lastAccept : Nat := 0
  everLocked : Bool := false
  gm         : Announce := ⟨0, 0, 0, 0, 0, 0, 0, 0⟩
  ports      : Tbl TimePort := []
  ppsOut     : Bool := false
  ppsOutRose : Nat := 0
  ppsLast    : Nat := 0
  ppsAccept  : Nat := 0
  ppsLost    : Bool := false
  triggers   : List Trigger := []
  deriving DecidableEq, Repr

end Sys2Proof.Machine
end

