-- ==== Sys2Proof/Syntax.lean ====
section
/-! DEFINITION. The commands of the block (spec/opcode_table.json) and the types of their operands. What an operand
carries is what the outside brings with the event: a received packet, the answer of a memory the block does not
hold, a measurement. -/
namespace Sys2Proof

open Machine

/-- The answer of a memory outside the block to a read (R152, R157, R557, R751): the data, an error, or no answer
within the completion timeout. A read of package memory takes its data from the block's own memory; the answer
then says only whether the read completed. [DESIGN CHOICE, log 3] -/
inductive MemAns where
  | data (bytes : Bytes)
  | error
  | timeout
  deriving DecidableEq, Repr

/-- By which path a doorbell or an access arrives (R145, R569): a host port or an attach port. -/
inductive Via where
  | host (port : Nat)
  | attach (port : Nat)
  deriving DecidableEq, Repr

/-- What a read-back belongs to (R249): a message of the peer, a READ of this side, or an entry whose local buffer was
written. -/
inductive ReadFor where
  | peer (conn : Nat) (msn : BitVec 32)
  | own (conn : Nat) (msn : BitVec 32)
  | entry (ring : Nat) (first : BitVec 32) (pos : Nat)
  deriving DecidableEq, Repr

/-- R495, R751: a request that the adapter has issued to a memory and that has not been answered. -/
inductive ReadOf where
  /-- R141, R148: a fetch, and a re-fetch, of a ring: tenant, ring, first index. -/
  | fetch (t ring : Nat) (index : BitVec 32)
  | refetch (t ring : Nat) (index : BitVec 32)
  /-- R157, R753: the payload of a message's packet, or of a READ response. -/
  | payload (conn : Nat) (msn : BitVec 32) (resp : Bool) (index : Nat)
  /-- R753: a placement write. -/
  | placement (conn : Nat) (msn : BitVec 32) (own : Bool) (addr : BitVec 64)
  /-- R204: a context fetch, and a write-back. -/
  | context (conn : Nat)
  | writeback (conn : Nat)
  /-- R420: a bay load, and a bay write-back. -/
  | bayLoad (tower block : Nat)
  | bayWrite (tower block : Nat)
  /-- R620: a burst of a mover channel. -/
  | burst (tower chan off : Nat)
  /-- R251: a read-back. -/
  | readback (target : ReadFor)
  /-- R157, R231: the local read of a ring's next ready entry. -/
  | entry (t ring : Nat)
  deriving DecidableEq, Repr


/-- The commands the block takes: one constructor per row of spec/opcode_table.json, in the table's order. [DESIGN CHOICE, log 97] -/
inductive Instr where
  /-- PACKAGE_RESET (R738): PKG_RST_N is driven low, or the package otherwise enters reset, and all state returns to reset values. -/
  | packageReset
  /-- PACKAGE_RESET_RELEASE (R737): PKG_RST_N is released: the straps are latched, fabric time starts at 0 in FREE_RUN and the ROM boot begins. Operand: the straps as R733 numbers them. -/
  | packageResetRelease (straps : BitVec 4)
  /-- SUPPLY_FAULT (R735): A supply leaves its range by more than 8% for over 2 us, so the adapter logs a FATAL entry and enters package reset. Operand: whether VDD_IO is lost. -/
  | supplyFault (io : Bool)
  /-- SUPPLY_RESTORED (R735): Every supply has been back in range for 1 ms, and the reset held by the supply monitor ends as a release of PKG_RST_N does. Operand: the straps as R733 numbers them. -/
  | supplyRestored (straps : BitVec 4)
  /-- FUNCTIONS_ENABLE (R698): Firmware finishes checking the bridges, initialising memory and loading the defaults, then enables the host functions and the enabled ports. Operand: the bridges that trained, by bit. -/
  | functionsEnable (trained : BitVec 10)
  /-- BRIDGE_FATAL (R32): A bridge error that retry cannot correct takes every port down, fails work in flight with BUS_ERROR and reports fatal AER. Operand: the bridge. -/
  | bridgeFatal (bridge : Nat)
  /-- THERMAL_TRIP (R729): A logic or stack temperature reaches its trip point, so the fault is fatal and THERMTRIP_N is asserted. Operands: the tower, whether the stack reached its limit (else the logic), the temperature, in 1/8 degree. -/
  | thermalTrip (tower : Nat) (stack : Bool) (temp : Int)
  /-- JTAG_TRST (R733): TRST_N goes low and holds the JTAG port in Test-Logic-Reset. -/
  | jtagTrst
  /-- PERST_ASSERT (R744): PERST_N of a host port goes low, which holds the link down and acts on its functions as link loss. Operand: the host port. -/
  | perstAssert (host : Nat)
  /-- PERST_DEASSERT (R744): PERST_N of a host port rises, and the port starts training. Operand: the host port. -/
  | perstDeassert (host : Nat)
  /-- HOST_LINK_TRAINED (R545): A host port completes PCIe training and reports its rate, its width and LOW_LINK. Operands: the host port, the rate, 1 to 5, the bytes written. -/
  | hostLinkTrained (host : Nat) (rate : Nat) (width : Nat)
  /-- HOST_LINK_DOWN (R547): A hot reset or link loss of a host port resets all of its functions with cause 3 and clears VF Enable. Operand: the host port. -/
  | hostLinkDown (host : Nat)
  /-- FLR (R585): A function-level reset of a function starts a reset of its tenant with cause 1. Operand: the tenant. -/
  | flr (t : Nat)
  /-- VF_ENABLE_SET (R577): VF Enable is set on a PF, which enables its VF tenants and clears COMPAT_HALT if it is set. Operands: the host port, NumVFs. -/
  | vfEnableSet (host : Nat) (numVfs : Nat)
  /-- VF_ENABLE_CLEAR (R578): VF Enable is cleared by software or by a PF FLR, and every enabled VF tenant of the port is reset with mode SQUASH and cause 2. Operand: the host port. -/
  | vfEnableClear (host : Nat)
  /-- D3HOT_ENTRY (R553): A function enters D3hot, and its rings are taken to STOPPED as by SHUTDOWN. Operand: the tenant. -/
  | d3hotEntry (t : Nat)
  /-- TIME_CLOCK_TICK (R54): In each period of the time clock, fabric time advances by 0, 1 or 2 under rate discipline. -/
  | timeClockTick
  /-- SYNC_SEND (R71): The sync interval expires on a fabric link, and a SYNC time symbol is sent, with an ANNOUNCE after every eighth. Operands: the port, and the quarter tick of the transmit time (R70). -/
  | syncSend (port : Nat) (frac : Nat)
  /-- SYNC_RX (R71): A SYNC time symbol is received, timestamped and answered with an ECHO within 2,048 ticks. Operands: the port, the 24-byte symbol, the quarter tick of the receive time, and the quarter ticks until the ECHO leaves. -/
  | syncRx (port : Nat) (sym : BitVec 192) (frac : Nat) (turn : Nat)
  /-- ECHO_RX (R72): An ECHO is received, and the offset and delay are computed and accepted or rejected as an outlier. Operands: the port, the symbol, the quarter tick of the receive time. -/
  | echoRx (port : Nat) (sym : BitVec 192) (frac : Nat)
  /-- SYNC_ABANDON (R71): A SYNC receives no ECHO within 4 sync intervals and is abandoned. Operands: the port and the SEQ of the abandoned SYNC. -/
  | syncAbandon (port : Nat) (seq : BitVec 8)
  /-- ANNOUNCE_RX (R79): An ANNOUNCE is received, and grandmaster selection runs over the candidates. Operands: the port and the symbol. -/
  | announceRx (port : Nat) (sym : BitVec 192)
  /-- ANNOUNCE_WITHDRAW (R81): An announcement that is not renewed within 3 announce intervals is withdrawn. Operand: the port whose announcement is withdrawn. -/
  | announceWithdraw (port : Nat)
  /-- PTP_MESSAGE_RX (R76): An IEEE 1588 message is received on an Ethernet standard-mode port and processed. Operands: the port, the message from its first byte, the quarter tick of the receive time. -/
  | ptpMessageRx (port : Nat) (msg : Bytes) (frac : Nat)
  /-- PTP_SYNC_SEND (R76): The 1588 sync interval expires on a standard-mode port, and a Sync message is sent. Operands: the port, and the quarter tick of the transmit time. -/
  | ptpSyncSend (port : Nat) (frac : Nat)
  /-- REFERENCE_LOST (R68): No measurement is accepted from the reference for D2.0030 sync intervals, so the reference is lost and the time state changes. -/
  | referenceLost
  /-- HOLDOVER_EXPIRE (R83): The holdover error estimate exceeds the limit, and the adapter leaves HOLDOVER for FREE_RUN. -/
  | holdoverExpire
  /-- PPS_OUT_EDGE (R84): Fabric time reaches a whole second, and PPS_OUT rises and stays high for D2.0052 ticks. -/
  | ppsOutEdge
  /-- PPS_OUT_FALL (R84): The PPS_OUT high time expires, and the pin falls. -/
  | ppsOutFall
  /-- PPS_IN_EDGE (R85): A rising edge on PPS_IN is latched and, under policy 1, used as a reference offset. -/
  | ppsInEdge
  /-- PPS_REFERENCE_LOST (R86): No PPS_IN edge is accepted for 2 s, so the PPS reference is lost. -/
  | ppsReferenceLost
  /-- TRIGGER_FIRE (R88): An armed time trigger falls due and is released to its engine in the order of R89. -/
  | triggerFire
  /-- DICT_REQUEST_QUEUE (R114): A dictionary request arrives on a path and is queued, or is refused with BUSY when the queue is full. Operands: the path by which the request came, the record. -/
  | dictRequestQueue (route : Route) (record : Bytes)
  /-- DICT_READ (R110): The dictionary READ operation returns the active value, or the present value of a parameter outside the sets. -/
  | dictRead
  /-- DICT_READ_SHADOW (R110): The dictionary READ_SHADOW operation returns the shadow value. -/
  | dictReadShadow
  /-- DICT_WRITE (R103): The dictionary WRITE operation writes a parameter according to its kind and checks. -/
  | dictWrite
  /-- DICT_DESCRIBE (R110): The dictionary DESCRIBE operation returns the type, kind, scope, limits and default of a parameter. -/
  | dictDescribe
  /-- DICT_ENUMERATE (R110): The dictionary ENUMERATE operation returns the address of the next defined parameter. -/
  | dictEnumerate
  /-- DICT_VALIDATE (R116): The dictionary VALIDATE operation validates the shadow set without arming it. -/
  | dictValidate
  /-- DICT_ARM_SWAP (R119): The dictionary ARM_SWAP operation checks, validates and arms a swap for a tick, or refuses it. -/
  | dictArmSwap
  /-- DICT_CANCEL_SWAP (R121): The dictionary CANCEL_SWAP operation disarms an armed swap, or returns NOT_ARMED. -/
  | dictCancelSwap
  /-- DICT_DISCARD_SHADOW (R110): The dictionary DISCARD_SHADOW operation copies the active set over the shadow set. -/
  | dictDiscardShadow
  /-- SWAP (R123): The armed tick arrives, state checks are repeated, and the shadow set becomes active or the swap is refused at the tick. -/
  | swap
  /-- SHADOW_COPY_DONE (R126): The rebuild of the shadow set as a copy of the new active set completes, and waiting requests proceed. -/
  | shadowCopyDone
  /-- RING_CREATE (R136): The ring control CREATE command checks a context and enters a work or notification ring in ACTIVE. Operands: the tenant, the ring. -/
  | ringCreate (t : Nat) (ring : Nat)
  /-- RING_SHUTDOWN (R170): The ring control SHUTDOWN command puts the ring in DRAINING and aborts the chains that have not started. Operands: the tenant, the ring. -/
  | ringShutdown (t : Nat) (ring : Nat)
  /-- RING_ABORT (R173): The ring control ABORT command puts the ring in ABORTING, abandons started chains and records what was accepted. Operands: the tenant, the ring. -/
  | ringAbort (t : Nat) (ring : Nat)
  /-- RING_RESUME (R170): The ring control RESUME command returns a STOPPED ring to ACTIVE with its indices kept. Operands: the tenant, the ring. -/
  | ringResume (t : Nat) (ring : Nat)
  /-- RING_DESTROY (R170): The ring control DESTROY command frees a STOPPED or ERROR ring. Operands: the tenant, the ring. -/
  | ringDestroy (t : Nat) (ring : Nat)
  /-- RING_QUERY (R134): The ring control QUERY command writes the ring context image, with its indices and state. Operands: the tenant, the ring. -/
  | ringQuery (t : Nat) (ring : Nat)
  /-- RING_CMD_UNKNOWN (R133): A RING_CMD write with an unlisted CMD or nonzero reserved bits starts a command that completes with BAD_FIELD. Operands: the tenant, the value written. -/
  | ringCmdUnknown (t : Nat) (value : W64)
  /-- ABORT_DEADLINE (R172): D4.0012 expires in ABORTING, and every chain still unrecorded completes with ABORTED. Operands: the tenant, the ring. -/
  | abortDeadline (t : Nat) (ring : Nat)
  /-- DOORBELL (R142): A 64-bit write to the doorbell page moves a work ring's tail, or is discarded and counted. Operands: the tenant, the value written, the bytes written, the path it arrives by. -/
  | doorbell (t : Nat) (value : W64) (width : Nat) (via : Via)
  /-- NOTIFY_CONSUME_DOORBELL (R177): A doorbell moves the consume index of a notification ring. Operands: the tenant, the value written, the bytes written, the path it arrives by. -/
  | notifyConsumeDoorbell (t : Nat) (value : W64) (width : Nat) (via : Via)
  /-- EVENT_RING_CONSUME_DOORBELL (R711): A doorbell for ring number 0xF_FFFF moves the consumed index of the tenant's event ring. Operands: the tenant, the value written, the bytes written, the path it arrives by. -/
  | eventRingConsumeDoorbell (t : Nat) (value : W64) (width : Nat) (via : Via)
  /-- FETCH_ISSUE (R146): The home tower issues an entry fetch for a ring with pending entries, by weighted round robin. Operands: the tenant, the ring. -/
  | fetchIssue (t : Nat) (ring : Nat)
  /-- FETCH_RETURN (R147): Fetched entries return, their stamps are checked, and matching entries are accepted in ring order. Operands: the tenant, the ring, the position within its message, the answer of the memory. -/
  | fetchReturn (t : Nat) (ring : Nat) (index : W32) (ans : MemAns)
  /-- REFETCH_ISSUE (R148): The re-fetch interval after a stamp mismatch expires, and the held entry is fetched again. Operands: the tenant, the ring. -/
  | refetchIssue (t : Nat) (ring : Nat)
  /-- REFETCH_RETURN (R148): A re-fetch returns and either releases the entry or, after the last one, completes it with STALE_ENTRY. Operands: the tenant, the ring, the position within its message, the answer of the memory. -/
  | refetchReturn (t : Nat) (ring : Nat) (index : W32) (ans : MemAns)
  /-- CHAIN_START (R156): A chain whose LAST entry is accepted starts when its fence, limits and queues allow, or completes as malformed. Operands: the tenant, the ring. -/
  | chainStart (t : Nat) (ring : Nat)
  /-- COMPLETION_WRITE (R161): A chain's decided outcome is written as a completion record in ring order, and done advances. Operands: the tenant, the ring. -/
  | completionWrite (t : Nat) (ring : Nat)
  /-- MIRROR_WRITE (R163): The mirror merge window ends, and the done mirror is written with done and the ring state. Operands: the tenant, the ring. -/
  | mirrorWrite (t : Nat) (ring : Nat)
  /-- RING_EVENT_TIMER (R164): EVT_TIME expires after the first uncovered signalled completion, and the ring's event is raised. Operands: the tenant, the ring. -/
  | ringEventTimer (t : Nat) (ring : Nat)
  /-- NOP (R15): A NOP entry completes OK, or completes MALFORMED when a reserved byte is nonzero. Operands: the tenant, the ring. -/
  | nop (t : Nat) (ring : Nat)
  /-- WRITE (R219): A WRITE entry reads local data and sends it as one message to a remote address. Operands: the tenant, the ring. -/
  | write (t : Nat) (ring : Nat)
  /-- WRITE_IMM (R219): A WRITE_IMM entry sends a WRITE message with an immediate for the target's notification ring. Operands: the tenant, the ring. -/
  | writeImm (t : Nat) (ring : Nat)
  /-- READ (R219): A READ entry sends a read request and places the responses at the local address. Operands: the tenant, the ring. -/
  | read (t : Nat) (ring : Nat)
  /-- ACCUM (R219): An ACCUM entry sends input elements to be added exactly once into remote accumulators. Operands: the tenant, the ring. -/
  | accum (t : Nat) (ring : Nat)
  /-- FENCE_FLUSH (R253): FENCE_FLUSH waits for earlier chains, sends flush requests on recorded connections and performs local read-backs. Operands: the tenant, the ring. -/
  | fenceFlush (t : Nat) (ring : Nat)
  /-- CONN_CREATE (R189): The connection control CREATE command assigns the incarnation, installs the context and enters INIT. Operands: the tenant, the connection. -/
  | connCreate (t : Nat) (conn : Nat)
  /-- CONN_BIND (R189): The connection control BIND command sets the peer fields and enters READY. Operands: the tenant, the connection. -/
  | connBind (t : Nat) (conn : Nat)
  /-- CONN_MODIFY (R189): The connection control MODIFY command replaces the key epoch, notify, retry and window fields. Operands: the tenant, the connection. -/
  | connModify (t : Nat) (conn : Nat)
  /-- CONN_FREEZE (R190): The connection control FREEZE command puts the connection in FROZEN and waits for outstanding requests. Operands: the tenant, the connection. -/
  | connFreeze (t : Nat) (conn : Nat)
  /-- FREEZE_COMPLETE (R190): OUTSTANDING reaches 0, or the FREEZE deadline expires, and the FREEZE command completes. Operand: the connection. -/
  | freezeComplete (conn : Nat)
  /-- CONN_THAW (R190): The connection control THAW command returns the connection to READY, and held entries start. Operands: the tenant, the connection. -/
  | connThaw (t : Nat) (conn : Nat)
  /-- CONN_DESTROY (R190): The connection control DESTROY command enters DRAINING and fails the entries that have not started. Operands: the tenant, the connection. -/
  | connDestroy (t : Nat) (conn : Nat)
  /-- DRAIN_EXIT (R190): OUTSTANDING reaches 0, or the DRAINING deadline expires, and the connection enters QUARANTINE. Operand: the connection. -/
  | drainExit (conn : Nat)
  /-- QUARANTINE_END (R195): The quarantine time of a connection index expires, and it becomes FREE. Operand: the connection. -/
  | quarantineEnd (conn : Nat)
  /-- CONN_QUERY (R189): The connection control QUERY command writes CORE words 0-15 to the context registers. Operands: the tenant, the connection. -/
  | connQuery (t : Nat) (conn : Nat)
  /-- HANDLE_WRITE (R212): HANDLE_WRITE takes, rewrites or frees an address handle on every tower. Operands: the tenant, the address handle. -/
  | handleWrite (t : Nat) (handle : Nat)
  /-- HANDLE_READ (R189): HANDLE_READ writes an address handle to the context registers. Operands: the tenant, the address handle. -/
  | handleRead (t : Nat) (handle : Nat)
  /-- CONN_FLUSH (R189): The connection control FLUSH command writes the context to its backing and keeps it cached. Operands: the tenant, the connection. -/
  | connFlush (t : Nat) (conn : Nat)
  /-- CONN_CMD_UNKNOWN (R187): A CONN_CMD write with an unlisted CMD or nonzero reserved bits completes with BAD_FIELD. Operands: the tenant, the value written. -/
  | connCmdUnknown (t : Nat) (value : W64)
  /-- EVICTION_START (R199): The free cache entries fall below D5.0014, a candidate is selected and its write-back starts. Operand: the tower. -/
  | evictionStart (tower : Nat)
  /-- EVICTION_RELEASE (R200): The last byte of the write-back leaves, and the cache entry is released unless the eviction was cancelled. Operand: the connection. -/
  | evictionRelease (conn : Nat)
  /-- CONTEXT_INSTALL (R206): A context fetch completes, the context is installed, and the waiting packets are processed in arrival order. Operands: the connection, the answer of the memory. -/
  | contextInstall (conn : Nat) (ans : MemAns)
  /-- PATH_REBIND_RX (R215): A path-rebind datagram is received and verified, and the matching handles are rewritten. Operand: the packet as it arrives. -/
  | pathRebindRx (rx : Rx)
  /-- REALM_CREATE (R227): The realm control CREATE command picks the next free index and creates a VALID realm with a new tag. Operand: the tenant. -/
  | realmCreate (t : Nat)
  /-- REALM_MODIFY (R229): The realm control MODIFY command replaces the permissions and fence ranges and enters CHANGING. Operands: the tenant, the realm. -/
  | realmModify (t : Nat) (realm : Nat)
  /-- REALM_REVOKE (R229): The realm control REVOKE command advances the tag and enters CHANGING. Operands: the tenant, the realm. -/
  | realmRevoke (t : Nat) (realm : Nat)
  /-- REALM_DESTROY (R229): The realm control DESTROY command removes the realm through CHANGING to FREE. Operands: the tenant, the realm. -/
  | realmDestroy (t : Nat) (realm : Nat)
  /-- REALM_QUERY (R227): The realm control QUERY command writes the realm context to the registers. Operands: the tenant, the realm. -/
  | realmQuery (t : Nat) (realm : Nat)
  /-- REALM_CMD_UNKNOWN (R226): A REALM_CMD write with an unlisted CMD or nonzero reserved bits completes with BAD_FIELD. Operands: the tenant, the value written. -/
  | realmCmdUnknown (t : Nat) (value : W64)
  /-- REALM_CHANGE_DONE (R229): Every access that passed under the old realm state finishes, and the realm returns to VALID or becomes FREE. Operand: the realm. -/
  | realmChangeDone (realm : Nat)
  /-- PKT_WRITE_RX (R273): A WRITE data packet is received and passes through the ordered checks, placement and trailer check. Operand: the packet as it arrives. -/
  | pktWriteRx (rx : Rx)
  /-- PKT_WRITE_IMM_RX (R238): A WRITE_IMM data packet is received, checked and placed, and reserves a notification entry. Operand: the packet as it arrives. -/
  | pktWriteImmRx (rx : Rx)
  /-- PKT_READ_REQ_RX (R281): A READ_REQ packet is received, checked and queued until the READ may start. Operand: the packet as it arrives. -/
  | pktReadReqRx (rx : Rx)
  /-- PKT_READ_RESP_RX (R247): A READ_RESP packet is received at the initiator, checked and placed. Operand: the packet as it arrives. -/
  | pktReadRespRx (rx : Rx)
  /-- PKT_ACCUM_RX (R240): An ACCUM packet is received, held whole and checked, then queued for a Cupola core. Operand: the packet as it arrives. -/
  | pktAccumRx (rx : Rx)
  /-- PKT_FLUSH_REQ_RX (R253): A FLUSH_REQ packet is received, and the target performs the read-backs on the recorded paths. Operand: the packet as it arrives. -/
  | pktFlushReqRx (rx : Rx)
  /-- PKT_VOID_RX (R278): A VOID packet is accepted into the window and counts toward closing its message. Operand: the packet as it arrives. -/
  | pktVoidRx (rx : Rx)
  /-- ACK_RX (R284): An ACK is received, advancing TX_UNA and the scoreboard and giving a rate sample. Operand: the packet as it arrives. -/
  | ackRx (rx : Rx)
  /-- NAK_RX (R291): A NAK is received and handled by its code: CONTEXT_BUSY, STALE_CONNECTION, REMOTE_NOT_READY or REFUSED. Operand: the packet as it arrives. -/
  | nakRx (rx : Rx)
  /-- MSG_CONFIRM_RX (R279): A MSG_CONFIRM is received, acknowledging PSNs and reporting confirmed messages to the ring's home tower. Operand: the packet as it arrives. -/
  | msgConfirmRx (rx : Rx)
  /-- CONFIRM_QUERY_RX (R280): A CONFIRM_QUERY is received and answered with a MSG_CONFIRM of the present state. Operand: the packet as it arrives. -/
  | confirmQueryRx (rx : Rx)
  /-- ACCUM_APPLY (R241): A Cupola core applies a held ACCUM packet and sets its RX_MAP bit in one step, then acknowledges it. Operand: the tower. -/
  | accumApply (tower : Nat)
  /-- READ_START (R236): Every earlier message of the connection is confirmed, and the target starts reading for a READ and sends responses. Operand: the connection. -/
  | readStart (conn : Nat)
  /-- TARGET_READ_FAIL (R753): The target's memory read for a READ fails, and VOID packets with RESP set are sent in place of the responses. Operands: the connection, the MSN, the address. -/
  | targetReadFail (conn : Nat) (msn : W32) (addr : W64)
  /-- PLACEMENT_WRITE_FAIL (R753): A placement write fails at the target, and the connection enters ERROR with BUS_ERROR. Operands: the connection, the MSN, whether it belongs to a READ of this side, the address. -/
  | placementWriteFail (conn : Nat) (msn : W32) (own : Bool) (addr : W64)
  /-- READBACK_ISSUE (R249): Every byte of a message has been placed, and the read-backs on its data paths are issued. Operands: the connection, the MSN, whether it belongs to a READ of this side. -/
  | readbackIssue (conn : Nat) (msn : W32) (own : Bool)
  /-- READBACK_DONE (R244): A message's read-backs complete, and the message is confirmed and announced. Operands: what it belongs to, whether it succeeds. -/
  | readbackDone (target : ReadFor) (ok : Bool)
  /-- NOTIFY_RESERVATION_EXPIRE (R238): A notification reservation with no packet accepted for 1 s is released. Operands: the tenant, the ring, the connection, the MSN. -/
  | notifyReservationExpire (t : Nat) (ring : Nat) (conn : Nat) (msn : W32)
  /-- ACK_TIMER (R282): The ACK delay expires after the first unacknowledged acceptance, and an ACK is sent. Operand: the connection. -/
  | ackTimer (conn : Nat)
  /-- LOSS_DETECT (R288): The reorder slack after a later acknowledgement expires, and an unacknowledged PSN is declared lost and retransmitted. Operands: the connection, the PSN. -/
  | lossDetect (conn : Nat) (psn : W32)
  /-- RTO_EXPIRE (R289): The retransmission timer on TX_UNA expires, and TX_UNA is retransmitted or the retry limit fails the connection. Operand: the connection. -/
  | rtoExpire (conn : Nat)
  /-- BUSY_HOLD_END (R292): The CONTEXT_BUSY back-off ends, and the sender resends NAK_PSN first. Operand: the connection. -/
  | busyHoldEnd (conn : Nat)
  /-- RNR_RESEND (R293): The REMOTE_NOT_READY back-off ends, and the sender resends the packet. Operands: the connection, the PSN. -/
  | rnrResend (conn : Nat) (psn : W32)
  /-- CONFIRM_QUERY_TIMER (R280): Messages stay unconfirmed for D6.0012 or the RTO, and a CONFIRM_QUERY is sent. Operand: the connection. -/
  | confirmQueryTimer (conn : Nat)
  /-- PACKET_COMMIT (R339): A dome connection with tokens, window and a usable path commits its next packet to a path. Operand: the tower. -/
  | packetCommit (tower : Nat)
  /-- EGRESS_START (R351): A port starts its next packet by strict VC order and weighted fair queueing, marking ECN on leaving. Operand: the network port. -/
  | egressStart (port : Nat)
  /-- SLOT_FETCH_OPEN (R308): The fetch lead of a SEND slot instance is reached, and its load starts to be assembled and staged. Operands: the tower, the slot entry. -/
  | slotFetchOpen (tower : Nat) (entry : Nat)
  /-- SLOT_READY_DEADLINE (R309): 40 ticks before the due time, the load is fixed and judged late, empty or ready. Operands: the tower, the slot entry. -/
  | slotReadyDeadline (tower : Nat) (entry : Nat)
  /-- SLOT_DUE (R309): A SEND slot instance falls due, and its staged packets leave the egress port, or it is skipped. Operands: the tower, the slot entry. -/
  | slotDue (tower : Nat) (entry : Nat)
  /-- REDUCE_SLOT_DUE (R319): A REDUCE slot instance falls due and starts the oldest ready COLLECTIVE_STEP of its handle. Operands: the tower, the slot entry, the answer of the memory. -/
  | reduceSlotDue (tower : Nat) (entry : Nat) (ans : MemAns)
  /-- MOVE_SLOT_DUE (R319): A MOVE slot instance falls due and starts the oldest waiting mover descriptor of its channel. Operands: the tower, the slot entry. -/
  | moveSlotDue (tower : Nat) (entry : Nat)
  /-- STEP_LATE_START (R320): A schedule-bound step that was not ready at its instance becomes ready, starts, and completes with SCHEDULE_MISS. Operands: whether a mover channel is named (else a handle), what it belongs to, the answer of the memory. -/
  | stepLateStart (move : Bool) (target : Nat) (ans : MemAns)
  /-- LANTERN_SAMPLE (R359): Fabric time reaches a multiple of D8.0050, and the Lantern samples every queue and writes records. -/
  | lanternSample
  /-- TRANSIT_RX (R370): A transit packet is looked up and forwarded by the route tables, or discarded with a route-down notice. Operands: the packet as it arrives, the link check (0 holds, 1 fails before the start, 2 fails after it). -/
  | transitRx (rx : Rx) (check : Nat)
  /-- TRANSIT_RESIDENCE_EXPIRE (R384): A transit packet has not started within D9.0004 of its arrival and is discarded. Operands: the network port, the VC. -/
  | transitResidenceExpire (port : Nat) (vc : Nat)
  /-- CREDIT_BLOCK_SEND (R378): The credit block interval expires, or freed credits reach a quarter of an allocation, and a CREDIT block is sent. Operand: the network port. -/
  | creditBlockSend (port : Nat)
  /-- CREDIT_RX (R378): A CREDIT block is received, and the available credits are recomputed. Operands: the network port, the bytes or number of the block. -/
  | creditRx (port : Nat) (block : Bytes)
  /-- ADVERT_RX (R379): An ADVERT block is received at link-up, setting the credit limits and the hop classes. Operands: the network port, the bytes or number of the block. -/
  | advertRx (port : Nat) (block : Bytes)
  /-- ROUTE_DOWN_RX (R389): A route-down notice is accepted, a path-down entry is made, and the affected copies are retransmitted. Operand: the packet as it arrives. -/
  | routeDownRx (rx : Rx)
  /-- PATH_DOWN_EXPIRE (R391): A path-down entry expires, and the path returns with its reset values. Operands: the destination adapter, the path. -/
  | pathDownExpire (dst : Nat) (path : Nat)
  /-- DRAIN_END (R374): DRAIN elapses after a route change, and the previous route tables are dropped. -/
  | drainEnd
  /-- COLLECTIVE_CLEAR (R431): A COLLECTIVE_STEP CLEAR zeros the accumulators of its segments and their ARRIVED counts. Operands: the tenant, the ring. -/
  | collectiveClear (t : Nat) (ring : Nat)
  /-- COLLECTIVE_ADD_LOCAL (R431): A COLLECTIVE_STEP ADD_LOCAL adds a local buffer into the segments and raises ARRIVED. Operands: the tenant, the ring, the answer of the memory. -/
  | collectiveAddLocal (t : Nat) (ring : Nat) (ans : MemAns)
  /-- COLLECTIVE_READOUT (R431): A COLLECTIVE_STEP READOUT waits for ARRIVED, then reads the segments out to a local buffer. Operands: the tenant, the ring. -/
  | collectiveReadout (t : Nat) (ring : Nat)
  /-- READOUT_READY (R432): ARRIVED reaches CONTRIB x SEG_ELEMS, and a waiting READOUT starts. Operand: the tower. -/
  | readoutReady (tower : Nat)
  /-- QUANTIZE (R438): A QUANTIZE entry converts a buffer to an output format with error feedback. Operands: the tenant, the ring, the answer of the memory. -/
  | quantize (t : Nat) (ring : Nat) (ans : MemAns)
  /-- BAY_LOAD_DONE (R418): A core's 16 KiB bay load completes, and the waiting accumulator work proceeds. Operands: the tower, the bytes or number of the block, whether it succeeds. -/
  | bayLoadDone (tower : Nat) (block : Nat) (ok : Bool)
  /-- BAY_WRITEBACK_DONE (R418): A bay write-back of an evicted block completes. Operands: the tower, the bytes or number of the block, whether it succeeds. -/
  | bayWritebackDone (tower : Nat) (block : Nat) (ok : Bool)
  /-- DISPATCH_TOKENS (R456): A DISPATCH of MODE 0 takes slots for each token choice and sends the rows as WRITE messages. Operands: the tenant, the ring, the answer to the read of the router output, the answers to the reads of rows. -/
  | dispatchTokens (t : Nat) (ring : Nat) (router : MemAns) (rows : MemAns)
  /-- DISPATCH_WEIGHTS (R479): A DISPATCH of MODE 1 copies expert weights into a stage and publishes them. Operands: the tenant, the ring, the answer of the memory. -/
  | dispatchWeights (t : Nat) (ring : Nat) (ans : MemAns)
  /-- PUBLISH (R460): The slot messages are confirmed, and the map entries and share headers are published. Operands: the ring, the first index or page, the position in the chain. -/
  | publish (ring : Nat) (first : W32) (pos : Nat)
  /-- CONFIRM (R466): A CONFIRM entry waits for its speculation to be placed, then publishes or replaces its tentative contributions. Operands: the tenant, the ring, the answer to the read of the final router output, the answers to the reads of rows. -/
  | confirm (t : Nat) (ring : Nat) (final : MemAns) (rows : MemAns)
  /-- CANCEL (R467): A CANCEL entry cancels a speculation and frees its tentative slots. Operands: the tenant, the ring. -/
  | cancel (t : Nat) (ring : Nat)
  /-- SPEC_DEADLINE (R467): A speculation's deadline passes before any CONFIRM or CANCEL, and it is cancelled. Operands: the tenant, the SPEC_ID. -/
  | specDeadline (t : Nat) (id : W32)
  /-- SLOT_RELEASE (R468): A freed slot's message is confirmed or fails, and NEXT falls when the top slots are free. Operands: the tenant, the expert, the share (4: spill). -/
  | slotRelease (t : Nat) (expert : Nat) (share : Nat)
  /-- COMBINE (R473): A COMBINE entry reads the expert output rows and adds the gate-weighted products into the accumulators. Operands: the tenant, the ring, the answer to the read of the router output, the answer to the read of the record, the answers to the reads of rows. -/
  | combine (t : Nat) (ring : Nat) (router : MemAns) (recs : MemAns) (rows : MemAns)
  /-- COMBINE_RESPONSE_APPLY (R474): A COMBINE read response packet is checked whole and applied exactly once. Operand: the tower. -/
  | combineResponseApply (tower : Nat)
  /-- ZERO_BLOCK (R498): The zeroing engine writes the next pending block of an extent, and clears ZEROING after the last. Operand: the extent. -/
  | zeroBlock (extent : Nat)
  /-- STALE_REQUEST_DISCARD (R495): A memory request that has not reached memory within 2 ms of its extent check is discarded with an error. Operand: the request. -/
  | staleRequestDiscard (request : ReadOf)
  /-- UNCORRECTABLE_ERROR (R503): A read finds an uncorrectable error, so the cell is poisoned and the error is logged and reported. Operand: the address. -/
  | uncorrectableError (addr : Nat)
  /-- REFRESH (R505): The refresh interval of a DRAM bank expires, and the bank is refreshed. Operands: the tower, the slice, the bank. -/
  | refresh (tower : Nat) (slice : Nat) (bank : Nat)
  /-- PATROL_START (R506): A multiple of the patrol pass time is reached, or the previous pass ends, and a patrol pass starts. Operand: the tower. -/
  | patrolStart (tower : Nat)
  /-- PATROL_DONE (R506): A patrol pass over the tower's memory finishes and is counted. Operands: the tower, the addresses of the errors it corrected. -/
  | patrolDone (tower : Nat) (corrected : List Nat)
  /-- LINE_CHECK_DONE (R516): The line monitor's checks of a port's lanes complete, and the port moves to NEGOTIATE, TRAIN or FAULT. Operands: the network port, failed lanes and SWAPPED. -/
  | lineCheckDone (port : Nat) (faults : BitVec 16)
  /-- AN_COMPLETE (R514): Auto-negotiation completes and selects fabric link mode, an Ethernet mode, or no link. Operands: the network port, the partner has fabric ability, the bytes written, the partner's Ethernet modes, by bit. -/
  | anComplete (port : Nat) (fabric : Bool) (width : Nat) (modes : BitVec 8)
  /-- NEGOTIATE_TIMEOUT (R521): Negotiation has not completed within D13.0022, and the port enters FAULT. Operand: the network port. -/
  | negotiateTimeout (port : Nat)
  /-- TRAIN_DONE (R521): Training converges, with ADVERT exchanged in fabric link mode, and the port enters UP. Operands: the network port, lanes that fail at the far end, lanes or pair received inverted, whether the lanes are reversed. -/
  | trainDone (port : Nat) (farFaults : BitVec 8) (inverted : BitVec 8) (reversed : Bool)
  /-- TRAIN_TIMEOUT (R521): Training has not converged within D13.0022, and the port enters FAULT. Operand: the network port. -/
  | trainTimeout (port : Nat)
  /-- LINK_LOSS (R523): An UP port receives no decodable codeword or STATUS block for its loss time, and it returns to DETECT. Operands: the network port, whether D13.0021 has passed without a codeword. -/
  | linkLoss (port : Nat) (silent : Bool)
  /-- FAULT_RETRY (R521): D13.0024 passes since a port entered FAULT, and it returns to DETECT. Operand: the network port. -/
  | faultRetry (port : Nat)
  /-- STATUS_SEND (R528): The STATUS interval expires, or a flag changes, and a STATUS block is sent. Operand: the network port. -/
  | statusSend (port : Nat)
  /-- STATUS_RX (R528): A STATUS block is received, updating the partner, its forwarding readiness and the shedding flags. Operands: the network port, the bytes or number of the block. -/
  | statusRx (port : Nat) (block : Bytes)
  /-- TIME_SYMBOL_RX (R69): A TIME link block carrying a time symbol is received and dispatched by its TYPE, or discarded. Operands: the port, the symbol, the quarter tick of the receive time, and the quarter ticks until an ECHO would leave. -/
  | timeSymbolRx (port : Nat) (sym : BitVec 192) (frac : Nat) (turn : Nat)
  /-- CODEWORD_DECODE_FAIL (R527): A codeword fails to decode, its blocks are discarded and the block position is recovered. Operand: the network port. -/
  | codewordDecodeFail (port : Nat)
  /-- SHED_PERIOD_END (R532): A SHED_DWELL period ends, and the side requests a shed when traffic was low. Operand: the network port. -/
  | shedPeriodEnd (port : Nat)
  /-- SHED_REQ_RX (R533): A shed request is received and granted with a SWITCH_TICK, or refused. Operands: the network port, the bytes or number of the block. -/
  | shedReqRx (port : Nat) (block : Bytes)
  /-- WIDTH_SWITCH (R534): SWITCH_TICK is reached, and both sides change width at the next codeword boundary. Operand: the network port. -/
  | widthSwitch (port : Nat)
  /-- RESTORE_REQ (R535): Queued bytes pass D13.0033, or shedding is disabled, and a restore is requested and the lanes woken. Operand: the network port. -/
  | restoreReq (port : Nat)
  /-- RESTORE_REQ_RX (R535): A restore request is received, granted and the partner's lanes woken. Operands: the network port, the bytes or number of the block. -/
  | restoreReqRx (port : Nat) (block : Bytes)
  /-- LANES_READY (R535): The woken lanes finish training, LANES_READY is sent, and the granting side sets SWITCH_TICK. Operand: the network port. -/
  | lanesReady (port : Nat)
  /-- ETH_FRAME_RX (R537): An Ethernet frame is received and accepted or discarded by destination, EtherType, length and FCS. Operands: the network port, the frame, its FCS, the quarter tick of the receive time, whether the host translates its range. -/
  | ethFrameRx (port : Nat) (frame : Bytes) (fcs : Bool) (frac : Nat) (translates : Bool)
  /-- PAUSE_RX (R539): A PAUSE frame is received and, under FLOW 1, sets the port's pause time. Operands: the network port, the quanta. -/
  | pauseRx (port : Nat) (quanta : BitVec 16)
  /-- PFC_RX (R539): A PFC frame is received and, under FLOW 2, sets the pause time of each enabled priority. Operands: the network port, the priorities enabled, the quanta. -/
  | pfcRx (port : Nat) (enable : BitVec 8) (quanta : List Nat)
  /-- PAUSE_EXPIRE (R539): A pause time runs out, and the paused classes may start again. Operand: the network port. -/
  | pauseExpire (port : Nat)
  /-- FLOW_XOFF_SEND (R540): A VC's free ingress space falls below D13.0041, and a PFC or PAUSE frame is sent. Operands: the network port, the VC. -/
  | flowXoffSend (port : Nat) (vc : Nat)
  /-- FLOW_REPEAT (R540): Half of the pause time sent has passed while space stays low, and the flow-control frame is repeated. Operands: the network port, the VC. -/
  | flowRepeat (port : Nat) (vc : Nat)
  /-- FLOW_XON_SEND (R540): Free space passes D13.0042, and quanta 0 is sent. Operands: the network port, the VC. -/
  | flowXonSend (port : Nat) (vc : Nat)
  /-- MB_GO (R552): A write of GO to MB_CMD submits the mailbox request to the path's queue and sets BUSY. Operand: the tenant. -/
  | mbGo (t : Nat)
  /-- MB_RESPONSE_DONE (R552): A mailbox request completes, its response is written to MB_RESP, and DONE is set. Operand: the tenant. -/
  | mbResponseDone (t : Nat)
  /-- ATS_INVALIDATE (R560): An ATS invalidation request is completed once every access using the invalidated translations has finished. Operands: the tenant, the PASID plus one (0 without), the first index or page, how many pages. -/
  | atsInvalidate (t : Nat) (pasid : Nat) (first : Nat) (pages : Nat)
  /-- PRI_RESPONSE (R559): A page-request response arrives, and the chain continues or ends with TRANSLATION_FAULT. Operands: the tenant, the PASID plus one (0 without), the page of 4 KiB, whether it succeeds. -/
  | priResponse (t : Nat) (pasid : Nat) (page : Nat) (ok : Bool)
  /-- PRI_TIMEOUT (R559): A page request has no answer within D14.0050, and the chain ends with TRANSLATION_FAULT. Operands: the tenant, the PASID plus one (0 without), the page of 4 KiB. -/
  | priTimeout (t : Nat) (pasid : Nat) (page : Nat)
  /-- COMPLETION_TIMEOUT (R751): A request to host, adapter or attach memory has no answer within its completion timeout and fails as an error. Operand: the request. -/
  | completionTimeout (request : ReadOf)
  /-- WINDOW_WRITE (R564): A peer-to-peer write to BAR2 is checked against the region table and placed, or discarded. Operands: the host port, the requester id, the byte offset, the data. -/
  | windowWrite (host : Nat) (reqId : Nat) (offset : Nat) (data : Bytes)
  /-- WINDOW_READ (R566): A read of BAR2 is a flushing read that waits for earlier writes and read-backs before returning data. Operands: the host port, the requester id, the byte offset, the length, whether it succeeds, the answer of the memory. -/
  | windowRead (host : Nat) (reqId : Nat) (offset : Nat) (len : Nat) (ok : Bool) (ans : MemAns)
  /-- ATTACH_TRAIN (R567): An attach port's training ends in native mode, CXL fallback or FAULT. Operands: the network port, whether the partner answers native training, whether the partner trains CXL, the bytes written, the bytes. -/
  | attachTrain (port : Nat) (native : Bool) (cxl : Bool) (width : Nat) (bytes : Nat)
  /-- ATTACH_FAULT_RETRY (R567): D14.0045 passes since an attach port entered FAULT, and it trains again. Operand: the network port. -/
  | attachFaultRetry (port : Nat)
  /-- APERTURE_ACCESS (R569): An accelerator access to the aperture is checked and performed, or refused with an error. Operands: the network port, the address, whether it writes, the length, the data, the answer of the memory. -/
  | apertureAccess (port : Nat) (addr : Nat) (write : Bool) (len : Nat) (data : Bytes) (ans : MemAns)
  /-- TENANT_RESET (R588): A reset cause starts a tenant reset: the incarnation advances and resources are drained or squashed. Operand: the tenant. -/
  | tenantReset (t : Nat)
  /-- TENANT_RESET_DONE (R590): No old request remains and posted writes have left, so the reset completes, frees resources and writes a TENANT event. Operand: the tenant. -/
  | tenantResetDone (t : Nat)
  /-- DRAIN_LIMIT_EXPIRE (R591): D15.0011 passes in a DRAIN reset while old requests remain, and the reset continues as SQUASH. Operand: the tenant. -/
  | drainLimitExpire (t : Nat)
  /-- QUIESCE_SET (R595): QUIESCE is written to 1, and the tenant starts no new chain, message or engine work. Operand: the tenant. -/
  | quiesceSet (t : Nat)
  /-- QUIESCE_CLEAR (R595): QUIESCE is written to 0, and the held chains start in ring order. Operand: the tenant. -/
  | quiesceClear (t : Nat)
  /-- QUIESCED (R595): The last started work of a quiesced tenant ends, and D15.0021 reads 1. Operand: the tenant. -/
  | quiesced (t : Nat)
  /-- QUIESCE_LIMIT (R596): The quiesce limit expires, and the remaining started work is squashed. Operand: the tenant. -/
  | quiesceLimit (t : Nat)
  /-- MIG_FREEZE (R600): The migration FREEZE command quiesces the tenant and freezes its connections. Operand: the tenant. -/
  | migFreeze (t : Nat)
  /-- MIG_FROZEN (R599): All engine work is done and every connection is FROZEN, so the migration state becomes FROZEN. Operand: the tenant. -/
  | migFrozen (t : Nat)
  /-- MIG_SAVE (R601): The migration SAVE command writes the sealed blob to MIG_BUF. Operand: the tenant. -/
  | migSave (t : Nat)
  /-- MIG_SAVE_DONE (R601): The blob write completes, and the migration state becomes SAVED. Operand: the tenant. -/
  | migSaveDone (t : Nat)
  /-- MIG_RESTORE (R603): The migration RESTORE command reads and checks the blob and places its records. Operand: the tenant. -/
  | migRestore (t : Nat)
  /-- MIG_RESTORE_DONE (R603): Placement completes, and the migration state becomes RESTORED, or NONE on failure. Operand: the tenant. -/
  | migRestoreDone (t : Nat)
  /-- MIG_RESUME (R605): The migration RESUME command activates the rings, thaws the connections and, after a restore, sends path-rebind datagrams. Operand: the tenant. -/
  | migResume (t : Nat)
  /-- MIG_DISCARD (R599): The migration DISCARD command resets the tenant with cause 5 and mode SQUASH. Operand: the tenant. -/
  | migDiscard (t : Nat)
  /-- PATH_REBIND_REPEAT (R605): 12,500 ticks pass after a RESUME datagram, and the path-rebind datagram is sent again, three times in all. Operand: the tenant. -/
  | pathRebindRepeat (t : Nat)
  /-- MOVE (R611): A MOVE entry queues a local copy on a mover channel. Operands: the tenant, the ring. -/
  | move (t : Nat) (ring : Nat)
  /-- FILL (R611): A FILL entry queues a pattern fill on a mover channel. Operands: the tenant, the ring. -/
  | fill (t : Nat) (ring : Nat)
  /-- DESCRIPTOR_START (R613): The head descriptor of a channel starts once its trigger, AFTER count and slot conditions hold. Operands: the tower, the channel. -/
  | descriptorStart (tower : Nat) (chan : Nat)
  /-- BURST_ISSUE (R617): The mover engine gives a busy channel its turn, and it issues a burst read. Operand: the tower. -/
  | burstIssue (tower : Nat)
  /-- BURST_DONE (R619): A burst's data return and its destination write is issued or acknowledged, or the burst fails. Operands: the tower, the channel, the offset of the burst, the answer of the memory. -/
  | burstDone (tower : Nat) (chan : Nat) (off : Nat) (ans : MemAns)
  /-- HALF_EVENT (R621): The bursts below H and their read-back complete, and the half event word is written. Operands: the tower, the channel, whether it succeeds. -/
  | halfEvent (tower : Nat) (chan : Nat) (ok : Bool)
  /-- DESCRIPTOR_DONE (R624): The last burst and its read-back complete, the full event is written, and the descriptor completes and raises DONE_COUNT. Operands: the tower, the channel, whether it succeeds. -/
  | descriptorDone (tower : Nat) (chan : Nat) (ok : Bool)
  /-- MB_DATA_WRITE (R633): A sender's write to MB_DATA posts a message, or overruns a full mailbox. Operands: the tower, the master (1 H0, 2 H1, 3 FW, 4 MGMT), the mailbox, whether the access has the whole width, the data. -/
  | mbDataWrite (tower : Nat) (master : Nat) (box : Nat) (whole : Bool) (data : W64)
  /-- MB_DATA_READ (R635): The receiver's read of MB_DATA takes the waiting message. Operands: the tower, the master (1 H0, 2 H1, 3 FW, 4 MGMT), the mailbox, whether the access has the whole width. -/
  | mbDataRead (tower : Nat) (master : Nat) (box : Nat) (whole : Bool)
  /-- MB_ACK_CODE_WRITE (R636): The receiver writes CODE to a TAKEN mailbox, and STATE becomes ACKED. Operands: the tower, the master (1 H0, 2 H1, 3 FW, 4 MGMT), the mailbox, whether the access has the whole width, the value written. -/
  | mbAckCodeWrite (tower : Nat) (master : Nat) (box : Nat) (whole : Bool) (value : W64)
  /-- DB_SET_WRITE (R641): A write to DB_SET sets Belfry doorbell bits and notifies the enabled masters. Operands: the tower, the master (1 H0, 2 H1, 3 FW, 4 MGMT), whether the access has the whole width, the value written. -/
  | dbSetWrite (tower : Nat) (master : Nat) (whole : Bool) (value : BitVec 32)
  /-- DB_PEND_WRITE (R641): A write of 1 to DB_PEND clears doorbell bits. Operands: the tower, the master (1 H0, 2 H1, 3 FW, 4 MGMT), the value written. -/
  | dbPendWrite (tower : Nat) (master : Nat) (value : BitVec 32)
  /-- DB_MASK_WRITE (R642): A master writes its own DB_MASK, and is notified for bits that are already set. Operands: the tower, the master (1 H0, 2 H1, 3 FW, 4 MGMT), the value written. -/
  | dbMaskWrite (tower : Nat) (master : Nat) (value : BitVec 32)
  /-- SEM_READ (R643): A read of SEM acquires a free semaphore, or returns the present owner. Operands: the tower, the master (1 H0, 2 H1, 3 FW, 4 MGMT), the semaphore, whether the access has the whole width. -/
  | semRead (tower : Nat) (master : Nat) (sem : Nat) (whole : Bool)
  /-- SEM_WRITE (R644): The owner writes 0 to SEM and releases the semaphore; any other write is discarded. Operands: the tower, the master (1 H0, 2 H1, 3 FW, 4 MGMT), the semaphore, whether the access has the whole width, the value written. -/
  | semWrite (tower : Nat) (master : Nat) (sem : Nat) (whole : Bool) (value : W64)
  /-- KEY_LOAD_LOAD (R651): A KEY_LOAD record with OP LOAD loads a root key slot, unwrapping it if needed, and purges derived keys. Operands: the tenant, the record. -/
  | keyLoadLoad (t : Nat) (record : Bytes)
  /-- KEY_LOAD_ERASE (R651): A KEY_LOAD record with OP ERASE erases an unreferenced root key slot. Operands: the tenant, the record. -/
  | keyLoadErase (t : Nat) (record : Bytes)
  /-- KEY_DERIVED (R659): A key derivation completes, and the waiting packet or segment proceeds. Operand: the tower. -/
  | keyDerived (tower : Nat)
  /-- KEY_PREDERIVE (R659): D18.0040 ticks before a frame begins, the keys of pinned spire cipher connections are derived. Operand: the tower. -/
  | keyPrederive (tower : Nat)
  /-- CIPHER_GCM_ENC (R663): A CIPHER entry in GCM_ENC mode encrypts a segment and writes the tag or the state record. Operands: the tenant, the ring, the answer of the memory. -/
  | cipherGcmEnc (t : Nat) (ring : Nat) (ans : MemAns)
  /-- CIPHER_GCM_DEC (R669): A CIPHER entry in GCM_DEC mode decrypts a segment and checks the tag on the final one. Operands: the tenant, the ring, the answer of the memory. -/
  | cipherGcmDec (t : Nat) (ring : Nat) (ans : MemAns)
  /-- CIPHER_XTS_ENC (R664): A CIPHER entry in XTS_ENC mode encrypts whole data units, with ciphertext stealing at the end. Operands: the tenant, the ring, the answer of the memory. -/
  | cipherXtsEnc (t : Nat) (ring : Nat) (ans : MemAns)
  /-- CIPHER_XTS_DEC (R664): A CIPHER entry in XTS_DEC mode decrypts whole data units, with ciphertext stealing at the end. Operands: the tenant, the ring, the answer of the memory. -/
  | cipherXtsDec (t : Nat) (ring : Nat) (ans : MemAns)
  /-- SEG_REQUEST_RX (R678): A management request arrives on the 10BASE-T1S segment and is checked for key, tag, BOOT_ID and SEQ, then executed. Operands: the frame, the collisions an answer meets. -/
  | segRequestRx (frame : Bytes) (collisions : Nat)
  /-- SEG_FRAME_RX (R683): A frame on the management segment is answered as neighbour solicitation or echo, or discarded. Operands: the frame, the collisions an answer meets. -/
  | segFrameRx (frame : Bytes) (collisions : Nat)
  /-- SEG_LINE_CHECK (R684): The segment line monitor checks the pair at enabling and every second and reports changes. Operands: the state of the line (0 OK, 1 OPEN, 2 SHORT), lanes or pair received inverted. -/
  | segLineCheck (line : Nat) (inverted : Bool)
  /-- DICT_REQUEST_RX (R687): A fabric DICT_REQUEST datagram is received and handled by the management checks. Operand: the packet as it arrives. -/
  | dictRequestRx (rx : Rx)
  /-- LINK_SCOPED_REQUEST_RX (R689): A link-scoped DICT_REQUEST arrives at an adapter without an id and is handled as class FM. Operand: the packet as it arrives. -/
  | linkScopedRequestRx (rx : Rx)
  /-- DICT_RESPONSE_RX (R690): A DICT_RESPONSE from an unconfigured partner is verified and written to LINK_MGMT_RESP. Operand: the packet as it arrives. -/
  | dictResponseRx (rx : Rx)
  /-- LINK_MGMT_SEND (R690): A write of LINK_MGMT_SEND builds and sends a link-scoped request on a fabric port. Operand: the value written. -/
  | linkMgmtSend (value : Bytes)
  /-- MCTP_MESSAGE_RX (R686): An MCTP vendor-defined message over I3C carries a dictionary request, or is discarded. Operands: the MCTP message type, the body. -/
  | mctpMessageRx (type : Nat) (body : Bytes)
  /-- SPDM_GET_VERSION (R702): An SPDM GET_VERSION request is answered with version 1.3. Operands: the path, the request message. -/
  | spdmGetVersion (path : Nat) (req : Bytes)
  /-- SPDM_GET_CAPABILITIES (R702): An SPDM GET_CAPABILITIES request is answered. Operands: the path, the request message. -/
  | spdmGetCapabilities (path : Nat) (req : Bytes)
  /-- SPDM_UNSUPPORTED (R702): Any other SPDM request is answered with ERROR UnsupportedRequest. Operands: the path, the request message. -/
  | spdmUnsupported (path : Nat) (req : Bytes)
  /-- QUOTE (R703): A vendor-defined QUOTE request is signed with the identity key over the log and set digests. Operands: the path, the request message, how many quotes wait on its transport. -/
  | quote (path : Nat) (req : Bytes) (waiting : Nat)
  /-- GET_LOG (R703): A vendor-defined GET_LOG request returns the measurement log. Operands: the path, the request message. -/
  | getLog (path : Nat) (req : Bytes)
  /-- GET_IDENTITY (R703): A vendor-defined GET_IDENTITY request returns the identity public key. Operands: the path, the request message. -/
  | getIdentity (path : Nat) (req : Bytes)
  /-- FW_ERASE (R696): FW_CMD ERASE erases the inactive flash slot. -/
  | fwErase
  /-- FW_VERIFY (R696): FW_CMD VERIFY checks the inactive slot by the boot checks. -/
  | fwVerify
  /-- FW_PREFER (R696): FW_CMD PREFER writes boot control to prefer the verified inactive slot. -/
  | fwPrefer
  /-- FW_COMMIT_SVN (R695): FW_CMD COMMIT_SVN raises the fused counter to the running SVN. -/
  | fwCommitSvn
  /-- FW_REVOKE_KEY (R696): FW_CMD 0x10-0x13 revokes a fused key other than the running one. Operand: the key index. -/
  | fwRevokeKey (key : Nat)
  /-- FW_CHUNK (R696): A write of FW_CHUNK writes data into the inactive slot at an offset. Operand: the value written. -/
  | fwChunk (value : Bytes)
  /-- EVENT_RING_SETUP (R709): A write of D20.0020 stops the tenant's event ring and starts it again when ENABLE is set. Operands: the tenant, the 32 bytes of the descriptor. -/
  | eventRingSetup (t : Nat) (desc : Bytes)
  /-- POWER_CLOSE (R723): POWER_CMD CLOSE puts a domain in CLOSING, failing new work that needs it. Operand: the 16 bytes of POWER_CMD. -/
  | powerClose (cmd : Bytes)
  /-- POWER_OPEN (R726): POWER_CMD OPEN returns a closing domain to OPEN, or puts a closed domain in OPENING. Operand: the 16 bytes of POWER_CMD. -/
  | powerOpen (cmd : Bytes)
  /-- DOMAIN_CLOSED (R724): No started operation remains in a closing domain, and it becomes CLOSED. Operand: the power domain. -/
  | domainClosed (domain : Nat)
  /-- DOMAIN_CLOSE_DEADLINE (R724): The closing deadline expires, remaining operations are abandoned with POWERED_DOWN and the domain closes. Operand: the power domain. -/
  | domainCloseDeadline (domain : Nat)
  /-- DOMAIN_OPENED (R726): The open time of an OPENING domain elapses, and it becomes OPEN. Operand: the power domain. -/
  | domainOpened (domain : Nat)
  /-- POWER_CONTROL (R727): The control period expires, power and temperatures are measured and the throttle levels are updated. Operands: the power in tenths of a watt, by tower, the temperatures of logic and stack. -/
  | powerControl (power : Nat) (temps : List (Int × Int))
  /-- REGISTER_WRITE (R12): A write to a register with no behaviour of its own stores its fields, dropping reserved bits and clearing RW1C bits. Operands: the function, the byte offset, the bytes written, the value written. -/
  | registerWrite (fn : Nat) (offset : Nat) (width : Nat) (value : W64)
  /-- ATTACH_LINK_LOSS (R567): An attach link that is up in native or CXL mode goes down, so accesses to its attach memory fail and the port trains again. Operand: the network port. -/
  | attachLinkLoss (port : Nat)
  /-- FIRMWARE_RESTART (R638): Adapter firmware restarts, D17.0002 rises, and its Belfry mailboxes, semaphores and DB_MASK are treated as a master reset. -/
  | firmwareRestart
  /-- MANAGEMENT_AGENT_RESET (R638): The management agent is reset, D17.0003 rises, and its Belfry state is handled as a master reset. -/
  | managementAgentReset
  /-- FW_COMMAND_DONE (R696): A flash command that took time ends, and FW_STATUS leaves BUSY for OK or a failure code. -/
  | fwCommandDone
  /-- I3C_ADDRESS_ASSIGNMENT (R685): The bus owner assigns the dynamic address by ENTDAA or SETDASA, or sets the MCTP endpoint ID, and D19.0020 or D19.0021 changes. Operands: 0 ENTDAA, 1 SETDASA, 2 Set Endpoint ID, what it belongs to, the value written. -/
  | i3cAddressAssignment (kind : Nat) (target : Nat) (value : Nat)
  /-- SPDM_CHUNKING (R702): An SPDM 1.3 chunking request is received and answered with the next chunk of a large response or request. Operands: the path, the request message. -/
  | spdmChunking (path : Nat) (req : Bytes)
  /-- ATS_TRANSLATION_RESPONSE (R558): The host answers an ATS translation request, and the access proceeds, fails check 7, or sends a page request through PRI. Operands: the tenant, the PASID plus one (0 without), the page of 4 KiB, whether reading is granted, whether it writes. -/
  | atsTranslationResponse (t : Nat) (pasid : Nat) (page : Nat) (read : Bool) (write : Bool)
  /-- PAYLOAD_READ_RETURN (R752): The read of a packet's payload from the local buffer returns, so the packet is assembled or staged, or the chain ends with BUS_ERROR. Operands: the connection, the MSN, whether it is a READ response, the position within its message, the answer of the memory. -/
  | payloadReadReturn (conn : Nat) (msn : W32) (resp : Bool) (index : Nat) (ans : MemAns)
  /-- BACKING_WRITEBACK_ERROR (R204): A context write-back to its backing is answered with an error, and the connection enters ERROR with the context kept cached and not evictable. Operands: the connection, whether it is a translation fault. -/
  | backingWritebackError (conn : Nat) (translation : Bool)
  /-- PLCA_BEACON_TIMEOUT (R682): No PLCA BEACON is seen for 4 x node count x TO, and the segment PHY falls back to CSMA/CD until a BEACON returns. Operand: whether a BEACON has returned. -/
  | plcaBeaconTimeout (beacon : Bool)
  /-- BRIDGE_RETRAINING (R706): A bridge retrains after correctable errors and a PACKAGE fault is logged with an event to tenants 0 and 1,024. Operand: the bridge. -/
  | bridgeRetraining (bridge : Nat)
  deriving DecidableEq, Repr

end Sys2Proof
end

