-- ==== Sys2Proof/Decode.lean ====
section
/-! DEFINITION. The command that a word of the table spells. No row of the table gives its command any bits: every command of this
block is a transaction or an event with operands of its own (R1), so no word spells one. -/
namespace Sys2Proof

/-- The command whose bits, as the table numbers them, are `w`: none, since no row gives bits. -/
def decodeTableWord (_nbits _w : Nat) : Option Instr := none

end Sys2Proof
end

