-- ==== Sys2Proof/Config.lean ====
section
/-! DEFINITION. What the manual leaves open: uninterpreted constants. No proof can see their values, so a claim about
them holds for every value. -/
namespace Sys2Proof.Config

/-- Free bytes: a value the manual calls undefined or unspecified, one for each use; the argument is a counter that
State holds and every use advances. [DESIGN CHOICE, log 8] -/
opaque freeByte : Nat → BitVec 8

/-- Free 32-bit values: BOOT_ID (R680), nonces. [DESIGN CHOICE, log 8] -/
opaque freeWord32 : Nat → BitVec 32

/-- Free 64-bit values. [DESIGN CHOICE, log 8] -/
opaque freeWord64 : Nat → BitVec 64

/-- R54, R55: the servo's gain is not stated: from the last offset (quarter ticks) and the present frequency
correction, the change of the frequency correction, in 2^-32 tick per period. [DESIGN CHOICE, log 22] -/
opaque servoStep : Int → Int → Int

/-- R73: how the running mean follows accepted exchanges is not stated: the old mean and the new sample, in quarter
ticks. [DESIGN CHOICE, log 23] -/
opaque delayMean : Option Int → Int → Int

/-- R256: the IPv6 address from which a port sends: the manual gives the adapter none. [DESIGN CHOICE, log 60] -/
opaque ipv6Source : Nat → BitVec 128

/-- R371: the Ethernet address of the next hop of a packet whose sender's handle is not at hand (a datagram, or a transit
packet that came by a fabric link): the manual gives none. [DESIGN CHOICE, log 60] -/
opaque nextHopMac : Nat → BitVec 48

/-- R714: how the OBJECT of a Belfry event names a tower and a mailbox is not stated. [DESIGN CHOICE, log 84] -/
opaque belfryObject : Nat → Nat → BitVec 32

/-- R700: in which form the revocation bits and the counter follow the key hashes is not stated: the bytes they make. [DESIGN CHOICE, log 89] -/
opaque fuseBytes : BitVec 4 → Nat → List (BitVec 8)

/-- ML-DSA-65 (FIPS 204), which the manual names for signatures: key generation from a seed (public key bytes). [DESIGN CHOICE, log 21] -/
opaque mldsaPublicKey : List (BitVec 8) → List (BitVec 8)

/-- ML-DSA-65: the signature under the key of a seed over a message. [DESIGN CHOICE, log 21] -/
opaque mldsaSign : List (BitVec 8) → List (BitVec 8) → List (BitVec 8)

/-- ML-DSA-65: does the signature verify under the public key over the message. [DESIGN CHOICE, log 21] -/
opaque mldsaVerify : List (BitVec 8) → List (BitVec 8) → List (BitVec 8) → Bool

/-- R702: what GET_CAPABILITIES answers after its four header bytes is not stated: 16 bytes, by path. [PRESUMED, log 88] -/
opaque spdmCapabilities : Nat → List (BitVec 8)

/-- R702: the largest SPDM message that the adapter sends in one piece on a path is not stated. [PRESUMED, log 88] -/
opaque spdmTransfer : Nat → Nat

/-- R110: the codes in which DESCRIBE names a type, a kind and a scope are not stated. [DESIGN CHOICE, log 33] -/
opaque describeType : Nat → BitVec 8
opaque describeKind : Nat → BitVec 8
opaque describeScope : Nat → BitVec 8

end Sys2Proof.Config
end

