-- ==== Sys2Proof/Machine/Bits.lean ====
section
/-! DEFINITION. Bit fields, byte order and packing: how the tables of the manual become numbers (R9, R10). -/
namespace Sys2Proof.Machine

/-- The field of `n` bits whose lowest bit is `lo`. -/
def field (lo n : Nat) (x : BitVec w) : BitVec n := x.extractLsb' lo n

/-- The field of `n` bits from bit `lo`, as a number. -/
def fieldNat (lo n : Nat) (x : BitVec w) : Nat := x.toNat / 2 ^ lo % 2 ^ n

/-- Bit `i`, as a flag. -/
def flag (i : Nat) (x : BitVec w) : Bool := x.getLsbD i

/-- The field of `n` bits from bit `lo` of a number. -/
def natField (lo n : Nat) (x : Nat) : Nat := x / 2 ^ lo % 2 ^ n

/-- A layout table read from its first row: each row is (bits, value), the first row lowest (R9). A value that
does not fit its row is taken modulo the row's width. -/
def packNat : List (Nat × Nat) → Nat
  | [] => 0
  | (n, v) :: rest => v % 2 ^ n + 2 ^ n * packNat rest

/-- A layout table as a word of `w` bits. -/
def pack (w : Nat) (rows : List (Nat × Nat)) : BitVec w := BitVec.ofNat w (packNat rows)

/-- Put `v` into the field of `n` bits from bit `lo`. -/
def putField (lo n : Nat) (v : Nat) (x : BitVec w) : BitVec w :=
  let old := fieldNat lo n x
  BitVec.ofNat w (x.toNat - old * 2 ^ lo + v % 2 ^ n * 2 ^ lo)

/-- The low `n` bytes of a number, lowest byte first (R9). -/
def leBytes : Nat → Nat → Bytes
  | 0, _ => []
  | n + 1, v => BitVec.ofNat 8 v :: leBytes n (v / 256)

/-- The number that bytes spell, lowest byte first (R9). -/
def leNat : Bytes → Nat
  | [] => 0
  | b :: bs => b.toNat + 256 * leNat bs

/-- The number that bytes spell in network order, highest byte first (R9: standard Ethernet, IPv6 and UDP fields). -/
def beNat (bs : Bytes) : Nat := bs.foldl (fun a b => a * 256 + b.toNat) 0

/-- The low `n` bytes of a number in network order. -/
def beBytes (n v : Nat) : Bytes := (leBytes n v).reverse

/-- `n` bytes from offset `off`; bytes past the end read zero. -/
def slice (off n : Nat) (bs : Bytes) : Bytes :=
  let t := (bs.drop off).take n
  t ++ List.replicate (n - t.length) 0

/-- The little-endian field of `n` bytes at byte `off`. -/
def leAt (off n : Nat) (bs : Bytes) : Nat := leNat (slice off n bs)

/-- Replace the bytes from `off`; the result keeps its length. -/
def putBytes (off : Nat) (new bs : Bytes) : Bytes :=
  let n := bs.length
  ((slice 0 off bs) ++ new ++ bs.drop (off + new.length)).take n

/-- A number of `w` bits read as two's complement (R13, i32). -/
def toSigned (w : Nat) (v : Nat) : Int :=
  if v % 2 ^ w < 2 ^ (w - 1) then (v % 2 ^ w : Nat) else (v % 2 ^ w : Nat) - (2 ^ w : Nat)

/-- An integer in two's complement of `w` bits. -/
def ofSigned (w : Nat) (v : Int) : Nat := (v % (2 ^ w : Nat)).toNat

/-- Addition modulo 2^w of a counter held as a number. -/
def wrapAdd (w a b : Nat) : Nat := (a + b) % 2 ^ w

/-- Ceiling division. -/
def ceilDiv (a b : Nat) : Nat := (a + b - 1) / b

/-- Bytes of a 64-byte word, lowest first. -/
def bytesOf (n : Nat) (x : BitVec w) : Bytes := leBytes n x.toNat

/-- A 64-byte word from its bytes. -/
def w512OfBytes (bs : Bytes) : W512 := BitVec.ofNat 512 (leNat (bs.take 64))

/-- The list 0 .. n-1, as a structural recursion. -/
def upTo (n : Nat) : List Nat := List.range n

/-- All of the bytes of `bs` are zero. -/
def allZero (bs : Bytes) : Bool := bs.all (· == 0)

/-- The position of the first nonzero byte, counted from `off`. -/
def firstNonzero : Nat → Bytes → Option Nat
  | _, [] => none
  | off, b :: bs => if b == 0 then firstNonzero (off + 1) bs else some off

end Sys2Proof.Machine
end

