-- ==== Sys2Proof/Machine/CatalogA.lean ====
section
/-! DEFINITION. The parameters of groups 0 to 7 (R93, R129, R178, R217, R297, R328). Each definition is one row of the manual's table of its group. -/
namespace Sys2Proof.Machine

/-- D0.0001: Adapter id (R43). Default 0xFFFF, range —. -/
def d0_0001 : Param := ⟨0, 0x0001, .u16, .sh, .package, 65535, .any⟩
/-- D0.0002: Serial number (R44). Default —, range 32 bytes. -/
def d0_0002 : Param := ⟨0, 0x0002, (.string 32), .ro, .package, 0, .any⟩
/-- D0.0003: Part: 0x02 ZF2, 0x04 ZF4, 0x08 ZF8 (R2). Default —, range —. -/
def d0_0003 : Param := ⟨0, 0x0003, .enum, .ro, .package, 0, .any⟩
/-- D0.0004: Silicon revision (R3). Default 0xA1, range —. -/
def d0_0004 : Param := ⟨0, 0x0004, .u8, .ro, .package, 161, .any⟩
/-- D0.0005: Driver interface level (R4). Default 0x0003, range —. -/
def d0_0005 : Param := ⟨0, 0x0005, .u16, .ro, .package, 3, .any⟩
/-- D0.0010: Base MAC address in bits [47:0] (R45). Default fuses, range —. -/
def d0_0010 : Param := ⟨0, 0x0010, .u64, .ro, .package, 0, .any⟩

/-- Group 0 of the dictionary, items rising. -/
def group0 : List Param :=
  [d0_0001, d0_0002, d0_0003, d0_0004, d0_0005, d0_0010]

/-- D1.0002: Towers present (R22). Default —, range —. -/
def d1_0002 : Param := ⟨1, 0x0002, .u8, .ro, .package, 0, .any⟩
/-- D1.0020: Bridges that have trained (R30). Default —, range —. -/
def d1_0020 : Param := ⟨1, 0x0020, .u16, .ro, .package, 0, .any⟩

/-- Group 1 of the dictionary, items rising. -/
def group1 : List Param :=
  [d1_0002, d1_0020]

/-- D2.0000: Fabric time now. Default —, range —. -/
def d2_0000 : Param := ⟨2, 0x0000, .ticks, .ro, .package, 0, .any⟩
/-- D2.0001: Time state. Default 0, range 0–3. -/
def d2_0001 : Param := ⟨2, 0x0001, .enum, .ro, .package, 0, .nat 0 3⟩
/-- D2.0002: Last accepted offset from the reference, q. Default 0, range —. -/
def d2_0002 : Param := ⟨2, 0x0002, .i32, .ro, .package, 0, .any⟩
/-- D2.0003: Error estimate, q. Default 0, range —. -/
def d2_0003 : Param := ⟨2, 0x0003, .u32, .ro, .package, 0, .any⟩
/-- D2.0004: Step count, wraps. Default 0, range —. -/
def d2_0004 : Param := ⟨2, 0x0004, .u16, .ro, .package, 0, .any⟩
/-- D2.0005: Reference: port 0–63, 0xFD self, 0xFE PPS_IN, 0xFF none. Default 0xFF, range —. -/
def d2_0005 : Param := ⟨2, 0x0005, .u8, .ro, .package, 255, .any⟩
/-- D2.0006: GM_IDENTITY of the grandmaster. Default —, range —. -/
def d2_0006 : Param := ⟨2, 0x0006, .u64, .ro, .package, 0, .any⟩
/-- D2.0007: STEPS_REMOVED to the grandmaster. Default 0, range —. -/
def d2_0007 : Param := ⟨2, 0x0007, .u16, .ro, .package, 0, .any⟩
/-- D2.0008: Own GM_IDENTITY. Default fuses, range —. -/
def d2_0008 : Param := ⟨2, 0x0008, .u64, .ro, .package, 0, .any⟩
/-- D2.0010: PRIORITY1. Default 128, range 0–255. -/
def d2_0010 : Param := ⟨2, 0x0010, .u8, .sh, .package, 128, .nat 0 255⟩
/-- D2.0011: PRIORITY2. Default 128, range 0–255. -/
def d2_0011 : Param := ⟨2, 0x0011, .u8, .sh, .package, 128, .nat 0 255⟩
/-- D2.0012: CLOCK_CLASS. Default 248, range 6–255. -/
def d2_0012 : Param := ⟨2, 0x0012, .u8, .sh, .package, 248, .nat 6 255⟩
/-- D2.0013: GM_CAPABLE. Default 1, range —. -/
def d2_0013 : Param := ⟨2, 0x0013, .bool, .sh, .package, 1, .nat 0 1⟩
/-- D2.0014: Time domain number. Default 0, range 0–127. -/
def d2_0014 : Param := ⟨2, 0x0014, .u8, .sh, .package, 0, .nat 0 127⟩
/-- D2.0015: CLOCK_ACCURACY of the own clock, by the IEEE 1588-2019 encoding. 0xFE unknown. Default 0xFE, range 0x17–0xFE. -/
def d2_0015 : Param := ⟨2, 0x0015, .u8, .sh, .package, 254, .nat 23 254⟩
/-- D2.0016: VARIANCE of the own clock, offsetScaledLogVariance of IEEE 1588-2019. Default 0xFFFF, range 0–0xFFFF. -/
def d2_0016 : Param := ⟨2, 0x0016, .u16, .sh, .package, 65535, .nat 0 65535⟩
/-- D2.0020: Sync interval on fabric links. Default 8,192, range 1,024–1,048,576. -/
def d2_0020 : Param := ⟨2, 0x0020, .ticks, .sh, .package, 8192, .nat 1024 1048576⟩
/-- D2.0021: 1588 log sync interval. Default −7, range −7–0. -/
def d2_0021 : Param := ⟨2, 0x0021, .i32, .sh, .package, 4294967289, .int (-7) 0⟩
/-- D2.0022: 1588 delay mechanism: 0 peer-to-peer, 1 end-to-end. Default 0, range 0–1. -/
def d2_0022 : Param := ⟨2, 0x0022, .enum, .sh, .package, 0, .nat 0 1⟩
/-- D2.0023: 1588 transport: 0 Ethernet, 1 UDP/IPv6. Default 0, range 0–1. -/
def d2_0023 : Param := ⟨2, 0x0023, .enum, .sh, .package, 0, .nat 0 1⟩
/-- D2.0024: 1588 transmit: 0 two-step, 1 one-step. Default 0, range 0–1. -/
def d2_0024 : Param := ⟨2, 0x0024, .enum, .sh, .package, 0, .nat 0 1⟩
/-- D2.0025[port]: 1588 enabled on a port in standard mode. Default 1, range —. -/
def d2_0025 : Param := ⟨2, 0x0025, .bool, .sh, .port, 1, .nat 0 1⟩
/-- D2.0030: Sync intervals before the reference is lost. Default 16, range 2–255. -/
def d2_0030 : Param := ⟨2, 0x0030, .u8, .sh, .package, 16, .nat 2 255⟩
/-- D2.0031: STEP_THRESHOLD. Default 1,024, range 16–2^32. -/
def d2_0031 : Param := ⟨2, 0x0031, .ticks, .sh, .package, 1024, .nat 16 4294967296⟩
/-- D2.0032: Holdover drift, ppb. Default 20, range 1–100,000. -/
def d2_0032 : Param := ⟨2, 0x0032, .u32, .sh, .package, 20, .nat 1 100000⟩
/-- D2.0033: Holdover error limit, ticks. Default 16, range 4–1,024. -/
def d2_0033 : Param := ⟨2, 0x0033, .u32, .sh, .package, 16, .nat 4 1024⟩
/-- D2.0034: SLEW_LIMIT, ppm. Default 500, range 1–1,000. -/
def d2_0034 : Param := ⟨2, 0x0034, .u32, .sh, .package, 500, .nat 1 1000⟩
/-- D2.0036: STEP_POLICY. Default 0, range 0–1. -/
def d2_0036 : Param := ⟨2, 0x0036, .enum, .sh, .package, 0, .nat 0 1⟩
/-- D2.0037: Lock threshold, ticks. Default 4, range 1–64. -/
def d2_0037 : Param := ⟨2, 0x0037, .u32, .sh, .package, 4, .nat 1 64⟩
/-- D2.0038: Consecutive offsets to lock. Default 16, range 1–255. -/
def d2_0038 : Param := ⟨2, 0x0038, .u8, .sh, .package, 16, .nat 1 255⟩
/-- D2.0039: Outlier limit, ticks. Default 8, range 1–1,024. -/
def d2_0039 : Param := ⟨2, 0x0039, .u32, .sh, .package, 8, .nat 1 1024⟩
/-- D2.0040[port]: Asymmetry correction, q. Used from the next exchange. Default 0, range ±65,536. -/
def d2_0040 : Param := ⟨2, 0x0040, .i32, .lv, .port, 0, .int (-65536) 65536⟩
/-- D2.0041[port]: Running mean link delay, q. Default —, range —. -/
def d2_0041 : Param := ⟨2, 0x0041, .u32, .ro, .port, 0, .any⟩
/-- D2.0042[port]: Last offset to the neighbour, q. Default —, range —. -/
def d2_0042 : Param := ⟨2, 0x0042, .i32, .ro, .port, 0, .any⟩
/-- D2.0050: PPS_IN: 0 off, 1 reference, 2 latch only. Default 0, range 0–2. -/
def d2_0050 : Param := ⟨2, 0x0050, .enum, .sh, .package, 0, .nat 0 2⟩
/-- D2.0051: PPS_OUT enable. Default 0, range —. -/
def d2_0051 : Param := ⟨2, 0x0051, .bool, .lv, .package, 0, .nat 0 1⟩
/-- D2.0052: PPS_OUT high time. Default 125,000,000, range 1,250–1,125,000,000. -/
def d2_0052 : Param := ⟨2, 0x0052, .ticks, .sh, .package, 125000000, .nat 1250 1125000000⟩
/-- D2.0053: Last PPS_IN edge. Default 0, range —. -/
def d2_0053 : Param := ⟨2, 0x0053, .ticks, .ro, .package, 0, .any⟩
/-- D2.0054: PPS_IN cable delay, ticks. Default 0, range ±1,000,000. -/
def d2_0054 : Param := ⟨2, 0x0054, .i32, .sh, .package, 0, .int (-1000000) 1000000⟩
/-- D2.0060: UTC offset from the grandmaster, s. Default 0, range —. -/
def d2_0060 : Param := ⟨2, 0x0060, .i32, .ro, .package, 0, .any⟩
/-- D2.0070[port]: Exchanges accepted, wraps. Default 0, range —. -/
def d2_0070 : Param := ⟨2, 0x0070, .u32, .ro, .port, 0, .any⟩
/-- D2.0071: HOLDOVER entries, wraps. Default 0, range —. -/
def d2_0071 : Param := ⟨2, 0x0071, .u32, .ro, .package, 0, .any⟩
/-- D2.0072[port]: Symbols discarded for TYPE or DOMAIN, wraps. Default 0, range —. -/
def d2_0072 : Param := ⟨2, 0x0072, .u32, .ro, .port, 0, .any⟩
/-- D2.0073[port]: Exchanges rejected as outliers, wraps. Default 0, range —. -/
def d2_0073 : Param := ⟨2, 0x0073, .u32, .ro, .port, 0, .any⟩
/-- D2.0074: PPS_IN edges ignored, wraps. Default 0, range —. -/
def d2_0074 : Param := ⟨2, 0x0074, .u32, .ro, .package, 0, .any⟩
/-- D2.0075: Triggers fired late, wraps. Default 0, range —. -/
def d2_0075 : Param := ⟨2, 0x0075, .u32, .ro, .package, 0, .any⟩
/-- D2.0076: Expired tags, wraps. Default 0, range —. -/
def d2_0076 : Param := ⟨2, 0x0076, .u32, .ro, .package, 0, .any⟩

/-- Group 2 of the dictionary, items rising. -/
def group2 : List Param :=
  [d2_0000, d2_0001, d2_0002, d2_0003, d2_0004, d2_0005, d2_0006, d2_0007, d2_0008, d2_0010, d2_0011, d2_0012, d2_0013, d2_0014, d2_0015, d2_0016, d2_0020, d2_0021, d2_0022, d2_0023]
  ++ [d2_0024, d2_0025, d2_0030, d2_0031, d2_0032, d2_0033, d2_0034, d2_0036, d2_0037, d2_0038, d2_0039, d2_0040, d2_0041, d2_0042, d2_0050, d2_0051, d2_0052, d2_0053, d2_0054, d2_0060]
  ++ [d2_0070, d2_0071, d2_0072, d2_0073, d2_0074, d2_0075, d2_0076]

/-- D3.0000: Active set generation, wraps. Default 0, range —. -/
def d3_0000 : Param := ⟨3, 0x0000, .u32, .ro, .package, 0, .any⟩
/-- D3.0001: Shadow state: 0 EQUAL to active, 1 STAGED, 2 ARMED, 3 COPYING after a swap. Default 0, range 0–3. -/
def d3_0001 : Param := ⟨3, 0x0001, .enum, .ro, .package, 0, .nat 0 3⟩
/-- D3.0002: Armed tick. 0 when no swap is armed. Default 0, range —. -/
def d3_0002 : Param := ⟨3, 0x0002, .ticks, .ro, .package, 0, .any⟩
/-- D3.0003: Active-set digest. Default —, range 32 bytes. -/
def d3_0003 : Param := ⟨3, 0x0003, (.blob 32), .ro, .package, 0, .any⟩
/-- D3.0004: SWAP_LEAD. Default 12,500, range 1,250–1,250,000. -/
def d3_0004 : Param := ⟨3, 0x0004, .ticks, .rw, .package, 12500, .nat 1250 1250000⟩
/-- D3.0005: Tick of the last swap. Default 0, range —. -/
def d3_0005 : Param := ⟨3, 0x0005, .ticks, .ro, .package, 0, .any⟩
/-- D3.0006: Flags of the last swap tick, performed (R124) or refused (R122): b0 LATE_SWAP, b1 REFUSED_AT_TICK. Default 0, range —. -/
def d3_0006 : Param := ⟨3, 0x0006, .u8, .ro, .package, 0, .any⟩
/-- D3.0007: Reason of the last refused ARM_SWAP, VALIDATE or swap. Default 0, range —. -/
def d3_0007 : Param := ⟨3, 0x0007, .u8, .ro, .package, 0, .any⟩
/-- D3.0008: DETAIL of that refusal. Default 0, range —. -/
def d3_0008 : Param := ⟨3, 0x0008, .u64, .ro, .package, 0, .any⟩
/-- D3.0009: SWAP_ID of the last swap. Default 0, range —. -/
def d3_0009 : Param := ⟨3, 0x0009, .u32, .ro, .package, 0, .any⟩
/-- D3.0010: ADMIN_MASK. Default 0x05, range —. -/
def d3_0010 : Param := ⟨3, 0x0010, .u8, .rw, .package, 5, .any⟩
/-- D3.0011: Instances whose shadow value differs from the active value. Default 0, range —. -/
def d3_0011 : Param := ⟨3, 0x0011, .u32, .ro, .package, 0, .any⟩
/-- D3.0012: Late swaps, wraps. Default 0, range —. -/
def d3_0012 : Param := ⟨3, 0x0012, .u32, .ro, .package, 0, .any⟩
/-- D3.0013: Swaps refused at the tick, wraps. Default 0, range —. -/
def d3_0013 : Param := ⟨3, 0x0013, .u32, .ro, .package, 0, .any⟩
/-- D3.0014: ALLOW_LATE. Default 1, range —. -/
def d3_0014 : Param := ⟨3, 0x0014, .bool, .rw, .package, 1, .nat 0 1⟩
/-- D3.0015: Requests refused BUSY, wraps. Default 0, range —. -/
def d3_0015 : Param := ⟨3, 0x0015, .u32, .ro, .package, 0, .any⟩

/-- Group 3 of the dictionary, items rising. -/
def group3 : List Param :=
  [d3_0000, d3_0001, d3_0002, d3_0003, d3_0004, d3_0005, d3_0006, d3_0007, d3_0008, d3_0009, d3_0010, d3_0011, d3_0012, d3_0013, d3_0014, d3_0015]

/-- D4.0000[tower]: Ring contexts in use on the tower. Default 0, range —. -/
def d4_0000 : Param := ⟨4, 0x0000, .u32, .ro, .tower, 0, .any⟩
/-- D4.0002[tower]: HALTED by R169. Default 0, range —. -/
def d4_0002 : Param := ⟨4, 0x0002, .bool, .ro, .tower, 0, .nat 0 1⟩
/-- D4.0010[tower]: Stamp re-fetches. 0: the first mismatch completes the entry with STALE_ENTRY (R148). Default 4, range 0–8. -/
def d4_0010 : Param := ⟨4, 0x0010, .u8, .sh, .tower, 4, .nat 0 8⟩
/-- D4.0011[tower]: Re-fetch interval. Default 625, range 125–12,500. -/
def d4_0011 : Param := ⟨4, 0x0011, .ticks, .sh, .tower, 625, .nat 125 12500⟩
/-- D4.0012[tower]: Abort deadline. Default 1,250,000, range 125,000–2,500,000. -/
def d4_0012 : Param := ⟨4, 0x0012, .ticks, .sh, .tower, 1250000, .nat 125000 2500000⟩
/-- D4.0013[tower]: Mirror merge window. Default 64, range 0–1,250. -/
def d4_0013 : Param := ⟨4, 0x0013, .ticks, .sh, .tower, 64, .nat 0 1250⟩
/-- D4.0100[t]: Doorbells discarded, wraps. Default 0, range —. -/
def d4_0100 : Param := ⟨4, 0x0100, .u32, .ro, .tenant, 0, .any⟩
/-- D4.0101[t]: STALE_ENTRY completions, wraps. Default 0, range —. -/
def d4_0101 : Param := ⟨4, 0x0101, .u32, .ro, .tenant, 0, .any⟩
/-- D4.0102[t]: MALFORMED chains, wraps. Default 0, range —. -/
def d4_0102 : Param := ⟨4, 0x0102, .u32, .ro, .tenant, 0, .any⟩
/-- D4.0103[t]: Entries released by a re-fetch, wraps. Default 0, range —. -/
def d4_0103 : Param := ⟨4, 0x0103, .u32, .ro, .tenant, 0, .any⟩
/-- D4.0104[t]: REMOTE_NOT_READY answers given, wraps. Default 0, range —. -/
def d4_0104 : Param := ⟨4, 0x0104, .u32, .ro, .tenant, 0, .any⟩
/-- D4.0105[t]: Rings held by the tenant. Default 0, range —. -/
def d4_0105 : Param := ⟨4, 0x0105, .u32, .ro, .tenant, 0, .any⟩
/-- D4.8000[t]: RING_LIMIT. Default 256, range 0–524,288. -/
def d4_8000 : Param := ⟨4, 0x8000, .u32, .sh, .tenant, 256, .nat 0 524288⟩
/-- D4.8001[t]: COMPAT_HALT, tenant 0 only, by R167. Default 0, range —. -/
def d4_8001 : Param := ⟨4, 0x8001, .bool, .rw, .tenant, 0, .nat 0 1⟩

/-- Group 4 of the dictionary, items rising. -/
def group4 : List Param :=
  [d4_0000, d4_0002, d4_0010, d4_0011, d4_0012, d4_0013, d4_0100, d4_0101, d4_0102, d4_0103, d4_0104, d4_0105, d4_8000, d4_8001]

/-- D5.0000[tower]: Contexts cached. Default 0, range —. -/
def d5_0000 : Param := ⟨5, 0x0000, .u32, .ro, .tower, 0, .any⟩
/-- D5.0001[tower]: Contexts pinned. Default 0, range —. -/
def d5_0001 : Param := ⟨5, 0x0001, .u32, .ro, .tower, 0, .any⟩
/-- D5.0002[tower]: Pin limit. Default 4,096, range 0–12,288. -/
def d5_0002 : Param := ⟨5, 0x0002, .u32, .sh, .tower, 4096, .nat 0 12288⟩
/-- D5.0010[tower]: Quarantine. Default 12,500,000, range 5,000,000–1,250,000,000. -/
def d5_0010 : Param := ⟨5, 0x0010, .ticks, .sh, .tower, 12500000, .nat 5000000 1250000000⟩
/-- D5.0011[tower]: DRAINING deadline. Default 1,250,000, range 125,000–125,000,000. -/
def d5_0011 : Param := ⟨5, 0x0011, .ticks, .sh, .tower, 1250000, .nat 125000 125000000⟩
/-- D5.0012[tower]: CONTEXT_BUSY back-off hint. Default 2,500, range 125–1,250,000. -/
def d5_0012 : Param := ⟨5, 0x0012, .ticks, .sh, .tower, 2500, .nat 125 1250000⟩
/-- D5.0013[tower]: FREEZE deadline. Default 1,875,000, range 12,500–12,500,000. -/
def d5_0013 : Param := ⟨5, 0x0013, .ticks, .sh, .tower, 1875000, .nat 12500 12500000⟩
/-- D5.0014[tower]: Free entries kept by eviction. Default 64, range 8–1,024. -/
def d5_0014 : Param := ⟨5, 0x0014, .u16, .sh, .tower, 64, .nat 8 1024⟩
/-- D5.0100[tower]: Cache misses, wraps. Default 0, range —. -/
def d5_0100 : Param := ⟨5, 0x0100, .u32, .ro, .tower, 0, .any⟩
/-- D5.0101[tower]: Evictions, wraps. Default 0, range —. -/
def d5_0101 : Param := ⟨5, 0x0101, .u32, .ro, .tower, 0, .any⟩
/-- D5.0102[tower]: CONTEXT_BUSY answers sent, wraps. Default 0, range —. -/
def d5_0102 : Param := ⟨5, 0x0102, .u32, .ro, .tower, 0, .any⟩
/-- D5.0103[tower]: Acknowledgements discarded for a full miss buffer, wraps. Default 0, range —. -/
def d5_0103 : Param := ⟨5, 0x0103, .u32, .ro, .tower, 0, .any⟩
/-- D5.0104[tower]: Backing failures, wraps. Default 0, range —. -/
def d5_0104 : Param := ⟨5, 0x0104, .u32, .ro, .tower, 0, .any⟩
/-- D5.0105[tower]: STALE_CONNECTION answers sent, wraps. Default 0, range —. -/
def d5_0105 : Param := ⟨5, 0x0105, .u32, .ro, .tower, 0, .any⟩
/-- D5.0106[tower]: Miss-buffer entries in use. Default 0, range —. -/
def d5_0106 : Param := ⟨5, 0x0106, .u16, .ro, .tower, 0, .any⟩
/-- D5.0107[tower]: Miss-buffer high-water mark since read. Reading it resets it. Default 0, range —. -/
def d5_0107 : Param := ⟨5, 0x0107, .u16, .ro, .tower, 0, .any⟩
/-- D5.0108[tower]: Packets discarded for a foreign source adapter, wraps. Default 0, range —. -/
def d5_0108 : Param := ⟨5, 0x0108, .u32, .ro, .tower, 0, .any⟩
/-- D5.0109: Path rebinds discarded, wraps. Default 0, range —. -/
def d5_0109 : Param := ⟨5, 0x0109, .u32, .ro, .package, 0, .any⟩
/-- D5.0200[t]: Connections held, not FREE. Default 0, range —. -/
def d5_0200 : Param := ⟨5, 0x0200, .u32, .ro, .tenant, 0, .any⟩
/-- D5.0201[t]: Handles held. Default 0, range —. -/
def d5_0201 : Param := ⟨5, 0x0201, .u16, .ro, .tenant, 0, .any⟩
/-- D5.8000[t]: Connection ranges, by R180. Default zeros, range 256 bytes. -/
def d5_8000 : Param := ⟨5, 0x8000, (.blob 256), .sh, .tenant, 0, .any⟩
/-- D5.8001[t]: Handle limit. Default 32, range 0–65,535. -/
def d5_8001 : Param := ⟨5, 0x8001, .u16, .sh, .tenant, 32, .nat 0 65535⟩
/-- D5.8002[t]: Miss-buffer share. Default 256, range 0–960. -/
def d5_8002 : Param := ⟨5, 0x8002, .u16, .sh, .tenant, 256, .nat 0 960⟩
/-- D5.8003[t]: Root key slot for path-rebind authentication. Default 0, range 0–4,095. -/
def d5_8003 : Param := ⟨5, 0x8003, .u16, .sh, .tenant, 0, .nat 0 4095⟩

/-- Group 5 of the dictionary, items rising. -/
def group5 : List Param :=
  [d5_0000, d5_0001, d5_0002, d5_0010, d5_0011, d5_0012, d5_0013, d5_0014, d5_0100, d5_0101, d5_0102, d5_0103, d5_0104, d5_0105, d5_0106, d5_0107, d5_0108, d5_0109, d5_0200, d5_0201]
  ++ [d5_8000, d5_8001, d5_8002, d5_8003]

/-- D6.0001: Silus EtherType. Default 0x88B5, range 0x0600–0xFFFF. -/
def d6_0001 : Param := ⟨6, 0x0001, .u16, .sh, .package, 34997, .nat 1536 65535⟩
/-- D6.0002: UDP destination port. Default 0x5A52, range 1,024–65,535. -/
def d6_0002 : Param := ⟨6, 0x0002, .u16, .sh, .package, 23122, .nat 1024 65535⟩
/-- D6.0003: IPv6 hop limit. Default 64, range 1–255. -/
def d6_0003 : Param := ⟨6, 0x0003, .u8, .sh, .package, 64, .nat 1 255⟩
/-- D6.0004: UDP checksum: 0 zero, 1 computed. Default 0, range 0–1. -/
def d6_0004 : Param := ⟨6, 0x0004, .enum, .sh, .package, 0, .nat 0 1⟩
/-- D6.0005: PCP of VC k in bits [3k+2:3k]. The default maps each VC to the PCP of its own number. Default 0x00FA_C688, range [23:0]. -/
def d6_0005 : Param := ⟨6, 0x0005, .u32, .sh, .package, 16434824, .nat 0 16777215⟩
/-- D6.0010[tower]: Accepted packets per ACK. Default 4, range 1–64. -/
def d6_0010 : Param := ⟨6, 0x0010, .u8, .sh, .tower, 4, .nat 1 64⟩
/-- D6.0011[tower]: ACK delay. 0 acknowledges every packet. Default 250, range 0–12,500. -/
def d6_0011 : Param := ⟨6, 0x0011, .ticks, .sh, .tower, 250, .nat 0 12500⟩
/-- D6.0012[tower]: Wait before CONFIRM_QUERY. Default 25,000, range 1,250–1,250,000. -/
def d6_0012 : Param := ⟨6, 0x0012, .ticks, .sh, .tower, 25000, .nat 1250 1250000⟩
/-- D6.0020[tower]: REMOTE_NOT_READY back-off sent in BACKOFF. Default 12,500, range 1,250–1,250,000. -/
def d6_0020 : Param := ⟨6, 0x0020, .ticks, .sh, .tower, 12500, .nat 1250 1250000⟩
/-- D6.0021[tower]: REMOTE_NOT_READY answers per message before failure. Default 7, range 1–64. -/
def d6_0021 : Param := ⟨6, 0x0021, .u8, .sh, .tower, 7, .nat 1 64⟩
/-- D6.0022[tower]: Consecutive CONTEXT_BUSY answers before failure. Default 64, range 1–255. -/
def d6_0022 : Param := ⟨6, 0x0022, .u8, .sh, .tower, 64, .nat 1 255⟩
/-- D6.0030[tower]: Initial RTO. Default 10,000, range 1,250–1,250,000. -/
def d6_0030 : Param := ⟨6, 0x0030, .ticks, .sh, .tower, 10000, .nat 1250 1250000⟩
/-- D6.0031[tower]: Largest RTO. Not below D6.0030, else CROSS_FIELD. Default 1,250,000, range 1,250–12,500,000. -/
def d6_0031 : Param := ⟨6, 0x0031, .ticks, .sh, .tower, 1250000, .nat 1250 12500000⟩
/-- D6.0040[tower]: Reorder slack, dome. Default 500, range 0–125,000. -/
def d6_0040 : Param := ⟨6, 0x0040, .ticks, .sh, .tower, 500, .nat 0 125000⟩
/-- D6.0041[tower]: Reorder slack, spire. Default 0, range 0–12,500. -/
def d6_0041 : Param := ⟨6, 0x0041, .ticks, .sh, .tower, 0, .nat 0 12500⟩
/-- D6.0100[tower]: Packets failing CRC or UDP checksum, wraps. Default 0, range —. -/
def d6_0100 : Param := ⟨6, 0x0100, .u32, .ro, .tower, 0, .any⟩
/-- D6.0101[tower]: Packets failing the GCM tag, wraps. Default 0, range —. -/
def d6_0101 : Param := ⟨6, 0x0101, .u32, .ro, .tower, 0, .any⟩
/-- D6.0102[tower]: Stomped packets, wraps. Default 0, range —. -/
def d6_0102 : Param := ⟨6, 0x0102, .u32, .ro, .tower, 0, .any⟩
/-- D6.0103[tower]: Packets with expired TIME_TAG, wraps. Default 0, range —. -/
def d6_0103 : Param := ⟨6, 0x0103, .u32, .ro, .tower, 0, .any⟩
/-- D6.0104[tower]: Packets beyond the window, wraps. Default 0, range —. -/
def d6_0104 : Param := ⟨6, 0x0104, .u32, .ro, .tower, 0, .any⟩
/-- D6.0105[tower]: ACKs discarded for CUM_PSN beyond TX_NEXT_PSN, wraps. Default 0, range —. -/
def d6_0105 : Param := ⟨6, 0x0105, .u32, .ro, .tower, 0, .any⟩
/-- D6.0106[tower]: Unauthenticated NAKs rejected, wraps. Default 0, range —. -/
def d6_0106 : Param := ⟨6, 0x0106, .u32, .ro, .tower, 0, .any⟩
/-- D6.0107[tower]: Retransmissions by reorder slack, wraps. Default 0, range —. -/
def d6_0107 : Param := ⟨6, 0x0107, .u32, .ro, .tower, 0, .any⟩
/-- D6.0108[tower]: VOID packets sent, wraps. Default 0, range —. -/
def d6_0108 : Param := ⟨6, 0x0108, .u32, .ro, .tower, 0, .any⟩
/-- D6.0109[tower]: Packets discarded as malformed, wraps. Default 0, range —. -/
def d6_0109 : Param := ⟨6, 0x0109, .u32, .ro, .tower, 0, .any⟩
/-- D6.0110[tower]: Retransmissions by RTO, wraps. Default 0, range —. -/
def d6_0110 : Param := ⟨6, 0x0110, .u32, .ro, .tower, 0, .any⟩
/-- D6.0200[t]: Connections failed by retry exhaustion, wraps. Default 0, range —. -/
def d6_0200 : Param := ⟨6, 0x0200, .u32, .ro, .tenant, 0, .any⟩

/-- Group 6 of the dictionary, items rising. -/
def group6 : List Param :=
  [d6_0001, d6_0002, d6_0003, d6_0004, d6_0005, d6_0010, d6_0011, d6_0012, d6_0020, d6_0021, d6_0022, d6_0030, d6_0031, d6_0040, d6_0041, d6_0100, d6_0101, d6_0102, d6_0103, d6_0104]
  ++ [d6_0105, d6_0106, d6_0107, d6_0108, d6_0109, d6_0110, d6_0200]

/-- D7.0000: Round length, log2 ticks. Default 16, range 10–22. -/
def d7_0000 : Param := ⟨7, 0x0000, .u8, .sh, .package, 16, .nat 10 22⟩
/-- D7.0001: Guard band G. Default 32, range 0–4,096. -/
def d7_0001 : Param := ⟨7, 0x0001, .ticks, .sh, .package, 32, .nat 0 4096⟩
/-- D7.0002[tower]: Fetch lead. Default 3,750, range 250–1,250,000. -/
def d7_0002 : Param := ⟨7, 0x0002, .ticks, .sh, .tower, 3750, .nat 250 1250000⟩
/-- D7.0010[tower]: Slot entries in use. Default 0, range 0–16,384. -/
def d7_0010 : Param := ⟨7, 0x0010, .u16, .sh, .tower, 0, .nat 0 16384⟩
/-- D7.0011[tower]: Slot table, by R300. Default zeros, range 262,144 bytes. -/
def d7_0011 : Param := ⟨7, 0x0011, (.blob 262144), .sh, .tower, 0, .any⟩
/-- D7.0100[tower]: Slot instances fired, wraps. Default 0, range —. -/
def d7_0100 : Param := ⟨7, 0x0100, .u32, .ro, .tower, 0, .any⟩
/-- D7.0101[tower]: Late SEND instances, wraps. Default 0, range —. -/
def d7_0101 : Param := ⟨7, 0x0101, .u32, .ro, .tower, 0, .any⟩
/-- D7.0102[tower]: EXPECT instances found empty, wraps. Default 0, range —. -/
def d7_0102 : Param := ⟨7, 0x0102, .u32, .ro, .tower, 0, .any⟩
/-- D7.0103[tower]: Instances skipped, wraps. Default 0, range —. -/
def d7_0103 : Param := ⟨7, 0x0103, .u32, .ro, .tower, 0, .any⟩
/-- D7.0104[tower]: Off-window VC7 transit packets, wraps. Default 0, range —. -/
def d7_0104 : Param := ⟨7, 0x0104, .u32, .ro, .tower, 0, .any⟩
/-- D7.0105[tower]: Steps started late, wraps. Default 0, range —. -/
def d7_0105 : Param := ⟨7, 0x0105, .u32, .ro, .tower, 0, .any⟩
/-- D7.0106[tower]: Retransmitted packets sent in slots, wraps. Default 0, range —. -/
def d7_0106 : Param := ⟨7, 0x0106, .u32, .ro, .tower, 0, .any⟩
/-- D7.0107[tower]: Staging bytes high-water mark since read. Reading it resets it. Default 0, range —. -/
def d7_0107 : Param := ⟨7, 0x0107, .u32, .ro, .tower, 0, .any⟩
/-- D7.0108[tower]: Fabric time of the last late or skipped instance. Default 0, range —. -/
def d7_0108 : Param := ⟨7, 0x0108, .ticks, .ro, .tower, 0, .any⟩
/-- D7.0109[tower]: Connections behind. Default 0, range —. -/
def d7_0109 : Param := ⟨7, 0x0109, .u32, .ro, .tower, 0, .any⟩

/-- Group 7 of the dictionary, items rising. -/
def group7 : List Param :=
  [d7_0000, d7_0001, d7_0002, d7_0010, d7_0011, d7_0100, d7_0101, d7_0102, d7_0103, d7_0104, d7_0105, d7_0106, d7_0107, d7_0108, d7_0109]

end Sys2Proof.Machine
end

