-- ==== Sys2Proof/Machine/CatalogB.lean ====
section
/-! DEFINITION. The parameters of groups 8 to 13 (R362, R397, R440, R482, R507, R544). Each definition is one row of the manual's table of its group. -/
namespace Sys2Proof.Machine

/-- D8.0002: Start rate, Q8. Default 10,240, range 256–40,960. -/
def d8_0002 : Param := ⟨8, 0x0002, .u32, .sh, .package, 10240, .nat 256 40960⟩
/-- D8.0003: Minimum rate, Q8. Default 256, range 1–40,960. -/
def d8_0003 : Param := ⟨8, 0x0003, .u32, .sh, .package, 256, .nat 1 40960⟩
/-- D8.0004: Pacing burst, bytes. Default 8,320, range 576–1,048,576. -/
def d8_0004 : Param := ⟨8, 0x0004, .u32, .sh, .package, 8320, .nat 576 1048576⟩
/-- D8.0005: Largest accepted owd. Default 62,500, range 1,250–65,535. -/
def d8_0005 : Param := ⟨8, 0x0005, .ticks, .sh, .package, 62500, .nat 1250 65535⟩
/-- D8.0010: Target queueing delay T. Default 2,500, range 125–8,000. -/
def d8_0010 : Param := ⟨8, 0x0010, .ticks, .sh, .package, 2500, .nat 125 8000⟩
/-- D8.0011: Rebase interval. Default 12,500,000, range 1,250,000–1,250,000,000. -/
def d8_0011 : Param := ⟨8, 0x0011, .ticks, .sh, .package, 12500000, .nat 1250000 1250000000⟩
/-- D8.0012: Decrease gain, 1/1,024 per T of excess. Default 512, range 1–4,096. -/
def d8_0012 : Param := ⟨8, 0x0012, .u16, .sh, .package, 512, .nat 1 4096⟩
/-- D8.0013: Largest decrease, 1/1,024. Default 512, range 1–1,023. -/
def d8_0013 : Param := ⟨8, 0x0013, .u16, .sh, .package, 512, .nat 1 1023⟩
/-- D8.0014: Decrease on CE or loss, 1/1,024. Default 128, range 0–1,023. -/
def d8_0014 : Param := ⟨8, 0x0014, .u16, .sh, .package, 128, .nat 0 1023⟩
/-- D8.0015: Increase per 4,096 bytes acknowledged, Q8. Default 64, range 0–40,960. -/
def d8_0015 : Param := ⟨8, 0x0015, .u32, .sh, .package, 64, .nat 0 40960⟩
/-- D8.0016: Initial SRTT. Default 2,500, range 125–1,250,000. -/
def d8_0016 : Param := ⟨8, 0x0016, .ticks, .sh, .package, 2500, .nat 125 1250000⟩
/-- D8.0020: Prune delay threshold. Default 10,000, range 250–16,380. -/
def d8_0020 : Param := ⟨8, 0x0020, .ticks, .sh, .package, 10000, .nat 250 16380⟩
/-- D8.0021: Prune time, rounded up to a multiple of 65,536. Default 1,310,720, range 65,536–33,488,896. -/
def d8_0021 : Param := ⟨8, 0x0021, .ticks, .sh, .package, 1310720, .nat 65536 33488896⟩
/-- D8.0022: Initial path weight. Default 64, range 1–255. -/
def d8_0022 : Param := ⟨8, 0x0022, .u8, .sh, .package, 64, .nat 1 255⟩
/-- D8.0023: Weight of a path returning from pruning. Default 16, range 1–255. -/
def d8_0023 : Param := ⟨8, 0x0023, .u8, .sh, .package, 16, .nat 1 255⟩
/-- D8.0030[port]: Class weights of VC0–VC4. Default 0x0000_0040_4040_4040, range bytes 0–4 each 1–255, bytes 5–7 zero. -/
def d8_0030 : Param := ⟨8, 0x0030, .u64, .sh, .port, 275955859520, .classWeights⟩
/-- D8.0031[port]: Length overhead, bytes. Default 20, range 0–64. -/
def d8_0031 : Param := ⟨8, 0x0031, .u8, .sh, .port, 20, .nat 0 64⟩
/-- D8.0032[port]: Burst credit of a newly active queue, bytes. Default 16,640, range 0–1,048,576. -/
def d8_0032 : Param := ⟨8, 0x0032, .u32, .sh, .port, 16640, .nat 0 1048576⟩
/-- D8.0033[port]: Commit bound per VC, bytes. Default 65,536, range 16,384–4,194,304. -/
def d8_0033 : Param := ⟨8, 0x0033, .u32, .sh, .port, 65536, .nat 16384 4194304⟩
/-- D8.0036[port]: ECN marking delay. 0 disables. Default 1,250, range 0–125,000. -/
def d8_0036 : Param := ⟨8, 0x0036, .ticks, .lv, .port, 1250, .nat 0 125000⟩
/-- D8.0050: Lantern period. Default 12,500, range 1,250–125,000,000. -/
def d8_0050 : Param := ⟨8, 0x0050, .ticks, .sh, .package, 12500, .nat 1250 125000000⟩
/-- D8.0051: Lantern enable. Default 0, range —. -/
def d8_0051 : Param := ⟨8, 0x0051, .bool, .lv, .package, 0, .nat 0 1⟩
/-- D8.0052: Lantern record threshold, bytes. Default 1, range 1–16,777,215. -/
def d8_0052 : Param := ⟨8, 0x0052, .u32, .sh, .package, 1, .nat 1 16777215⟩
/-- D8.0053[port]: Lantern buffer, log2 records. Default 10, range 6–20. -/
def d8_0053 : Param := ⟨8, 0x0053, .u8, .sh, .port, 10, .nat 6 20⟩
/-- D8.0054[port]: Lantern records written, wraps. Default 0, range —. -/
def d8_0054 : Param := ⟨8, 0x0054, .u32, .ro, .port, 0, .any⟩
/-- D8.0055[port]: Lantern sample buffer, by R360. Default zeros, range 16 × 2^D8.0053 bytes. -/
def d8_0055 : Param := ⟨8, 0x0055, (.blob 16777216), .ro, .port, 0, .any⟩
/-- D8.0100[port]: Packets marked CE, wraps. Default 0, range —. -/
def d8_0100 : Param := ⟨8, 0x0100, .u32, .ro, .port, 0, .any⟩
/-- D8.0101[port]: Path selections at which the bound of D8.0033 alone left out the port (R341), wraps. Default 0, range —. -/
def d8_0101 : Param := ⟨8, 0x0101, .u32, .ro, .port, 0, .any⟩
/-- D8.0200[t]: Packets discarded by the policer, wraps. Default 0, range —. -/
def d8_0200 : Param := ⟨8, 0x0200, .u32, .ro, .tenant, 0, .any⟩
/-- D8.0201[t]: Rate decreases by R335 and R336, wraps. Default 0, range —. -/
def d8_0201 : Param := ⟨8, 0x0201, .u32, .ro, .tenant, 0, .any⟩
/-- D8.0202[t]: Paths pruned, wraps. Default 0, range —. -/
def d8_0202 : Param := ⟨8, 0x0202, .u32, .ro, .tenant, 0, .any⟩
/-- D8.8001[t]: Fair-queueing weight. Default 256, range 1–65,535. -/
def d8_8001 : Param := ⟨8, 0x8001, .u16, .sh, .tenant, 256, .nat 1 65535⟩
/-- D8.8002[t]: Shaper rate, Q8. 0 unshaped. Default 0, range 0–40,960. -/
def d8_8002 : Param := ⟨8, 0x8002, .u32, .sh, .tenant, 0, .nat 0 40960⟩
/-- D8.8003[t]: Shaper burst, bytes. Default 65,536, range 16,384–16,777,216. -/
def d8_8003 : Param := ⟨8, 0x8003, .u32, .sh, .tenant, 65536, .nat 16384 16777216⟩
/-- D8.8004[t]: Policer rate, Q8. 0 off. Default 0, range 0–40,960. -/
def d8_8004 : Param := ⟨8, 0x8004, .u32, .sh, .tenant, 0, .nat 0 40960⟩
/-- D8.8005[t]: Policer burst, bytes. Default 65,536, range 16,384–16,777,216. -/
def d8_8005 : Param := ⟨8, 0x8005, .u32, .sh, .tenant, 65536, .nat 16384 16777216⟩
/-- D8.8006[t]: Largest connection rate, Q8. Default 40,960, range 256–40,960. -/
def d8_8006 : Param := ⟨8, 0x8006, .u32, .sh, .tenant, 40960, .nat 256 40960⟩

/-- Group 8 of the dictionary, items rising. -/
def group8 : List Param :=
  [d8_0002, d8_0003, d8_0004, d8_0005, d8_0010, d8_0011, d8_0012, d8_0013, d8_0014, d8_0015, d8_0016, d8_0020, d8_0021, d8_0022, d8_0023, d8_0030, d8_0031, d8_0032, d8_0033, d8_0036]
  ++ [d8_0050, d8_0051, d8_0052, d8_0053, d8_0054, d8_0055, d8_0100, d8_0101, d8_0200, d8_0201, d8_0202, d8_8001, d8_8002, d8_8003, d8_8004, d8_8005, d8_8006]

/-- D9.0000: FWD_ENABLE. Default 0, range —. -/
def d9_0000 : Param := ⟨9, 0x0000, .bool, .sh, .package, 0, .nat 0 1⟩
/-- D9.0001: ROUTE_GEN. Default 0, range 0–15. -/
def d9_0001 : Param := ⟨9, 0x0001, .u8, .sh, .package, 0, .nat 0 15⟩
/-- D9.0002: DRAIN. Default 125,000, range 12,500–12,500,000. -/
def d9_0002 : Param := ⟨9, 0x0002, .ticks, .sh, .package, 125000, .nat 12500 12500000⟩
/-- D9.0003: Transit hop limit: arrival HOPS at which a packet is discarded. Default 14, range 1–14. -/
def d9_0003 : Param := ⟨9, 0x0003, .u8, .sh, .package, 14, .nat 1 14⟩
/-- D9.0004: Transit residence limit. Default 62,500, range 1,250–1,250,000. -/
def d9_0004 : Param := ⟨9, 0x0004, .ticks, .sh, .package, 62500, .nat 1250 1250000⟩
/-- D9.0005: Path-down hold. Default 125,000,000, range 1,250,000–1,250,000,000. -/
def d9_0005 : Param := ⟨9, 0x0005, .ticks, .sh, .package, 125000000, .nat 1250000 1250000000⟩
/-- D9.0006: Notice suppression interval. Default 125,000, range 1,250–12,500,000. -/
def d9_0006 : Param := ⟨9, 0x0006, .ticks, .sh, .package, 125000, .nat 1250 12500000⟩
/-- D9.0007: Tick of the last route change. 0 until the first route change since package reset (R373, R375). Default 0, range —. -/
def d9_0007 : Param := ⟨9, 0x0007, .ticks, .ro, .package, 0, .any⟩
/-- D9.0010: Spray sets in use. Default 0, range 0–16,384. -/
def d9_0010 : Param := ⟨9, 0x0010, .u16, .sh, .package, 0, .nat 0 16384⟩
/-- D9.0011: Spray sets, by R365. Default zeros, range 131,072 bytes. -/
def d9_0011 : Param := ⟨9, 0x0011, (.blob 131072), .sh, .package, 0, .any⟩
/-- D9.0012: Forwarding entries, by R366. Default zeros, range 524,288 bytes. -/
def d9_0012 : Param := ⟨9, 0x0012, (.blob 524288), .sh, .package, 0, .any⟩
/-- D9.0013: Port list, by R367. Default zeros, range 131,072 bytes. -/
def d9_0013 : Param := ⟨9, 0x0013, (.blob 131072), .sh, .package, 0, .any⟩
/-- D9.0020[port]: Hop classes K per dome VC. Default 1, range 1–4. -/
def d9_0020 : Param := ⟨9, 0x0020, .u8, .sh, .port, 1, .nat 1 4⟩
/-- D9.0021[port]: Ingress allocation of VC k, 4 KiB units. Default 0x1808_020C_0C0C_0C0C, range byte k: 0–255. -/
def d9_0021 : Param := ⟨9, 0x0021, .u64, .sh, .port, 1731636307488934924, .any⟩
/-- D9.0022[port]: Credit block interval. Default 1,250, range 125–12,500. -/
def d9_0022 : Param := ⟨9, 0x0022, .ticks, .sh, .port, 1250, .nat 125 12500⟩
/-- D9.0023[port]: Transit queue weight. Default 256, range 1–65,535. -/
def d9_0023 : Param := ⟨9, 0x0023, .u16, .sh, .port, 256, .nat 1 65535⟩
/-- D9.0024[port]: Transit queue limit per VC on an Ethernet port, bytes. Default 262,144, range 16,384–4,194,304. -/
def d9_0024 : Param := ⟨9, 0x0024, .u32, .sh, .port, 262144, .nat 16384 4194304⟩
/-- D9.0100[port]: Transit packets started, wraps. Default 0, range —. -/
def d9_0100 : Param := ⟨9, 0x0100, .u32, .ro, .port, 0, .any⟩
/-- D9.0101[port]: Transit bytes started, wraps. Default 0, range —. -/
def d9_0101 : Param := ⟨9, 0x0101, .u64, .ro, .port, 0, .any⟩
/-- D9.0102[tower]: Discarded for route generation, wraps. Default 0, range —. -/
def d9_0102 : Param := ⟨9, 0x0102, .u32, .ro, .tower, 0, .any⟩
/-- D9.0103[tower]: Discarded at the hop limit, wraps. Default 0, range —. -/
def d9_0103 : Param := ⟨9, 0x0103, .u32, .ro, .tower, 0, .any⟩
/-- D9.0104[tower]: Discarded at the residence limit, wraps. Default 0, range —. -/
def d9_0104 : Param := ⟨9, 0x0104, .u32, .ro, .tower, 0, .any⟩
/-- D9.0105[tower]: Discarded for no route or forwarding disabled, wraps. Default 0, range —. -/
def d9_0105 : Param := ⟨9, 0x0105, .u32, .ro, .tower, 0, .any⟩
/-- D9.0106[tower]: Discarded for an egress that is down, wraps. Default 0, range —. -/
def d9_0106 : Param := ⟨9, 0x0106, .u32, .ro, .tower, 0, .any⟩
/-- D9.0107[tower]: Discarded for a link check failed before start, wraps. Default 0, range —. -/
def d9_0107 : Param := ⟨9, 0x0107, .u32, .ro, .tower, 0, .any⟩
/-- D9.0108[tower]: Discarded for a full Ethernet transit queue, wraps. Default 0, range —. -/
def d9_0108 : Param := ⟨9, 0x0108, .u32, .ro, .tower, 0, .any⟩
/-- D9.0109[tower]: Routed by previous tables, wraps. Default 0, range —. -/
def d9_0109 : Param := ⟨9, 0x0109, .u32, .ro, .tower, 0, .any⟩
/-- D9.0110[tower]: Routed by armed tables, wraps. Default 0, range —. -/
def d9_0110 : Param := ⟨9, 0x0110, .u32, .ro, .tower, 0, .any⟩
/-- D9.0111[port]: Transit packets stomped, wraps. Default 0, range —. -/
def d9_0111 : Param := ⟨9, 0x0111, .u32, .ro, .port, 0, .any⟩
/-- D9.0112[port]: Transit packets that waited for credits, wraps. Default 0, range —. -/
def d9_0112 : Param := ⟨9, 0x0112, .u32, .ro, .port, 0, .any⟩
/-- D9.0113: Route-down notices sent, wraps. Default 0, range —. -/
def d9_0113 : Param := ⟨9, 0x0113, .u32, .ro, .package, 0, .any⟩
/-- D9.0114: Route-down notices accepted, wraps. Default 0, range —. -/
def d9_0114 : Param := ⟨9, 0x0114, .u32, .ro, .package, 0, .any⟩
/-- D9.0115: Route-down notices discarded for GEN, wraps. Default 0, range —. -/
def d9_0115 : Param := ⟨9, 0x0115, .u32, .ro, .package, 0, .any⟩
/-- D9.0116: Path-down entries in use. Default 0, range —. -/
def d9_0116 : Param := ⟨9, 0x0116, .u16, .ro, .package, 0, .any⟩

/-- Group 9 of the dictionary, items rising. -/
def group9 : List Param :=
  [d9_0000, d9_0001, d9_0002, d9_0003, d9_0004, d9_0005, d9_0006, d9_0007, d9_0010, d9_0011, d9_0012, d9_0013, d9_0020, d9_0021, d9_0022, d9_0023, d9_0024, d9_0100, d9_0101, d9_0102]
  ++ [d9_0103, d9_0104, d9_0105, d9_0106, d9_0107, d9_0108, d9_0109, d9_0110, d9_0111, d9_0112, d9_0113, d9_0114, d9_0115, d9_0116]

/-- D10.0000[tower]: Cupola cores present. Default 6, range —. -/
def d10_0000 : Param := ⟨10, 0x0000, .u8, .ro, .tower, 6, .any⟩
/-- D10.0001[tower]: Bays resident. Default 0, range —. -/
def d10_0001 : Param := ⟨10, 0x0001, .u16, .ro, .tower, 0, .any⟩
/-- D10.0010[tower]: Bay loads, wraps. Default 0, range —. -/
def d10_0010 : Param := ⟨10, 0x0010, .u32, .ro, .tower, 0, .any⟩
/-- D10.0011[tower]: Bay write-backs, wraps. Default 0, range —. -/
def d10_0011 : Param := ⟨10, 0x0011, .u32, .ro, .tower, 0, .any⟩
/-- D10.0012[tower]: Elements read out as range, wraps. Default 0, range —. -/
def d10_0012 : Param := ⟨10, 0x0012, .u32, .ro, .tower, 0, .any⟩
/-- D10.0013[tower]: Additions that changed WRAP, wraps. Default 0, range —. -/
def d10_0013 : Param := ⟨10, 0x0013, .u32, .ro, .tower, 0, .any⟩
/-- D10.0014[tower]: Lane-cycles used, wraps. Default 0, range —. -/
def d10_0014 : Param := ⟨10, 0x0014, .u64, .ro, .tower, 0, .any⟩
/-- D10.0015[tower]: Ticks with the input buffer full, wraps. Default 0, range —. -/
def d10_0015 : Param := ⟨10, 0x0015, .u32, .ro, .tower, 0, .any⟩
/-- D10.0016[tower]: Accumulators made MIXED, wraps. Default 0, range —. -/
def d10_0016 : Param := ⟨10, 0x0016, .u32, .ro, .tower, 0, .any⟩
/-- D10.0100[t]: Handle descriptors, by R426. Default zeros, range 262,144 bytes. -/
def d10_0100 : Param := ⟨10, 0x0100, (.blob 262144), .sh, .tenant, 0, .any⟩
/-- D10.0200[t]: Lane-cycles used by the tenant, wraps. Default 0, range —. -/
def d10_0200 : Param := ⟨10, 0x0200, .u64, .ro, .tenant, 0, .any⟩
/-- D10.8000[t]: Cupola share weight. Default 256, range 0–65,535. -/
def d10_8000 : Param := ⟨10, 0x8000, .u16, .sh, .tenant, 256, .nat 0 65535⟩
/-- D10.8001[t]: Handle range. Default 0, range [11:0] 0–4,095, [28:16] 0–4,096. -/
def d10_8001 : Param := ⟨10, 0x8001, .u32, .sh, .tenant, 0, .rangePair⟩

/-- Group 10 of the dictionary, items rising. -/
def group10 : List Param :=
  [d10_0000, d10_0001, d10_0010, d10_0011, d10_0012, d10_0013, d10_0014, d10_0015, d10_0016, d10_0100, d10_0200, d10_8000, d10_8001]

/-- D11.0001: Unresolved speculations, of 8,192. Default 0, range —. -/
def d11_0001 : Param := ⟨11, 0x0001, .u16, .ro, .package, 0, .any⟩
/-- D11.0100[t]: Contributions that took a slot, wraps. Default 0, range —. -/
def d11_0100 : Param := ⟨11, 0x0100, .u32, .ro, .tenant, 0, .any⟩
/-- D11.0101[t]: Contributions dropped full, wraps. Default 0, range —. -/
def d11_0101 : Param := ⟨11, 0x0101, .u32, .ro, .tenant, 0, .any⟩
/-- D11.0102[t]: Contributions redirected, wraps. Default 0, range —. -/
def d11_0102 : Param := ⟨11, 0x0102, .u32, .ro, .tenant, 0, .any⟩
/-- D11.0103[t]: Contributions spilled, wraps. Default 0, range —. -/
def d11_0103 : Param := ⟨11, 0x0103, .u32, .ro, .tenant, 0, .any⟩
/-- D11.0104[t]: Tentative contributions cancelled, wraps. Default 0, range —. -/
def d11_0104 : Param := ⟨11, 0x0104, .u32, .ro, .tenant, 0, .any⟩
/-- D11.0105[t]: Deadlines that cancelled, wraps. Default 0, range —. -/
def d11_0105 : Param := ⟨11, 0x0105, .u32, .ro, .tenant, 0, .any⟩
/-- D11.0106[t]: Record entries skipped by COMBINE, wraps. Default 0, range —. -/
def d11_0106 : Param := ⟨11, 0x0106, .u32, .ro, .tenant, 0, .any⟩
/-- D11.0107[t]: SEQ of stages 0–63, u32 each. Default zeros, range 256 bytes. -/
def d11_0107 : Param := ⟨11, 0x0107, (.blob 256), .ro, .tenant, 0, .any⟩
/-- D11.0108[t]: Unresolved speculations of the tenant. Default 0, range —. -/
def d11_0108 : Param := ⟨11, 0x0108, .u16, .ro, .tenant, 0, .any⟩
/-- D11.8000[t]: Directory descriptor, by R441. Default zeros, range 64 bytes. -/
def d11_8000 : Param := ⟨11, 0x8000, (.blob 64), .sh, .tenant, 0, .any⟩
/-- D11.8002[t]: Speculation limit. Default 16, range 0–256. -/
def d11_8002 : Param := ⟨11, 0x8002, .u16, .sh, .tenant, 16, .nat 0 256⟩
/-- D11.8004[t]: Stage table, by R477. Default zeros, range 2,048 bytes. -/
def d11_8004 : Param := ⟨11, 0x8004, (.blob 2048), .sh, .tenant, 0, .any⟩

/-- Group 11 of the dictionary, items rising. -/
def group11 : List Param :=
  [d11_0001, d11_0100, d11_0101, d11_0102, d11_0103, d11_0104, d11_0105, d11_0106, d11_0107, d11_0108, d11_8000, d11_8002, d11_8004]

/-- D12.0000[tower]: Tier-1 extents available for binding. Default 95, range —. -/
def d12_0000 : Param := ⟨12, 0x0000, .u16, .ro, .tower, 95, .any⟩
/-- D12.0001: Extent table, by R490. Default zeros, range 16,384 bytes. -/
def d12_0001 : Param := ⟨12, 0x0001, (.blob 16384), .sh, .package, 0, .any⟩
/-- D12.0002: Extent state, u16 per extent: [7:0] BIND_GEN, [8] ZEROING, [9] POISONED, [10] RESERVED, [11] ABSENT, [15:12] zero. Default zeros, range 4,096 bytes. -/
def d12_0002 : Param := ⟨12, 0x0002, (.blob 4096), .ro, .package, 0, .any⟩
/-- D12.0010[tower]: Patrol pass time, 24 h. 0 disables patrol. Default 108,000,000,000,000, range 0, or 125,000,000,000–1,080,000,000,000,000. -/
def d12_0010 : Param := ⟨12, 0x0010, .ticks, .sh, .tower, 108000000000000, .zeroOr 125000000000 1080000000000000⟩
/-- D12.0011[tower]: Patrol bandwidth, bytes per tick. Default 8, range 1–800. -/
def d12_0011 : Param := ⟨12, 0x0011, .u16, .sh, .tower, 8, .nat 1 800⟩
/-- D12.0012[tower]: Tier-1 zeroing rate, bytes per tick. Default 64, range 16–400. -/
def d12_0012 : Param := ⟨12, 0x0012, .u16, .sh, .tower, 64, .nat 16 400⟩
/-- D12.0013[tower]: Per-bank hold-off for logging corrected errors. Default 1,250,000,000, range 0–125,000,000,000. -/
def d12_0013 : Param := ⟨12, 0x0013, .ticks, .sh, .tower, 1250000000, .nat 0 125000000000⟩
/-- D12.0014[tower]: Tier-2 zeroing rate, bytes per tick. Default 8, range 1–32. -/
def d12_0014 : Param := ⟨12, 0x0014, .u16, .sh, .tower, 8, .nat 1 32⟩
/-- D12.0100[tower]: Corrected tier-1 errors, wraps. Default 0, range —. -/
def d12_0100 : Param := ⟨12, 0x0100, .u32, .ro, .tower, 0, .any⟩
/-- D12.0101[tower]: Uncorrectable tier-1 errors, wraps. Default 0, range —. -/
def d12_0101 : Param := ⟨12, 0x0101, .u32, .ro, .tower, 0, .any⟩
/-- D12.0102[tower]: Corrected tier-2 errors of the tower's half, wraps. Default 0, range —. -/
def d12_0102 : Param := ⟨12, 0x0102, .u32, .ro, .tower, 0, .any⟩
/-- D12.0103[tower]: Uncorrectable tier-2 errors of the tower's half, wraps. Default 0, range —. -/
def d12_0103 : Param := ⟨12, 0x0103, .u32, .ro, .tower, 0, .any⟩
/-- D12.0104[tower]: Requests refused for a stale BIND_GEN, wraps. Default 0, range —. -/
def d12_0104 : Param := ⟨12, 0x0104, .u32, .ro, .tower, 0, .any⟩
/-- D12.0105[tower]: Reads of poisoned cells, wraps. Default 0, range —. -/
def d12_0105 : Param := ⟨12, 0x0105, .u32, .ro, .tower, 0, .any⟩
/-- D12.0106[tower]: Patrol passes completed, wraps. Default 0, range —. -/
def d12_0106 : Param := ⟨12, 0x0106, .u32, .ro, .tower, 0, .any⟩
/-- D12.0107[tower]: Blocks zeroed on demand by a write, wraps. Default 0, range —. -/
def d12_0107 : Param := ⟨12, 0x0107, .u32, .ro, .tower, 0, .any⟩
/-- D12.0108[tower]: Extents zeroing on the tower. Default 0, range —. -/
def d12_0108 : Param := ⟨12, 0x0108, .u8, .ro, .tower, 0, .any⟩
/-- D12.0200[t]: Extents bound to the tenant, BIND 1 or 3. Default 0, range —. -/
def d12_0200 : Param := ⟨12, 0x0200, .u16, .ro, .tenant, 0, .any⟩
/-- D12.8004[t]: Realm limit. Default 64, range 0–1,048,576. -/
def d12_8004 : Param := ⟨12, 0x8004, .u32, .sh, .tenant, 64, .nat 0 1048576⟩

/-- Group 12 of the dictionary, items rising. -/
def group12 : List Param :=
  [d12_0000, d12_0001, d12_0002, d12_0010, d12_0011, d12_0012, d12_0013, d12_0014, d12_0100, d12_0101, d12_0102, d12_0103, d12_0104, d12_0105, d12_0106, d12_0107, d12_0108, d12_0200, d12_8004]

/-- D13.0001[port]: Lane assignment. Default 0x98 on port 0 of a tower, else 0x00, range R508. -/
def d13_0001 : Param := ⟨13, 0x0001, .u8, .sh, .port, 0, .laneAssign⟩
/-- D13.0002[port]: MODE_POLICY: 0 AUTO, 1 ETHERNET, 2 FABRIC. Default 0, range 0–2. -/
def d13_0002 : Param := ⟨13, 0x0002, .enum, .sh, .port, 0, .nat 0 2⟩
/-- D13.0003[port]: Ethernet lane rates allowed. Default 0x03, range [1:0]. -/
def d13_0003 : Param := ⟨13, 0x0003, .u8, .sh, .port, 3, .nat 0 3⟩
/-- D13.0004[port]: MEDIA: 0 KR, 1 CR, 2 AUI. Default 1, range 0–2. -/
def d13_0004 : Param := ⟨13, 0x0004, .enum, .sh, .port, 1, .nat 0 2⟩
/-- D13.0010[port]: Port state. Default 0, range 0–5. -/
def d13_0010 : Param := ⟨13, 0x0010, .enum, .ro, .port, 0, .nat 0 5⟩
/-- D13.0011[port]: Mode code. Default 0, range —. -/
def d13_0011 : Param := ⟨13, 0x0011, .enum, .ro, .port, 0, .any⟩
/-- D13.0012[port]: Active lanes. Default 0, range —. -/
def d13_0012 : Param := ⟨13, 0x0012, .u8, .ro, .port, 0, .any⟩
/-- D13.0013[port]: Lane faults, by R516. Default 0, range —. -/
def d13_0013 : Param := ⟨13, 0x0013, .u16, .ro, .port, 0, .any⟩
/-- D13.0014[port]: Lanes with inverted polarity. Default 0, range —. -/
def d13_0014 : Param := ⟨13, 0x0014, .u8, .ro, .port, 0, .any⟩
/-- D13.0015[port]: Partner, by R528. Default 0, range —. -/
def d13_0015 : Param := ⟨13, 0x0015, .u32, .ro, .port, 0, .any⟩
/-- D13.0016[port]: Cause of the last FAULT. Default 0, range 0–5. -/
def d13_0016 : Param := ⟨13, 0x0016, .u8, .ro, .port, 0, .nat 0 5⟩
/-- D13.0017[port]: Trained width. Default 0, range —. -/
def d13_0017 : Param := ⟨13, 0x0017, .u8, .ro, .port, 0, .any⟩
/-- D13.0020[port]: STATUS interval. Default 256, range 64–12,500. -/
def d13_0020 : Param := ⟨13, 0x0020, .ticks, .sh, .port, 256, .nat 64 12500⟩
/-- D13.0021[port]: Loss time. Not below 2 × D13.0020, else CROSS_FIELD. Default 576, range 128–125,000. -/
def d13_0021 : Param := ⟨13, 0x0021, .ticks, .sh, .port, 576, .nat 128 125000⟩
/-- D13.0022[port]: Negotiation and training timeout. Default 625,000,000, range 12,500,000–12,500,000,000. -/
def d13_0022 : Param := ⟨13, 0x0022, .ticks, .sh, .port, 625000000, .nat 12500000 12500000000⟩
/-- D13.0024[port]: FAULT retry interval. Default 1,250,000,000, range 1,250,000–12,500,000,000. -/
def d13_0024 : Param := ⟨13, 0x0024, .ticks, .sh, .port, 1250000000, .nat 1250000 12500000000⟩
/-- D13.0030[port]: Shedding enable. Writing 0 starts a restore. Default 1, range —. -/
def d13_0030 : Param := ⟨13, 0x0030, .bool, .lv, .port, 1, .nat 0 1⟩
/-- D13.0031[port]: SHED_DWELL. Default 125,000, range 12,500–125,000,000. -/
def d13_0031 : Param := ⟨13, 0x0031, .ticks, .sh, .port, 125000, .nat 12500 125000000⟩
/-- D13.0032[port]: Shed threshold, percent. Default 25, range 1–50. -/
def d13_0032 : Param := ⟨13, 0x0032, .u8, .sh, .port, 25, .nat 1 50⟩
/-- D13.0033[port]: Restore depth, bytes. Default 65,536, range 4,096–4,194,304. -/
def d13_0033 : Param := ⟨13, 0x0033, .u32, .sh, .port, 65536, .nat 4096 4194304⟩
/-- D13.0034[port]: Narrowest shed width. Default 2, range 2, 4, 8. -/
def d13_0034 : Param := ⟨13, 0x0034, .u8, .sh, .port, 2, .oneOf [2, 4, 8]⟩
/-- D13.0040[port]: FLOW. Default 2, range 0–2. -/
def d13_0040 : Param := ⟨13, 0x0040, .enum, .sh, .port, 2, .nat 0 2⟩
/-- D13.0041[port]: XOFF free space, bytes. Default 32,768, range 4,096–1,048,576. -/
def d13_0041 : Param := ⟨13, 0x0041, .u32, .sh, .port, 32768, .nat 4096 1048576⟩
/-- D13.0042[port]: XON free space, bytes. Default 65,536, range 8,192–1,048,576. -/
def d13_0042 : Param := ⟨13, 0x0042, .u32, .sh, .port, 65536, .nat 8192 1048576⟩
/-- D13.0043[port]: Quanta sent. Default 0xFFFF, range 1–0xFFFF. -/
def d13_0043 : Param := ⟨13, 0x0043, .u16, .sh, .port, 65535, .nat 1 65535⟩
/-- D13.0050[port]: Transmit edge rate. Default 1, range 0–3. -/
def d13_0050 : Param := ⟨13, 0x0050, .u8, .sh, .port, 1, .nat 0 3⟩
/-- D13.0100[port]: Entries to UP, wraps. Default 0, range —. -/
def d13_0100 : Param := ⟨13, 0x0100, .u32, .ro, .port, 0, .any⟩
/-- D13.0101[port]: Exits from UP, wraps. Default 0, range —. -/
def d13_0101 : Param := ⟨13, 0x0101, .u32, .ro, .port, 0, .any⟩
/-- D13.0102[port]: Codewords corrected, wraps. Default 0, range —. -/
def d13_0102 : Param := ⟨13, 0x0102, .u64, .ro, .port, 0, .any⟩
/-- D13.0103[port]: Codewords that failed to decode, wraps. Default 0, range —. -/
def d13_0103 : Param := ⟨13, 0x0103, .u64, .ro, .port, 0, .any⟩
/-- D13.0104[port]: Frames with a bad FCS, wraps. Default 0, range —. -/
def d13_0104 : Param := ⟨13, 0x0104, .u32, .ro, .port, 0, .any⟩
/-- D13.0105[port]: Frames discarded as unsupported, wraps. Default 0, range —. -/
def d13_0105 : Param := ⟨13, 0x0105, .u32, .ro, .port, 0, .any⟩
/-- D13.0106[port]: Frames discarded as too long, wraps. Default 0, range —. -/
def d13_0106 : Param := ⟨13, 0x0106, .u32, .ro, .port, 0, .any⟩
/-- D13.0107[port]: PAUSE frames acted on, wraps. Default 0, range —. -/
def d13_0107 : Param := ⟨13, 0x0107, .u32, .ro, .port, 0, .any⟩
/-- D13.0108[port]: PFC frames acted on, wraps. Default 0, range —. -/
def d13_0108 : Param := ⟨13, 0x0108, .u32, .ro, .port, 0, .any⟩
/-- D13.0109[port]: PAUSE and PFC frames sent, wraps. Default 0, range —. -/
def d13_0109 : Param := ⟨13, 0x0109, .u32, .ro, .port, 0, .any⟩
/-- D13.0110[port]: Losses of block position, wraps. Default 0, range —. -/
def d13_0110 : Param := ⟨13, 0x0110, .u32, .ro, .port, 0, .any⟩
/-- D13.0111[port]: Width changes, wraps. Default 0, range —. -/
def d13_0111 : Param := ⟨13, 0x0111, .u32, .ro, .port, 0, .any⟩
/-- D13.0112[port]: Shed requests refused, wraps. Default 0, range —. -/
def d13_0112 : Param := ⟨13, 0x0112, .u32, .ro, .port, 0, .any⟩
/-- D13.0113[port]: Ticks paused, wraps. Default 0, range —. -/
def d13_0113 : Param := ⟨13, 0x0113, .u64, .ro, .port, 0, .any⟩
/-- D13.0114[port]: Flow-control frames discarded for FLOW, wraps. Default 0, range —. -/
def d13_0114 : Param := ⟨13, 0x0114, .u32, .ro, .port, 0, .any⟩

/-- Group 13 of the dictionary, items rising. -/
def group13 : List Param :=
  [d13_0001, d13_0002, d13_0003, d13_0004, d13_0010, d13_0011, d13_0012, d13_0013, d13_0014, d13_0015, d13_0016, d13_0017, d13_0020, d13_0021, d13_0022, d13_0024, d13_0030, d13_0031, d13_0032, d13_0033]
  ++ [d13_0034, d13_0040, d13_0041, d13_0042, d13_0043, d13_0050, d13_0100, d13_0101, d13_0102, d13_0103, d13_0104, d13_0105, d13_0106, d13_0107, d13_0108, d13_0109, d13_0110, d13_0111, d13_0112, d13_0113]
  ++ [d13_0114]

end Sys2Proof.Machine
end

