-- ==== Sys2Proof/Machine/CatalogC.lean ====
section
/-! DEFINITION. The parameters of groups 14 to 20 (R576, R606, R625, R647, R674, R705, R730). Each definition is one row of the manual's table of its group. -/
namespace Sys2Proof.Machine

/-- D14.0001[tower]: Host link rate. Default 0, range 0–5. -/
def d14_0001 : Param := ⟨14, 0x0001, .u8, .ro, .tower, 0, .nat 0 5⟩
/-- D14.0002[tower]: [4:0] host link width. [7] LOW_LINK. Default 0, range —. -/
def d14_0002 : Param := ⟨14, 0x0002, .u8, .ro, .tower, 0, .any⟩
/-- D14.0003[tower]: VFs enabled on the host port. Default 0, range —. -/
def d14_0003 : Param := ⟨14, 0x0003, .u16, .ro, .tower, 0, .any⟩
/-- D14.0020: Region table, by R562. Default zeros, range 131,072 bytes. -/
def d14_0020 : Param := ⟨14, 0x0020, (.blob 131072), .sh, .package, 0, .any⟩
/-- D14.0030: Grant table, by R572. Default zeros, range 8,192 bytes. -/
def d14_0030 : Param := ⟨14, 0x0030, (.blob 8192), .sh, .package, 0, .any⟩
/-- D14.0040[tower]: Attach policy. Default 0, range 0–2. -/
def d14_0040 : Param := ⟨14, 0x0040, .enum, .sh, .tower, 0, .nat 0 2⟩
/-- D14.0041[tower]: Attach state. Default 0, range 0–4. -/
def d14_0041 : Param := ⟨14, 0x0041, .enum, .ro, .tower, 0, .nat 0 4⟩
/-- D14.0042[tower]: Attach width. Default 0, range —. -/
def d14_0042 : Param := ⟨14, 0x0042, .u8, .ro, .tower, 0, .any⟩
/-- D14.0043[tower]: Accelerator memory, bytes. Default 0, range —. -/
def d14_0043 : Param := ⟨14, 0x0043, .u64, .ro, .tower, 0, .any⟩
/-- D14.0044[tower]: Native training timeout. Default 12,500,000, range 1,250,000–125,000,000. -/
def d14_0044 : Param := ⟨14, 0x0044, .ticks, .sh, .tower, 12500000, .nat 1250000 125000000⟩
/-- D14.0045[tower]: Attach FAULT retry interval. Default 1,250,000,000, range 1,250,000–12,500,000,000. -/
def d14_0045 : Param := ⟨14, 0x0045, .ticks, .sh, .tower, 1250000000, .nat 1250000 12500000000⟩
/-- D14.0050: PRI response timeout. Default 125,000,000, range 1,250,000–1,250,000,000. -/
def d14_0050 : Param := ⟨14, 0x0050, .ticks, .sh, .package, 125000000, .nat 1250000 1250000000⟩
/-- D14.0100[tower]: Window writes discarded, wraps. Default 0, range —. -/
def d14_0100 : Param := ⟨14, 0x0100, .u32, .ro, .tower, 0, .any⟩
/-- D14.0101[tower]: Window reads refused, wraps. Default 0, range —. -/
def d14_0101 : Param := ⟨14, 0x0101, .u32, .ro, .tower, 0, .any⟩
/-- D14.0102[tower]: Aperture accesses refused, wraps. Default 0, range —. -/
def d14_0102 : Param := ⟨14, 0x0102, .u32, .ro, .tower, 0, .any⟩
/-- D14.0103[tower]: ATS invalidations completed, wraps. Default 0, range —. -/
def d14_0103 : Param := ⟨14, 0x0103, .u32, .ro, .tower, 0, .any⟩
/-- D14.0104[tower]: Page requests sent, wraps. Default 0, range —. -/
def d14_0104 : Param := ⟨14, 0x0104, .u32, .ro, .tower, 0, .any⟩
/-- D14.0105[tower]: Page requests failed, wraps. Default 0, range —. -/
def d14_0105 : Param := ⟨14, 0x0105, .u32, .ro, .tower, 0, .any⟩
/-- D14.0106[tower]: Completion timeouts, wraps. Default 0, range —. -/
def d14_0106 : Param := ⟨14, 0x0106, .u32, .ro, .tower, 0, .any⟩
/-- D14.0107[tower]: Attach link retrainings, wraps. Default 0, range —. -/
def d14_0107 : Param := ⟨14, 0x0107, .u32, .ro, .tower, 0, .any⟩

/-- Group 14 of the dictionary, items rising. -/
def group14 : List Param :=
  [d14_0001, d14_0002, d14_0003, d14_0020, d14_0030, d14_0040, d14_0041, d14_0042, d14_0043, d14_0044, d14_0045, d14_0050, d14_0100, d14_0101, d14_0102, d14_0103, d14_0104, d14_0105, d14_0106, d14_0107]

/-- D15.0000[t]: Tenant state. Default 0, range 0–3. -/
def d15_0000 : Param := ⟨15, 0x0000, .enum, .ro, .tenant, 0, .nat 0 3⟩
/-- D15.0001[t]: Tenant incarnation, wraps. Default 0, range —. -/
def d15_0001 : Param := ⟨15, 0x0001, .u16, .ro, .tenant, 0, .any⟩
/-- D15.0002[t]: Cause of the last reset. Default 0, range 0–5. -/
def d15_0002 : Param := ⟨15, 0x0002, .u8, .ro, .tenant, 0, .nat 0 5⟩
/-- D15.0003[t]: Outstanding requests, old ones included. Default 0, range —. -/
def d15_0003 : Param := ⟨15, 0x0003, .u32, .ro, .tenant, 0, .any⟩
/-- D15.0010[t]: Reset mode: 0 DRAIN, 1 SQUASH. Default 0, range 0–1. -/
def d15_0010 : Param := ⟨15, 0x0010, .enum, .rw, .tenant, 0, .nat 0 1⟩
/-- D15.0011[t]: Drain limit. Default 25,000,000, range 0–112,500,000. -/
def d15_0011 : Param := ⟨15, 0x0011, .ticks, .rw, .tenant, 25000000, .nat 0 112500000⟩
/-- D15.0021[t]: QUIESCED. Default 0, range —. -/
def d15_0021 : Param := ⟨15, 0x0021, .bool, .ro, .tenant, 0, .nat 0 1⟩
/-- D15.0024: CONTEXT_BUSY back-off while quiesced. Default 125,000, range 2,500–1,250,000. -/
def d15_0024 : Param := ⟨15, 0x0024, .ticks, .sh, .package, 125000, .nat 2500 1250000⟩
/-- D15.0030[t]: Migration state. Default 0, range 0–6. -/
def d15_0030 : Param := ⟨15, 0x0030, .enum, .ro, .tenant, 0, .nat 0 6⟩
/-- D15.0031[t]: Result of the last migration command. Default 0, range 0x00–0x09. -/
def d15_0031 : Param := ⟨15, 0x0031, .u8, .ro, .tenant, 0, .nat 0 9⟩
/-- D15.0032[t]: Blob bytes written, or needed after BUFFER. Default 0, range —. -/
def d15_0032 : Param := ⟨15, 0x0032, .u64, .ro, .tenant, 0, .any⟩
/-- D15.0100[t]: Resets, wraps. Default 0, range —. -/
def d15_0100 : Param := ⟨15, 0x0100, .u32, .ro, .tenant, 0, .any⟩
/-- D15.0101[t]: Drains turned to squash, wraps. Default 0, range —. -/
def d15_0101 : Param := ⟨15, 0x0101, .u32, .ro, .tenant, 0, .any⟩
/-- D15.0102[t]: Requests squashed, wraps. Default 0, range —. -/
def d15_0102 : Param := ⟨15, 0x0102, .u32, .ro, .tenant, 0, .any⟩
/-- D15.0103[t]: Chains held by the request limit, wraps. Default 0, range —. -/
def d15_0103 : Param := ⟨15, 0x0103, .u32, .ro, .tenant, 0, .any⟩
/-- D15.0104[t]: Path-rebind datagrams sent, wraps. Default 0, range —. -/
def d15_0104 : Param := ⟨15, 0x0104, .u32, .ro, .tenant, 0, .any⟩
/-- D15.8001[t]: Outstanding requests per tower. Default 4,096, range 0–65,536. -/
def d15_8001 : Param := ⟨15, 0x8001, .u32, .sh, .tenant, 4096, .nat 0 65536⟩
/-- D15.8012[t]: TENANT_RESET. Default 0, range 1. -/
def d15_8012 : Param := ⟨15, 0x8012, .u8, .wo, .tenant, 0, .oneOf [1]⟩
/-- D15.8020[t]: QUIESCE. Takes effect at the next chain start and packet. Default 0, range —. -/
def d15_8020 : Param := ⟨15, 0x8020, .bool, .lv, .tenant, 0, .nat 0 1⟩
/-- D15.8022[t]: Quiesce limit. Default 625,000, range 12,500–12,500,000. -/
def d15_8022 : Param := ⟨15, 0x8022, .ticks, .rw, .tenant, 625000, .nat 12500 12500000⟩
/-- D15.8030[t]: MIG_CMD. Default 0, range 0x01–0x05. -/
def d15_8030 : Param := ⟨15, 0x8030, .u8, .wo, .tenant, 0, .nat 1 5⟩
/-- D15.8031[t]: Root key slot of the migration key. Default 0, range 0–4,095. -/
def d15_8031 : Param := ⟨15, 0x8031, .u16, .rw, .tenant, 0, .nat 0 4095⟩
/-- D15.8032[t]: Connection base on restore. Default 0, range [23:0]. -/
def d15_8032 : Param := ⟨15, 0x8032, .u32, .rw, .tenant, 0, .nat 0 16777215⟩
/-- D15.8033[t]: Rebind descriptor. Default zeros, range 32 bytes. -/
def d15_8033 : Param := ⟨15, 0x8033, (.blob 32), .rw, .tenant, 0, .any⟩
/-- D15.8034[t]: MIG_BUF. Default 0, range —. -/
def d15_8034 : Param := ⟨15, 0x8034, .u64, .rw, .tenant, 0, .any⟩
/-- D15.8035[t]: MIG_BUF size, bytes. Default 0, range —. -/
def d15_8035 : Param := ⟨15, 0x8035, .u64, .rw, .tenant, 0, .any⟩
/-- D15.8036[t]: Migration peer: destination on SAVE, expected source on RESTORE. Default 0xFFFF, range —. -/
def d15_8036 : Param := ⟨15, 0x8036, .u16, .rw, .tenant, 65535, .any⟩

/-- Group 15 of the dictionary, items rising. -/
def group15 : List Param :=
  [d15_0000, d15_0001, d15_0002, d15_0003, d15_0010, d15_0011, d15_0021, d15_0024, d15_0030, d15_0031, d15_0032, d15_0100, d15_0101, d15_0102, d15_0103, d15_0104, d15_8001, d15_8012, d15_8020, d15_8022]
  ++ [d15_8030, d15_8031, d15_8032, d15_8033, d15_8034, d15_8035, d15_8036]

/-- D16.0001[tower]: Channel grants, by R607. Default zeros, range 64 bytes. -/
def d16_0001 : Param := ⟨16, 0x0001, (.blob 64), .sh, .tower, 0, .any⟩
/-- D16.0002[tower]: BURST. Default 1,024, range 256, 512, 1,024, 2,048, 4,096. -/
def d16_0002 : Param := ⟨16, 0x0002, .u16, .sh, .tower, 1024, .oneOf [256, 512, 1024, 2048, 4096]⟩
/-- D16.0003[tower]: Completion timeout of every request to adapter and attach memory whose home is the tower, for every requester (R751). Default 1,250,000, range 12,500–25,000,000. -/
def d16_0003 : Param := ⟨16, 0x0003, .ticks, .sh, .tower, 1250000, .nat 12500 25000000⟩
/-- D16.0100[tower]: Channel status, 16 bytes per channel: 0–3 DONE_COUNT, 4–5 QUEUED, 6 CSTATE (0 IDLE, 1 RUNNING, 2 WAIT_TIME, 3 WAIT_AFTER, 4 WAIT_SLOT, 5 UNOWNED), 7 zero, 8–11 bytes of the running descriptor issued, 12–15 BAD_COUNT, wraps. Default zeros, range 256 bytes. -/
def d16_0100 : Param := ⟨16, 0x0100, (.blob 256), .ro, .tower, 0, .any⟩
/-- D16.0101[tower]: Descriptors completed, wraps. Default 0, range —. -/
def d16_0101 : Param := ⟨16, 0x0101, .u32, .ro, .tower, 0, .any⟩
/-- D16.0102[tower]: Descriptors failed with BUS_ERROR, wraps. Default 0, range —. -/
def d16_0102 : Param := ⟨16, 0x0102, .u32, .ro, .tower, 0, .any⟩
/-- D16.0103[tower]: Trigger loops refused, wraps. Default 0, range —. -/
def d16_0103 : Param := ⟨16, 0x0103, .u32, .ro, .tower, 0, .any⟩
/-- D16.0104[tower]: Bytes written, wraps. Default 0, range —. -/
def d16_0104 : Param := ⟨16, 0x0104, .u64, .ro, .tower, 0, .any⟩
/-- D16.0200[t]: Descriptors completed for the tenant, wraps. Default 0, range —. -/
def d16_0200 : Param := ⟨16, 0x0200, .u32, .ro, .tenant, 0, .any⟩

/-- Group 16 of the dictionary, items rising. -/
def group16 : List Param :=
  [d16_0001, d16_0002, d16_0003, d16_0100, d16_0101, d16_0102, d16_0103, d16_0104, d16_0200]

/-- D17.0001[tower]: Mailbox configuration, by R630. Default zeros, range 32 bytes. -/
def d17_0001 : Param := ⟨17, 0x0001, (.blob 32), .sh, .tower, 0, .any⟩
/-- D17.0002: Firmware incarnation, wraps. Default 0, range —. -/
def d17_0002 : Param := ⟨17, 0x0002, .u16, .ro, .package, 0, .any⟩
/-- D17.0003: Management agent incarnation, wraps. Default 0, range —. -/
def d17_0003 : Param := ⟨17, 0x0003, .u16, .ro, .package, 0, .any⟩
/-- D17.0100[tower]: Overruns, wraps. Default 0, range —. -/
def d17_0100 : Param := ⟨17, 0x0100, .u32, .ro, .tower, 0, .any⟩
/-- D17.0101[tower]: Accesses refused, wraps. Default 0, range —. -/
def d17_0101 : Param := ⟨17, 0x0101, .u32, .ro, .tower, 0, .any⟩
/-- D17.0102[tower]: Messages discarded by a receiver reset, wraps. Default 0, range —. -/
def d17_0102 : Param := ⟨17, 0x0102, .u32, .ro, .tower, 0, .any⟩
/-- D17.0103[tower]: Messages taken after a sender reset, wraps. Default 0, range —. -/
def d17_0103 : Param := ⟨17, 0x0103, .u32, .ro, .tower, 0, .any⟩
/-- D17.0104[tower]: Semaphores released by an owner reset, wraps. Default 0, range —. -/
def d17_0104 : Param := ⟨17, 0x0104, .u32, .ro, .tower, 0, .any⟩
/-- D17.0105[tower]: Return codes discarded, wraps. Default 0, range —. -/
def d17_0105 : Param := ⟨17, 0x0105, .u32, .ro, .tower, 0, .any⟩

/-- Group 17 of the dictionary, items rising. -/
def group17 : List Param :=
  [d17_0001, d17_0002, d17_0003, d17_0100, d17_0101, d17_0102, d17_0103, d17_0104, d17_0105]

/-- D18.0001: Slots LOADED. Default 0, range —. -/
def d18_0001 : Param := ⟨18, 0x0001, .u16, .ro, .package, 0, .any⟩
/-- D18.0020[t]: KEY_LOAD, by R650. Default —, range 96 bytes. -/
def d18_0020 : Param := ⟨18, 0x0020, (.blob 96), .wo, .tenant, 0, .any⟩
/-- D18.0021[t]: Outcome of the last KEY_LOAD. Default 0, range 0x00–0x05. -/
def d18_0021 : Param := ⟨18, 0x0021, .u8, .ro, .tenant, 0, .nat 0 5⟩
/-- D18.0030[t]: 8 bytes per slot of the range: 0 state (0 EMPTY, 1 LOADED), 1 USAGE, 2 GEN, 3 zero, 4–7 DOMAIN. Default zeros, range 32,768 bytes. -/
def d18_0030 : Param := ⟨18, 0x0030, (.blob 32768), .ro, .tenant, 0, .any⟩
/-- D18.0040: Spire key pre-derivation lead. Default 1,250,000, range 12,500–125,000,000. -/
def d18_0040 : Param := ⟨18, 0x0040, .ticks, .sh, .package, 1250000, .nat 12500 125000000⟩
/-- D18.0100[tower]: Keys derived, wraps. Default 0, range —. -/
def d18_0100 : Param := ⟨18, 0x0100, .u32, .ro, .tower, 0, .any⟩
/-- D18.0101[tower]: Key cache misses, wraps. Default 0, range —. -/
def d18_0101 : Param := ⟨18, 0x0101, .u32, .ro, .tower, 0, .any⟩
/-- D18.0102[tower]: Epochs followed by R661, wraps. Default 0, range —. -/
def d18_0102 : Param := ⟨18, 0x0102, .u32, .ro, .tower, 0, .any⟩
/-- D18.0103[t]: Look-aside AUTH_FAILED, wraps. Default 0, range —. -/
def d18_0103 : Param := ⟨18, 0x0103, .u32, .ro, .tenant, 0, .any⟩
/-- D18.0104[t]: KEY_LOAD records refused, wraps. Default 0, range —. -/
def d18_0104 : Param := ⟨18, 0x0104, .u32, .ro, .tenant, 0, .any⟩
/-- D18.8000[t]: Root key slot range. Default 0, range [11:0] 0–4,095, [28:16] 0–4,096. -/
def d18_8000 : Param := ⟨18, 0x8000, .u32, .sh, .tenant, 0, .rangePair⟩

/-- Group 18 of the dictionary, items rising. -/
def group18 : List Param :=
  [d18_0001, d18_0020, d18_0021, d18_0030, d18_0040, d18_0100, d18_0101, d18_0102, d18_0103, d18_0104, d18_8000]

/-- D19.0001: Running slot: 0 A, 1 B. Default 0, range 0–1. -/
def d19_0001 : Param := ⟨19, 0x0001, .enum, .ro, .package, 0, .nat 0 1⟩
/-- D19.0002: Firmware VERSION. Default —, range —. -/
def d19_0002 : Param := ⟨19, 0x0002, .u32, .ro, .package, 0, .any⟩
/-- D19.0003: Running SVN. Default —, range 0–64. -/
def d19_0003 : Param := ⟨19, 0x0003, .u16, .ro, .package, 0, .nat 0 64⟩
/-- D19.0004: Anti-rollback counter. Default —, range 0–64. -/
def d19_0004 : Param := ⟨19, 0x0004, .u8, .ro, .package, 0, .nat 0 64⟩
/-- D19.0005: Boot status: 0 NORMAL, 1 FALLBACK, 2 RECOVERY. Default —, range 0–2. -/
def d19_0005 : Param := ⟨19, 0x0005, .enum, .ro, .package, 0, .nat 0 2⟩
/-- D19.0006: ROM version. Default —, range —. -/
def d19_0006 : Param := ⟨19, 0x0006, .u32, .ro, .package, 0, .any⟩
/-- D19.0007: BOOT_ID. Default —, range —. -/
def d19_0007 : Param := ⟨19, 0x0007, .u32, .ro, .package, 0, .any⟩
/-- D19.0008: Identity key digest. Default —, range 64 bytes. -/
def d19_0008 : Param := ⟨19, 0x0008, (.blob 64), .ro, .package, 0, .any⟩
/-- D19.0009: Measurement log. Default —, range 320 bytes. -/
def d19_0009 : Param := ⟨19, 0x0009, (.blob 320), .ro, .package, 0, .any⟩
/-- D19.000A: Revoked keys. Default —, range [3:0]. -/
def d19_000A : Param := ⟨19, 0x000A, .u8, .ro, .package, 0, .nat 0 15⟩
/-- D19.0010: Segment enable. Default 1, range —. -/
def d19_0010 : Param := ⟨19, 0x0010, .bool, .sh, .package, 1, .nat 0 1⟩
/-- D19.0011: Segment MAC address. Default fuses, range [47:0]. -/
def d19_0011 : Param := ⟨19, 0x0011, .u64, .ro, .package, 0, .nat 0 281474976710655⟩
/-- D19.0012: Segment UDP port. Default 0x5A4D, range 1,024–65,535. -/
def d19_0012 : Param := ⟨19, 0x0012, .u16, .sh, .package, 23117, .nat 1024 65535⟩
/-- D19.0013: PLCA enable. Default 0, range —. -/
def d19_0013 : Param := ⟨19, 0x0013, .bool, .sh, .package, 0, .nat 0 1⟩
/-- D19.0014: PLCA node id. Default 1, range 0–254. -/
def d19_0014 : Param := ⟨19, 0x0014, .u8, .sh, .package, 1, .nat 0 254⟩
/-- D19.0015: PLCA node count. Default 8, range 1–255. -/
def d19_0015 : Param := ⟨19, 0x0015, .u8, .sh, .package, 8, .nat 1 255⟩
/-- D19.0016: Line state: [1:0] OK, OPEN, SHORT. [2] INVERTED. [3] PLCA active. Default 0, range —. -/
def d19_0016 : Param := ⟨19, 0x0016, .u8, .ro, .package, 0, .any⟩
/-- D19.0020: I3C dynamic address. Default 0, range —. -/
def d19_0020 : Param := ⟨19, 0x0020, .u8, .ro, .package, 0, .any⟩
/-- D19.0021: MCTP EID. Default 0, range —. -/
def d19_0021 : Param := ⟨19, 0x0021, .u8, .ro, .package, 0, .any⟩
/-- D19.0022: I3C static address. Default 0x3A, range 0x08–0x77. -/
def d19_0022 : Param := ⟨19, 0x0022, .u8, .sh, .package, 58, .nat 8 119⟩
/-- D19.0030: Segment key. Default —, range 32 bytes. -/
def d19_0030 : Param := ⟨19, 0x0030, (.blob 32), .wo, .package, 0, .any⟩
/-- D19.0031: Fabric key. Default —, range 32 bytes. -/
def d19_0031 : Param := ⟨19, 0x0031, (.blob 32), .wo, .package, 0, .any⟩
/-- D19.0032: b0 segment key loaded, b1 fabric key loaded. Default 0, range —. -/
def d19_0032 : Param := ⟨19, 0x0032, .u8, .ro, .package, 0, .any⟩
/-- D19.0040: FW_CHUNK. Default —, range 1,024 bytes. -/
def d19_0040 : Param := ⟨19, 0x0040, (.blob 1024), .wo, .package, 0, .any⟩
/-- D19.0041: FW_CMD. Default —, range R696. -/
def d19_0041 : Param := ⟨19, 0x0041, .u8, .wo, .package, 0, .any⟩
/-- D19.0042: FW_STATUS. 0 IDLE. Default 0, range 0–8. -/
def d19_0042 : Param := ⟨19, 0x0042, .u8, .ro, .package, 0, .nat 0 8⟩
/-- D19.0050: LINK_MGMT_SEND, by R690. Default —, range 1,024 bytes. -/
def d19_0050 : Param := ⟨19, 0x0050, (.blob 1024), .wo, .package, 0, .any⟩
/-- D19.0051: LINK_MGMT_RESP, by R690. Default zeros, range 1,024 bytes. -/
def d19_0051 : Param := ⟨19, 0x0051, (.blob 1024), .ro, .package, 0, .any⟩
/-- D19.0052: Link-scoped responses received, wraps. Default 0, range —. -/
def d19_0052 : Param := ⟨19, 0x0052, .u32, .ro, .package, 0, .any⟩
/-- D19.0100: Segment collisions, wraps. Default 0, range —. -/
def d19_0100 : Param := ⟨19, 0x0100, .u32, .ro, .package, 0, .any⟩
/-- D19.0101: Frames dropped after 16 attempts, wraps. Default 0, range —. -/
def d19_0101 : Param := ⟨19, 0x0101, .u32, .ro, .package, 0, .any⟩
/-- D19.0102: Segment tag failures, wraps. Default 0, range —. -/
def d19_0102 : Param := ⟨19, 0x0102, .u32, .ro, .package, 0, .any⟩
/-- D19.0103: Fabric tag failures, wraps. Default 0, range —. -/
def d19_0103 : Param := ⟨19, 0x0103, .u32, .ro, .package, 0, .any⟩
/-- D19.0104: STALE answers, wraps. Default 0, range —. -/
def d19_0104 : Param := ⟨19, 0x0104, .u32, .ro, .package, 0, .any⟩
/-- D19.0105: Quotes signed, wraps. Default 0, range —. -/
def d19_0105 : Param := ⟨19, 0x0105, .u32, .ro, .package, 0, .any⟩
/-- D19.0106: Segment line-state changes, wraps. Default 0, range —. -/
def d19_0106 : Param := ⟨19, 0x0106, .u32, .ro, .package, 0, .any⟩
/-- D19.0107: Management frames and datagrams discarded, wraps. Default 0, range —. -/
def d19_0107 : Param := ⟨19, 0x0107, .u32, .ro, .package, 0, .any⟩
/-- D19.0108: Requests discarded for a full source table, wraps. Default 0, range —. -/
def d19_0108 : Param := ⟨19, 0x0108, .u32, .ro, .package, 0, .any⟩

/-- Group 19 of the dictionary, items rising. -/
def group19 : List Param :=
  [d19_0001, d19_0002, d19_0003, d19_0004, d19_0005, d19_0006, d19_0007, d19_0008, d19_0009, d19_000A, d19_0010, d19_0011, d19_0012, d19_0013, d19_0014, d19_0015, d19_0016, d19_0020, d19_0021, d19_0022]
  ++ [d19_0030, d19_0031, d19_0032, d19_0040, d19_0041, d19_0042, d19_0050, d19_0051, d19_0052, d19_0100, d19_0101, d19_0102, d19_0103, d19_0104, d19_0105, d19_0106, d19_0107, d19_0108]

/-- D20.0001: Package fault log. Default zeros, range 65,536 bytes. -/
def d20_0001 : Param := ⟨20, 0x0001, (.blob 65536), .ro, .package, 0, .any⟩
/-- D20.0002: Package entries written, wraps. Default 0, range —. -/
def d20_0002 : Param := ⟨20, 0x0002, .u32, .ro, .package, 0, .any⟩
/-- D20.0003: Last FATAL entry. Default zeros, range 64 bytes. -/
def d20_0003 : Param := ⟨20, 0x0003, (.blob 64), .ro, .package, 0, .any⟩
/-- D20.0020[t]: Event ring descriptor, by R708. Default zeros, range 32 bytes. -/
def d20_0020 : Param := ⟨20, 0x0020, (.blob 32), .rw, .tenant, 0, .any⟩
/-- D20.0021[t]: Event ring state. Default 0, range 0–2. -/
def d20_0021 : Param := ⟨20, 0x0021, .enum, .ro, .tenant, 0, .nat 0 2⟩
/-- D20.0022[t]: Event ring produced index. Default 0, range —. -/
def d20_0022 : Param := ⟨20, 0x0022, .u32, .ro, .tenant, 0, .any⟩
/-- D20.0030[t]: Tenant fault log. Default zeros, range 4,096 bytes. -/
def d20_0030 : Param := ⟨20, 0x0030, (.blob 4096), .ro, .tenant, 0, .any⟩
/-- D20.0031[t]: Tenant entries written, wraps. Default 0, range —. -/
def d20_0031 : Param := ⟨20, 0x0031, .u32, .ro, .tenant, 0, .any⟩
/-- D20.0040: COUNTER_FREEZE. Default 0, range —. -/
def d20_0040 : Param := ⟨20, 0x0040, .bool, .lv, .package, 0, .nat 0 1⟩
/-- D20.0050: Oculus enable. Default 0, range —. -/
def d20_0050 : Param := ⟨20, 0x0050, .bool, .sh, .package, 0, .nat 0 1⟩
/-- D20.0051: Oculus record kinds. Default 0x3F, range [5:0]. -/
def d20_0051 : Param := ⟨20, 0x0051, .u8, .sh, .package, 63, .nat 0 63⟩
/-- D20.0060: POWER_CMD, by R721. Default —, range 16 bytes. -/
def d20_0060 : Param := ⟨20, 0x0060, (.blob 16), .wo, .package, 0, .any⟩
/-- D20.0061: Result of the last POWER_CMD. Default 0, range 0x00–0x04. -/
def d20_0061 : Param := ⟨20, 0x0061, .u8, .ro, .package, 0, .nat 0 4⟩
/-- D20.0062: Domain states: byte 3k + i for slice i = 0 lanes, 1 attach, 2 Cupola of tower k. Byte 24 + k for tower k. Byte 32 + p for pair p. Default zeros, range 64 bytes. -/
def d20_0062 : Param := ⟨20, 0x0062, (.blob 64), .ro, .package, 0, .any⟩
/-- D20.0063: Default closing deadline. Default 1,250,000, range 12,500–125,000,000. -/
def d20_0063 : Param := ⟨20, 0x0063, .ticks, .sh, .package, 1250000, .nat 12500 125000000⟩
/-- D20.0070: Power cap, 0.1 W. Default TDP × 10, range 300 to TDP × 10. -/
def d20_0070 : Param := ⟨20, 0x0070, .u16, .sh, .package, 0, .powerCap⟩
/-- D20.0071: Control period. Default 125,000, range 12,500–12,500,000. -/
def d20_0071 : Param := ⟨20, 0x0071, .ticks, .sh, .package, 125000, .nat 12500 12500000⟩
/-- D20.0072: Power hysteresis, 0.1 W. Default 50, range 10–500. -/
def d20_0072 : Param := ⟨20, 0x0072, .u16, .sh, .package, 50, .nat 10 500⟩
/-- D20.0073: Logic throttle temperature, °C. Default 95, range 70–105. -/
def d20_0073 : Param := ⟨20, 0x0073, .u8, .sh, .package, 95, .nat 70 105⟩
/-- D20.0074: Stack throttle temperature, °C. Default 90, range 70–95. -/
def d20_0074 : Param := ⟨20, 0x0074, .u8, .sh, .package, 90, .nat 70 95⟩
/-- D20.0080: Package power, 0.1 W. Default 0, range —. -/
def d20_0080 : Param := ⟨20, 0x0080, .u16, .ro, .package, 0, .any⟩
/-- D20.0081[tower]: Throttle level. Default 0, range 0–7. -/
def d20_0081 : Param := ⟨20, 0x0081, .u8, .ro, .tower, 0, .nat 0 7⟩
/-- D20.0082[tower]: Logic temperature, 1/8 °C. Default 0, range —. -/
def d20_0082 : Param := ⟨20, 0x0082, .i32, .ro, .tower, 0, .any⟩
/-- D20.0083[tower]: Stack temperature, 1/8 °C. Default 0, range —. -/
def d20_0083 : Param := ⟨20, 0x0083, .i32, .ro, .tower, 0, .any⟩
/-- D20.0100: Control periods with P above 0, wraps. Default 0, range —. -/
def d20_0100 : Param := ⟨20, 0x0100, .u32, .ro, .package, 0, .any⟩
/-- D20.0101[tower]: Ticks with L above 0, wraps. Default 0, range —. -/
def d20_0101 : Param := ⟨20, 0x0101, .u64, .ro, .tower, 0, .any⟩
/-- D20.0102: Domains closed, wraps. Default 0, range —. -/
def d20_0102 : Param := ⟨20, 0x0102, .u32, .ro, .package, 0, .any⟩
/-- D20.0103: Chains completed POWERED_DOWN, wraps. Default 0, range —. -/
def d20_0103 : Param := ⟨20, 0x0103, .u32, .ro, .package, 0, .any⟩
/-- D20.0200[t]: Events dropped, wraps. Default 0, range —. -/
def d20_0200 : Param := ⟨20, 0x0200, .u32, .ro, .tenant, 0, .any⟩

/-- Group 20 of the dictionary, items rising. -/
def group20 : List Param :=
  [d20_0001, d20_0002, d20_0003, d20_0020, d20_0021, d20_0022, d20_0030, d20_0031, d20_0040, d20_0050, d20_0051, d20_0060, d20_0061, d20_0062, d20_0063, d20_0070, d20_0071, d20_0072, d20_0073, d20_0074]
  ++ [d20_0080, d20_0081, d20_0082, d20_0083, d20_0100, d20_0101, d20_0102, d20_0103, d20_0200]

end Sys2Proof.Machine
end

