-- ==== Sys2Proof/Machine/BelfryState.lean ====
section
/-! DEFINITION. The state of the Belfry (R626 to R646): mailboxes, doorbell bits and semaphores of every tower. -/
namespace Sys2Proof.Machine

/-- R628: STATE of MB_ACK, in its numbering. -/
inductive BoxMode where
  | idle | posted | taken | acked | reset
  deriving DecidableEq, Repr

/-- R628: a mailbox. -/
structure Mailslot where
  data      : BitVec 64 := 0
  full      : Bool := false
  sender    : Nat := 0
  stale     : Bool := false
  senderInc : BitVec 16 := 0
  postTime  : BitVec 32 := 0
  code      : BitVec 16 := 0
  mode      : BoxMode := .idle
  /-- OVERRUN: b0 H0, b1 H1, b2 FW, b3 MGMT. -/
  overrun   : BitVec 4 := 0
  deriving DecidableEq, Repr

/-- R628: a semaphore: its owner (0: free) and the owner's incarnation at the acquisition. -/
structure Sem where
  owner : Nat := 0
  inc   : BitVec 16 := 0
  deriving DecidableEq, Repr

/-- The Belfry of one tower. -/
structure BelfryTower where
  boxes : Tbl Mailslot := []
  pend  : BitVec 32 := 0
  /-- R642: DB_MASK by master. -/
  masks : Tbl (BitVec 32) := []
  sems  : Tbl Sem := []
  /-- R642: masters with a doorbell notice due at the end of the period. -/
  due   : List Nat := []
  deriving DecidableEq, Repr

end Sys2Proof.Machine
end

