-- ==== Sys2Proof/Machine/CipherState.lean ====
section
/-! DEFINITION. The state of the cipher engines (R648 to R659): root key slots, derived keys, what waits for a key. -/
namespace Sys2Proof.Machine

/-- R649: a root key slot. -/
structure KeySlot where
  loaded : Bool := false
  key    : Bytes := []
  domain : BitVec 32 := 0
  usage  : BitVec 8 := 0
  gen    : BitVec 8 := 0
  deriving DecidableEq, Repr

/-- R659: a derived key named by its tower, its root slot, the length in bytes and the label. -/
structure KeyName where
  tower : Nat
  slot  : Nat
  bytes : Nat
  label : Bytes
  deriving DecidableEq, Repr

/-- R659: a received packet that waits for a derivation. -/
structure KeyWait where
  name : KeyName
  arrived : Nat
  rx   : Rx
  deriving DecidableEq, Repr

/-- The cipher engines. -/
structure CipherState where
  slots   : Tbl KeySlot := []
  /-- Keys in the towers' caches, newest first. -/
  cache   : List KeyName := []
  /-- Derivations under way, oldest first. -/
  deriving_ : List KeyName := []
  waiting : List KeyWait := []
  /-- R666: by tower, the tick after the one in which its engine last wrote a wrapped state record. -/
  lastWrap : Tbl Nat := []
  deriving DecidableEq, Repr

end Sys2Proof.Machine
end

