-- ==== Sys2Proof/Machine/ConnState.lean ====
section
/-! DEFINITION. The state of connections (R180 to R216), of delivery (R256 to R297) and of dome rate control (R329,
R330): the 2,048-byte context as typed fields, the request tracker's view of both directions, the cache and its
miss buffer, the address handles. -/
namespace Sys2Proof.Machine

/-- R185, word 0 [34:32]: the connection states, in their numbering. -/
inductive ConnMode where
  | free | init | ready | frozen | draining | error | quarantine
  deriving DecidableEq, Repr

/-- R330: one per-path record. -/
structure PathRec where
  baseDelay  : BitVec 16 := 0xFFFF
  qdelay     : BitVec 12 := 0
  weight     : BitVec 8 := 0
  pstate     : BitVec 2 := 0
  lossRecent : BitVec 1 := 0
  swrr       : BitVec 15 := 0
  pruneEnd   : BitVec 10 := 0
  deriving DecidableEq, Repr

/-- R185 words 0 to 10: identity, peer, sequence numbers and counters. -/
structure Core where
  conn        : BitVec 24 := 0
  incarnation : BitVec 8 := 0
  mode        : ConnMode := .free
  cls         : BitVec 1 := 0
  cipherEn    : BitVec 1 := 0
  tenant      : BitVec 11 := 0
  tenantInc   : BitVec 16 := 0
  peerConn    : BitVec 24 := 0
  peerInc     : BitVec 8 := 0
  handle      : BitVec 16 := 0
  vc          : BitVec 3 := 0
  txNextPsn   : BitVec 32 := 0
  txUna       : BitVec 32 := 0
  rxNextPsn   : BitVec 32 := 0
  rootSlot    : BitVec 12 := 0
  keyEpoch    : BitVec 16 := 0
  notifyRing  : BitVec 20 := 0
  notifyEn    : BitVec 1 := 0
  txWindow    : BitVec 13 := 0
  payloadLog2 : BitVec 4 := 0
  retryCount  : BitVec 8 := 0
  retryLimit  : BitVec 8 := 0
  outstanding : BitVec 16 := 0
  rto         : BitVec 32 := 0
  lastActivity : BitVec 64 := 0
  pktsTx      : BitVec 32 := 0
  pktsRx      : BitVec 32 := 0
  retransmits : BitVec 32 := 0
  duplicates  : BitVec 32 := 0
  busyNaks    : BitVec 32 := 0
  misses      : BitVec 32 := 0
  errorCause  : BitVec 8 := 0
  deriving DecidableEq, Repr

/-- R296, words 11 to 15: the delivery state. -/
structure Delivery where
  txMsn      : BitVec 32 := 0
  txConfMsn  : BitVec 32 := 0
  rxMsn      : BitVec 32 := 0
  rxHighMsn  : BitVec 32 := 0
  rxMsgPsn   : BitVec 32 := 0
  rxMsgBytes : BitVec 32 := 0
  holdUntil  : BitVec 32 := 0
  busyStreak : BitVec 8 := 0
  rnrCount   : BitVec 8 := 0
  relaxedPaths : BitVec 4 := 0
  ackedTo    : BitVec 32 := 0
  unacked    : BitVec 16 := 0
  deriving DecidableEq, Repr

/-- R329: the RATE part. -/
structure Rate where
  rate       : BitVec 32 := 0
  tokens     : BitVec 32 := 0
  lastRefill : BitVec 64 := 0
  nextDec    : BitVec 64 := 0
  srtt       : BitVec 32 := 0
  incAcc     : BitVec 32 := 0
  baseEpoch  : BitVec 64 := 0
  decCount   : BitVec 16 := 0
  ceCount    : BitVec 16 := 0
  discarded  : BitVec 16 := 0
  deriving DecidableEq, Repr

/-- R184: a context of 2,048 bytes. -/
structure Ctx where
  core     : Core := {}
  delivery : Delivery := {}
  rate     : Rate := {}
  rxMap    : BitVec 4096 := 0
  txMap    : BitVec 4096 := 0
  /-- 64 records; paths beyond the spray set read PSTATE UNUSED (R330). -/
  paths    : List PathRec := List.replicate 64 {}
  deriving DecidableEq, Repr

/-- R231: a place in one of the address spaces a tenant's work names: SPACE, attach port, PASID (0 when none). -/
structure Place where
  space : Nat
  port  : Nat := 0
  pasid : Nat := 0
  deriving DecidableEq, Repr

/-- The chain entry that a piece of work was made for: ring key, index of the chain's FIRST entry, position. -/
structure EntryRef where
  ring  : Nat
  first : BitVec 32
  pos   : Nat
  deriving DecidableEq, Repr

/-- R219, R253, R281: the kinds of message a side sends. -/
inductive MsgKind where
  | write | writeImm | read | accum | flush | resp
  deriving DecidableEq, Repr

/-- One message of this side, from its acceptance to its closing (R262, R276 to R281). -/
structure TxMsg where
  msn     : BitVec 32
  conn    : Nat := 0
  kind    : MsgKind
  owner   : Option EntryRef
  length  : Nat
  /-- R262: Q, the bytes of each packet but the last. -/
  chunk   : Nat
  packets : Nat
  remote  : BitVec 64
  key     : BitVec 32
  aux     : BitVec 32
  relaxed : Bool := false
  /-- R752: where every copy reads its payload again. -/
  src     : Place
  addr    : Nat
  inline  : Option Bytes := none
  /-- Bytes the address advances per payload byte: ACCUM addresses accumulators, not input bytes (R262). -/
  elemIn  : Nat := 1
  elemOut : Nat := 1
  /-- R229, R232: the local key under which its local buffer is read or written. -/
  lkey    : Option (BitVec 32) := none
  /-- R458: a message merged of several rows reads them at these addresses, each of `rowLen` bytes. -/
  rows    : List Nat := []
  rowLen  : Nat := 1
  /-- Packets that have taken a PSN. -/
  sent    : Nat := 0
  /-- R278: the message is voided, with the status and DETAIL its chain reports. -/
  voided  : Option (Nat × Nat) := none
  voidEnd : Bool := false
  rnr     : Nat := 0
  /-- R473: a READ of a COMBINE: the gate weight; `addr` is the row's first accumulator, AUX its format. Bytes of a block
  that two responses share wait here: (block, offset within it, bytes). -/
  gate    : Option (BitVec 32) := none
  frags   : List (Nat × Nat × Bytes) := []
  /-- R281: positions of the READ's responses that arrived, and whether one of them failed. -/
  gotResp : List Nat := []
  /-- Position of the response that carries LAST, once seen. -/
  lastResp : Option Nat := none
  placed  : Nat := 0
  failed  : Bool := false
  /-- R313: the round whose instance made the connection behind when a packet was first sent. -/
  missRound : Option Nat := none
  /-- R244: local read-backs a READ still waits for. -/
  readbacks : Nat := 0
  sentAt  : Nat := 0
  /-- R279, R281: closed at the peer, or all responses in. -/
  closed  : Bool := false
  /-- R276: a READ closed at the peer, by MSG_CONFIRM. -/
  reported : Bool := false
  deriving DecidableEq, Repr

/-- R288, R289: one PSN in flight, with what the request tracker keeps of its latest copy. -/
structure TxPkt where
  psn    : BitVec 32
  msn    : BitVec 32
  kind   : MsgKind
  index  : Nat
  len    : Nat
  void   : Bool := false
  acked  : Bool := false
  /-- TIME_TAG and time of the latest copy that left; none while the first copy has not left. -/
  tag    : Option (BitVec 32) := none
  sentAt : Nat := 0
  path   : Nat := 0
  /-- R288: arrival of the first acknowledgement of a later-sent PSN. -/
  laterAck : Option Nat := none
  /-- A copy is owed: it waits to be committed (R286). -/
  owed   : Bool := false
  /-- R293: not before this time. -/
  notBefore : Nat := 0
  /-- A copy is committed to a port and has not left. -/
  queued : Bool := false
  deriving DecidableEq, Repr

/-- One message of the peer, from its first packet to its closing (R236, R244, R276). -/
structure RxMsg where
  msn      : BitVec 32
  kind     : MsgKind
  /-- PSNs accepted: (position within the message, PSN). -/
  got      : List (Nat × BitVec 32) := []
  /-- Position of the packet that carries LAST, once seen. -/
  lastPos  : Option Nat := none
  length   : Nat := 0
  bytes    : Nat := 0
  imm      : BitVec 32 := 0
  addr     : BitVec 64 := 0
  key      : BitVec 32 := 0
  relaxed  : Bool := false
  enc      : Bool := false
  refused  : Option Nat := none
  voided   : Bool := false
  /-- Where the bytes go, and the last range placed (R249). -/
  place    : Place := ⟨1, 0, 0⟩
  lastAddr : Nat := 0
  lastLen  : Nat := 0
  cross    : Bool := false
  /-- Copies whose placement or application has begun and not ended (R275). -/
  placing  : Nat := 0
  /-- R249, R250: read-backs issued and not completed; none when they are not yet issued. -/
  readbacks : Option Nat := none
  confirmed : Bool := false
  closed    : Bool := false
  /-- READ: reading has started (R236). -/
  reading   : Bool := false
  srcAdapter : BitVec 16 := 0
  deriving DecidableEq, Repr

/-- R197 to R202: where the context is. -/
inductive CacheMode where
  /-- In the cache. -/
  | cached
  /-- Selected for eviction, write-back under way; `cancelled` when the release is cancelled (R201). -/
  | evicting (cancelled : Bool)
  /-- Released to its backing. -/
  | out
  /-- A fetch of it is under way. -/
  | fetching
  deriving DecidableEq, Repr

/-- One connection that is not FREE: its context and what its home tower keeps beside it. -/
structure Conn where
  ctx      : Ctx := {}
  cache    : CacheMode := .cached
  /-- R204: its write-back failed; it leaves the cache only at DESTROY. -/
  noEvict  : Bool := false
  tx       : List TxMsg := []
  flight   : List TxPkt := []
  rx       : List RxMsg := []
  /-- R289: the timer on TX_UNA runs from this time. -/
  rtoFrom  : Option Nat := none
  /-- R292: a CONTEXT_BUSY hold: end time and the PSN to resend first. -/
  hold     : Option (Nat × BitVec 32) := none
  busyPsn  : BitVec 32 := 0
  /-- R282: first unacknowledged acceptance, and the packet an ACK would describe (PSN, tag, RX tag, ECHO byte). -/
  ackSince : Option Nat := none
  ackOf    : BitVec 32 × BitVec 32 × BitVec 32 × BitVec 8 := (0, 0, 0, 0)
  /-- R280: messages unconfirmed with every PSN acknowledged since this time; queries sent. -/
  querySince : Option Nat := none
  queries  : Nat := 0
  /-- R252: by path of RELAXED_PATHS, the last range that a relaxed message placed. -/
  relaxedAt : Tbl (Place × Nat) := []
  /-- R236, R249: local read-backs of READs that wait: (MSN, read-backs left; none when not yet issued). -/
  ownReadbacks : List (BitVec 32 × Option Nat) := []
  /-- R190: the FREEZE that has not completed, since when, and the messages begun before it. -/
  freezeAt : Option Nat := none
  freezeMsn : BitVec 32 := 0
  /-- R190: DRAINING since; R195: quarantine end. -/
  drainAt  : Option Nat := none
  destroying : Bool := false
  quarantineEnd : Nat := 0
  /-- R213, R312: a spire connection that is behind, with the round that made it so. -/
  behind   : Option Nat := none
  behindLeave : Bool := false
  /-- R340: the time from which the connection has been able to commit. -/
  ableSince : Nat := 0
  deriving DecidableEq, Repr

/-- R249, R250, R435: the read-backs that an entry still waits for after its last write to a local buffer. -/
structure LocalRead where
  ref  : EntryRef
  left : Nat
  /-- What follows: 0 the entry ends; 1 a weight stage goes on with its copy; 2 with its publication (R479). -/
  next : Nat := 0
  deriving DecidableEq, Repr

/-- R194: one record of a tower's incarnation table. -/
structure IncRecord where
  last : BitVec 8 := 0
  quarantineEnd : BitVec 48 := 0
  deriving DecidableEq, Repr

/-- R210: an address handle. -/
structure Handle where
  peerAdapter : BitVec 16 := 0
  encap       : BitVec 8 := 0
  valid       : BitVec 1 := 0
  rebound     : BitVec 1 := 0
  tenant      : BitVec 11 := 0
  spraySet    : BitVec 16 := 0
  peerMac     : BitVec 48 := 0
  peerIpv6    : BitVec 128 := 0
  peerTag     : BitVec 32 := 0
  mapOld      : BitVec 24 := 0
  mapNew      : BitVec 24 := 0
  mapCount    : BitVec 32 := 0
  rebindSeq   : BitVec 32 := 0
  dscp        : BitVec 6 := 0
  rebindTime  : BitVec 64 := 0
  deriving DecidableEq, Repr

/-- R205: a packet waiting in a tower's miss buffer. -/
structure MissEntry where
  conn   : Nat
  tenant : Nat
  arrived : Nat
  rx     : Rx
  deriving DecidableEq, Repr

/-- R225: a realm of the package's table. -/
structure Fence where
  perms : BitVec 4 := 0
  start : BitVec 52 := 0
  stop  : BitVec 52 := 0
  deriving DecidableEq, Repr

/-- R225: RSTATE. -/
inductive RealmMode where
  | free | valid | changing
  deriving DecidableEq, Repr

/-- R225: a realm's context. -/
structure Realm where
  tag        : BitVec 8 := 0
  mode       : RealmMode := .free
  space      : BitVec 2 := 0
  attachPort : BitVec 3 := 0
  tenant     : BitVec 11 := 0
  tenantInc  : BitVec 16 := 0
  pasid      : BitVec 20 := 0
  pasidEn    : BitVec 1 := 0
  perms      : BitVec 8 := 0
  fence0     : Fence := {}
  fence1     : Fence := {}
  fence2     : Fence := {}
  /-- R229: the change under way is a DESTROY. -/
  destroying : Bool := false
  changeAt   : Nat := 0
  deriving DecidableEq, Repr

/-- The realm table: realms not FREE, the last tag of every index, the index CREATE chose last (R227). -/
structure RealmTable where
  realms    : Tbl Realm := []
  lastTags  : Tbl (BitVec 8) := []
  lastIndex : Nat := 1048575
  deriving DecidableEq, Repr

end Sys2Proof.Machine
end

