-- ==== Sys2Proof/Machine/CupolaState.lean ====
section
/-! DEFINITION. The state of the Cupola cores (R398 to R436): bays, held packets, steps that run, ARRIVED counts. -/
namespace Sys2Proof.Machine

/-- R418: where a bay's block is: resident, being loaded, or waiting for the write-back of an evicted block. -/
inductive BayPhase where
  | resident
  | loading
  | waiting (victim : Nat)
  deriving DecidableEq, Repr

/-- R417, R418: a bay in use: its 16 KiB block, and whether it has changed since its load. -/
structure Bay where
  block    : Nat
  phase    : BayPhase := .resident
  modified : Bool := false
  /-- R494: BIND_GEN of the block's extent as its load was issued. -/
  gen      : BitVec 8 := 0
  deriving DecidableEq, Repr

/-- Whose elements a held packet carries: an ACCUM packet of a peer, a response of a COMBINE's READ, or a row of a
COMBINE that was read locally. -/
inductive AccSource where
  | accum (conn : Nat) (psn : BitVec 32) (msn : BitVec 32)
  | resp (conn : Nat) (psn : BitVec 32) (msn : BitVec 32) (index : Nat)
  | row (e : EntryRef)
  deriving DecidableEq, Repr

/-- R240, R400, R474: a packet that waits, whole and checked, for the cores of its accumulators' home tower. -/
structure AccHold where
  source  : AccSource
  /-- R196: the incarnation that the packet names. -/
  inc     : BitVec 8 := 0
  tower   : Nat
  tenant  : Nat
  addr    : Nat
  /-- R494: BIND_GEN of the extents of its accumulators, as its check latched them. -/
  gens    : List (BitVec 8) := []
  /-- R474: where a response's bytes stand in its row. -/
  off     : Nat := 0
  fmt     : Nat
  op      : Nat
  /-- R408: the gate weight of a COMBINE. -/
  gate    : Option (BitVec 32) := none
  payload : Bytes
  /-- Bytes the packet holds of the input buffer. -/
  len     : Nat
  /-- R400: the ingress buffer it still holds: port, VC, class, bytes. -/
  ingress : Option (Nat × Nat × Nat × Nat) := none
  /-- What its acknowledgement describes: TIME_TAG, RX_TAG, ECHO. -/
  tag     : BitVec 32 := 0
  rxTag   : BitVec 32 := 0
  echo    : BitVec 8 := 0
  deriving DecidableEq, Repr

/-- R319, R432: what a collective step waits for. -/
inductive StepPhase where
  /-- An instance of one of its handle's REDUCE slots. -/
  | slot
  /-- A READOUT: ARRIVED of its segments. -/
  | arrived
  | running
  deriving DecidableEq, Repr

/-- R429, R434: a collective step, with the descriptor it latched when it started. -/
structure AccWork where
  ref     : EntryRef
  tenant  : Nat
  tower   : Nat
  handle  : Nat
  desc    : Bytes
  /-- 1 CLEAR, 2 ADD_LOCAL, 3 READOUT. -/
  action  : Nat
  clearAfter : Bool
  segFirst : Nat
  segNum  : Nat
  contrib : Nat
  fmt     : Nat
  iter    : Nat
  /-- The local buffer. -/
  place   : Place
  addr    : Nat
  /-- Elements done, and the input of ADD_LOCAL. -/
  pos     : Nat := 0
  data    : Bytes := []
  ranges  : Nat := 0
  /-- R250: the local buffer lies under a cross-path attribute. -/
  cross   : Bool := false
  /-- R494: BIND_GEN of the extents of its accumulators, as its check latched them. -/
  gens    : List (BitVec 8) := []
  phase   : StepPhase := .running
  deriving DecidableEq, Repr

/-- The Cupola cores. -/
structure CupolaState where
  /-- By tower, most recently used first. -/
  bays    : Tbl (List Bay) := []
  /-- Write-backs under way: tower and block. -/
  writing : List (Nat × Nat) := []
  /-- In arrival order. -/
  input   : List AccHold := []
  works   : List AccWork := []
  /-- R428: by 256 × handle + segment. -/
  arrived : Tbl Nat := []
  deriving DecidableEq, Repr

end Sys2Proof.Machine
end

