-- ==== Sys2Proof/Machine/ExpertState.lean ====
section
/-! DEFINITION. The state of expert dispatch and combine (R441 to R483): the speculations and the entries in progress. -/
namespace Sys2Proof.Machine

/-- Where the slot message of a contribution stands. -/
inductive SlotPhase where
  | sent
  | confirmed
  | failed
  deriving DecidableEq, Repr

/-- R453, R456: one choice of a DISPATCH and what became of it. -/
structure Contribution where
  tok     : Nat
  k       : Nat
  expert  : BitVec 32
  slot    : Nat := 0
  replica : Nat := 0
  /-- RFLAGS of the record entry. -/
  flags   : BitVec 8 := 0
  phase   : SlotPhase := .sent
  /-- The slot message: connection and MSN; none for a home on this adapter. -/
  msg     : Option (Nat × BitVec 32) := none
  /-- R460: its map entry and header have been sent, by this publication. -/
  announced : Bool := false
  headerLost : Bool := false
  /-- Taken by CONFIRM in place of a tentative one (R466). -/
  fresh   : Bool := false
  deriving DecidableEq, Repr

/-- R462 to R469: where a DISPATCH stands. -/
inductive DispatchPhase where
  | open_
  | confirmed
  | cancelled
  deriving DecidableEq, Repr

/-- R456 to R468: a DISPATCH of MODE 0 from its start until its last slot message has ended. -/
structure Dispatch where
  ref     : EntryRef
  tenant  : Nat
  /-- R483: the descriptor of D11.8000 that it latched; R443: the directory entries, by expert. -/
  desc    : Bytes
  entries : Tbl Bytes := []
  round   : BitVec 32
  tokens  : Nat
  topk    : Nat
  tokenBase : BitVec 32
  length  : Nat
  rows    : Place
  rowAddr : Nat
  /-- The local key of the rows. -/
  key     : BitVec 32 := 0
  recs    : Place
  recAddr : Nat
  spec    : Option (BitVec 32) := none
  contribs : List Contribution := []
  /-- R466: the CONFIRM that publishes. -/
  confirm : Option EntryRef := none
  /-- R467: a CONFIRM or CANCEL has started before the deadline. -/
  started : Bool := false
  phase   : DispatchPhase := .open_
  /-- Header messages not yet confirmed: connection, MSN, expert, replica (4: spill). -/
  headers : List (Nat × BitVec 32 × Nat × Nat) := []
  deriving DecidableEq, Repr

/-- R479, R480: a DISPATCH of MODE 1: a prefetch into a stage. -/
structure Prefetch where
  ref     : EntryRef
  tenant  : Nat
  stage   : Nat
  expert  : BitVec 32
  length  : Nat
  round   : BitVec 32
  src     : Place
  srcAddr : Nat
  dst     : Place
  base    : Nat
  size    : Nat
  pub     : Nat
  cross   : Bool
  pubCross : Bool
  spec    : Option (BitVec 32) := none
  /-- The weights have been copied and read back. -/
  copied  : Bool := false
  /-- Weights that were read outside package memory. -/
  data    : Bytes := []
  confirm : Option EntryRef := none
  started : Bool := false
  deriving DecidableEq, Repr

/-- R468: a slot freed and not yet released: its share (4: spill), its round, and the slot message that has not ended. -/
structure FreedSlot where
  tenant  : Nat
  desc    : Bytes
  expert  : Nat
  share   : Nat
  slot    : Nat
  round   : BitVec 32
  pending : Option (Nat × BitVec 32)
  deriving DecidableEq, Repr

/-- R471 to R475: a COMBINE: reads not yet applied, and the first failure. -/
structure Combine where
  ref     : EntryRef
  tenant  : Nat
  handle  : Nat
  desc    : Bytes
  first   : Nat
  count   : Nat
  /-- Reads not yet applied: connection and MSN; and rows read on this adapter. -/
  reads   : List (Nat × BitVec 32) := []
  rows    : Nat := 0
  failed  : Option (Nat × Nat) := none
  deriving DecidableEq, Repr

/-- Expert dispatch and combine. -/
structure ExpertState where
  dispatches : List Dispatch := []
  prefetches : List Prefetch := []
  combines   : List Combine := []
  freed      : List FreedSlot := []
  /-- R469: SPEC_IDs that were cancelled: tenant, id. -/
  cancelled  : List (Nat × BitVec 32) := []
  /-- R478: SEQ by 64 × tenant + stage. -/
  stageSeq   : Tbl Nat := []
  deriving DecidableEq, Repr

end Sys2Proof.Machine
end

