-- ==== Sys2Proof/Machine/MemState.lean ====
section
/-! DEFINITION. The state of package memory (R484 to R506), of the host ports (R545 to R566) and of the attach ports
(R567 to R574), and the log of everything the adapter sends out. -/
namespace Sys2Proof.Machine

/-- Package memory: (address, byte), addresses strictly rising, no byte zero: an unlisted byte reads 0. [DESIGN CHOICE, log 5] -/
abbrev Memory := List Host.Cell

/-- The canonical form of package memory: addresses strictly rising, no byte equal to what an unlisted byte reads as. [DESIGN CHOICE, log 4] -/
def Memory.wf (m : Memory) : Bool := twfD 0 m

/-- R493 to R498, R503: one extent's state beside its entry of the extent table. -/
structure Extent where
  bindGen  : BitVec 8 := 0
  zeroing  : Bool := false
  /-- R498: the block the zeroing engine writes next; lower blocks are clean. -/
  zeroNext : Nat := 0
  /-- R497: blocks at or above zeroNext that a write has cleaned. -/
  clean    : List Nat := []
  poisoned : Bool := false
  /-- R495: the tick of the last binding change. -/
  changed  : Option Nat := none
  deriving DecidableEq, Repr

/-- R506: a tower's patrol. -/
structure Patrol where
  running  : Bool := false
  started  : Nat := 0
  /-- The multiple of the pass time that the last started pass served. -/
  nextDue  : Nat := 0
  deriving DecidableEq, Repr

/-- Package memory and what the towers keep about it. -/
structure MemState where
  mem      : Memory := []
  extents  : Tbl Extent := []
  /-- R503: addresses of poisoned 64-byte cells, divided by 64. -/
  poison   : List Nat := []
  /-- R502: the time a bank last logged a corrected error, by location code. -/
  bankLog  : Tbl Nat := []
  patrol   : Tbl Patrol := []
  /-- R505: the time each bank was last refreshed, by location code. -/
  refreshed : Tbl Nat := []
  deriving DecidableEq, Repr

/-- R556: one MSI-X vector: table entry, mask and pending bit (PCIe). -/
structure MsixVector where
  addr    : BitVec 64 := 0
  data    : BitVec 32 := 0
  masked  : Bool := true
  pending : Bool := false
  deriving DecidableEq, Repr

/-- R545 to R560: one host port. -/
structure HostPort where
  perst    : Bool := true
  linkUp   : Bool := false
  rate     : BitVec 8 := 0
  width    : BitVec 8 := 0
  /-- R577: VF Enable and NumVFs of the port's PF. -/
  vfEnable : Bool := false
  numVfs   : Nat := 0
  /-- R555: the PASID capability is enabled. -/
  pasid    : Bool := false
  /-- R557: the completion timeout that Device Control 2 selects, in ticks. -/
  timeout  : Nat := 20000000
  /-- R566: attach ports written through the window since the last flushing read, with the last 4 bytes written, and those
  with CROSS_PATH. -/
  winAttach : Tbl Nat := []
  winCross  : List Nat := []
  deriving DecidableEq, Repr

/-- R558: a translation the adapter holds: function, PASID plus one (0 without), page of 4 KiB, what it grants. -/
structure Translation where
  fn     : Nat
  pasid  : Nat
  page   : Nat
  write  : Bool
  deriving DecidableEq, Repr

/-- R558, R559: a translation or a page request waiting for the host, and the work that waits for it. -/
structure AtsWait where
  fn      : Nat
  pasid   : Nat
  page    : Nat
  write   : Bool
  /-- The initiator's entry that waits: ring key, first index, position. Targets never wait (R231). -/
  ring    : Nat
  first   : BitVec 32
  pos     : Nat
  /-- The entry's trigger tag was expired (R60). -/
  expired : Bool
  /-- A page request has been sent, at this time. -/
  pri     : Option Nat := none
  deriving DecidableEq, Repr

/-- R567: the states of an attach port, in the order of D14.0041. -/
inductive AttachMode where
  | down | training | nativeUp | cxlUp | fault
  deriving DecidableEq, Repr

/-- R567, R568: one attach port. -/
structure AttachPort where
  mode    : AttachMode := .down
  width   : BitVec 8 := 0
  bytes   : BitVec 64 := 0
  since   : Nat := 0
  deriving DecidableEq, Repr

/-- Everything the adapter sends outside, in the order it sends it. [DESIGN CHOICE, log 3; DESIGN CHOICE, log 9] -/
inductive Emit where
  /-- A posted write to the memory behind a host port: port, PASID plus one (0 without), address, bytes. -/
  | hostWrite (port pasid addr : Nat) (bytes : Bytes)
  /-- A write to attach memory: port, address, bytes. -/
  | attachWrite (port addr : Nat) (bytes : Bytes)
  /-- A read issued to host memory or attach memory (fetches, payload reads, read-backs): space, port, PASID, address, length. -/
  | memRead (space port pasid addr len : Nat)
  /-- An MSI-X message: tenant, vector. -/
  | msix (tenant vector : Nat)
  /-- R561: an AER report: function, error number in the order of the table, fatal. -/
  | aer (fn error : Nat) (fatal : Bool)
  /-- A Silus packet whose first byte leaves a network port: port, encapsulation, hop class, bytes outside the Silus packet, the packet. -/
  | packet (port encap cls : Nat) (outer : Bytes) (pkt : Packet)
  /-- A link block or Ethernet frame other than a packet: port, kind, bytes. -/
  | block (port kind : Nat) (bytes : Bytes)
  /-- An Ethernet frame. -/
  | frame (port : Nat) (bytes : Bytes)
  /-- A fabric management datagram: port, destination adapter, bytes. -/
  | datagram (port dst : Nat) (bytes : Bytes)
  /-- A dictionary response on a management path: class number, route, bytes. -/
  | response (cls route : Nat) (bytes : Bytes)
  /-- A frame on the management segment. -/
  | segFrame (bytes : Bytes)
  /-- An MCTP message on I3C. -/
  | mctp (bytes : Bytes)
  /-- A DOE or SPDM response: path, bytes. -/
  | spdm (path : Nat) (bytes : Bytes)
  /-- The answer to a read by software or by an accelerator: who (tenant, or 4,096 plus attach port), bytes, error. -/
  | readData (who : Nat) (bytes : Bytes) (error : Bool)
  /-- A pin changes: number in the order PPS_OUT, THERMTRIP_N, PKG_READY..., level. -/
  | pin (number : Nat) (level : Bool)
  /-- R637: a notice to firmware (3) or the management agent (4): reason, tower, mailbox or PEND. -/
  | interrupt (master reason tower value : Nat)
  /-- ATS and PRI messages to a host: function, kind, page. -/
  | ats (fn kind page : Nat)
  deriving DecidableEq, Repr

end Sys2Proof.Machine
end

