-- ==== Sys2Proof/Machine/MgmtState.lean ====
section
/-! DEFINITION. The state of management, boot and attestation (R675 to R705), and of the electrical pins (R731 to
R746). -/
namespace Sys2Proof.Machine

/-- R702: a large SPDM message in chunks on one path: the response being fetched, the request being assembled. -/
structure SpdmChunks where
  response : Bytes := []
  handle   : BitVec 8 := 0
  seq      : BitVec 16 := 0
  request  : Bytes := []
  reqHandle : BitVec 8 := 0
  reqSeq   : BitVec 16 := 0
  reqSize  : Nat := 0
  deriving DecidableEq, Repr

/-- Management. -/
structure MgmtState where
  /-- R681: the segment key and the fabric key, none when not loaded. -/
  segKey   : Option Bytes := none
  fabKey   : Option Bytes := none
  /-- R680. -/
  bootId   : BitVec 32 := 0
  /-- R679: last SEQ by source: IPv6 source addresses on the segment, adapters on the fabric. -/
  segSources : Tbl (BitVec 32) := []
  fabSources : Tbl (BitVec 32) := []
  /-- R691: the boot flash: (offset, byte), offsets rising; an unlisted byte reads 0xFF. -/
  flash    : Tbl Byte := []
  /-- R693: the running slot (false A), boot status, and what the running image's header says. -/
  slotB    : Bool := false
  bootStatus : Nat := 0
  version  : BitVec 32 := 0
  svn      : Nat := 0
  keyIndex : Nat := 0
  /-- R700: the measurement log. -/
  log      : Bytes := []
  /-- R696: FW_STATUS, the command under way with the outcome it will report, a VERIFY passed since the last chunk. -/
  fwStatus : Nat := 0
  fwResult : Nat := 0
  verified : Bool := false
  /-- R682, R684: the segment's line state, polarity, whether PLCA is active. -/
  line     : Nat := 0
  inverted : Bool := false
  plca     : Bool := false
  /-- R685. -/
  i3cAddress : BitVec 8 := 0
  eid      : BitVec 8 := 0
  /-- R690: LINK_MGMT_RESP. -/
  linkResp : Bytes := []
  /-- R702: chunked messages by path: 0 DOE of H0, 1 DOE of H1, 2 MCTP. -/
  spdm     : Tbl SpdmChunks := []
  deriving DecidableEq, Repr

end Sys2Proof.Machine
end

