-- ==== Sys2Proof/Machine/MoverState.lean ====
section
/-! DEFINITION. The state of the movers (R607 to R624): channels, descriptors, bursts. -/
namespace Sys2Proof.Machine

/-- R613: where the descriptor at the head of a channel stands. -/
inductive DescPhase where
  | queued
  | running
  deriving DecidableEq, Repr

/-- R609 to R624: a queued or running descriptor. -/
structure Descriptor where
  ref     : EntryRef
  tenant  : Nat
  /-- The entry's 64 bytes. -/
  word    : BitVec 512
  src     : Place
  dst     : Place
  evt     : Place
  /-- R250: the destination lies under a cross-path attribute. -/
  cross   : Bool := false
  /-- R60: its trigger tag was expired. -/
  expired : Bool := false
  /-- R319: an instance of the channel's MOVE slot has released it. -/
  slotOk  : Bool := false
  phase   : DescPhase := .queued
  /-- R615: as the head, it has begun to wait on AFTER. -/
  waited  : Bool := false
  /-- Offset of the next burst. -/
  next    : Nat := 0
  /-- Bursts issued that have not ended: offset, length. -/
  bursts  : List (Nat × Nat) := []
  /-- R620: offset of the first failed burst. -/
  failed  : Option Nat := none
  /-- R232: a key that ceased to hold: status and DETAIL. -/
  refused : Option (Nat × Nat) := none
  /-- R621: 0 none, 1 its read-back is issued, 2 written or given up. -/
  half    : Nat := 0
  /-- R622: the last read-back has been issued. -/
  lastRead : Bool := false
  deriving DecidableEq, Repr

/-- R607, R614: one channel: its queue, head first. -/
structure Channel where
  queue   : List Descriptor := []
  done    : BitVec 32 := 0
  bad     : BitVec 32 := 0
  deriving DecidableEq, Repr

/-- The movers: channels by 16 × tower + channel; R617: by tower, the channel served last, the bursts left of its turn,
and the time until which the engine is occupied. -/
structure MoverState where
  chans   : Tbl Channel := []
  last    : Tbl (Nat × Nat) := []
  busy    : Tbl Nat := []
  deriving DecidableEq, Repr

end Sys2Proof.Machine
end

