-- ==== Sys2Proof/Machine/PackageState.lean ====
section
/-! DEFINITION. The part, its fuses and its phase (R1 to R4, R30 to R32, R693 to R699, R735 to R746). -/
namespace Sys2Proof.Machine

/-- R1, R2: the part. -/
inductive Part where
  | zf2 | zf4 | zf8
  deriving DecidableEq, Repr

/-- Where the package stands between reset and work (R31, R693, R694, R698, R735, R737). -/
inductive Phase where
  /-- PKG_RST_N is low. -/
  | held
  /-- R735: a supply monitor holds the package in reset. -/
  | supplyHold
  /-- R737: released; the ROM has started firmware, which has not enabled the functions. -/
  | booting
  /-- R694: neither slot passed. -/
  | recovery
  /-- R31: a present bridge failed to train. -/
  | bridgeFail
  /-- R698: the functions are enabled. -/
  | running
  deriving DecidableEq, Repr

/-- What the manufacturer fused into the part. [DESIGN CHOICE, log 7] -/
structure Fuses where
  /-- R44: the serial number, up to 32 bytes. -/
  serial  : Bytes := []
  /-- R45: the base MAC address. -/
  macBase : BitVec 48 := 0
  /-- R80: the EUI-64 of the own clock. -/
  eui64   : BitVec 64 := 0
  /-- R682: the MAC address of the management segment. -/
  segMac  : BitVec 48 := 0
  /-- R693: the key hashes, 32 bytes each; R695, R696: fuses blown of the counter, keys revoked. -/
  keyHashes : List Bytes := []
  revoked : BitVec 4 := 0
  counter : Nat := 0
  /-- R699: the identity seed, 32 bytes. -/
  idSeed  : Bytes := []
  /-- R700: the ROM's version and the SHAKE256 of its contents. -/
  romVersion : BitVec 32 := 0
  romDigest  : Bytes := []
  deriving DecidableEq, Repr

/-- R733, R743, R745: the straps as they were latched at release, and the pins whose level is state. -/
structure PinState where
  clkH0   : Bool := false
  clkH1   : Bool := false
  sscOff  : Bool := false
  test    : Bool := false
  /-- THERMTRIP_N and FAULT_N are driven low. -/
  thermTrip : Bool := false
  faultN  : Bool := false
  /-- TRST_N holds the JTAG port in Test-Logic-Reset. -/
  jtagReset : Bool := false
  deriving DecidableEq, Repr

/-- The part as a whole. -/
structure PackageState where
  part    : Part := .zf8
  fuses   : Fuses := {}
  phase   : Phase := .held
  /-- R32, R504, R729: a fatal fault at package level holds until a package reset. -/
  fatal   : Bool := false
  /-- R169: the halt under COMPAT_HALT. -/
  halted  : Bool := false
  pins    : PinState := {}
  deriving DecidableEq, Repr

end Sys2Proof.Machine
end

