-- ==== Sys2Proof/Machine/PortState.lean ====
section
/-! DEFINITION. The state of network ports and links (R508 to R543), of egress queues and their schedulers (R349 to
R361, R383), of credits (R376 to R379), of spire instances (R298 to R326) and of forwarding (R372 to R391). -/
namespace Sys2Proof.Machine

/-- R521: the port states, in the order of D13.0010. -/
inductive PortMode where
  | disabled | detect | negotiate | train | up | fault
  deriving DecidableEq, Repr

/-- R349, R383: a packet waiting at a port: an own packet, or a transit packet (tenant 2,048). -/
structure EgressItem where
  pkt     : Packet
  /-- Its payload has been read and it is assembled. -/
  ready   : Bool
  tenant  : Nat
  /-- The connection and PSN it was committed for. -/
  owner   : Option (Nat × BitVec 32)
  encap   : Nat
  /-- Bytes outside the Silus packet (R256). -/
  outer   : Bytes
  cls     : Nat
  /-- Bytes of the Silus packet on the link. -/
  len     : Nat
  /-- R347: the tick at which it entered the queue. -/
  entered : Nat
  /-- R384: arrival of a transit packet's first byte. -/
  arrived : Nat
  /-- Ingress port, VC and class whose buffer a transit packet holds (R378). -/
  ingress : Option (Nat × Nat × Nat)
  /-- R385: it has had to wait for credits. -/
  waited  : Bool := false
  /-- R380: its link check failed while it waited or after it started. -/
  bad     : Bool := false
  deriving DecidableEq, Repr

/-- R350: one queue of a weighted fair level: its finish tag, since when it is empty (none: it is not), whether its head has
its tag. -/
structure WfqQueue where
  finish     : BitVec 64 := 0
  emptySince : Option Nat := some 0
  tagged     : Bool := false
  deriving DecidableEq, Repr

/-- R532 to R536: lane shedding and restore on a port. -/
structure Shed where
  /-- R532: the period, counted in dwells, whose bytes are counted. -/
  period      : Nat := 0
  periodBytes : Nat := 0
  lastBytes   : Nat := 0
  /-- The width this side has asked for, and whether the request is a restore. -/
  asked       : Option (Nat × Bool) := none
  /-- A granted change: width and SWITCH_TICK. -/
  switch      : Option (Nat × Nat) := none
  /-- This side granted the restore. -/
  granter     : Bool := false
  restoring   : Bool := false
  ownReady    : Bool := false
  peerReady   : Bool := false
  deriving DecidableEq, Repr

/-- R540: the flow-control frame last sent for a VC, and when. -/
structure FlowSent where
  at_    : Nat
  deriving DecidableEq, Repr

/-- One network port. -/
structure Port where
  mode     : PortMode := .disabled
  modeCode : BitVec 8 := 0
  active   : BitVec 8 := 0
  trained  : BitVec 8 := 0
  laneFaults : BitVec 16 := 0
  inverted : BitVec 8 := 0
  partner  : BitVec 32 := 0
  cause    : BitVec 8 := 0
  since    : Nat := 0
  /-- R514: the smaller of the two port widths of a fabric link. -/
  linkWidth : Nat := 0
  /-- R393: the partner advertises forwarding-ready. -/
  peerReady : Bool := false
  advertised : Bool := false
  lastStatus   : Nat := 0
  statusSent   : Nat := 0
  /-- R528: SFLAGS, TARGET_WIDTH and SWITCH_TICK of the last STATUS sent. -/
  statusSaid   : Nat × Nat × Nat := (0, 0, 0)
  shed     : Shed := {}
  vc5      : List EgressItem := []
  vc6      : List EgressItem := []
  vc7      : List EgressItem := []
  /-- Key: 4,096 × VC + tenant. -/
  dome     : Tbl (List EgressItem) := []
  classTags  : Tbl WfqQueue := []
  tenantTags : Tbl WfqQueue := []
  /-- R350: virtual times: VC k of the tenant level at k, the class level at 5. -/
  virt     : Tbl (BitVec 64) := []
  busyUntil : Nat := 0
  /-- R378, R379: by 4 × VC + class: limits advertised by the partner, credits consumed, counts it has sent, own counts, own counts at the last block. -/
  limit    : Tbl Nat := []
  consumed : Tbl Nat := []
  peerFreed : Tbl Nat := []
  freed    : Tbl Nat := []
  freedSent : Tbl Nat := []
  creditSent : Nat := 0
  /-- R529: the partner's hop classes, from its ADVERT. -/
  peerK    : Nat := 0
  /-- Bytes held in the ingress buffer by VC (R376, R540). -/
  ingress  : Tbl Nat := []
  /-- R539: pause end by priority; 8 is PAUSE. -/
  paused   : Tbl Nat := []
  flowSent : Tbl FlowSent := []
  /-- R359: the largest depth since the last sample, by VC. -/
  maxDepth : Tbl Nat := []
  /-- R360: Lantern records by position. -/
  lantern  : Tbl (BitVec 128) := []
  deriving DecidableEq, Repr

/-- R308: a packet of a load: an owed copy (its PSN), or a new packet (MSN and position); staged with its payload. -/
structure LoadPkt where
  psn    : Option (BitVec 32)
  msn    : BitVec 32
  resp   : Bool := false
  index  : Nat
  wire   : Nat
  staged : Option Bytes := none
  deriving DecidableEq, Repr

/-- R299, R308 to R314: an instance of a SEND slot whose fetch has opened. -/
structure SlotInstance where
  tower : Nat
  entry : Nat
  due   : Nat
  conn  : Nat
  load  : List LoadPkt := []
  fixed : Bool := false
  late  : Bool := false
  deriving DecidableEq, Repr

/-- R319: the last instance of a slot entry that fell due, so that each fires once; key: tower × 2^14 + entry. -/
structure SpireState where
  instances : List SlotInstance := []
  /-- Key: 16,384 × tower + entry; value: the due time of the last instance that fell due, plus 1. -/
  fired     : Tbl Nat := []
  /-- The last instance whose fetch opened, in the same form. -/
  opened    : Tbl Nat := []
  /-- R324: packets staged for instances of a table that a swap replaced, by connection. -/
  leftover  : Tbl (List LoadPkt) := []
  /-- R320: due times of the instances of REDUCE slots (key: handle) and of MOVE slots (key: 2^20 + 16 × tower + channel)
  whose entry was not ready. -/
  lateSteps : Tbl (List Nat) := []
  deriving DecidableEq, Repr

/-- R353 to R355: a token bucket in Q8 bytes, and its last refill. -/
structure Bucket where
  level : Int
  last  : Nat
  deriving DecidableEq, Repr

/-- R372 to R391: forwarding state. -/
structure FwdState where
  /-- R374: the tables that the last route change replaced: in-use count, spray sets, entries, port list. -/
  previous   : Option (Nat × Tbl Byte) := none
  prevGen    : Nat := 0
  lastChange : Nat := 0
  changed    : Bool := false
  /-- R389: (DST_ADAPTER × 64 + PATH) to expiry. -/
  pathDown   : Tbl Nat := []
  /-- R387: (SRC, DST, PATH) to the time a notice left. -/
  noticed    : Tbl Nat := []
  deriving DecidableEq, Repr

end Sys2Proof.Machine
end

