-- ==== Sys2Proof/Machine/PowerState.lean ====
section
/-! DEFINITION. Power domains, the power level and thermal levels (R720 to R729). -/
namespace Sys2Proof.Machine

/-- R721: the state of a power domain, in the numbering of D20.0062. -/
inductive DomainMode where
  | open_ | closing | closed | opening
  deriving DecidableEq, Repr

/-- R721 to R726: a domain that is not OPEN. -/
structure Domain where
  mode     : DomainMode := .open_
  since    : Nat := 0
  deadline : Nat := 0
  deriving DecidableEq, Repr

/-- R727: a tower's thermal level and its last measured temperatures, 1/8 °C. -/
structure Thermal where
  level : Nat := 0
  logic : Int := 0
  stack : Int := 0
  deriving DecidableEq, Repr

/-- Power as a whole. -/
structure PowerState where
  /-- Keyed as D20.0062 lays its bytes out: 3k + i for slice i of tower k, 24 + k for tower k, 32 + p for pair p. -/
  domains : Tbl Domain := []
  level   : Nat := 0
  power   : Nat := 0
  thermal : Tbl Thermal := []
  lastControl : Nat := 0
  result  : BitVec 8 := 0
  deriving DecidableEq, Repr

/-- R719: the Oculus: records written by tower, and the records by 32,768 × tower + position. -/
structure OculusState where
  count : Tbl Nat := []
  recs  : Tbl (BitVec 256) := []
  deriving DecidableEq, Repr

end Sys2Proof.Machine
end

