-- ==== Sys2Proof/Machine/RingState.lean ====
section
/-! DEFINITION. The state of rings (R131 to R178): contexts, indices, held entries, chains and their outcomes. -/
namespace Sys2Proof.Machine

/-- R163: the ring states, in their numbering. -/
inductive RingMode where
  | unused | active | draining | aborting | stopped | error | halted
  deriving DecidableEq, Repr

/-- R134, words 0 to 4: the ring context image that CREATE reads, each field at its width. -/
structure RingImage where
  base       : BitVec 64 := 0
  log2Size   : BitVec 4 := 0
  space      : BitVec 2 := 0
  notify     : BitVec 1 := 0
  homeTower  : BitVec 3 := 0
  pasidEn    : BitVec 1 := 0
  pasid      : BitVec 20 := 0
  attachPort : BitVec 3 := 0
  weight     : BitVec 4 := 0
  mirrorAddr : BitVec 64 := 0
  msixVector : BitVec 16 := 0
  evtMode    : BitVec 2 := 0
  evtCount   : BitVec 16 := 0
  evtTime    : BitVec 32 := 0
  deriving DecidableEq, Repr

/-- Where an entry of a started chain stands. -/
inductive EntryPhase where
  /-- Not yet executed. -/
  | ready
  /-- R59, R60: waiting for its trigger tag, extended to 64 bits. -/
  | armed (time : Nat)
  /-- R60: its trigger tag was expired at acceptance: it is not performed. -/
  | expired
  /-- Executed, its work running in an engine. -/
  | running
  /-- Its work has ended. -/
  | done
  deriving DecidableEq, Repr

/-- One accepted entry: its 64 bytes and where it stands. -/
structure ChainEntry where
  word  : W512
  phase : EntryPhase := .ready
  /-- Bytes of the entry confirmed so far (R159). -/
  bytes : Nat := 0
  deriving DecidableEq, Repr

/-- R153 to R162: one chain, from the acceptance of its first entry to its record. -/
structure Chain where
  first     : BitVec 32
  entries   : List ChainEntry
  /-- Slots the chain consumes, a stale last entry included (R149). -/
  slots     : Nat
  /-- The chain's LAST entry, or what ends it, has been accepted. -/
  closed    : Bool := false
  started   : Bool := false
  /-- R159: the failing conditions met so far, with the DETAIL each would report (R19 chooses among them). -/
  fails     : List (Nat × Nat) := []
  detail    : Nat := 0
  refetched : Bool := false
  late      : Bool := false
  /-- R158: the outcome has been decided, at this fabric time. -/
  decided   : Option Nat := none
  /-- R581: counted in D15.0103. -/
  limited   : Bool := false
  /-- R583: the tenant incarnation in force when the chain was accepted. -/
  inc       : BitVec 16 := 0
  deriving DecidableEq, Repr

/-- R148: an entry held for its stamp: the index, the stamp last read, the re-fetches issued and returned. -/
structure Refetch where
  index    : BitVec 32
  since    : Nat
  stamp    : BitVec 16
  issued   : Nat := 0
  returned : Nat := 0
  deriving DecidableEq, Repr

/-- One ring of a tenant. -/
structure Ring where
  image     : RingImage
  mode      : RingMode := .active
  /-- Work ring: tail. Notification ring: produced index. -/
  tail      : BitVec 32 := 0
  head      : BitVec 32 := 0
  /-- Work ring: done. Notification ring: consumed index. -/
  done      : BitVec 32 := 0
  /-- R141, R146: the next index to fetch, and the fetches issued and not returned (index, count). -/
  fetchNext : BitVec 32 := 0
  fetches   : List (BitVec 32 × Nat) := []
  /-- R146: reads left to the ring in this round. -/
  fetchCredit : Nat := 0
  /-- R148: entries fetched and held behind a mismatch, oldest first. -/
  held      : List (BitVec 32 × W512) := []
  refetch   : Option Refetch := none
  /-- Chains whose record is not yet written, oldest first; the last may still be open. -/
  chains    : List Chain := []
  /-- R164: signalled completions no event covers, and the write time of the first of them. -/
  uncovered : Nat := 0
  firstUncovered : Option Nat := none
  /-- R163: a mirror write is due from this time on. -/
  mirrorSince : Option Nat := none
  /-- R165: an event waits for the mirror write that covers its completions. -/
  eventDue  : Bool := false
  /-- R172: the time of the ABORT. -/
  abortAt   : Option Nat := none
  /-- R173: the ring entered ABORTING from ERROR. -/
  fromError : Bool := false
  /-- R238: reservations of a notification ring: (connection, MSN, time of the last accepted packet). -/
  reserved  : List (Nat × BitVec 32 × Nat) := []
  /-- R252 to R254: connections recorded by relaxed messages, and by place the last local range of relaxed READs and its read-backs. -/
  relaxed   : List Nat := []
  relaxedReads : List (Place × Nat × Nat) := []
  deriving DecidableEq, Repr

end Sys2Proof.Machine
end

