-- ==== Sys2Proof/Machine/TenantState.lean ====
section
/-! DEFINITION. The state of tenants (R577 to R605), of their function pages (R132, R187, R226, R551), of their event
rings (R708 to R713) and of the fault logs (R715 to R717). -/
namespace Sys2Proof.Machine

/-- R579: the tenant states, in the order of D15.0000. -/
inductive TenantMode where
  | disabled | active | resetting | frozen
  deriving DecidableEq, Repr

/-- R599: the migration states, in the order of D15.0030. -/
inductive MigMode where
  | none | freezing | frozen | saving | saved | restoring | restored
  deriving DecidableEq, Repr

/-- R708, R709: a tenant's event ring. -/
inductive EventRingMode where
  | stopped | running | error
  deriving DecidableEq, Repr

/-- R708 to R712: the event ring's indices, the LOST flag, and whether a message has left since the last doorbell. -/
structure EventRing where
  mode     : EventRingMode := .stopped
  produced : BitVec 32 := 0
  consumed : BitVec 32 := 0
  lost     : Bool := false
  notified : Bool := false
  deriving DecidableEq, Repr

/-- R586 to R592: a reset that is running. -/
structure ResetRun where
  squash   : Bool
  since    : Nat
  squashed : Nat := 0
  deriving DecidableEq, Repr

/-- R599 to R605: what migration keeps between its commands. -/
structure Migration where
  mode      : MigMode := .none
  result    : BitVec 8 := 0
  bytes     : BitVec 64 := 0
  since     : Nat := 0
  frozenAt  : Nat := 0
  /-- From the restored blob: SRC_ADAPTER, CONN_BASE, CONN_SPAN, SEQ. -/
  srcAdapter : BitVec 16 := 0
  connBase  : Nat := 0
  connSpan  : Nat := 0
  seq       : BitVec 32 := 0
  /-- R603: the failure that RESTORE_DONE reports, none when the blob was placed. -/
  failure   : Option Nat := none
  /-- R605: path-rebind datagrams still to be sent: peers, how many times, when next. -/
  rebinds   : List Nat := []
  rebindLeft : Nat := 0
  rebindAt  : Nat := 0
  /-- R672: the 65,536-tick period of the last SAVE, plus 1; that of the SAVE under way. -/
  lastSave  : Nat := 0
  saveAt    : Nat := 0
  deriving DecidableEq, Repr

/-- A tenant. -/
structure Tenant where
  mode     : TenantMode := .disabled
  inc      : BitVec 16 := 0
  cause    : BitVec 8 := 0
  reset    : Option ResetRun := none
  /-- R595: QUIESCE was written to 1 at this time. -/
  quiesceAt : Option Nat := none
  /-- R595: D15.0021. -/
  quiesced : Bool := false
  mig      : Migration := {}
  events   : EventRing := {}
  /-- R716: the last 64 entries of the tenant's fault log (newest first) and how many were written. -/
  log      : List W512 := []
  logCount : BitVec 32 := 0
  deriving DecidableEq, Repr

/-- R132, R187, R226: one control page: context registers, and the status of the last command. -/
structure CtrlPage where
  ctx    : BitVec 1024 := 0
  busy   : Bool := false
  lost   : Bool := false
  result : BitVec 8 := 0
  target : BitVec 32 := 0
  aux    : BitVec 32 := 0
  deriving DecidableEq, Repr

/-- R551: the dictionary mailbox of a function. -/
structure Mailbox where
  req    : Bytes := []
  resp   : Bytes := []
  busy   : Bool := false
  done   : Bool := false
  intr   : Bool := false
  lost   : Bool := false
  /-- The response the dictionary has made and MB_RESPONSE_DONE has not delivered. -/
  answer : Option Bytes := none
  deriving DecidableEq, Repr

/-- The pages of one PCIe function. -/
structure FnPages where
  ring   : CtrlPage := {}
  conn   : CtrlPage := {}
  realm  : CtrlPage := {}
  remoteRefused : BitVec 32 := 0
  localRefused  : BitVec 32 := 0
  mbox   : Mailbox := {}
  deriving DecidableEq, Repr

/-- R715 to R717: the package's fault logs: the last 1,024 entries, newest first, and the kept FATAL entry. -/
structure FaultLogs where
  log    : List W512 := []
  count  : BitVec 32 := 0
  lastFatal : W512 := 0
  deriving DecidableEq, Repr

end Sys2Proof.Machine
end

