-- ==== Sys2Proof/Machine/State.lean ====
section
/-! DEFINITION. The state of the block. -/
namespace Sys2Proof.Machine

/-- Why the block would stop. -/
inductive Fault where
  /-- No command raises it: the manual gives the block no condition in which it takes no further command
  (R32: a fatal fault is state, and a package reset ends it). Safe. -/
  | stopped
  deriving DecidableEq, Repr

/-- Why a command is turned away by the model. -/
inductive Refusal where
  /-- The command has no meaning in the model yet. Safe. -/
  | notModelled (mnemonic : String)
  deriving DecidableEq, Repr

/-- The state of the block. -/
structure State where
  pkg     : PackageState := {}
  time    : TimeState := {}
  dict    : DictState := {}
  ro      : Tbl Nat := []
  fns     : Tbl FnPages := []
  tenants : Tbl Tenant := []
  rings   : Tbl Ring := []
  conns   : Tbl Conn := []
  incs    : Tbl IncRecord := []
  handles : Tbl Handle := []
  realms  : RealmTable := {}
  /-- R249, R250: entries that wait for local read-backs. -/
  localReads : List LocalRead := []
  miss    : List MissEntry := []
  memory  : MemState := {}
  hosts   : Tbl HostPort := []
  msix    : Tbl MsixVector := []
  ats     : List Translation := []
  atsWait : List AtsWait := []
  attach  : Tbl AttachPort := []
  ports   : Tbl Port := []
  spire   : SpireState := {}
  shapers : Tbl Bucket := []
  policers : Tbl Bucket := []
  fwd     : FwdState := {}
  /-- R727: the package power level P, and by tower the thermal level and the last measures. -/
  power   : PowerState := {}
  oculus  : OculusState := {}
  cipher  : CipherState := {}
  cupola  : CupolaState := {}
  experts : ExpertState := {}
  movers  : MoverState := {}
  /-- By tower. -/
  belfry  : Tbl BelfryTower := []
  mgmt    : MgmtState := {}
  faults  : FaultLogs := {}
  out     : List Emit := []
  free    : Nat := 0
  pending : List Instr := []
  deriving DecidableEq, Repr

def State.reset : State := {}

end Sys2Proof.Machine
end

