-- ==== Sys2Proof/Machine/Ops.lean ====
section
/-! DEFINITION. The shared operations: resources of the part, parameters of the active set, counters, package memory,
the places work reads and writes, event rings and fault logs. -/
namespace Sys2Proof.Machine

/-! ### The part -/

/-- R1: how many towers the part has. -/
def Part.towers : Part → Nat
  | .zf2 => 2
  | .zf4 => 4
  | .zf8 => 8

/-- R1: the thermal design power of the part, W. -/
def Part.tdp : Part → Nat
  | .zf2 => 115
  | .zf4 => 200
  | .zf8 => 360

/-- How many towers are present. -/
def State.towers (s : State) : Nat := s.pkg.part.towers

/-- R6: network ports present. -/
def State.nports (s : State) : Nat := 8 * s.towers

/-- R6: the tower of a network port. -/
def portTower (n : Nat) : Nat := n / 8

/-- R6, R101: the host port of a tenant's function: 0 for tenants 0 to 1,023, else 1. -/
def tenantHost (t : Nat) : Nat := if t < 1024 then 0 else 1

/-- R6: the PF of a tenant's host port. -/
def tenantPf (t : Nat) : Nat := if t < 1024 then 0 else 1024

/-- R34: the home tower of a connection number. -/
def connTower (c : Nat) : Nat := c / 2097152 % 8

/-- The key of a ring: its tenant and its number (R131). -/
def ringKey (t ring : Nat) : Nat := t * 1048576 + ring

/-- Fabric time now. [DEDUCED, log 101] -/
def State.now (s : State) : Nat := s.time.now

/-- R91: the low 32 bits of fabric time. -/
def State.tag (s : State) : W32 := BitVec.ofNat 32 s.time.now

/-! ### Parameters -/

/-- The default of an instance (R108); three parameters' defaults depend on the part or the instance. -/
def defaultOf (part : Part) (p : Param) (i0 : Nat) : Nat :=
  if p.group = 13 ∧ p.item = 1 then (if i0 % 8 = 0 then 0x98 else 0)
  else if p.group = 20 ∧ p.item = 0x70 then part.tdp * 10
  else p.dflt

/-- The value of a fixed-width parameter in a set. -/
def ParamSet.int (ps : ParamSet) (part : Part) (p : Param) (i0 : Nat) : Nat :=
  tgetD ps.ints (p.key i0) (defaultOf part p i0)

/-- Bytes of a blob or string in a set. -/
def ParamSet.blob (ps : ParamSet) (p : Param) (i0 off n : Nat) : Bytes :=
  (upTo n).map (fun k => tgetD ps.blobs (p.key i0 * 16777216 + off + k) 0)

/-- The value of a fixed-width parameter in a set, written. -/
def ParamSet.putInt (ps : ParamSet) (part : Part) (p : Param) (i0 v : Nat) : ParamSet :=
  { ps with ints := tput (defaultOf part p i0) (p.key i0) v ps.ints }

/-- Bytes of a blob or string in a set, written. -/
def ParamSet.putBlob (ps : ParamSet) (p : Param) (i0 : Nat) : Nat → Bytes → ParamSet
  | _, [] => ps
  | off, b :: bs =>
    ParamSet.putBlob { ps with blobs := tput 0 (p.key i0 * 16777216 + off) b ps.blobs } p i0 (off + 1) bs

/-- The active value of a parameter: what running blocks read (R102, R123). -/
def State.par (s : State) (p : Param) (i0 : Nat) : Nat := s.dict.active.int s.pkg.part p i0

/-- Active bytes of a blob. -/
def State.parBlob (s : State) (p : Param) (i0 off n : Nat) : Bytes := s.dict.active.blob p i0 off n

/-- A bool parameter of the active set. -/
def State.parFlag (s : State) (p : Param) (i0 : Nat) : Bool := s.par p i0 ≠ 0

/-- R97: the modulus of a counter of the parameter's width. -/
def Param.modulus (p : Param) : Nat := 256 ^ p.ty.maxLen

/-- A counter or stored value of kind RO. -/
def State.roVal (s : State) (p : Param) (i0 : Nat) : Nat := tgetD s.ro (p.key i0) 0

/-- Raise a counter by `n`, modulo its width. -/
def State.count (s : State) (p : Param) (i0 n : Nat) : State :=
  { s with ro := tput 0 (p.key i0) ((s.roVal p i0 + n) % p.modulus) s.ro }

/-- Raise a counter by 1. -/
def State.bump (s : State) (p : Param) (i0 : Nat) : State := s.count p i0 1

/-- Store a value of kind RO. -/
def State.setRo (s : State) (p : Param) (i0 v : Nat) : State :=
  { s with ro := tput 0 (p.key i0) (v % p.modulus) s.ro }

/-! ### Sub-structures by number -/

def State.tenant (s : State) (t : Nat) : Tenant := tgetD s.tenants t {}
def State.setTenant (s : State) (t : Nat) (x : Tenant) : State := { s with tenants := tput {} t x s.tenants }
def State.fn (s : State) (t : Nat) : FnPages := tgetD s.fns t {}
def State.setFn (s : State) (t : Nat) (x : FnPages) : State := { s with fns := tput {} t x s.fns }
def State.host (s : State) (h : Nat) : HostPort := tgetD s.hosts h {}
def State.setHost (s : State) (h : Nat) (x : HostPort) : State := { s with hosts := tput {} h x s.hosts }
def State.attachPort (s : State) (a : Nat) : AttachPort := tgetD s.attach a {}
def State.setAttach (s : State) (a : Nat) (x : AttachPort) : State := { s with attach := tput {} a x s.attach }
def State.ring? (s : State) (k : Nat) : Option Ring := tget k s.rings
def State.setRing (s : State) (k : Nat) (r : Ring) : State := { s with rings := tset k r s.rings }
def State.delRing (s : State) (k : Nat) : State := { s with rings := terase k s.rings }
def State.conn? (s : State) (c : Nat) : Option Conn := tget c s.conns
def State.setConn (s : State) (c : Nat) (x : Conn) : State := { s with conns := tset c x s.conns }
def State.handle (s : State) (h : Nat) : Handle := tgetD s.handles h {}
def State.setHandle (s : State) (h : Nat) (x : Handle) : State := { s with handles := tput {} h x s.handles }
def State.extent (s : State) (x : Nat) : Extent := tgetD s.memory.extents x {}
def State.setExtent (s : State) (x : Nat) (e : Extent) : State :=
  { s with memory := { s.memory with extents := tput {} x e s.memory.extents } }
def State.port (s : State) (n : Nat) : Port := tgetD s.ports n {}
def State.setPort (s : State) (n : Nat) (x : Port) : State := { s with ports := tput {} n x s.ports }
def State.timePort (s : State) (n : Nat) : TimePort := tgetD s.time.ports n {}
def State.setTimePort (s : State) (n : Nat) (x : TimePort) : State :=
  { s with time := { s.time with ports := tput {} n x s.time.ports } }
def State.inc (s : State) (c : Nat) : IncRecord := tgetD s.incs c {}
def State.setInc (s : State) (c : Nat) (x : IncRecord) : State := { s with incs := tput {} c x s.incs }

/-- R587, R588, R592: requests of a tenant that its reset squashes. -/
def State.countSquashed (t n : Nat) (s : State) : State :=
  let x := s.tenant t
  match x.reset with
  | some r => (s.setTenant t { x with reset := some { r with squashed := r.squashed + n } }).count d15_0102 t n
  | none => s

/-- R727: a tower's throttle level L: the greater of P and its thermal level. -/
def State.throttle (s : State) (k : Nat) : Nat := max s.power.level (tgetD s.power.thermal k {}).level

/-- Send something out. [DESIGN CHOICE, log 3; DESIGN CHOICE, log 9] -/
def State.emit (s : State) (e : Emit) : State := { s with out := s.out ++ [e] }

/-- The next free value's number, and the state that has used it. [DESIGN CHOICE, log 8] -/
def State.takeFree (s : State) : Nat × State := (s.free, { s with free := s.free + 1 })

/-- R719: a trace record of the Oculus: kind (bit of D20.0051), tenant, and the first 16 bytes of what it records. [DESIGN CHOICE, log 96] -/
def State.trace (tower kind tenant : Nat) (bytes : Bytes) (s : State) : State :=
  if s.par d20_0050 0 = 1 ∧ natField kind 1 (s.par d20_0051 0) = 1 then
    let n := tgetD s.oculus.count tower 0
    { s with oculus := {
      count := tput 0 tower (n + 1) s.oculus.count
      recs := tset (tower * 32768 + n % 32768)
        (pack 256 [(64, s.time.now), (8, kind), (8, 0), (16, tenant), (32, 0), (128, leNat (bytes.take 16))]) s.oculus.recs } }
  else s

/-! ### Package memory (R484 to R503) -/

/-- R485: an extent index that names no memory of the part. -/
def extentAbsent (towers x : Nat) : Bool :=
  if x < 1024 then x / 128 ≥ towers || x % 128 ≥ 96
  else if x < 1536 then 2 * ((x - 1024) / 128) ≥ towers
  else true

/-- R500: the reserved extent of a tower. [DESIGN CHOICE, log 10] -/
def extentReserved (x : Nat) : Bool := x < 1024 && x % 128 = 95

/-- R485: the home tower of an extent. -/
def extentTower (x : Nat) : Nat :=
  if x < 1024 then x / 128
  else 2 * ((x - 1024) / 128) + (if (x - 1024) % 128 < 64 then 0 else 1)

/-- R484: the extent index of a package memory address. -/
def extentOf (a : Nat) : Nat := a / 1073741824

/-- R490: an entry of a set's extent table. -/
def ParamSet.extentEntry (ps : ParamSet) (x : Nat) : W64 := BitVec.ofNat 64 (leNat (ps.blob d12_0001 0 (8 * x) 8))

/-- R490: the active entry of an extent. -/
def State.extentEntry (s : State) (x : Nat) : W64 := s.dict.active.extentEntry x

/-- R490: BIND of an entry. -/
def bindOf (e : W64) : Nat := fieldNat 0 2 e
/-- R490: TENANT of an entry. -/
def bindTenant (e : W64) : Nat := fieldNat 2 11 e
/-- R490: ATTACH_PORT of an entry. -/
def bindPort (e : W64) : Nat := fieldNat 13 3 e

/-- R490: the entry binds the extent to tenant `t` (BIND 1 or 3). -/
def boundTo (e : W64) (t : Nat) : Bool := (bindOf e = 1 || bindOf e = 3) && bindTenant e = t

/-- The extents that a range touches, lowest first (R487). -/
def extentsOf (a len : Nat) : List Nat :=
  if len = 0 then [extentOf a]
  else (upTo (extentOf (a + len - 1) - extentOf a + 1)).map (· + extentOf a)

/-- R486, R491: every byte of the range lies in extents of a set bound to the tenant. -/
def ParamSet.rangeBound (ps : ParamSet) (towers t a len : Nat) : Bool :=
  a + len ≤ 2199023255552 &&
  (extentsOf a len).all (fun x => !extentAbsent towers x && boundTo (ps.extentEntry x) t)

/-- R491: a tenant's access to package memory is allowed. -/
def State.tenantMem (s : State) (t a len : Nat) : Bool := s.dict.active.rangeBound s.towers t a len

/-- R494: the BIND_GEN of the extents that a range touches. [DEDUCED, log 78] -/
def State.gensOf (s : State) (a len : Nat) : List (BitVec 8) := (extentsOf a len).map (fun x => (s.extent x).bindGen)

/-- R494, R495: a request of a tenant to package memory fails: each extent of it whose binding changed within the 2,500,000
ticks in which a request may still be on its way, and that is not bound to the tenant, counts it. [DEDUCED, log 78] -/
def State.countStale (t : Nat) (p : Place) (a n : Nat) (s : State) : State :=
  if p.space = 1 then
    (extentsOf a n).foldl (fun s x =>
      let recent := match (s.extent x).changed with | some c => s.now < c + 2500000 | none => false
      if recent && !extentAbsent s.towers x && !boundTo (s.extentEntry x) t then s.bump d12_0104 (extentTower x) else s) s
  else s

/-- R497: the 16 KiB block of an address is pending. -/
def State.blockPending (s : State) (a : Nat) : Bool :=
  let e := s.extent (extentOf a)
  let b := a % 1073741824 / 16384
  e.zeroing && e.zeroNext ≤ b && !e.clean.contains b

/-- A byte of package memory as a read returns it: pending blocks read zero (R497). [DESIGN CHOICE, log 5] -/
def State.memByte (s : State) (a : Nat) : Byte :=
  if s.blockPending a then 0 else tgetD s.memory.mem a 0

/-- The cells of 64 bytes that a range touches. -/
def cellsOf (a len : Nat) : List Nat :=
  if len = 0 then [] else (upTo ((a + len - 1) / 64 - a / 64 + 1)).map (· + a / 64)

/-- R503: a cell is poisoned; a pending block holds none. -/
def State.cellPoisoned (s : State) (cell : Nat) : Bool :=
  s.memory.poison.contains cell && !s.blockPending (cell * 64)

/-- A read of package memory: none when it meets a poisoned cell (R503). -/
def State.memRead (s : State) (a n : Nat) : Option Bytes :=
  if (cellsOf a n).any s.cellPoisoned then none
  else some ((upTo n).map (fun k => s.memByte (a + k)))

/-- R503: every poisoned cell that a read of package memory meets is counted. -/
def State.countPoison (p : Place) (a n : Nat) (s : State) : State :=
  if p.space = 1 then (cellsOf a n).foldl (fun s c => if s.cellPoisoned c then s.bump d12_0105 (extentTower (extentOf (c * 64))) else s) s
  else s

/-- R494, R503: a tenant's read has failed: stale requests and poisoned cells are counted. -/
def State.readFailed (t : Nat) (p : Place) (a n : Nat) (s : State) : State := (s.countStale t p a n).countPoison p a n

/-- Remove a run of addresses from memory: a block written with zeros. -/
def memErase (lo hi : Nat) (m : Memory) : Memory := m.filter (fun c => !(lo ≤ c.1 && c.1 < hi))

/-- R497: a write to a pending block first writes the block with zeros. -/
def State.cleanBlock (s : State) (a : Nat) : State :=
  if s.blockPending a then
    let x := extentOf a
    let e := s.extent x
    let b := a % 1073741824 / 16384
    let lo := x * 1073741824 + b * 16384
    let s := { s with memory := { s.memory with
      mem := memErase lo (lo + 16384) s.memory.mem
      poison := s.memory.poison.filter (fun c => !(lo ≤ c * 64 && c * 64 < lo + 16384)) } }
    (s.setExtent x { e with clean := e.clean ++ [b] }).bump d12_0107 (extentTower x)
  else s

/-- Store bytes into memory. -/
def memStore : Nat → Bytes → Memory → Memory
  | _, [], m => m
  | a, b :: bs, m => memStore (a + 1) bs (tput 0 a b m)

/-- The blocks of 16 KiB that a range touches, by the address of each block's first byte touched. -/
def blocksOf (a len : Nat) : List Nat :=
  if len = 0 then [] else (upTo ((a + len - 1) / 16384 - a / 16384 + 1)).map (fun k => (a / 16384 + k) * 16384)

/-- A write to package memory: none when it is answered with an error: it writes part of a poisoned cell (R503). -/
def State.memWrite (s : State) (a : Nat) (bytes : Bytes) : Option State :=
  let n := bytes.length
  let s := (blocksOf a n).foldl State.cleanBlock s
  let whole := fun c => a ≤ c * 64 && c * 64 + 64 ≤ a + n
  if (cellsOf a n).any (fun c => s.memory.poison.contains c && !whole c) then none
  else some { s with memory := { s.memory with
    mem := memStore a bytes s.memory.mem
    poison := s.memory.poison.filter (fun c => !whole c) } }

/-- R485: an address lies in memory the part has, outside reserved extents (R500). -/
def State.memExists (s : State) (a len : Nat) : Bool :=
  a + len ≤ 2199023255552 && (extentsOf a len).all (fun x => !extentAbsent s.towers x && !extentReserved x)

/-! ### Attach memory (R572, R574) -/

/-- R572: entry `g` of a set's grant table. -/
def ParamSet.grant (ps : ParamSet) (g : Nat) : Bytes := ps.blob d14_0030 0 (32 * g) 32

/-- R572: the fields of a grant: OWNER, PORT, VALID, KIND, DOORBELL, READ_ONLY, BASE, SIZE. -/
structure Grant where
  owner : Nat
  port : Nat
  valid : Bool
  peer : Bool
  doorbell : Bool
  readOnly : Bool
  base : Nat
  size : Nat
  deriving DecidableEq, Repr

/-- R572: a grant from its bytes. -/
def grantOf (b : Bytes) : Grant :=
  let f := leAt 3 1 b
  ⟨leAt 0 2 b, leAt 2 1 b % 8, f % 2 = 1, f / 2 % 2 = 1, f / 4 % 2 = 1, f / 8 % 2 = 1, leAt 8 8 b, leAt 16 8 b⟩

/-- R572: the active grants, in the table's order. -/
def ParamSet.grants (ps : ParamSet) : List Grant := (upTo 256).map (fun g => grantOf (ps.grant g))

/-- R574: a port is granted to a tenant when a valid KIND 0 entry names both. -/
def ParamSet.portGranted (ps : ParamSet) (t port : Nat) : Bool :=
  ps.grants.any (fun g => g.valid && !g.peer && g.owner = t && g.port = port)

/-- R574: the whole range lies in one window of the tenant on the port, and the window permits the access. -/
def ParamSet.attachWindow (ps : ParamSet) (t port a len : Nat) (write : Bool) : Bool :=
  ps.grants.any (fun g => g.valid && !g.peer && g.owner = t && g.port = port && g.base ≤ a &&
    a + len ≤ g.base + g.size && !(write && g.readOnly))

/-- R567: the attach port's link is up. -/
def State.attachUp (s : State) (port : Nat) : Bool :=
  (s.attachPort port).mode = .nativeUp || (s.attachPort port).mode = .cxlUp

/-! ### Power domains (R720, R723) -/

/-- R720, D20.0062: the number of a domain. -/
def domLanes (k : Nat) : Nat := 3 * k
def domAttach (k : Nat) : Nat := 3 * k + 1
def domCupola (k : Nat) : Nat := 3 * k + 2
def domTower (k : Nat) : Nat := 24 + k
def domPair (p : Nat) : Nat := 32 + p

/-- A domain. -/
def State.domain (s : State) (d : Nat) : Domain := tgetD s.power.domains d {}

/-- R723: the domain is CLOSING or CLOSED. -/
def State.domShut (s : State) (d : Nat) : Bool := (s.domain d).mode = .closing || (s.domain d).mode = .closed

/-- R720: the domains that an extent's memory needs: its home tower, and its pair's tier-2 memory. -/
def extentDomains (x : Nat) : List Nat :=
  domTower (extentTower x) :: (if x ≥ 1024 then [domPair ((x - 1024) / 128)] else [])

/-- R725: a memory request to a range of a place reaches a CLOSED domain. -/
def State.placeClosed (s : State) (p : Place) (a len : Nat) : Bool :=
  let closed := fun (d : Nat) => (s.domain d).mode = DomainMode.closed
  if p.space = 0 then false
  else if p.space = 1 then (extentsOf a len).any (fun x => (extentDomains x).any (fun d => closed d))
  else closed (domAttach p.port) || closed (domTower p.port)

/-- R720: an extent lies in a domain that is CLOSING or CLOSED: its home tower, or its pair's tier-2 memory. -/
def State.extentShut (s : State) (x : Nat) : Bool := (extentDomains x).any s.domShut

/-- R723: an access to a range of a place needs a domain that is CLOSING or CLOSED. -/
def State.placeShut (s : State) (p : Place) (a len : Nat) : Bool :=
  if p.space = 0 then false
  else if p.space = 1 then (extentsOf a len).any s.extentShut
  else s.domShut (domAttach p.port) || s.domShut (domTower p.port)

/-! ### Places that work reads and writes (R231) -/

/-- R231: the range lies in the space, for the tenant: package memory by binding, attach memory by grant; host memory
has no limit the adapter knows. -/
def State.placeOk (s : State) (t : Nat) (p : Place) (a len : Nat) (write : Bool) : Bool :=
  if p.space = 0 then true
  else if p.space = 1 then s.tenantMem t a len
  else s.dict.active.attachWindow t p.port a len write

/-- R587: from the start of a tenant's reset, no new request is issued to the host memory behind its host port. -/
def State.hostBarred (s : State) (t : Nat) (p : Place) : Bool := p.space = 0 && (s.tenant t).mode = .resetting

/-- A write by the adapter for a tenant: none when it is answered with an error, or not issued (R587). Writes to host memory
are posted. [DESIGN CHOICE, log 3; DEDUCED, log 72] -/
def State.placeWrite (s : State) (t : Nat) (p : Place) (a : Nat) (bytes : Bytes) : Option State :=
  if s.hostBarred t p then none
  else if p.space = 0 then some (s.emit (.hostWrite (tenantHost t) p.pasid a bytes))
  else if s.placeClosed p a bytes.length then none
  else if p.space = 1 then (if s.tenantMem t a bytes.length then s.memWrite a bytes else none)
  else if s.attachUp p.port && s.dict.active.attachWindow t p.port a bytes.length true then
    some (s.emit (.attachWrite p.port a bytes))
  else none

/-- What a read returns: package memory from the block's own memory, other memory from the answer. [DESIGN CHOICE, log 3] -/
def State.placeRead (s : State) (t : Nat) (p : Place) (a n : Nat) (ans : MemAns) : Option Bytes :=
  match ans with
  | .data bytes =>
    if s.placeClosed p a n then none
    else if p.space = 1 then (if s.tenantMem t a n then s.memRead a n else none) else some (slice 0 n bytes)
  | .error => none
  | .timeout => none

/-! ### Location codes (R49 to R51) -/

/-- R49: a location code; fields finer than LEVEL are zero (R50). -/
def location (level scope tower pair slice bank array cell : Nat) : W64 :=
  pack 64 [(3, level), (2, scope), (3, if scope = 0 then tower else 0),
    (2, if scope = 0 then tower / 2 else if scope = 1 then pair else 0), (6, 0),
    (4, if level ≤ 4 then slice else 0), (8, if level ≤ 3 then bank else 0),
    (12, if level ≤ 2 then array else 0), (24, if level ≤ 1 then cell else 0)]

/-- R488, R489: the location code of the cell at a package memory address. -/
def cellLocation (a : Nat) : W64 :=
  let x := extentOf a
  if x < 1024 then
    let o := a % 137438953472
    location 1 0 (x / 128) 0 (natField 6 3 o) (natField 9 5 o) (o / 16384 / 16384) (o / 16384 % 16384)
  else
    let p := (x - 1024) / 128
    let u := natField 36 1 a
    let h := natField 0 36 a
    location 1 1 0 p (4 * u + natField 6 2 h) (natField 8 4 h) (h / 4096 / 4096) (h / 4096 % 4096)

/-- The location code of a slice of a tower. -/
def sliceLocation (tower slice : Nat) : W64 := location 4 0 tower 0 slice 0 0 0

/-! ### MSI-X (R556) -/

/-- The key of a function's vector. -/
def msixKey (t v : Nat) : Nat := t * 4096 + v

/-- R165, R587, PCIe: a vector is raised: the message leaves, or a masked vector keeps its pending bit. No message leaves
for a tenant that is being reset. [PRESUMED, log 73] -/
def State.raiseMsix (s : State) (t v : Nat) : State :=
  let x := tgetD s.msix (msixKey t v) {}
  if (s.tenant t).mode = .resetting then s
  else if x.masked then { s with msix := tput {} (msixKey t v) { x with pending := true } s.msix }
  else s.emit (.msix t v)

/-- R561: the conditions reported through AER, in the order of the table. -/
inductive AerKind where
  | fatalFault | halt | belfry | windowRead | completionTimeout | poisoned | corrected
  deriving DecidableEq, Repr

/-- R561: the number of a condition. -/
def AerKind.code : AerKind → Nat
  | .fatalFault => 0 | .halt => 1 | .belfry => 2 | .windowRead => 3 | .completionTimeout => 4 | .poisoned => 5 | .corrected => 6

/-- Report an error of a function through AER. -/
def State.aer (fn : Nat) (k : AerKind) (s : State) : State := s.emit (.aer fn k.code (k = .fatalFault))

/-! ### Fault logs (R706, R707, R715 to R717) -/

/-- R715: the sources of a fault-log entry. -/
inductive FaultSource where
  | memory | ring | connection | backing | bridge | mover | cupola | host | attach | config | power | thermal
  deriving DecidableEq, Repr

/-- R715: the code of a source. -/
def FaultSource.code : FaultSource → Nat
  | .memory => 1 | .ring => 2 | .connection => 3 | .backing => 4 | .bridge => 5 | .mover => 6
  | .cupola => 7 | .host => 8 | .attach => 9 | .config => 10 | .power => 11 | .thermal => 12

/-- R706: the severities. -/
inductive Severity where
  | corrected | tenant | package | fatal
  deriving DecidableEq, Repr

/-- R706: the code of a severity. -/
def Severity.code : Severity → Nat
  | .corrected => 0 | .tenant => 1 | .package => 2 | .fatal => 3

/-- R715: a fault-log entry. -/
def faultEntry (time : Nat) (loc : W64) (sev : Severity) (src : FaultSource) (t : Option Nat)
    (object address detail : Nat) : W512 :=
  pack 512 [(64, time), (64, loc.toNat), (8, sev.code), (8, src.code),
    (16, match t with | some t => 0x8000 + t % 2048 | none => 0), (32, object), (64, address), (32, detail)]

/-- R716: enter an entry into the package log of 1,024 entries; a FATAL entry is kept in D20.0003 (R717). -/
def State.logPackageEntry (s : State) (sev : Severity) (e : W512) : State :=
  { s with faults := { s.faults with
    log := (e :: s.faults.log).take 1024
    count := s.faults.count + 1
    lastFatal := if sev = .fatal then e else s.faults.lastFatal } }

/-- R716: enter an entry into a tenant's log of 64 entries. -/
def State.logTenantEntry (s : State) (t : Nat) (e : W512) : State :=
  let x := s.tenant t
  s.setTenant t { x with log := (e :: x.log).take 64, logCount := x.logCount + 1 }

/-! ### Event rings (R708 to R714) -/

/-- R708: the fields of a tenant's event ring descriptor. -/
structure EventDesc where
  base : Nat
  log2 : Nat
  space : Nat
  port : Nat
  enable : Bool
  msix : Bool
  pasid : Nat
  deriving DecidableEq, Repr

/-- R708: a descriptor from its 32 bytes; the PASID is plus one, 0 without. -/
def eventDescOf (b : Bytes) : EventDesc :=
  let sp := leAt 9 1 b
  let fl := leAt 10 1 b
  let pa := leAt 12 4 b
  ⟨leAt 0 8 b, leAt 8 1 b, sp % 4, sp / 4 % 8, fl % 2 = 1, fl / 2 % 2 = 1,
    if natField 20 1 pa = 1 then natField 0 20 pa + 1 else 0⟩

/-- R708: a tenant's descriptor as it stands. -/
def State.eventDesc (s : State) (t : Nat) : EventDesc := eventDescOf (s.parBlob d20_0020 t 0 32)

/-- R713: an event entry of 32 bytes. -/
def eventEntry (cls reason : Nat) (stamp : BitVec 32) (object time loc detail : Nat) (lost : Bool) : BitVec 256 :=
  pack 256 [(8, cls), (8, reason), (16, stamp.toNat), (32, object), (64, time), (64, loc), (32, detail),
    (8, if lost then 1 else 0)]

/-- R712: an event that finds the ring full, stopped or in ERROR is dropped and counted, and LOST becomes pending. -/
def State.dropEvent (s : State) (t : Nat) : State :=
  let x := s.tenant t
  (s.setTenant t { x with events := { x.events with lost := true } }).bump d20_0200 t

/-- R712, R713: write an event to a tenant's ring, or drop it. A failed write puts the ring in ERROR and is logged in
the tenant's fault log with SOURCE RING (R710). [DESIGN CHOICE, log 102] -/
def State.event (s : State) (t cls reason object loc detail : Nat) : State :=
  let x := s.tenant t
  let d := s.eventDesc t
  let ev := x.events
  if ev.mode ≠ .running || serialDiff ev.produced ev.consumed ≥ 2 ^ d.log2 then s.dropEvent t
  else
    let e := eventEntry cls reason ev.produced object s.now loc detail ev.lost
    let a := d.base + 32 * (ev.produced.toNat % 2 ^ d.log2)
    match s.placeWrite t ⟨d.space, d.port, d.pasid⟩ a (bytesOf 32 e) with
    | some s' =>
      let x' := s'.tenant t
      let s' := s'.setTenant t { x' with events := { ev with
        produced := ev.produced + 1, lost := false, notified := ev.notified || d.msix } }
      if d.msix && !ev.notified then s'.raiseMsix t 0 else s'
    | none =>
      (s.setTenant t { x with events := { ev with mode := .error } }).logTenantEntry t
        (faultEntry s.now 0 .tenant .ring (some t) 0xFFFFF a 0)

/-- R714: an event of the package goes to tenants 0 and 1,024. [DESIGN CHOICE, log 102] -/
def State.packageEvent (s : State) (cls reason object loc detail : Nat) : State :=
  (s.event 0 cls reason object loc detail).event 1024 cls reason object loc detail

/-- R706, R707: log a fault by its severity. A TENANT fault goes to its tenant's log, and to the package log too when
it names a location of LEVEL 4 or coarser; one that names no tenant has severity PACKAGE. [DESIGN CHOICE, log 102] -/
def State.logFault (s : State) (sev : Severity) (src : FaultSource) (loc : W64) (t : Option Nat)
    (object address detail : Nat) : State :=
  let s := s.trace (fieldNat 5 3 loc % s.towers) 5 (t.getD 0) (bytesOf 64 (faultEntry s.now loc sev src t object address detail))
  match sev, t with
  | .tenant, some t =>
    let e := faultEntry s.now loc .tenant src (some t) object address detail
    let s := s.logTenantEntry t e
    if fieldNat 0 3 loc ≥ 4 then s.logPackageEntry .tenant e else s
  | .corrected, t => s.logPackageEntry .corrected (faultEntry s.now loc .corrected src t object address detail)
  | sev, t =>
    let sev := if sev = .tenant then .package else sev
    let n := s.faults.count
    let s := s.logPackageEntry sev (faultEntry s.now loc sev src t object address detail)
    s.packageEvent 0x0A 0x01 n.toNat loc.toNat sev.code

/-- The three outcomes; every meaning answers next (see Faults in INVENTORY.md). [DESIGN CHOICE, log 2] -/
abbrev Outcome := Host.Outcome State Fault Refusal

end Sys2Proof.Machine
end

