-- ==== Sys2Proof/Machine/Belfry.lean ====
section
/-! DEFINITION. The Belfry (R626 to R646): mailboxes, doorbell bits and semaphores, and what a master's reset does to
them. Masters are 1 H0, 2 H1, 3 firmware, 4 the management agent. -/
namespace Sys2Proof.Machine

/-- R626: the incarnation of a master. -/
def State.masterInc (s : State) (m : Nat) : BitVec 16 :=
  if m = 1 then (s.tenant 0).inc
  else if m = 2 then (s.tenant 1024).inc
  else if m = 3 then BitVec.ofNat 16 (s.roVal d17_0002 0)
  else if m = 4 then BitVec.ofNat 16 (s.roVal d17_0003 0)
  else 0

/-- R626: the tenant of a master that is a PF. -/
def masterPf (m : Nat) : Option Nat := if m = 1 then some 0 else if m = 2 then some 1024 else none

/-- R627: a master reaches a tower's Belfry: the tower is present, and a PF takes accesses to its BAR0 (R579). -/
def State.belfryOpen (s : State) (tower m : Nat) : Bool :=
  tower < s.towers && 1 ≤ m && m ≤ 4 &&
  (match masterPf m with
   | some t => s.pkg.phase = .running && ((s.tenant t).mode = .active || (s.tenant t).mode = .frozen)
   | none => s.pkg.phase ≠ .held && s.pkg.phase ≠ .supplyHold)

def State.belfryAt (s : State) (tower : Nat) : BelfryTower := tgetD s.belfry tower {}
def State.setBelfry (s : State) (tower : Nat) (b : BelfryTower) : State := { s with belfry := tput {} tower b s.belfry }
def State.mailbox (s : State) (tower m : Nat) : Mailslot := tgetD (s.belfryAt tower).boxes m {}
def State.setMailbox (s : State) (tower m : Nat) (x : Mailslot) : State :=
  let b := s.belfryAt tower
  s.setBelfry tower { b with boxes := tput {} m x b.boxes }

/-! ### Configuration (R630, R632) -/

/-- R630: a mailbox's configuration in a set. -/
def ParamSet.boxConfig (ps : ParamSet) (tower m : Nat) : Nat := leNat (ps.blob d17_0001 tower (2 * m) 2)
/-- R630: RECEIVER. -/
def boxReceiver (c : Nat) : Nat := natField 0 3 c
/-- R630: master `m` is in SENDERS. -/
def boxSender (c m : Nat) : Bool := 1 ≤ m && m ≤ 4 && natField (3 + m) 1 c = 1
/-- R630: POST_EVT and ACK_EVT. -/
def boxPostEvt (c : Nat) : Bool := natField 8 1 c = 1
def boxAckEvt (c : Nat) : Bool := natField 9 1 c = 1

/-- The active configuration of a mailbox. -/
def State.boxConfig (s : State) (tower m : Nat) : Nat := s.dict.active.boxConfig tower m

/-! ### Notices (R637) -/

/-- R637: a notice: to a PF an event of class BELFRY, to firmware and the management agent an internal interrupt. [DESIGN CHOICE, log 84] -/
def State.belfryNotice (master reason tower box value : Nat) (s : State) : State :=
  match masterPf master with
  | some t => s.event t 0x09 reason (Sys2Proof.Config.belfryObject tower box).toNat 0 value
  | none => if master = 3 || master = 4 then s.emit (.interrupt master reason tower (if reason = 3 then value else box)) else s

/-- R637: STATE of a mailbox changes to ACKED or RESET. -/
def State.ackNotice (tower box : Nat) (s : State) : State :=
  if boxAckEvt (s.boxConfig tower box) then s.belfryNotice (s.mailbox tower box).sender 2 tower box 0 else s

/-! ### Accesses -/

/-- R629, R632: an access is refused and counted. -/
def State.refuseBelfry (tower : Nat) (s : State) : State := s.bump d17_0101 tower

/-- The number of a master as one that reads. -/
def belfryReader (m : Nat) : Nat := 8192 + m

/-- The answer to a read of a Belfry register. -/
def State.belfryAnswer (m v : Nat) (s : State) : State := s.emit (.readData (belfryReader m) (leBytes 8 v) false)

/-- R638: the receiver's reset runs: a PF's, until it completes. -/
def State.receiverResetting (s : State) (m : Nat) : Bool :=
  match masterPf m with
  | some t => (s.tenant t).mode = .resetting
  | none => false

/-- R633, R634, R638: a permitted write to MB_DATA. -/
def State.postMail (tower m box : Nat) (v : W64) (s : State) : State :=
  let x := s.mailbox tower box
  let c := s.boxConfig tower box
  if s.receiverResetting (boxReceiver c) then
    let t := s.setMailbox tower box { x with mode := .reset }
    if x.mode = .reset then t else t.ackNotice tower box
  else if x.full then
    let s := (s.setMailbox tower box { x with overrun := x.overrun ||| (1 <<< (m - 1)) }).bump d17_0100 tower
    match masterPf m with
    | some t => s.aer t .belfry
    | none => s.emit (.readData (belfryReader m) [] true)
  else
    let s := s.setMailbox tower box { x with
      data := v, full := true, sender := m, stale := false, senderInc := s.masterInc m, postTime := s.tag, code := 0, mode := .posted }
    if boxPostEvt c then s.belfryNotice (boxReceiver c) 1 tower box 0 else s

/-- MB_DATA_WRITE (R629, R632 to R634, R638): a master writes MB_DATA. `whole`: the access is 64 bits wide and aligned. -/
def execMbDataWrite (tower master box : Nat) (whole : Bool) (data : W64) (s : State) : Outcome :=
  if s.belfryOpen tower master && box < 16 then
    let c := s.boxConfig tower box
    if !whole || boxReceiver c = 0 || !boxSender c master then .next (s.refuseBelfry tower)
    else .next (s.postMail tower master box data)
  else .next s

/-- MB_DATA_READ (R579, R627 to R629, R632, R635, R639): a master reads MB_DATA; what it does not reach reads zero. -/
def execMbDataRead (tower master box : Nat) (whole : Bool) (s : State) : Outcome :=
  if s.belfryOpen tower master && box < 16 then
    let x := s.mailbox tower box
    if !whole || boxReceiver (s.boxConfig tower box) ≠ master then .next ((s.refuseBelfry tower).belfryAnswer master 0)
    else if x.full then
      let s := s.setMailbox tower box { x with full := false, mode := .taken }
      let s := if x.stale then s.bump d17_0103 tower else s
      .next (s.belfryAnswer master x.data.toNat)
    else .next (s.belfryAnswer master 0)
  else .next (s.belfryAnswer master 0)

/-- R628, R632: a write clears the writer's own OVERRUN bit where it writes 1. -/
def Mailslot.clearOverrun (m : Nat) (v : W64) (x : Mailslot) : Mailslot :=
  if flag (19 + m) v then { x with overrun := x.overrun &&& ~~~((1 : BitVec 4) <<< (m - 1)) } else x

/-- MB_ACK_CODE_WRITE (R628, R629, R632, R636): a master writes MB_ACK: the receiver its CODE, a sender the bit of OVERRUN
that names it. -/
def execMbAckCodeWrite (tower master box : Nat) (whole : Bool) (value : W64) (s : State) : Outcome :=
  if s.belfryOpen tower master && box < 16 then
    let x := (s.mailbox tower box).clearOverrun master value
    if !whole then .next (s.refuseBelfry tower)
    else if boxReceiver (s.boxConfig tower box) = master then
      if x.mode = .taken then
        .next ((s.setMailbox tower box { x with code := field 0 16 value, mode := .acked }).ackNotice tower box)
      else .next ((s.setMailbox tower box x).bump d17_0105 tower)
    else if flag (19 + master) value then .next (s.setMailbox tower box x)
    else .next (s.refuseBelfry tower)
  else .next s

/-! ### Doorbell bits (R641, R642) -/

/-- R642: DB_MASK of a master. -/
def BelfryTower.mask (b : BelfryTower) (m : Nat) : BitVec 32 := tgetD b.masks m 0

/-- R642: a notice of a master is due at the end of the period. -/
def BelfryTower.owe (b : BelfryTower) (m : Nat) : BelfryTower := if b.due.contains m then b else { b with due := b.due ++ [m] }

/-- DB_SET_WRITE (R629, R641, R642). -/
def execDbSetWrite (tower master : Nat) (whole : Bool) (value : BitVec 32) (s : State) : Outcome :=
  if s.belfryOpen tower master then
    if !whole then .next (s.refuseBelfry tower)
    else
      let b := s.belfryAt tower
      let new := value &&& ~~~b.pend
      let b := { b with pend := b.pend ||| value }
      .next (s.setBelfry tower ([1, 2, 3, 4].foldl (fun b m => if b.mask m &&& new = 0 then b else b.owe m) b))
  else .next s

/-- DB_PEND_WRITE (R641). -/
def execDbPendWrite (tower master : Nat) (value : BitVec 32) (s : State) : Outcome :=
  if s.belfryOpen tower master then
    let b := s.belfryAt tower
    .next (s.setBelfry tower { b with pend := b.pend &&& ~~~value })
  else .next s

/-- DB_MASK_WRITE (R642): a master writes its own mask. -/
def execDbMaskWrite (tower master : Nat) (value : BitVec 32) (s : State) : Outcome :=
  if s.belfryOpen tower master then
    let b := s.belfryAt tower
    let new := value &&& ~~~b.mask master
    let b := { b with masks := tput 0 master value b.masks }
    .next (s.setBelfry tower (if b.pend &&& new = 0 then b else b.owe master))
  else .next s

/-- R642: the notices of the period that ends, merged by master, each with the PEND value at its end. -/
def State.flushTower (tower : Nat) (s : State) : State :=
  let b := s.belfryAt tower
  (b.due.foldl (fun s m => s.belfryNotice m 3 tower 0 b.pend.toNat) s).setBelfry tower { b with due := [] }

/-- R642: the doorbell notices of every tower. -/
def State.flushDoorbells (s : State) : State :=
  (s.belfry.filter (fun e => !e.2.due.isEmpty)).foldl (fun s e => s.flushTower e.1) s

/-! ### Semaphores (R643, R644) -/

/-- A semaphore as its register reads. -/
def Sem.value (x : Sem) : Nat := packNat [(3, x.owner), (13, 0), (16, x.inc.toNat), (32, 0)]

/-- SEM_READ (R579, R627 to R629, R643): what a master does not reach reads zero. [DESIGN CHOICE, log 84] -/
def execSemRead (tower master sem : Nat) (whole : Bool) (s : State) : Outcome :=
  if s.belfryOpen tower master && sem < 32 then
    if !whole then .next ((s.refuseBelfry tower).belfryAnswer master 0)
    else
      let b := s.belfryAt tower
      let x : Sem := tgetD b.sems sem {}
      if x.owner = 0 then
        let y : Sem := { owner := master, inc := s.masterInc master }
        .next ((s.setBelfry tower { b with sems := tput {} sem y b.sems }).belfryAnswer master y.value)
      else .next (s.belfryAnswer master x.value)
  else .next (s.belfryAnswer master 0)

/-- SEM_WRITE (R629, R644). -/
def execSemWrite (tower master sem : Nat) (whole : Bool) (value : W64) (s : State) : Outcome :=
  if s.belfryOpen tower master && sem < 32 then
    let b := s.belfryAt tower
    let x : Sem := tgetD b.sems sem {}
    if whole && value = 0 && x.owner = master then .next (s.setBelfry tower { b with sems := tput {} sem {} b.sems })
    else .next (s.refuseBelfry tower)
  else .next s

/-! ### Resets of masters (R638 to R640, R642, R645) -/

/-- R638, R640: the receiver's reset of a mailbox starts. -/
def State.resetReceiver (tower box : Nat) (s : State) : State :=
  let x := s.mailbox tower box
  match x.mode with
  | .posted => ((s.setMailbox tower box { x with full := false, mode := .reset }).bump d17_0102 tower).ackNotice tower box
  | .taken => (s.setMailbox tower box { x with mode := .reset }).ackNotice tower box
  | _ => s

/-- R638, R639: a master's reset at one mailbox. -/
def State.resetBox (tower m box : Nat) (s : State) : State :=
  let x := s.mailbox tower box
  if boxReceiver (s.boxConfig tower box) = m then s.resetReceiver tower box
  else if x.sender = m && x.mode = .posted then s.setMailbox tower box { x with stale := true }
  else s

/-- R638, R639, R642, R645: a master's reset starts: its mailboxes, masks and semaphores of every tower. -/
def State.resetMaster (m : Nat) (s : State) : State :=
  (upTo s.towers).foldl (fun s k =>
    let s := (upTo 16).foldl (fun s box => s.resetBox k m box) s
    let b := s.belfryAt k
    let held := (b.sems.filter (fun e => e.2.owner = m)).length
    (s.setBelfry k { b with
      masks := terase m b.masks, sems := tfilter (fun _ x => x.owner ≠ m) b.sems }).count d17_0104 k held) s

/-- FIRMWARE_RESTART (R638): adapter firmware restarts, and D17.0002 rises. [DESIGN CHOICE, log 84] -/
def execFirmwareRestart (s : State) : Outcome := .next ((s.bump d17_0002 0).resetMaster 3)

/-- MANAGEMENT_AGENT_RESET (R638): the management agent is reset, and D17.0003 rises. [DESIGN CHOICE, log 84] -/
def execManagementAgentReset (s : State) : Outcome := .next ((s.bump d17_0003 0).resetMaster 4)

end Sys2Proof.Machine
end

