-- ==== Sys2Proof/Machine/Chain.lean ====
section
/-! DEFINITION. Work entries (R137, R220), chains and their outcomes (R17, R19, R153 to R160). -/
namespace Sys2Proof.Machine

/-! ### The work entry (R137) -/

/-- R137: the fields of a work entry. -/
def entOpcode (w : W512) : Nat := fieldNat 0 8 w
def entFlags (w : W512) : Nat := fieldNat 8 8 w
def entStamp (w : W512) : BitVec 16 := field 16 16 w
def entTarget (w : W512) : Nat := fieldNat 32 32 w
def entLocal (w : W512) : Nat := fieldNat 64 64 w
def entRemote (w : W512) : Nat := fieldNat 128 64 w
def entLength (w : W512) : Nat := fieldNat 192 32 w
def entKey (w : W512) : W32 := field 224 32 w
/-- The field of `n` bits from bit `lo` of byte `b` of the entry. -/
def entAt (b lo n : Nat) (w : W512) : Nat := fieldNat (8 * b + lo) n w
def entFirst (w : W512) : Bool := flag 8 w
def entLast (w : W512) : Bool := flag 9 w
def entSignal (w : W512) : Bool := flag 10 w
def entFence (w : W512) : Bool := flag 11 w
def entInline (w : W512) : Bool := flag 12 w
def entSpec (w : W512) : Bool := flag 13 w
/-- R221: the first `n` bytes of OPERANDS. -/
def entOperands (n : Nat) (w : W512) : Bytes := slice 32 n (bytesOf 64 w)
/-- TARGET [23:0]: the connection, channel or handle. -/
def entConn (w : W512) : Nat := fieldNat 32 24 w

/-! ### Statuses (R17, R19) -/

/-- R17: the status codes. -/
inductive Status where
  | ok | aborted | malformed | staleEntry | accessDenied | keyStale | remoteAccess | remoteNotReady | retryExhausted
  | chainLimit | busError | authFailed | poweredDown | squashed | scheduleMiss | capacityOverflow | formatRange
  | translationFault | contextLost | cancelled
  deriving DecidableEq, Repr

/-- R17: the value of a status. -/
def Status.code : Status → Nat
  | .ok => 0 | .aborted => 1 | .malformed => 2 | .staleEntry => 3 | .accessDenied => 4 | .keyStale => 5
  | .remoteAccess => 6 | .remoteNotReady => 7 | .retryExhausted => 8 | .chainLimit => 9 | .busError => 10
  | .authFailed => 11 | .poweredDown => 12 | .squashed => 13 | .scheduleMiss => 14 | .capacityOverflow => 15
  | .formatRange => 16 | .translationFault => 17 | .contextLost => 18 | .cancelled => 19

/-- R19: the precedence of a status value: STALE_ENTRY before all, then the lowest value. -/
def statusRank (v : Nat) : Nat := if v = 3 then 0 else v + 1

/-- R19: the reported one of the failing conditions a chain met, with its DETAIL. -/
def chooseFail : List (Nat × Nat) → Option (Nat × Nat)
  | [] => none
  | f :: fs =>
    match chooseFail fs with
    | none => some f
    | some g => if statusRank g.1 < statusRank f.1 then some g else some f

/-! ### Rings and slots (R134, R138) -/

/-- R134: entries in the ring. -/
def Ring.size (r : Ring) : Nat := if r.image.log2Size = 0 then 65536 else 2 ^ r.image.log2Size.toNat

/-- R134: where the ring lies. -/
def Ring.place (r : Ring) : Place :=
  ⟨r.image.space.toNat, r.image.attachPort.toNat, if r.image.pasidEn = 1 then r.image.pasid.toNat + 1 else 0⟩

/-- R138: the address of the slot of an index. -/
def Ring.slotAddr (r : Ring) (i : W32) : Nat := r.image.base.toNat + 64 * (i.toNat % r.size)

/-- R163: the code of a ring state. -/
def RingMode.code : RingMode → Nat
  | .unused => 0 | .active => 1 | .draining => 2 | .aborting => 3 | .stopped => 4 | .error => 5 | .halted => 6

/-- The tenant and the number of a ring's key. -/
def keyTenant (k : Nat) : Nat := k / 1048576
def keyRing (k : Nat) : Nat := k % 1048576

/-! ### Outcomes -/

/-- R158: a chain all of whose entries have ended is decided. -/
def Chain.settle (now : Nat) (c : Chain) : Chain :=
  if c.started && c.decided = none && c.entries.all (fun e => e.phase = .done) then { c with decided := some now } else c

/-- End a chain with a status; what it confirmed so far stands (R159, R171). -/
def Chain.finish (now status detail : Nat) (c : Chain) : Chain :=
  if c.decided.isSome then c
  else { c with
    fails := c.fails ++ [(status, detail)]
    decided := some now
    entries := c.entries.map (fun e => { e with phase := .done }) }

/-- Change the chain that begins at an index. -/
def State.modifyChain (k : Nat) (first : W32) (f : Chain → Chain) (s : State) : State :=
  match s.ring? k with
  | none => s
  | some r => s.setRing k { r with chains := r.chains.map (fun c => if c.first = first then f c else c) }

/-- Change entry `pos` of a chain. -/
def Chain.modifyEntry (pos : Nat) (f : ChainEntry → ChainEntry) (c : Chain) : Chain :=
  { c with entries := c.entries.mapIdx (fun i e => if i = pos then f e else e) }

/-- An entry begins to run. -/
def State.runEntry (e : EntryRef) (s : State) : State :=
  s.modifyChain e.ring e.first (·.modifyEntry e.pos (fun x => { x with phase := .running }))

/-- Confirmed bytes of an entry (R159). -/
def State.addBytes (e : EntryRef) (n : Nat) (s : State) : State :=
  s.modifyChain e.ring e.first (·.modifyEntry e.pos (fun x => { x with bytes := x.bytes + n }))

/-- The DETAIL that the opcode's chapter sets for a chain that completes OK. -/
def State.setDetail (e : EntryRef) (d : Nat) (s : State) : State :=
  s.modifyChain e.ring e.first (fun c => { c with detail := d })

/-- An entry ends well. -/
def State.endEntry (e : EntryRef) (s : State) : State :=
  s.modifyChain e.ring e.first (fun c =>
    if c.decided.isSome then c
    else (c.modifyEntry e.pos (fun x => { x with phase := .done })).settle s.now)

/-- An entry meets a failing condition (R19, R157). Entries of its chain that have not begun are not executed. -/
def failEntryIn (now pos status detail : Nat) (c : Chain) : Chain :=
  if c.decided.isSome then c
  else
    let c := c.modifyEntry pos (fun x => { x with phase := .done })
    ({ c with
      fails := c.fails ++ [(status, detail)]
      entries := c.entries.map (fun (x : ChainEntry) => if x.phase = EntryPhase.running then x else { x with phase := EntryPhase.done }) } : Chain).settle now

/-- An entry fails. [DEDUCED, log 47] -/
def State.failEntry (e : EntryRef) (status : Status) (detail : Nat) (s : State) : State :=
  s.modifyChain e.ring e.first (failEntryIn s.now e.pos status.code detail)

/-- A failing condition that lets the entry's work go on (FORMAT_RANGE, SCHEDULE_MISS, CAPACITY_OVERFLOW). -/
def State.noteFail (e : EntryRef) (status : Status) (detail : Nat) (s : State) : State :=
  s.modifyChain e.ring e.first (fun c =>
    if c.decided.isSome then c else { c with fails := c.fails ++ [(status.code, detail)] })

/-- The chain that begins at an index. -/
def Ring.chain? (r : Ring) (first : W32) : Option Chain := r.chains.find? (fun c => c.first = first)

/-- The entry that a reference names, while its chain is undecided. -/
def State.entry? (s : State) (e : EntryRef) : Option ChainEntry :=
  match s.ring? e.ring with
  | none => none
  | some r =>
    match r.chain? e.first with
    | some c => if c.decided.isSome then none else c.entries[e.pos]?
    | none => none

/-- R191, R253, R466, R479: a ready entry that must wait where it stands: its connection is FROZEN or its context is being
fetched; a FENCE_FLUSH behind a chain that has not completed; a CONFIRM that has begun to wait for its speculation; a
DISPATCH whose stage holds an unresolved prefetch. [DEDUCED, log 47] -/
def State.entryBlocked (s : State) (t : Nat) (head : Bool) (w : W512) : Bool :=
  let op := entOpcode w
  if 1 ≤ op ∧ op ≤ 4 then
    match s.conn? (entConn w) with
    | some x => x.ctx.core.mode = .frozen || x.cache = .fetching
    | none => false
  else if op = 0x40 then !head
  else if op = 0x32 then
    s.experts.dispatches.any (fun d => d.tenant = t && d.spec = some (field 352 32 w) && d.phase = .open_ && d.started
      && d.contribs.any (fun c => c.phase = .sent)) ||
    s.experts.prefetches.any (fun p => p.tenant = t && p.spec = some (field 352 32 w) && p.started && !p.copied)
  else if op = 0x30 ∧ entAt 39 0 8 w = 1 then
    s.experts.prefetches.any (fun p => p.tenant = t && p.stage = entAt 56 0 6 w)
  else false

/-- The first entry of a chain that is ready and need not wait. [DEDUCED, log 47] -/
def Chain.readyPos (c : Chain) (free : W512 → Bool) : Option Nat := c.entries.findIdx? (fun e => (e.phase = .ready || e.phase = .expired) && free e.word)

/-- The first such entry of the oldest started, undecided chain of a ring that has one. [DEDUCED, log 47] -/
def State.nextReady (s : State) (t : Nat) (r : Ring) : Option (Chain × Nat) :=
  let first : Option W32 := r.chains.head?.map (·.first)
  let free := fun (c : Chain) (w : W512) => !s.entryBlocked t (first = some c.first) w
  match r.chains.find? (fun c => c.started && c.decided = none && (c.readyPos (free c)).isSome) with
  | some c => (c.readyPos (free c)).map (fun p => (c, p))
  | none => none

/-- The entry that an opcode's command executes: the next ready entry of the ring, when it has the opcode. -/
def State.readyEntry (s : State) (t ring opcode : Nat) : Option (EntryRef × W512) :=
  match s.ring? (ringKey t ring) with
  | none => none
  | some r =>
    match s.nextReady t r with
    | some (c, p) =>
      match c.entries[p]? with
      | some e => if entOpcode e.word = opcode then some (⟨ringKey t ring, c.first, p⟩, e.word) else none
      | none => none
    | none => none

/-- R60: the trigger tag of an entry was expired at acceptance. -/
def State.entryExpired (s : State) (e : EntryRef) : Bool := match s.entry? e with | some x => x.phase = .expired | none => false

/-! ### Records (R158 to R160) -/

/-- R159: confirmed bytes and the sum of the LENGTH fields of a chain. -/
def Chain.bytesDone (c : Chain) : Nat := c.entries.foldl (fun a e => a + e.bytes) 0
def Chain.lengthSum (c : Chain) : Nat := c.entries.foldl (fun a e => a + entLength e.word) 0

/-- R17, R19: the chain's status and DETAIL. -/
def Chain.outcome (c : Chain) : Nat × Nat := (chooseFail c.fails).getD (0, c.detail)

/-- The word of the chain's FIRST entry. -/
def Chain.firstWord (c : Chain) : W512 := match c.entries with | e :: _ => e.word | [] => 0

/-- R164: a chain is signalled when its FIRST entry asks for it or its status is other than OK. -/
def Chain.signalled (c : Chain) : Bool := entSignal c.firstWord || c.outcome.1 ≠ 0

/-- R158: the completion record, 16 bytes. -/
def Chain.record (c : Chain) (evtMode : BitVec 2) (now : Nat) : Bytes :=
  let o := c.outcome
  let cflags := (if c.late then 1 else 0) + (if c.refetched then 2 else 0)
    + (if c.signalled && evtMode ≠ 0 then 4 else 0) + (if c.bytesDone < c.lengthSum then 8 else 0)
  leBytes 16 (packNat [(8, o.1), (8, cflags), (16, (entStamp c.firstWord).toNat), (32, min c.bytesDone 0xFFFFFFFF),
    (32, c.decided.getD now), (32, o.2)])

end Sys2Proof.Machine
end

