-- ==== Sys2Proof/Machine/Context.lean ====
section
/-! DEFINITION. The connection context as the manual lays it out (R184, R185, R296, R329, R330), the address handle
(R210), the connection ranges (R180), spray sets and ports of paths (R365 to R369). -/
namespace Sys2Proof.Machine

/-! ### Connection states -/

/-- R185: the code of a connection state. -/
def ConnMode.code : ConnMode → Nat
  | .free => 0 | .init => 1 | .ready => 2 | .frozen => 3 | .draining => 4 | .error => 5 | .quarantine => 6

/-- R185: the state of a code; the reserved code 7, which the adapter never writes, is taken as ERROR. [DEDUCED, log 55] -/
def ConnMode.ofCode : Nat → ConnMode
  | 0 => .free | 1 => .init | 2 => .ready | 3 => .frozen | 4 => .draining | 6 => .quarantine | _ => .error

/-! ### The layout of a context -/

/-- R185: words 0 to 10. -/
def Core.rows (c : Core) : List (Nat × Nat) :=
  [(24, c.conn.toNat), (8, c.incarnation.toNat), (3, c.mode.code), (1, c.cls.toNat), (1, c.cipherEn.toNat),
   (11, c.tenant.toNat), (16, c.tenantInc.toNat),
   (24, c.peerConn.toNat), (8, c.peerInc.toNat), (16, c.handle.toNat), (3, c.vc.toNat), (13, 0),
   (32, c.txNextPsn.toNat), (32, c.txUna.toNat),
   (32, c.rxNextPsn.toNat), (12, c.rootSlot.toNat), (16, c.keyEpoch.toNat), (4, 0),
   (20, c.notifyRing.toNat), (1, c.notifyEn.toNat), (11, 0), (13, c.txWindow.toNat), (3, 0), (4, c.payloadLog2.toNat),
   (12, 0), (8, c.retryCount.toNat), (8, c.retryLimit.toNat), (16, c.outstanding.toNat), (32, c.rto.toNat),
   (64, c.lastActivity.toNat), (32, c.pktsTx.toNat), (32, c.pktsRx.toNat), (32, c.retransmits.toNat),
   (32, c.duplicates.toNat), (32, c.busyNaks.toNat), (32, c.misses.toNat), (8, c.errorCause.toNat), (56, 0)]

/-- R185: the fields of words 0 to 10. -/
def Core.ofWord (x : BitVec 704) : Core where
  conn := field 0 24 x
  incarnation := field 24 8 x
  mode := .ofCode (fieldNat 32 3 x)
  cls := field 35 1 x
  cipherEn := field 36 1 x
  tenant := field 37 11 x
  tenantInc := field 48 16 x
  peerConn := field 64 24 x
  peerInc := field 88 8 x
  handle := field 96 16 x
  vc := field 112 3 x
  txNextPsn := field 128 32 x
  txUna := field 160 32 x
  rxNextPsn := field 192 32 x
  rootSlot := field 224 12 x
  keyEpoch := field 236 16 x
  notifyRing := field 256 20 x
  notifyEn := field 276 1 x
  txWindow := field 288 13 x
  payloadLog2 := field 304 4 x
  retryCount := field 320 8 x
  retryLimit := field 328 8 x
  outstanding := field 336 16 x
  rto := field 352 32 x
  lastActivity := field 384 64 x
  pktsTx := field 448 32 x
  pktsRx := field 480 32 x
  retransmits := field 512 32 x
  duplicates := field 544 32 x
  busyNaks := field 576 32 x
  misses := field 608 32 x
  errorCause := field 640 8 x

/-- R296: words 11 to 15. -/
def Delivery.rows (d : Delivery) : List (Nat × Nat) :=
  [(32, d.txMsn.toNat), (32, d.txConfMsn.toNat), (32, d.rxMsn.toNat), (32, d.rxHighMsn.toNat), (32, d.rxMsgPsn.toNat),
   (32, d.rxMsgBytes.toNat), (32, d.holdUntil.toNat), (8, d.busyStreak.toNat), (8, d.rnrCount.toNat),
   (4, d.relaxedPaths.toNat), (12, 0), (32, d.ackedTo.toNat), (16, d.unacked.toNat), (16, 0)]

/-- R296: the fields of words 11 to 15. -/
def Delivery.ofWord (x : BitVec 320) : Delivery where
  txMsn := field 0 32 x
  txConfMsn := field 32 32 x
  rxMsn := field 64 32 x
  rxHighMsn := field 96 32 x
  rxMsgPsn := field 128 32 x
  rxMsgBytes := field 160 32 x
  holdUntil := field 192 32 x
  busyStreak := field 224 8 x
  rnrCount := field 232 8 x
  relaxedPaths := field 240 4 x
  ackedTo := field 256 32 x
  unacked := field 288 16 x

/-- R329: words 0 to 5 of the RATE part. -/
def Rate.rows (r : Rate) : List (Nat × Nat) :=
  [(32, r.rate.toNat), (32, r.tokens.toNat), (64, r.lastRefill.toNat), (64, r.nextDec.toNat), (32, r.srtt.toNat),
   (32, r.incAcc.toNat), (64, r.baseEpoch.toNat), (16, r.decCount.toNat), (16, r.ceCount.toNat),
   (16, r.discarded.toNat), (16, 0)]

/-- R329: the fields of the RATE part. -/
def Rate.ofWord (x : BitVec 384) : Rate where
  rate := field 0 32 x
  tokens := field 32 32 x
  lastRefill := field 64 64 x
  nextDec := field 128 64 x
  srtt := field 192 32 x
  incAcc := field 224 32 x
  baseEpoch := field 256 64 x
  decCount := field 320 16 x
  ceCount := field 336 16 x
  discarded := field 352 16 x

/-- R330: one per-path record. -/
def PathRec.rows (p : PathRec) : List (Nat × Nat) :=
  [(16, p.baseDelay.toNat), (12, p.qdelay.toNat), (8, p.weight.toNat), (2, p.pstate.toNat), (1, p.lossRecent.toNat),
   (15, p.swrr.toNat), (10, p.pruneEnd.toNat)]

/-- R330: the fields of a per-path record. -/
def PathRec.ofWord (x : W64) : PathRec where
  baseDelay := field 0 16 x
  qdelay := field 16 12 x
  weight := field 28 8 x
  pstate := field 36 2 x
  lossRecent := field 38 1 x
  swrr := field 39 15 x
  pruneEnd := field 54 10 x

/-- R184: a context as its 2,048 bytes. -/
def Ctx.bytes (c : Ctx) : Bytes :=
  leBytes 88 (packNat c.core.rows) ++ leBytes 40 (packNat c.delivery.rows) ++ List.replicate 128 0
    ++ leBytes 48 (packNat c.rate.rows) ++ List.replicate 208 0
    ++ bytesOf 512 c.rxMap ++ bytesOf 512 c.txMap
    ++ (c.paths.take 64).flatMap (fun p => leBytes 8 (packNat p.rows))

/-- R184: the context that 2,048 bytes hold. -/
def Ctx.ofBytes (b : Bytes) : Ctx where
  core := .ofWord (BitVec.ofNat 704 (leAt 0 88 b))
  delivery := .ofWord (BitVec.ofNat 320 (leAt 88 40 b))
  rate := .ofWord (BitVec.ofNat 384 (leAt 256 48 b))
  rxMap := BitVec.ofNat 4096 (leAt 512 512 b)
  txMap := BitVec.ofNat 4096 (leAt 1024 512 b)
  paths := (upTo 64).map (fun p => .ofWord (BitVec.ofNat 64 (leAt (1536 + 8 * p) 8 b)))

/-! ### Address handles (R210) -/

/-- R210: a handle as its 64 bytes. -/
def Handle.word (h : Handle) : W512 :=
  pack 512 [(16, h.peerAdapter.toNat), (8, h.encap.toNat), (1, h.valid.toNat), (1, h.rebound.toNat), (6, 0),
    (11, h.tenant.toNat), (5, 0), (16, h.spraySet.toNat), (48, h.peerMac.toNat), (16, 0), (128, h.peerIpv6.toNat),
    (32, h.peerTag.toNat), (24, h.mapOld.toNat), (8, 0), (24, h.mapNew.toNat), (8, 0), (32, h.mapCount.toNat),
    (32, h.rebindSeq.toNat), (6, h.dscp.toNat), (2, 0), (24, 0), (64, h.rebindTime.toNat)]

/-- R210: the handle that 64 bytes hold. -/
def Handle.ofWord (x : W512) : Handle where
  peerAdapter := field 0 16 x
  encap := field 16 8 x
  valid := field 24 1 x
  rebound := field 25 1 x
  tenant := field 32 11 x
  spraySet := field 48 16 x
  peerMac := field 64 48 x
  peerIpv6 := field 128 128 x
  peerTag := field 256 32 x
  mapOld := field 288 24 x
  mapNew := field 320 24 x
  mapCount := field 352 32 x
  rebindSeq := field 384 32 x
  dscp := field 416 6 x
  rebindTime := field 448 64 x

/-- R210, R211: the reserved fields of a handle are zero. -/
def handleReservedZero (x : W512) : Bool :=
  fieldNat 26 6 x = 0 && fieldNat 43 5 x = 0 && fieldNat 112 16 x = 0 && fieldNat 312 8 x = 0 &&
  fieldNat 344 8 x = 0 && fieldNat 422 26 x = 0

/-! ### Connection ranges (R180, R182) -/

/-- R180: one range descriptor; the PASID is plus one, 0 without. -/
structure ConnRange where
  first : Nat
  count : Nat
  backing : Nat
  valid : Bool
  pasid : Nat
  spill : Nat
  deriving DecidableEq, Repr

/-- R180: a descriptor from its 32 bytes. -/
def connRangeOf (b : Bytes) : ConnRange :=
  let pa := leAt 12 4 b
  ⟨leAt 0 3 b, leAt 4 4 b, leAt 8 1 b, leAt 9 1 b % 2 = 1, if natField 20 1 pa = 1 then natField 0 20 pa + 1 else 0,
    leAt 16 8 b⟩

/-- R180: the eight descriptors of a tenant in a set. -/
def ParamSet.connRanges (ps : ParamSet) (t : Nat) : List ConnRange :=
  (upTo 8).map (fun k => connRangeOf (ps.blob d5_8000 t (32 * k) 32))

/-- R180: the valid range of a tenant in which a connection number lies. -/
def ParamSet.rangeOf (ps : ParamSet) (t c : Nat) : Option ConnRange :=
  (ps.connRanges t).find? (fun r => r.valid && r.first ≤ c && c < r.first + r.count)

/-- R188, R191: the connection number lies in a valid range of the tenant. -/
def State.ownsConn (s : State) (t c : Nat) : Bool := (s.dict.active.rangeOf t c).isSome

/-! ### Spray sets and ports (R365 to R369, R386, R389) -/

/-- R367: the fields of a port-list entry. -/
structure PortEntry where
  port : Nat
  dateline : Bool
  down : Bool
  hops : Nat
  deriving DecidableEq, Repr

/-- R367: a port-list entry from its 16 bits. -/
def portEntryOf (v : Nat) : PortEntry :=
  ⟨natField 0 6 v, natField 6 1 v = 1, natField 7 1 v = 1, natField 8 4 v⟩

/-- R367: entry `i` of a set's port list. -/
def ParamSet.portEntry (ps : ParamSet) (i : Nat) : PortEntry := portEntryOf (leNat (ps.blob d9_0013 0 (2 * i) 2))

/-- R365: a spray set. -/
structure SpraySet where
  dst : Nat
  count : Nat
  valid : Bool
  list : Nat
  deriving DecidableEq, Repr

/-- R365: a spray set from its 8 bytes. -/
def spraySetOf (b : Bytes) : SpraySet := ⟨leAt 0 2 b, leAt 2 1 b, leAt 3 1 b % 2 = 1, leAt 4 2 b⟩

/-- R365: entry `i` of a set's spray sets; none when it is not in use. -/
def ParamSet.spraySet (ps : ParamSet) (part : Part) (i : Nat) : Option SpraySet :=
  if i < ps.int part d9_0010 0 then some (spraySetOf (ps.blob d9_0011 0 (8 * i) 8)) else none

/-- R369: the spray set that a handle may use. -/
def State.sprayOf (s : State) (h : Handle) : Option SpraySet :=
  match s.dict.active.spraySet s.pkg.part h.spraySet.toNat with
  | some x => if x.valid && x.dst = h.peerAdapter.toNat then some x else none
  | none => none

/-- R386: a port can carry fabric traffic. -/
def State.carries (s : State) (n : Nat) : Bool :=
  let p := s.port n
  p.mode = .up && (p.modeCode ≠ 0x10 || p.peerReady)

/-- R369, R386, R390: path `p` of a handle's spray set is DOWN. -/
def State.pathIsDown (s : State) (x : SpraySet) (p : Nat) : Bool :=
  let e := s.dict.active.portEntry (x.list + p)
  e.down || !s.carries e.port || (tget (x.dst * 64 + p) s.fwd.pathDown).isSome

/-- R331: the record of a path that enters the spray set. -/
def State.freshPath (s : State) : PathRec := { weight := BitVec.ofNat 8 (s.par d8_0022 0), pstate := 1 }

/-- R369, R386, R390: path `p` of a dome context is DOWN. -/
def State.ctxPathDown (s : State) (x : Ctx) (p : Nat) : Bool :=
  x.core.cls = 0 && (match s.sprayOf (s.handle x.core.handle.toNat) with | some h => p < h.count && s.pathIsDown h p | none => false)

/-- R330, R386: the records as a context shows them: a path that is DOWN shows it. -/
def State.shownPaths (s : State) (x : Ctx) : List PathRec :=
  x.paths.mapIdx (fun p r => if r.pstate ≠ 0 && s.ctxPathDown x p then { r with pstate := 3 } else r)

/-- R331: a context that returns to the cache: a record that shows DOWN holds nothing else, and takes the reset values once the
path is offered again. -/
def State.returnedPaths (s : State) (x : Ctx) : Ctx := { x with paths := x.paths.map (fun r => if r.pstate = 3 then s.freshPath else r) }

/-- R330: the record of a path beyond the spray set. -/
def unusedPath : PathRec := { pstate := 0 }

/-- R184: the records of a spire connection are zero. -/
def zeroPath : PathRec := ⟨0, 0, 0, 0, 0, 0, 0⟩

/-- R331: the records at CREATE. -/
def State.freshPaths (s : State) (h : Handle) : List PathRec :=
  let n := match s.sprayOf h with | some x => x.count | none => 0
  (upTo 64).map (fun p => if p < n then s.freshPath else unusedPath)

/-- R185: the largest payload of a connection's packets. -/
def Core.payload (c : Core) : Nat := if c.payloadLog2 = 0 then 4096 else 2 ^ c.payloadLog2.toNat

end Sys2Proof.Machine
end

