-- ==== Sys2Proof/Machine/Crypto.lean ====
section
/-! DEFINITION. The standards the manual names: CRC-64 (R265), SHAKE256 and KMAC256 (FIPS 202, SP 800-185), AES-256
(FIPS 197), GCM (SP 800-38D) and XTS (IEEE 1619). -/
namespace Sys2Proof.Machine

/-- Byte by byte exclusive or, of the shorter length. -/
def xorBytes (a b : Bytes) : Bytes := List.zipWith (· ^^^ ·) a b

/-- Apply `f` n times. -/
def iter (f : α → α) : Nat → α → α
  | 0, x => x
  | n + 1, x => iter f n (f x)

/-! ### CRC-64 (R265) -/

/-- One bit of the reflected CRC. -/
def crcBit (c : W64) : W64 := if c.getLsbD 0 then (c >>> 1) ^^^ 0xC96C5795D7870F42#64 else c >>> 1

/-- One byte of the reflected CRC. -/
def crcByte (c : W64) (b : Byte) : W64 := iter crcBit 8 (c ^^^ b.setWidth 64)

/-- R265: CRC-64 with the polynomial 0x42F0_E1EB_A9EA_3693, initial value and final XOR all ones, reflected. [PRESUMED, log 20] -/
def crc64 (bs : Bytes) : W64 := ~~~(bs.foldl crcByte (BitVec.allOnes 64))

/-! ### Keccak (FIPS 202) -/

/-- Word `i` of a state of 25 words. -/
def kw (st : List W64) (i : Nat) : W64 := st.getD i 0

/-- FIPS 202: the rotation offsets, by x + 5y. -/
def kRot : List Nat :=
  [0, 1, 62, 28, 27, 36, 44, 6, 55, 20, 3, 10, 43, 25, 39, 41, 45, 15, 21, 8, 18, 2, 61, 56, 14]

/-- FIPS 202: one round of Keccak-f[1600]. -/
def kRound (st : List W64) (rc : W64) : List W64 :=
  let c := (upTo 5).map (fun x => kw st x ^^^ kw st (x + 5) ^^^ kw st (x + 10) ^^^ kw st (x + 15) ^^^ kw st (x + 20))
  let d := (upTo 5).map (fun x => kw c ((x + 4) % 5) ^^^ (kw c ((x + 1) % 5)).rotateLeft 1)
  let a := (upTo 25).map (fun i => (kw st i ^^^ kw d (i % 5)).rotateLeft (kRot.getD i 0))
  -- B[y, 2x + 3y] = A[x, y]: the source of position (X, Y) is x = X + 3Y, y = X.
  let b := (upTo 25).map (fun i => let x := (i % 5 + 3 * (i / 5)) % 5; kw a (x + 5 * (i % 5)))
  let e := (upTo 25).map (fun i =>
    let y := 5 * (i / 5)
    kw b i ^^^ (~~~(kw b (y + (i + 1) % 5)) &&& kw b (y + (i + 2) % 5)))
  match e with
  | h :: t => (h ^^^ rc) :: t
  | [] => []

/-- FIPS 202: the round constants. -/
def kConsts : List W64 :=
  [0x0000000000000001, 0x0000000000008082, 0x800000000000808A, 0x8000000080008000, 0x000000000000808B,
   0x0000000080000001, 0x8000000080008081, 0x8000000000008009, 0x000000000000008A, 0x0000000000000088,
   0x0000000080008009, 0x000000008000000A, 0x000000008000808B, 0x800000000000008B, 0x8000000000008089,
   0x8000000000008003, 0x8000000000008002, 0x8000000000000080, 0x000000000000800A, 0x800000008000000A,
   0x8000000080008081, 0x8000000000008080, 0x0000000080000001, 0x8000000080008008]

/-- FIPS 202: Keccak-f[1600]. -/
def keccakF (st : List W64) : List W64 := kConsts.foldl kRound st

/-- Absorb one block of 136 bytes. -/
def kAbsorb (st : List W64) (block : Bytes) : List W64 :=
  keccakF ((upTo 25).map (fun i => if i < 17 then kw st i ^^^ BitVec.ofNat 64 (leAt (8 * i) 8 block) else kw st i))

/-- Absorb a padded message, block by block. -/
def kAbsorbAll : Nat → List W64 → Bytes → List W64
  | 0, st, _ => st
  | n + 1, st, m => kAbsorbAll n (kAbsorb st (m.take 136)) (m.drop 136)

/-- Squeeze blocks of 136 bytes. -/
def kSqueeze : Nat → List W64 → Bytes
  | 0, _ => []
  | n + 1, st => (st.take 17).flatMap (bytesOf 8) ++ kSqueeze n (keccakF st)

/-- The sponge of rate 1,088 bits: the domain bits `suffix` and the padding follow the message. -/
def sponge (suffix : Byte) (m : Bytes) (n : Nat) : Bytes :=
  let z := 135 - m.length % 136
  let padded := if z = 0 then m ++ [suffix ||| 0x80] else m ++ [suffix] ++ List.replicate (z - 1) 0 ++ [0x80]
  (kSqueeze ((n + 135) / 136) (kAbsorbAll (padded.length / 136) (List.replicate 25 0) padded)).take n

/-- FIPS 202: SHAKE256. [PRESUMED, log 20] -/
def shake256 (m : Bytes) (n : Nat) : Bytes := sponge 0x1F m n

/-- The bytes of a number, highest first, without leading zeros (at least one byte), of at most `k` bytes. -/
def minBytes (k v : Nat) : Bytes :=
  let bs := (beBytes k v).dropWhile (· == 0)
  if bs.isEmpty then [0] else bs

/-- SP 800-185: left_encode, right_encode, encode_string. -/
def leftEncode (v : Nat) : Bytes := let b := minBytes 8 v; BitVec.ofNat 8 b.length :: b
def rightEncode (v : Nat) : Bytes := let b := minBytes 8 v; b ++ [BitVec.ofNat 8 b.length]
def encodeString (s : Bytes) : Bytes := leftEncode (8 * s.length) ++ s

/-- SP 800-185: bytepad to 136 bytes. -/
def bytepad (x : Bytes) : Bytes :=
  let y := leftEncode 136 ++ x
  y ++ List.replicate ((136 - y.length % 136) % 136) 0

/-- SP 800-185: KMAC256 with an output of `n` bytes. [PRESUMED, log 20] -/
def kmac256 (key x : Bytes) (n : Nat) (s : Bytes) : Bytes :=
  sponge 0x04 (bytepad (encodeString [0x4B, 0x4D, 0x41, 0x43] ++ encodeString s) ++ bytepad (encodeString key) ++ x
    ++ rightEncode (8 * n)) n

/-! ### AES-256 (FIPS 197) -/

/-- FIPS 197: the S-box. -/
def sbox (b : Byte) : Byte :=
  let k := b.toNat
  if k < 64 then BitVec.ofNat 8 (0x75B227EBE28012079A059618C323C7041531D871F1E5A534CCF73F362693FDB7C072A49CAFA2D4ADF04759FA7DC982CA76ABD7FE2B670130C56F6BF27B777C63 / 256 ^ k)
  else if k < 128 then BitVec.ofNat 8 (0xD2F3FF1021DAB6BCF5389D928F40A351A89F3C507F02F94585334D43FBAAEFD0CF584C4A39BECB6A5BB1FC20ED00D153842FE329B3D63B52A05A6E1B1A2C8309 / 256 ^ (k - 64))
  else if k < 192 then BitVec.ofNat 8 (0x08AE7A65EAF4566CA94ED58D6D37C8E779E4959162ACD3C25C2406490A3A32E0DB0B5EDE14B8EE4688902A22DC4F816073195D643D7EA7C41744975FEC130CCD / 256 ^ (k - 128))
  else BitVec.ofNat 8 (0x16BB54B00F2D99416842E6BF0D89A18CDF2855CEE9871E9B948ED9691198F8E19E1DC186B95735610EF6034866B53E708A8BBD4B1F74DDE8C6B4A61C2E2578BA / 256 ^ (k - 192))

/-- FIPS 197: the inverse S-box. -/
def invSbox (b : Byte) : Byte :=
  let k := b.toNat
  if k < 64 then BitVec.ofNat 8 (0x25D18B6D49A25B76B224D92866A12E084EC3FA420B954CEE3D23C2A632947B54CBE9DEC444438E3487FF2F9B8239E37CFBD7F3819EA340BF38A53630D56A0952 / 256 ^ k)
  else if k < 128 then BitVec.ofNat 8 (0x6B8A130103BDAFC1020F3FCA8F1E2CD00645B3B80558E4F70AD3BC8C00ABD890849D8DA75746155EDAB9EDFD5048706C92B6655DCC5CA4D41698688664F6F872 / 256 ^ (k - 64))
  else if k < 192 then BitVec.ofNat 8 (0xF45ACD78FEC0DB9A2079D2C64B3E56FC1BBE18AA0E62B76F89C5291D711AF1476EDF751CE837F9E28535ADE72274AC9673E6B4F0CECFF297EADC674F4111913A / 256 ^ (k - 128))
  else BitVec.ofNat 8 (0x7D0C2155631469E126D677BA7E042B17619953833CBBEBC8B0F52AAE4D3BE0A0EF9CC9939F7AE52D0D4AB519A97F51605FEC8027591012B131C7078833A8DD1F / 256 ^ (k - 192))

/-- Multiplication by x in GF(2^8). -/
def xtime (b : Byte) : Byte := if b.getLsbD 7 then (b <<< 1) ^^^ 0x1B else b <<< 1

/-- Multiplication in GF(2^8) by a constant below 16. -/
def gfMul (k : Nat) (b : Byte) : Byte :=
  (if k % 2 = 1 then b else 0) ^^^ (if k / 2 % 2 = 1 then xtime b else 0)
    ^^^ (if k / 4 % 2 = 1 then xtime (xtime b) else 0) ^^^ (if k / 8 % 2 = 1 then xtime (xtime (xtime b)) else 0)

/-- Byte `i` of a block. -/
def blk (b : Bytes) (i : Nat) : Byte := b.getD i 0

/-- FIPS 197: key expansion of a 32-byte key, four bytes at a time: `n` more words after `ws` (newest first). -/
def expandKey : Nat → Nat → List Bytes → List Bytes
  | 0, _, ws => ws
  | n + 1, i, ws =>
    let t := ws.getD 0 []
    let t := if i % 8 = 0 then
        let r := (t.drop 1 ++ t.take 1).map sbox
        xorBytes r [iter xtime (i / 8 - 1) 1, 0, 0, 0]
      else if i % 8 = 4 then t.map sbox else t
    expandKey n (i + 1) (xorBytes (ws.getD 7 []) t :: ws)

/-- FIPS 197: the fifteen round keys, 16 bytes each. -/
def roundKeys (key : Bytes) : List Bytes :=
  let w0 := ((upTo 8).map (fun i => slice (4 * i) 4 key)).reverse
  let ws := (expandKey 52 8 w0).reverse
  (upTo 15).map (fun r => ((ws.drop (4 * r)).take 4).flatten)

/-- FIPS 197: SubBytes with ShiftRows, and the inverse. -/
def shiftSub (b : Bytes) : Bytes := (upTo 16).map (fun i => sbox (blk b ((i + 4 * (i % 4)) % 16)))
def invShiftSub (b : Bytes) : Bytes := (upTo 16).map (fun i => invSbox (blk b ((i + 12 * (i % 4)) % 16)))

/-- FIPS 197: MixColumns by the first row of its matrix. -/
def mixColumns (row : List Nat) (b : Bytes) : Bytes :=
  (upTo 16).map (fun i =>
    let c := i / 4 * 4
    (upTo 4).foldl (fun a j => a ^^^ gfMul (row.getD ((j + 4 - i % 4) % 4) 0) (blk b (c + j))) 0)

/-- FIPS 197: the cipher over the round keys. -/
def aesRounds : List Bytes → Bytes → Bytes
  | [], b => b
  | [k], b => xorBytes (shiftSub b) k
  | k :: ks, b => aesRounds ks (xorBytes (mixColumns [2, 3, 1, 1] (shiftSub b)) k)

/-- FIPS 197: AES-256 encryption of one block. -/
def aesEnc (rk : List Bytes) (b : Bytes) : Bytes :=
  match rk with
  | k :: ks => aesRounds ks (xorBytes (slice 0 16 b) k)
  | [] => b

/-- FIPS 197: the inverse cipher over the reversed round keys. -/
def aesInvRounds : List Bytes → Bytes → Bytes
  | [], b => b
  | [k], b => xorBytes (invShiftSub b) k
  | k :: ks, b => aesInvRounds ks (mixColumns [14, 11, 13, 9] (xorBytes (invShiftSub b) k))

/-- FIPS 197: AES-256 decryption of one block. -/
def aesDec (rk : List Bytes) (b : Bytes) : Bytes :=
  match rk.reverse with
  | k :: ks => aesInvRounds ks (xorBytes (slice 0 16 b) k)
  | [] => b

/-! ### GCM (SP 800-38D) -/

/-- A block as a 128-bit number, first byte highest. -/
def blockNat (b : Bytes) : BitVec 128 := BitVec.ofNat 128 (beNat (slice 0 16 b))
def natBlock (x : BitVec 128) : Bytes := beBytes 16 x.toNat

/-- SP 800-38D: one step of the product: (Z, V) by bit `i` of X, bit 0 the highest. -/
def ghashStep (x : BitVec 128) (zv : BitVec 128 × BitVec 128) (i : Nat) : BitVec 128 × BitVec 128 :=
  let z := if x.getMsbD i then zv.1 ^^^ zv.2 else zv.1
  (z, if zv.2.getLsbD 0 then (zv.2 >>> 1) ^^^ (0xE1#128 <<< 120) else zv.2 >>> 1)

/-- SP 800-38D: the product in GF(2^128). -/
def ghashMul (x h : BitVec 128) : BitVec 128 := ((upTo 128).foldl (ghashStep x) (0, h)).1

/-- SP 800-38D: GHASH continued over whole blocks; the last one is filled with zeros. -/
def ghash (h : BitVec 128) : Nat → BitVec 128 → Bytes → BitVec 128
  | 0, y, _ => y
  | n + 1, y, bs => if bs.isEmpty then y else ghash h n (ghashMul (y ^^^ blockNat (bs.take 16)) h) (bs.drop 16)

/-- SP 800-38D: the low 32 bits of a counter block, incremented. -/
def inc32 (c : BitVec 128) : BitVec 128 := (c &&& ~~~(0xFFFFFFFF#128)) ||| ((c.setWidth 32 + 1).setWidth 128)

/-- SP 800-38D: counter mode from a counter block. -/
def gctr (rk : List Bytes) : Nat → BitVec 128 → Bytes → Bytes
  | 0, _, _ => []
  | n + 1, c, bs =>
    if bs.isEmpty then [] else xorBytes (bs.take 16) (aesEnc rk (natBlock c)) ++ gctr rk n (inc32 c) (bs.drop 16)

/-- Blocks of 16 bytes that a length fills. -/
def blocks16 (n : Nat) : Nat := (n + 15) / 16

/-- SP 800-38D: the hash key. -/
def gcmH (rk : List Bytes) : BitVec 128 := blockNat (aesEnc rk (List.replicate 16 0))

/-- SP 800-38D: the first counter block of a 12-byte IV. -/
def gcmJ0 (iv : Bytes) : BitVec 128 := blockNat (slice 0 12 iv ++ [0, 0, 0, 1])

/-- SP 800-38D: the tag from the hash so far and the two lengths in bytes. -/
def gcmTag (rk : List Bytes) (iv : Bytes) (y : BitVec 128) (aadLen dataLen : Nat) : Bytes :=
  let y := ghashMul (y ^^^ blockNat (beBytes 8 (8 * aadLen) ++ beBytes 8 (8 * dataLen))) (gcmH rk)
  xorBytes (natBlock y) (aesEnc rk (natBlock (gcmJ0 iv)))

/-- SP 800-38D: the tag over additional data and ciphertext. -/
def gcmTagOf (rk : List Bytes) (iv aad ct : Bytes) : Bytes :=
  let h := gcmH rk
  let y := ghash h (blocks16 aad.length) 0 aad
  gcmTag rk iv (ghash h (blocks16 ct.length) y ct) aad.length ct.length

/-- SP 800-38D: counter mode over the data of a message. -/
def gcmCrypt (rk : List Bytes) (iv data : Bytes) : Bytes := gctr rk (blocks16 data.length) (inc32 (gcmJ0 iv)) data

/-- SP 800-38D: AES-256-GCM: ciphertext and tag. [PRESUMED, log 20] -/
def gcmSeal (key iv aad data : Bytes) : Bytes × Bytes :=
  let rk := roundKeys key
  let ct := gcmCrypt rk iv data
  (ct, gcmTagOf rk iv aad ct)

/-- SP 800-38D: authenticated decryption. [PRESUMED, log 20] -/
def gcmOpen (key iv aad ct tag : Bytes) : Option Bytes :=
  let rk := roundKeys key
  if gcmTagOf rk iv aad ct = tag then some (gcmCrypt rk iv ct) else none

/-! ### XTS (IEEE 1619) -/

/-- IEEE 1619: the tweak times x: a little-endian 128-bit number. -/
def xtsNext (t : Bytes) : Bytes :=
  let v := BitVec.ofNat 128 (leNat t)
  bytesOf 16 (if v.getLsbD 127 then (v <<< 1) ^^^ 0x87 else v <<< 1)

/-- IEEE 1619: one block under a tweak. -/
def xtsBlock (f : Bytes → Bytes) (t b : Bytes) : Bytes := xorBytes (f (xorBytes b t)) t

/-- IEEE 1619: the blocks of one data unit; ciphertext stealing at a partial last block. -/
def xtsBlocks (f : Bytes → Bytes) (dec : Bool) : Nat → Bytes → Bytes → Bytes
  | 0, _, _ => []
  | n + 1, t, bs =>
    if bs.isEmpty then []
    else if bs.length < 32 ∧ bs.length ≠ 16 then
      let t' := xtsNext t
      let r := bs.length - 16
      let cc := xtsBlock f (if dec then t' else t) (bs.take 16)
      xtsBlock f (if dec then t else t') (bs.drop 16 ++ cc.drop r) ++ cc.take r
    else xtsBlock f t (bs.take 16) ++ xtsBlocks f dec n (xtsNext t) (bs.drop 16)

/-- IEEE 1619: one data unit under a 64-byte key: the data key, then the tweak key. -/
def xtsUnit (key : Bytes) (dec : Bool) (du : Nat) (data : Bytes) : Bytes :=
  let k1 := roundKeys (key.take 32)
  let t := aesEnc (roundKeys (key.drop 32)) (leBytes 16 du)
  xtsBlocks (if dec then aesDec k1 else aesEnc k1) dec (data.length / 16 + 1) t data

/-- IEEE 1619: consecutive data units of `size` bytes; the last may be partial. [PRESUMED, log 20] -/
def xtsData (key : Bytes) (dec : Bool) (size : Nat) : Nat → Nat → Bytes → Bytes
  | 0, _, _ => []
  | n + 1, du, bs =>
    if bs.isEmpty then [] else xtsUnit key dec du (bs.take size) ++ xtsData key dec size n (du + 1) (bs.drop size)

end Sys2Proof.Machine
end

