-- ==== Sys2Proof/Machine/Keys.lean ====
section
/-! DEFINITION. Root key slots and derived keys (R648 to R661): labels, the key cache, sealing and opening packets. -/
namespace Sys2Proof.Machine

/-- R648: the first slot of a tenant's range and its count. -/
def State.slotRange (s : State) (t : Nat) : Nat × Nat :=
  let v := s.par d18_8000 t
  (natField 0 12 v, natField 16 13 v)

/-- R648: a slot lies in the tenant's range. -/
def State.ownsSlot (s : State) (t slot : Nat) : Bool :=
  let r := s.slotRange t
  r.1 ≤ slot && slot < r.1 + r.2

/-- A root key slot. -/
def State.slot (s : State) (n : Nat) : KeySlot := tgetD s.cipher.slots n {}

/-- R649: the slot is LOADED with a usage bit (0 CONN, 1 LOOKASIDE, 2 WRAP, 3 MIGRATE). -/
def State.slotUsable (s : State) (n bit : Nat) : Bool := (s.slot n).loaded && (s.slot n).usage.getLsbD bit

/-- R657: ASCII "ZARICA-KDF". -/
def kdfName : Bytes := [0x5A, 0x41, 0x52, 0x49, 0x43, 0x41, 0x2D, 0x4B, 0x44, 0x46]

/-- R657: a label: TYPE, bytes 1 to 3, the slot's DOMAIN in bytes 4 to 7, then the purpose's own bytes. -/
def State.label (s : State) (slot type b1 : Nat) (b23 : Nat) (rest : Bytes) : Bytes :=
  [BitVec.ofNat 8 type, BitVec.ofNat 8 b1] ++ leBytes 2 b23 ++ bytesOf 4 (s.slot slot).domain ++ rest

/-- R657: a derived key. -/
def State.deriveKey (s : State) (slot bytes : Nat) (label : Bytes) : Bytes := kmac256 (s.slot slot).key label bytes kdfName

/-- The value of a named key. -/
def State.keyValue (s : State) (k : KeyName) : Bytes := s.deriveKey k.slot k.bytes k.label

/-- R659: the key is in its tower's cache. -/
def State.keyCached (s : State) (k : KeyName) : Bool := s.cipher.cache.contains k

/-- R659: a key that is needed and not cached: a miss is counted and its derivation starts, once. -/
def State.requestKey (k : KeyName) (s : State) : State :=
  if s.cipher.cache.contains k || s.cipher.deriving_.contains k then s
  else ({ s with cipher := { s.cipher with deriving_ := s.cipher.deriving_ ++ [k] } } : State).bump d18_0101 k.tower

/-- R659: a derivation ends: counted, and the key enters its tower's cache of 8,192 keys. [DESIGN CHOICE, log 85] -/
def State.installKey (k : KeyName) (s : State) : State :=
  let mine := s.cipher.cache.filter (fun x => x.tower = k.tower)
  let others := s.cipher.cache.filter (fun x => x.tower ≠ k.tower)
  ({ s with cipher := { s.cipher with
    cache := (k :: mine).take 8192 ++ others
    deriving_ := s.cipher.deriving_.erase k } } : State).bump d18_0100 k.tower

/-- R654: a load or an erase purges the slot's derived keys; derivations under way start anew when needed. -/
def State.purgeSlot (n : Nat) (s : State) : State :=
  { s with cipher := { s.cipher with
    cache := s.cipher.cache.filter (fun k => k.slot ≠ n)
    deriving_ := s.cipher.deriving_.filter (fun k => k.slot ≠ n) } }

/-- R649: change a slot: GEN rises at every load and every erase, and its derived keys are purged (R654). -/
def State.putSlot (n : Nat) (x : KeySlot) (s : State) : State :=
  let g := (s.slot n).gen + 1
  ({ s with cipher := { s.cipher with slots := tput {} n { x with gen := g } s.cipher.slots } } : State).purgeSlot n

/-- R649, R654: erase a slot. -/
def State.eraseSlot (n : Nat) (s : State) : State := s.putSlot n {}

/-! ### The Silus header (R259) -/

def hdrType (p : Packet) : Nat := fieldNat 0 8 p.hdr
def hdrVc (p : Packet) : Nat := fieldNat 8 3 p.hdr
def hdrEct (p : Packet) : Bool := flag 11 p.hdr
def hdrCe (p : Packet) : Bool := flag 12 p.hdr
def hdrFirst (p : Packet) : Bool := flag 13 p.hdr
def hdrLast (p : Packet) : Bool := flag 14 p.hdr
def hdrEnc (p : Packet) : Bool := flag 15 p.hdr
def hdrGen (p : Packet) : Nat := fieldNat 16 4 p.hdr
def hdrHops (p : Packet) : Nat := fieldNat 20 4 p.hdr
def hdrPath (p : Packet) : Nat := fieldNat 24 6 p.hdr
def hdrDstAdapter (p : Packet) : Nat := fieldNat 32 16 p.hdr
def hdrSrcAdapter (p : Packet) : Nat := fieldNat 48 16 p.hdr
def hdrDst (p : Packet) : Nat := fieldNat 64 24 p.hdr
def hdrDstInc (p : Packet) : BitVec 8 := field 88 8 p.hdr
def hdrPsn (p : Packet) : W32 := field 96 32 p.hdr
def hdrTag (p : Packet) : W32 := field 128 32 p.hdr
def hdrSrc (p : Packet) : BitVec 24 := field 160 24 p.hdr
def hdrSrcInc (p : Packet) : BitVec 8 := field 184 8 p.hdr

/-- R259: a base header. -/
def mkHdr (type flags gen path dstAdapter srcAdapter dst dstInc : Nat) (psn tag : W32) (src srcInc : Nat) : BitVec 192 :=
  pack 192 [(8, type), (8, flags), (8, gen), (8, path), (16, dstAdapter), (16, srcAdapter), (24, dst), (8, dstInc),
    (32, psn.toNat), (32, tag.toNat), (24, src), (8, srcInc)]

/-- R260: PTYPEs that take a PSN, and the four control types. -/
def takesPsn (type : Nat) : Bool := 1 ≤ type && type ≤ 7
def isControl (type : Nat) : Bool := 0x10 ≤ type && type ≤ 0x13

/-- R261, R264: the bytes of the extension of a type. -/
def extLen (type : Nat) : Nat :=
  if takesPsn type then 32 else if type = 0x10 then 56 else if type = 0x11 then 24 else if type = 0x12 ∨ type = 0x13 then 8 else 0

/-- R265, R266: the header with HOPS and CE taken as zero, and the extension. [DEDUCED, log 16] -/
def Packet.checkedHeader (p : Packet) : Bytes :=
  bytesOf 24 (putField 20 4 0 (putField 12 1 0 p.hdr)) ++ bytesOf (extLen (hdrType p)) p.ext

/-- R265: the CRC trailer that a packet should carry. [DEDUCED, log 16] -/
def Packet.crc (p : Packet) : Bytes := bytesOf 8 (crc64 (p.checkedHeader ++ p.payload))

/-- R266: the nonce: PSN, TIME_TAG and zero. -/
def Packet.nonce (p : Packet) : Bytes := bytesOf 4 (hdrPsn p) ++ bytesOf 4 (hdrTag p) ++ [0, 0, 0, 0]

/-- R58, R658: the 64-bit time that a tag names against a time. [DEDUCED, log 18] -/
def extendTag (now : Nat) (g : W32) : Nat := ((now : Int) + (g - BitVec.ofNat 32 now).toInt).toNat

/-- R657, R658: the inline key of a packet under an epoch; the frame is bits [63:32] of the time its tag names. -/
def State.inlineKey (s : State) (tower slot : Nat) (epoch : BitVec 16) (p : Packet) : KeyName :=
  ⟨tower, slot, 32, s.label slot 1 0 epoch.toNat
    (leBytes 2 (hdrSrcAdapter p) ++ leBytes 2 (hdrDstAdapter p) ++ bytesOf 4 (field 160 32 p.hdr) ++ bytesOf 4 (field 64 32 p.hdr)
      ++ leBytes 4 (extendTag s.now (hdrTag p) / 4294967296) ++ List.replicate 8 0)⟩

/-- R265, R266: seal a packet: a CRC, or ciphertext and tag under a key. [DEDUCED, log 16] -/
def Packet.sealWith (p : Packet) (key : Option Bytes) : Packet :=
  match key with
  | none => { p with trailer := p.crc }
  | some k =>
    let r := gcmSeal k p.nonce p.checkedHeader p.payload
    { p with payload := r.1, trailer := r.2 }

/-- R265, R266: open a packet: its plaintext when the trailer matches. [DEDUCED, log 16] -/
def Packet.openWith (p : Packet) (key : Option Bytes) : Option Packet :=
  match key with
  | none => if p.trailer = p.crc then some p else none
  | some k =>
    match gcmOpen k p.nonce p.checkedHeader p.payload p.trailer with
    | some d => some { p with payload := d }
    | none => none

end Sys2Proof.Machine
end

