-- ==== Sys2Proof/Machine/Conn.lean ====
section
/-! DEFINITION. Connections: control packets, the context cache, completions of messages, state transitions and the
connection control page (R180 to R212, R278 to R281, R290). -/
namespace Sys2Proof.Machine

/-! ### Egress queues of a port (R349) -/

/-- Bytes of a VC that a port holds in its egress queues. -/
def Port.vcBytes (p : Port) (vc : Nat) : Nat :=
  let sum := fun (l : List EgressItem) => l.foldl (fun a i => a + i.len) 0
  if vc = 5 then sum p.vc5 else if vc = 6 then sum p.vc6 else if vc = 7 then sum p.vc7
  else p.dome.foldl (fun a e => if e.1 / 4096 = vc then a + sum e.2 else a) 0

/-- R349: append a packet to its queue on a port: VC5, VC6, VC7, or its tenant's queue of a dome class. -/
def State.enqueue (port vc : Nat) (x : EgressItem) (s : State) : State :=
  let p := s.port port
  let q :=
    if vc = 5 then { p with vc5 := p.vc5 ++ [x] }
    else if vc = 6 then { p with vc6 := p.vc6 ++ [x] }
    else if vc = 7 then { p with vc7 := p.vc7 ++ [x] }
    else
      let k := 4096 * vc + x.tenant
      { p with dome := tset k (tgetD p.dome k [] ++ [x]) p.dome }
  s.setPort port { q with maxDepth := tput 0 vc (max (tgetD q.maxDepth vc 0) (q.vcBytes vc)) q.maxDepth }

/-- R256: bytes outside the Silus packet that an encapsulation adds, FCS included. -/
def outerLen (encap : Nat) : Nat := if encap = 0 then 0 else if encap = 1 then 22 else 70

/-- R265, R266: bytes of a packet on the link: header, extension, payload and trailer. -/
def wireLen (type payload : Nat) (enc : Bool) : Nat := 24 + extLen type + payload + (if enc then 16 else 8)

/-- R368, R369: the first usable path of a connection for a control packet: its number and its port-list entry. [DEDUCED, log 59] -/
def State.controlPath (s : State) (h : Handle) : Option (Nat × PortEntry) :=
  match s.sprayOf h with
  | none => none
  | some x =>
    match (upTo x.count).find? (fun p => !s.pathIsDown x p) with
    | some p => some (p, s.dict.active.portEntry (x.list + p))
    | none => none

/-- R213: the peer's connection number on the wire. -/
def wireConn (h : Handle) (p : BitVec 24) : BitVec 24 :=
  if h.mapCount ≠ 0 ∧ (p - h.mapOld).toNat < h.mapCount.toNat then p - h.mapOld + h.mapNew else p

/-- R43: an adapter without an id originates nothing. -/
def State.hasId (s : State) : Bool := s.par d0_0001 0 ≠ 0xFFFF

/-- A control packet of a connection (R260, R264), queued on VC6. With CIPHER_EN it is sealed (R266) unless `plain`. [DEDUCED, log 59; DEDUCED, log 100] -/
def State.sendControl (c : Nat) (type : Nat) (ext : List (Nat × Nat)) (plain : Bool) (s : State) : State :=
  match s.conn? c with
  | none => s
  | some x =>
    let k := x.ctx.core
    let h := s.handle k.handle.toNat
    match s.controlPath h with
    | none => s
    | some (p, e) =>
      if s.hasId then
        let enc := k.cipherEn = 1 && !plain
        let hdr := mkHdr type (6 + (if enc then 128 else 0)) (s.par d9_0001 0) p h.peerAdapter.toNat (s.par d0_0001 0)
          (wireConn h k.peerConn).toNat k.peerInc.toNat 0 0 k.conn.toNat k.incarnation.toNat
        s.enqueue e.port 6 {
          pkt := ⟨hdr, pack 448 ext, [], [], false⟩, ready := true, tenant := k.tenant.toNat, owner := some (c, 0)
          encap := h.encap.toNat, outer := [], cls := 0, len := wireLen type 0 enc, entered := s.now, arrived := s.now
          ingress := none }
      else s

/-- R291: a NAK from the header of the answered packet alone, with ENC 0, on the way back to its sender: by the
forwarding entry of its adapter, or by the arrival port when there is none. [DEDUCED, log 59; DEDUCED, log 100] -/
def State.sendNak (port : Nat) (outer : Bytes) (p : Packet) (code backoff : Nat) (s : State) : State :=
  if s.hasId then
    let src := hdrSrcAdapter p
    let fe := s.dict.active.blob d9_0012 0 (8 * src) 8
    let count := leAt 0 1 fe
    let out := if count = 0 then port else (s.dict.active.portEntry (leAt 2 2 fe + hdrPath p % count)).port
    let hdr := mkHdr 0x11 6 (s.par d9_0001 0) (hdrPath p) src (s.par d0_0001 0) (hdrSrc p).toNat (hdrSrcInc p).toNat 0 0
      (hdrDst p) (hdrDstInc p).toNat
    s.enqueue out 6 {
      pkt := ⟨hdr, pack 448 [(8, code), (8, 0), (16, 0), (32, (hdrPsn p).toNat), (32, fieldNat 0 32 p.ext),
        (32, fieldNat 32 23 p.ext), (32, backoff), (32, (hdrTag p).toNat)], [], [], false⟩
      ready := true, tenant := 2048, owner := none, encap := if outer.isEmpty then 0 else if outer.length < 40 then 1 else 2
      outer := outer, cls := 0, len := wireLen 0x11 0 false, entered := s.now, arrived := s.now, ingress := none }
  else s

/-! ### Being able to commit (R340) -/

/-- A copy or a new packet of the connection could be committed, as far as the connection alone decides. -/
def Conn.workable (x : Conn) : Bool :=
  x.flight.any (fun p => p.owed && !p.acked) ||
  (x.tx.any (fun m => m.voidEnd || (m.sent < m.packets && (m.voided.isNone || m.kind = .resp))) &&
    serialDiff x.ctx.core.txNextPsn x.ctx.core.txUna < x.ctx.core.txWindow.toNat)

/-- R340: a connection that becomes able does so now; one that was able keeps its time. -/
def Conn.able (now : Nat) (old x : Conn) : Conn := { x with ableSince := if old.workable then old.ableSince else now }

/-! ### What a context shows -/

/-- R185: requests of the connection in the request tracker. -/
def Conn.outstanding (x : Conn) : Nat := (x.tx.filter (fun m => !m.closed)).length

/-- R289: the present retransmission timeout. -/
def State.rtoOf (s : State) (k : Nat) (c : Core) : Nat :=
  min (s.par d6_0030 (connTower k) * 2 ^ c.retryCount.toNat) (s.par d6_0031 (connTower k))

/-- R296: the oldest own message not yet closed at the peer. -/
def Conn.oldestOpen (x : Conn) : Option TxMsg := x.tx.find? (fun m => m.kind ≠ .resp && !m.reported)

/-- The context as a command or its backing sees it, with the fields that the request tracker keeps. -/
def State.shownCtx (s : State) (c : Nat) (x : Conn) : Ctx :=
  { x.ctx with
    paths := s.shownPaths x.ctx
    core := { x.ctx.core with
      outstanding := BitVec.ofNat 16 (min x.outstanding 65535)
      rto := BitVec.ofNat 32 (s.rtoOf c x.ctx.core) }
    delivery := { x.ctx.delivery with
      txConfMsn := match x.oldestOpen with | some m => m.msn | none => x.ctx.delivery.txMsn
      rnrCount := match x.oldestOpen with | some m => BitVec.ofNat 8 m.rnr | none => 0 } }

/-! ### Events and messages -/

/-- R190: an event of class CONNECTION. -/
def State.connEvent (t reason c cause : Nat) (s : State) : State := s.event t 2 reason c 0 cause

/-- The owner of a message still has messages that are not closed. -/
def State.ownerBusy (s : State) (e : EntryRef) : Bool :=
  s.conns.any (fun kv => kv.2.tx.any (fun m => m.owner = some e && !m.closed)) || s.localReads.any (fun r => r.ref = e)

/-- The opcode of the entry that a reference names. -/
def State.ownerOpcode (s : State) (e : EntryRef) : Nat :=
  match s.entry? e with | some x => entOpcode x.word | none => 0

/-- R459 to R475: a message of a DISPATCH, CONFIRM or COMBINE has ended; `st` is its status and DETAIL, none when it ended
well. -/
def Dispatch.msgEnded (c : Nat) (msn : W32) (ok : Bool) (d : Dispatch) : Dispatch :=
  let lost := fun (k : Contribution) => !ok && d.headers.any (fun h => h.1 = c && h.2.1 = msn && h.2.2.1 = k.expert.toNat
    && h.2.2.2 = if k.flags.getLsbD 3 then 4 else k.replica)
  { d with
    contribs := d.contribs.map (fun (k : Contribution) =>
      if k.msg = some (c, msn) && k.phase = .sent then { k with phase := if ok then .confirmed else .failed }
      else if k.announced && lost k then { k with headerLost := true } else k)
    headers := d.headers.filter (fun h => !(h.1 = c && h.2.1 = msn)) }

/-- R475: a read of a COMBINE has been applied, or has failed. -/
def Combine.msgEnded (c : Nat) (msn : W32) (st : Option (Nat × Nat)) (k : Combine) : Combine :=
  if k.reads.contains (c, msn) then { k with reads := k.reads.filter (· ≠ (c, msn)), failed := k.failed.or st } else k

/-- R468: the slot message of a freed slot has ended. -/
def FreedSlot.msgEnded (c : Nat) (msn : W32) (f : FreedSlot) : FreedSlot :=
  if f.pending = some (c, msn) then { f with pending := none } else f

/-- R459 to R475: enter the end of a message into what waits for it. -/
def State.expertEnd (m : TxMsg) (e : EntryRef) (st : Option (Nat × Nat)) (s : State) : State :=
  let x := s.experts
  let slot := x.dispatches.any (fun d => d.contribs.any (fun k => k.msg = some (m.conn, m.msn) && k.phase = .sent))
  let s := { s with experts := { x with
    dispatches := x.dispatches.map (Dispatch.msgEnded m.conn m.msn st.isNone)
    combines := if m.gate.isSome then x.combines.map (Combine.msgEnded m.conn m.msn st) else x.combines
    freed := x.freed.map (FreedSlot.msgEnded m.conn m.msn) } }
  if (slot || m.gate.isSome) && st.isNone then s.addBytes e m.length else s

/-- The opcodes whose messages only count. -/
def expertOpcode (op : Nat) : Bool := op = 0x30 || op = 0x31 || op = 0x32

/-- A message of this side has ended well: its bytes are confirmed (R159); its entry ends when the opcode makes one
message, or when its last flush request is answered (R253). Messages of DISPATCH and COMBINE only count (R460, R475). -/
def State.messageDone (m : TxMsg) (s : State) : State :=
  match m.owner with
  | none => s
  | some e =>
    let op := s.ownerOpcode e
    let s := s.expertEnd m e none
    let s := if op = 0x40 || expertOpcode op then s else s.addBytes e m.length
    let s := match m.missRound with
      | some n => s.noteFail e .scheduleMiss (n % 4294967296)
      | none => s
    if expertOpcode op || s.ownerBusy e then s else s.endEntry e

/-- A message of this side fails its entry with a status (R235, R290, R293, R459). -/
def State.messageFail (m : TxMsg) (status : Status) (detail : Nat) (s : State) : State :=
  match m.owner with
  | none => s
  | some e =>
    let op := s.ownerOpcode e
    let s := s.expertEnd m e (some (status.code, detail))
    if op = 0x40 then
      let s := s.noteFail e status detail
      if s.ownerBusy e then s else s.endEntry e
    else if op = 0x31 then s
    else if expertOpcode op then s.noteFail e status detail
    else s.failEntry e status detail

/-- R238: a connection's notification reservations, released. -/
def State.releaseReservations (c : Nat) (s : State) : State :=
  { s with rings := tmap (fun _ r => { r with reserved := r.reserved.filter (fun e => e.1 ≠ c) }) s.rings }

/-- Status of a code that a connection holds as ERROR_CAUSE. -/
def Status.ofCause : Nat → Status
  | 0x08 => .retryExhausted | 0x0A => .busError | 0x11 => .translationFault | _ => .contextLost

/-- A data packet of a connection that waits at a port. -/
def EgressItem.dataOf (c : Nat) (i : EgressItem) : Bool :=
  (match i.owner with | some (d, _) => d = c | none => false) && fieldNat 0 8 i.pkt.hdr < 0x10

/-- The data packets of a connection leave every egress queue. [DEDUCED, log 62] -/
def Port.dropConn (c : Nat) (p : Port) : Port :=
  { p with
    vc7 := p.vc7.filter (fun i => !i.dataOf c)
    dome := tfilter (fun _ q => !q.isEmpty) (tmap (fun _ q => q.filter (fun i => !i.dataOf c)) p.dome) }

/-- Fail every outstanding message of a connection; its packets and the peer's messages are dropped. [DEDUCED, log 62] -/
def State.dropWork (c : Nat) (status : Status) (s : State) : State :=
  match s.conn? c with
  | none => s
  | some x =>
    let lost := x.tx.filter (fun m => !m.closed)
    let s := s.setConn c { x with
      tx := [], flight := [], rx := [], ownReadbacks := [], rtoFrom := none, hold := none
      querySince := none, ackSince := none }
    let s := { s with ports := tmap (fun _ p => p.dropConn c) s.ports }
    let s := lost.foldl (fun s m => s.messageFail m status 0) s
    s.releaseReservations c

/-- R194, R195: enter QUARANTINE: the context leaves the cache, the quarantine end is written. -/
def State.quarantine (c : Nat) (s : State) : State :=
  match s.conn? c with
  | none => s
  | some x =>
    let stop := (s.now + s.par d5_0010 (connTower c) + 65535) / 65536
    let r := s.inc c
    let s := s.setInc c { r with quarantineEnd := BitVec.ofNat 48 stop }
    let s := s.setConn c {
      quarantineEnd := stop * 65536, cache := .out
      ctx := { core := {
        conn := x.ctx.core.conn, incarnation := x.ctx.core.incarnation, tenant := x.ctx.core.tenant,
        handle := x.ctx.core.handle, mode := .quarantine } } }
    { s with miss := s.miss.filter (fun e => e.conn ≠ c) }

/-- R132, R187, R226: end the command that a page is executing. -/
def endCmd (code : Nat) (p : CtrlPage) : CtrlPage := { p with busy := false, result := BitVec.ofNat 8 code }

/-- R189: end a connection command of a function that waits for a target. [DEDUCED, log 55] -/
def State.endConnCmd (t c code : Nat) (s : State) : State :=
  let f := s.fn t
  if f.conn.busy && f.conn.target.toNat = c then
    s.setFn t { f with conn := { endCmd code f.conn with aux := (s.inc c).last.setWidth 32 } }
  else s

/-- R190: DRAINING or ERROR under DESTROY ends in QUARANTINE, with its event, and DESTROY completes with OK. -/
def State.leaveDraining (c : Nat) (status : Status) (s : State) : State :=
  match s.conn? c with
  | none => s
  | some x =>
    let t := x.ctx.core.tenant.toNat
    let s := s.dropWork c status
    let s := (s.quarantine c).connEvent t 2 c x.ctx.core.errorCause.toNat
    s.endConnCmd t c 0

/-- R190: a failure takes the connection to ERROR: every outstanding chain fails with the cause; an event is written.
A FREEZE that waits ends; a DESTROY that waits goes on as one from ERROR. -/
def State.connError (c : Nat) (status : Status) (s : State) : State :=
  match s.conn? c with
  | none => s
  | some x =>
    let k := x.ctx.core
    if k.mode = .free ∨ k.mode = .quarantine ∨ k.mode = .error then s
    else
      let t := k.tenant.toNat
      let s := s.setConn c { x with
        ctx := { x.ctx with core := { k with mode := .error, errorCause := BitVec.ofNat 8 status.code } }
        freezeAt := none }
      let s := (s.dropWork c status).connEvent t 1 c status.code
      let s := if k.mode = .frozen then s.endConnCmd t c 0 else s
      if x.destroying then s.leaveDraining c status else s

/-! ### Backing and the cache (R182, R197 to R204) -/

/-- R182: where a context is backed: none for the tier-1 context store, else the place and the address. -/
def State.backing (s : State) (c t : Nat) : Option (Place × Nat) :=
  match s.dict.active.rangeOf t c with
  | none => none
  | some r =>
    if r.backing = 0 then none
    else some (⟨if r.backing = 1 then 1 else 0, 0, r.pasid⟩, r.spill + (c - r.first) * 2048)

/-- R587: the context is backed in host memory that may not be reached during its tenant's reset. [DEDUCED, log 93] -/
def State.backingBarred (s : State) (c t : Nat) : Bool :=
  match s.backing c t with | some (p, _) => s.hostBarred t p | none => false

/-- R204: a backing failure: counted, logged with the backing address, and the connection enters ERROR. -/
def State.backingFailure (c : Nat) (status : Status) (s : State) : State :=
  match s.conn? c with
  | none => s
  | some x =>
    let t := x.ctx.core.tenant.toNat
    let addr := match s.backing c t with | some b => b.2 | none => 0
    let s := (s.bump d5_0104 (connTower c)).logFault .tenant .backing 0 (some t) c addr status.code
    s.connError c status

/-- R200: write a context to its backing; a write answered with an error leaves it cached and not evictable. -/
def State.writeBack (c : Nat) (s : State) : State × Bool :=
  match s.conn? c with
  | none => (s, true)
  | some x =>
    let t := x.ctx.core.tenant.toNat
    match s.backing c t with
    | none => (s, true)
    | some (p, a) =>
      match s.placeWrite t p a (s.shownCtx c x).bytes with
      | some s' => (s', true)
      | none =>
        let s := (s.countStale t p a 2048).setConn c { x with noEvict := true, cache := .cached }
        (s.backingFailure c .busError, false)

/-- R206: a packet, an entry or a timer that finds the context out of the cache starts one fetch of it. -/
def State.fetchCtx (c : Nat) (s : State) : State :=
  match s.conn? c with
  | none => s
  | some x =>
    if x.cache = .out && !s.backingBarred c x.ctx.core.tenant.toNat then
      let s := (s.setConn c { x with cache := .fetching }).bump d5_0100 (connTower c)
      match s.backing c x.ctx.core.tenant.toNat with
      | some (p, a) => s.emit (.memRead p.space p.port p.pasid a 2048)
      | none => s
    else s

/-- R197, R201, R203: what needs a context: with the context cached it goes on at once, and an eviction under way is
cancelled; otherwise the context is fetched first and nothing else happens. -/
def State.withCtx (c : Nat) (f : Conn → State → State) (s : State) : State :=
  match s.conn? c with
  | none => s
  | some x =>
    match x.cache with
    | .cached => f x s
    | .evicting _ =>
      let x := { x with cache := .evicting true }
      f x (s.setConn c x)
    | _ => s.fetchCtx c

/-- Cached contexts of a tower (D5.0000). -/
def State.cachedCount (s : State) (k : Nat) : Nat :=
  (s.conns.filter (fun e => connTower e.1 = k && (e.2.cache ≠ .out && e.2.cache ≠ .fetching))).length

/-- Pinned contexts of a tower (D5.0001). -/
def State.pinnedCount (s : State) (k : Nat) : Nat :=
  (s.conns.filter (fun e => connTower e.1 = k && e.2.ctx.core.cls = 1 && e.2.ctx.core.mode ≠ .quarantine)).length

/-- R199: a context may be evicted. -/
def State.evictable (s : State) (c : Nat) (x : Conn) : Bool :=
  x.cache = .cached && !x.noEvict && x.ctx.core.cls = 0 && !s.miss.any (fun e => e.conn = c) &&
  x.rx.all (fun m => m.placing = 0) && !s.backingBarred c x.ctx.core.tenant.toNat

/-- R199: of two candidates, the one with the older LAST_ACTIVITY, and of equal times the lower number. -/
def olderConn (a b : Nat × Conn) : Nat × Conn :=
  if b.2.ctx.core.lastActivity.toNat < a.2.ctx.core.lastActivity.toNat then b else a

/-- R199: the context to evict on a tower. -/
def State.victim (s : State) (k : Nat) : Option (Nat × Conn) :=
  match s.conns.filter (fun e => connTower e.1 = k && s.evictable e.1 e.2) with
  | [] => none
  | e :: es => some (es.foldl olderConn e)

/-- R199: the cache of a tower holds 16,384 contexts. -/
def cacheSize : Nat := 16384

/-- EVICTION_START (R199, R200): fewer than D5.0014 entries are free: a candidate is selected and written back. -/
def execEvictionStart (tower : Nat) (s : State) : Outcome :=
  if cacheSize - s.cachedCount tower < s.par d5_0014 tower then
    match s.victim tower with
    | none => .next s
    | some (c, x) =>
      let r := s.writeBack c
      if r.2 then .next (r.1.setConn c { x with cache := .evicting false }) else .next r.1
  else .next s

/-- EVICTION_RELEASE (R200, R201): the last byte of the write-back leaves; the entry is released unless cancelled. -/
def execEvictionRelease (conn : Nat) (s : State) : Outcome :=
  match s.conn? conn with
  | none => .next s
  | some x =>
    match x.cache with
    | .evicting false => .next ((s.setConn conn { x with cache := .out }).bump d5_0101 (connTower conn))
    | .evicting true => .next (s.setConn conn { x with cache := .cached })
    | _ => .next s

/-- BACKING_WRITEBACK_ERROR (R204): a write-back under way is answered with an error. `translation`: a translation
fault. -/
def execBackingWritebackError (conn : Nat) (translation : Bool) (s : State) : Outcome :=
  match s.conn? conn with
  | none => .next s
  | some x =>
    match x.cache with
    | .evicting _ =>
      let s := s.setConn conn { x with cache := .cached, noEvict := true }
      .next (s.backingFailure conn (if translation then .translationFault else .busError))
    | _ => .next s

/-! ### The control pages (R132, R187, R226, R579) -/

/-- R577, R579: the function takes writes to its BAR: its functions are enabled and its tenant is ACTIVE or FROZEN. -/
def State.fnLive (s : State) (t : Nat) : Bool :=
  s.pkg.phase = .running && ((s.tenant t).mode = .active || (s.tenant t).mode = .frozen)

/-- R187: run a command of the connection control page: discarded with LOST while BUSY. -/
def State.connCmd (t target : Nat) (f : State → State) (s : State) : State :=
  if !s.fnLive t then s
  else
    let p := s.fn t
    if p.conn.busy then s.setFn t { p with conn := { p.conn with lost := true } }
    else f (s.setFn t { p with conn := { p.conn with busy := true, target := BitVec.ofNat 32 target } })

/-- R187: complete a command of the connection control page. -/
def State.connResult (t c code : Nat) (s : State) : State :=
  let p := s.fn t
  s.setFn t { p with conn := { endCmd code p.conn with aux := (s.inc c).last.setWidth 32 } }

/-- Result codes of the connection control page. -/
def ccOk : Nat := 0
def ccNoConn : Nat := 1
def ccBadState : Nat := 2
def ccBadField : Nat := 3
def ccNoContext : Nat := 4
def ccNotOwner : Nat := 5
def ccQuarantined : Nat := 6
def ccBackingError : Nat := 7

/-- R188: whether the connection may be named at all: the code of the refusal. -/
def State.connNamed (s : State) (t c : Nat) : Option Nat :=
  if connTower c ≥ s.towers then some ccNoConn else if s.ownsConn t c then none else some ccNotOwner

/-- R211: a handle that CREATE and BIND accept. -/
def State.handleUsable (s : State) (t h : Nat) : Bool := (s.handle h).valid = 1 && (s.handle h).tenant.toNat = t

/-- R186: the reserved bits of CONN_CTX0 to 15 are zero. -/
def ctxReservedZero (x : BitVec 1024) : Bool :=
  fieldNat 115 13 x = 0 && fieldNat 252 4 x = 0 && fieldNat 277 11 x = 0 && fieldNat 301 3 x = 0 && fieldNat 308 12 x = 0 &&
  fieldNat 648 56 x = 0 && fieldNat 948 12 x = 0 && fieldNat 1008 16 x = 0

/-- R656: with CIPHER_EN, ROOT_SLOT lies in the tenant's range and is LOADED with CONN. -/
def State.rootOk (s : State) (t : Nat) (k : Core) : Bool :=
  k.cipherEn = 0 || (s.ownsSlot t k.rootSlot.toNat && s.slotUsable k.rootSlot.toNat 0)

/-- R186: the fields of a CREATE. -/
def createFieldsOk (k : Core) (x : BitVec 1024) : Bool :=
  (if k.cls = 1 then k.vc = 7 else k.vc.toNat ≤ 4) && 1 ≤ k.txWindow.toNat && k.txWindow.toNat ≤ 4096 &&
  (k.payloadLog2 = 0 || (9 ≤ k.payloadLog2.toNat && k.payloadLog2.toNat ≤ 13)) && ctxReservedZero x

/-- R189, R195, R329, R331: the context that CREATE installs. -/
def State.newConn (s : State) (t c : Nat) (inc : BitVec 8) (k : Core) : Conn :=
  let h := s.handle k.handle.toNat
  let spire := k.cls = 1
  { ctx := {
      core := {
        conn := BitVec.ofNat 24 c, incarnation := inc, mode := .init, cls := k.cls, cipherEn := k.cipherEn
        tenant := BitVec.ofNat 11 t, tenantInc := (s.tenant t).inc, handle := k.handle, vc := k.vc
        txNextPsn := k.txNextPsn, txUna := k.txNextPsn, rootSlot := k.rootSlot, keyEpoch := k.keyEpoch
        notifyRing := k.notifyRing, notifyEn := k.notifyEn, txWindow := k.txWindow, payloadLog2 := k.payloadLog2
        retryLimit := k.retryLimit, lastActivity := BitVec.ofNat 64 s.now }
      rate := if spire then {} else {
        rate := BitVec.ofNat 32 (s.par d8_0002 0), tokens := BitVec.ofNat 32 (s.par d8_0004 0 * 256)
        lastRefill := BitVec.ofNat 64 s.now, srtt := BitVec.ofNat 32 (s.par d8_0016 0) }
      paths := if spire then List.replicate 64 zeroPath else s.freshPaths h }
    ableSince := s.now }

/-- R190: what CREATE finds: none when the connection is FREE, else the code of the refusal. -/
def State.createBlocked (s : State) (c : Nat) : Option Nat :=
  match s.conn? c with
  | none => none
  | some y =>
    if y.ctx.core.mode = .quarantine then (if s.now < y.quarantineEnd then some ccQuarantined else none)
    else some ccBadState

/-- CREATE on a FREE connection (R186, R195, R198, R211, R656). -/
def State.createConn (t c : Nat) (s : State) : State :=
  let x := (s.fn t).conn.ctx
  let k := Core.ofWord (x.setWidth 704)
  let tw := connTower c
  if !createFieldsOk k x || !s.handleUsable t k.handle.toNat || !s.rootOk t k then s.connResult t c ccBadField
  else if (k.cls = 1 && s.pinnedCount tw ≥ s.par d5_0002 tw) || s.cachedCount tw ≥ cacheSize then
    s.connResult t c ccNoContext
  else
    let inc := (s.inc c).last + 1
    let s := s.setInc c { s.inc c with last := inc }
    (s.setConn c (s.newConn t c inc k)).connResult t c ccOk

/-- CONN_CREATE (R186, R188 to R190, R195, R198, R211, R331, R656). -/
def execConnCreate (t conn : Nat) (s : State) : Outcome :=
  .next (s.connCmd t conn (fun s =>
    match s.connNamed t conn with
    | some e => s.connResult t conn e
    | none =>
      match s.createBlocked conn with
      | some e => s.connResult t conn e
      | none => s.createConn t conn))

/-- The state that a command finds: FREE where there is no context. -/
def State.connMode (s : State) (c : Nat) : ConnMode :=
  match s.conn? c with | some x => x.ctx.core.mode | none => .free

/-- R189: replace the peer fields; a new HANDLE brings new path records (R331). -/
def State.bindPeer (s : State) (x : Conn) (k : Core) (rx : Bool) : Conn :=
  let o := x.ctx.core
  { x with
    ctx := { x.ctx with
      core := { o with
        peerConn := k.peerConn, peerInc := k.peerInc, handle := k.handle
        rxNextPsn := if rx then k.rxNextPsn else o.rxNextPsn
        mode := if rx then .ready else o.mode }
      delivery := if rx then { x.ctx.delivery with rxMsgPsn := k.rxNextPsn, ackedTo := k.rxNextPsn } else x.ctx.delivery,
      paths := if k.handle ≠ o.handle ∧ o.cls = 0 then s.freshPaths (s.handle k.handle.toNat) else x.ctx.paths }
    ableSince := s.now }

/-- CONN_BIND (R189, R190, R211): INIT becomes READY; on a FROZEN connection the peer fields are replaced. -/
def execConnBind (t conn : Nat) (s : State) : Outcome :=
  .next (s.connCmd t conn (fun s =>
    match s.connNamed t conn with
    | some e => s.connResult t conn e
    | none =>
      match s.conn? conn with
      | none => s.connResult t conn ccBadState
      | some x =>
        let w := (s.fn t).conn.ctx
        let k := Core.ofWord (w.setWidth 704)
        let m := x.ctx.core.mode
        if m ≠ .init ∧ m ≠ .frozen then s.connResult t conn ccBadState
        else if !s.handleUsable t k.handle.toNat then s.connResult t conn ccBadField
        else (s.setConn conn (s.bindPeer x k (m = .init))).connResult t conn ccOk))

/-- R189: the five fields of MODIFY. -/
def Core.modify (o k : Core) : Core :=
  { o with keyEpoch := k.keyEpoch, notifyRing := k.notifyRing, notifyEn := k.notifyEn, retryLimit := k.retryLimit
           txWindow := k.txWindow }

/-- CONN_MODIFY (R186, R189, R190, R656). -/
def execConnModify (t conn : Nat) (s : State) : Outcome :=
  .next (s.connCmd t conn (fun s =>
    match s.connNamed t conn with
    | some e => s.connResult t conn e
    | none =>
      match s.conn? conn with
      | none => s.connResult t conn ccBadState
      | some x =>
        let k := Core.ofWord ((s.fn t).conn.ctx.setWidth 704)
        let m := x.ctx.core.mode
        if m ≠ .init ∧ m ≠ .ready then s.connResult t conn ccBadState
        else if k.txWindow.toNat < 1 || k.txWindow.toNat > 4096 || !s.rootOk t x.ctx.core then s.connResult t conn ccBadField
        else
          (s.setConn conn { x with ctx := { x.ctx with core := x.ctx.core.modify k } }).connResult t conn ccOk))

/-- R190: a READY connection enters FROZEN; the command stays BUSY while requests are outstanding. -/
def State.freeze (c : Nat) (s : State) : State :=
  match s.conn? c with
  | none => s
  | some x =>
    if x.ctx.core.mode = .ready then
      s.setConn c { x with
        ctx := { x.ctx with core := { x.ctx.core with mode := .frozen } }
        freezeAt := some s.now, freezeMsn := x.ctx.delivery.txMsn }
    else s

/-- CONN_FREEZE (R189, R190). -/
def execConnFreeze (t conn : Nat) (s : State) : Outcome :=
  .next (s.connCmd t conn (fun s =>
    match s.connNamed t conn with
    | some e => s.connResult t conn e
    | none => if s.connMode conn = .ready then s.freeze conn else s.connResult t conn ccBadState))

/-- FREEZE_COMPLETE (R190): OUTSTANDING is 0, or D5.0013 has passed. [DEDUCED, log 55] -/
def execFreezeComplete (conn : Nat) (s : State) : Outcome :=
  match s.conn? conn with
  | none => .next s
  | some x =>
    match x.freezeAt with
    | none => .next s
    | some f =>
      if x.outstanding = 0 ∨ f + s.par d5_0013 (connTower conn) ≤ s.now then
        .next ((s.setConn conn { x with freezeAt := none }).endConnCmd x.ctx.core.tenant.toNat conn ccOk)
      else .next s

/-- R190: a FROZEN connection returns to READY. -/
def State.thaw (c : Nat) (s : State) : State :=
  match s.conn? c with
  | none => s
  | some x =>
    if x.ctx.core.mode = .frozen then
      s.setConn c { x with
        ctx := { x.ctx with core := { x.ctx.core with mode := .ready } }, freezeAt := none, ableSince := s.now }
    else s

/-- CONN_THAW (R189, R190, R191). -/
def execConnThaw (t conn : Nat) (s : State) : Outcome :=
  .next (s.connCmd t conn (fun s =>
    match s.connNamed t conn with
    | some e => s.connResult t conn e
    | none => if s.connMode conn = .frozen then (s.thaw conn).connResult t conn ccOk else s.connResult t conn ccBadState))

/-- CONN_DESTROY (R189, R190): DRAINING; from ERROR, QUARANTINE in the same period. -/
def execConnDestroy (t conn : Nat) (s : State) : Outcome :=
  .next (s.connCmd t conn (fun s =>
    match s.connNamed t conn with
    | some e => s.connResult t conn e
    | none =>
      match s.conn? conn with
      | none => s.connResult t conn ccBadState
      | some x =>
        let m := x.ctx.core.mode
        if m = .error then s.leaveDraining conn (.ofCause x.ctx.core.errorCause.toNat)
        else if m = .init ∨ m = .ready ∨ m = .frozen then
          s.setConn conn { x with
            ctx := { x.ctx with core := { x.ctx.core with mode := .draining } }
            drainAt := some s.now, destroying := true, freezeAt := none }
        else s.connResult t conn ccBadState))

/-- DRAIN_EXIT (R190, R195): OUTSTANDING is 0, or D5.0011 has passed since DESTROY. -/
def execDrainExit (conn : Nat) (s : State) : Outcome :=
  match s.conn? conn with
  | none => .next s
  | some x =>
    match x.drainAt with
    | none => .next s
    | some d =>
      if x.ctx.core.mode = .draining ∧ (x.outstanding = 0 ∨ d + s.par d5_0011 (connTower conn) ≤ s.now) then
        .next (s.leaveDraining conn .contextLost)
      else .next s

/-- QUARANTINE_END (R190, R195): the quarantine has passed, and the connection is FREE. -/
def execQuarantineEnd (conn : Nat) (s : State) : Outcome :=
  match s.conn? conn with
  | none => .next s
  | some x =>
    if x.ctx.core.mode = .quarantine ∧ x.quarantineEnd ≤ s.now then .next { s with conns := terase conn s.conns } else .next s

/-- R190: CORE words 0 to 15 as QUERY returns them; FREE and QUARANTINE show CONN, the incarnation and STATE. -/
def State.queryConn (s : State) (c : Nat) : BitVec 1024 :=
  match s.conn? c with
  | some x =>
    if x.ctx.core.mode = .quarantine then pack 1024 [(24, c), (8, (s.inc c).last.toNat), (3, 6)]
    else BitVec.ofNat 1024 (leNat ((s.shownCtx c x).bytes.take 128))
  | none => pack 1024 [(24, c), (8, (s.inc c).last.toNat), (3, 0)]

/-- CONN_QUERY (R189, R190). -/
def execConnQuery (t conn : Nat) (s : State) : Outcome :=
  .next (s.connCmd t conn (fun s =>
    match s.connNamed t conn with
    | some e => s.connResult t conn e
    | none =>
      let p := s.fn t
      (s.setFn t { p with conn := { p.conn with ctx := s.queryConn conn } }).connResult t conn ccOk))

/-- CONN_FLUSH (R189, R190, R204): the context is written to its backing and stays cached. [DEDUCED, log 55] -/
def execConnFlush (t conn : Nat) (s : State) : Outcome :=
  .next (s.connCmd t conn (fun s =>
    match s.connNamed t conn with
    | some e => s.connResult t conn e
    | none =>
      match s.conn? conn with
      | none => s.connResult t conn ccBadState
      | some x =>
        if x.ctx.core.mode = .quarantine then s.connResult t conn ccBadState
        else if x.cache = .out ∨ x.cache = .fetching then s.connResult t conn ccOk
        else
          let r := s.writeBack conn
          r.1.connResult t conn (if r.2 then ccOk else ccBackingError)))

/-- Handles that a tenant holds (D5.0201). -/
def State.handlesHeld (s : State) (t : Nat) : Nat :=
  (s.handles.filter (fun e => e.2.valid = 1 && e.2.tenant.toNat = t)).length

/-- R212: a connection that is neither FREE nor QUARANTINE names the handle. -/
def State.handleNamed (s : State) (t h : Nat) : Bool :=
  s.conns.any (fun e => e.2.ctx.core.mode ≠ .quarantine && e.2.ctx.core.tenant.toNat = t && e.2.ctx.core.handle.toNat = h)

/-- R187: complete a command that names a handle. -/
def State.handleResult (t code : Nat) (s : State) : State :=
  let p := s.fn t
  s.setFn t { p with conn := { endCmd code p.conn with aux := 0 } }

/-- HANDLE_WRITE (R188, R210 to R212): take, rewrite or free a handle. -/
def execHandleWrite (t handle : Nat) (s : State) : Outcome :=
  .next (s.connCmd t handle (fun s =>
    let w : W512 := (s.fn t).conn.ctx.setWidth 512
    let n := handle % 65536
    let new := Handle.ofWord w
    let old := s.handle n
    let held := old.valid = 1
    if held && old.tenant.toNat ≠ t then s.handleResult t ccNotOwner
    else if new.valid = 0 then
      if !held then s.handleResult t ccNotOwner
      else if s.handleNamed t n then s.handleResult t ccBadState
      else (s.setHandle n {}).handleResult t ccOk
    else if new.tenant.toNat ≠ t || new.encap.toNat ≥ 3 || !handleReservedZero w then s.handleResult t ccBadField
    else if !held && s.handlesHeld t ≥ s.par d5_8001 t then s.handleResult t ccNoContext
    else (s.setHandle n new).handleResult t ccOk))

/-- HANDLE_READ (R188, R189, R212). -/
def execHandleRead (t handle : Nat) (s : State) : Outcome :=
  .next (s.connCmd t handle (fun s =>
    let n := handle % 65536
    let h := s.handle n
    if h.valid = 1 && h.tenant.toNat = t then
      let p := s.fn t
      let hi := (p.conn.ctx >>> 512) <<< 512
      (s.setFn t { p with conn := { p.conn with ctx := hi ||| h.word.setWidth 1024 } }).handleResult t ccOk
    else s.handleResult t ccNotOwner))

/-- CONN_CMD_UNKNOWN (R187): an unlisted CMD or nonzero reserved bits: nothing changes, BAD_FIELD. -/
def execConnCmdUnknown (t : Nat) (value : W64) (s : State) : Outcome :=
  if 1 ≤ fieldNat 0 8 value ∧ fieldNat 0 8 value ≤ 0x0A ∧ fieldNat 32 32 value = 0 then .next s
  else .next (s.connCmd t (fieldNat 8 24 value) (fun s => s.handleResult t ccBadField))

end Sys2Proof.Machine
end

