-- ==== Sys2Proof/Machine/Formats.lean ====
section
/-! DEFINITION. The numbers of the Cupola cores: element formats, exact accumulators, conversion of inputs, read-out,
block formats, the stochastic generator (R401 to R416, R436). -/
namespace Sys2Proof.Machine

/-! ### Element formats (R401, R402) -/

/-- R401: a format: element bits, exponent bits, bias, mantissa bits, whether it has infinities, whether its NaNs are
those of FP32, whether E = 15, M = 7 alone is NaN, integer, block format. -/
structure Fmt where
  bits : Nat
  ebits : Nat
  bias : Nat
  mbits : Nat
  inf : Bool := false
  topNan : Bool := false
  int : Bool := false
  mx : Bool := false
  deriving DecidableEq, Repr

/-- R401: the formats of the table but ACC; none for a reserved code. -/
def fmtOf : Nat → Option Fmt
  | 0x01 => some { bits := 32, ebits := 8, bias := 127, mbits := 23, inf := true }
  | 0x02 => some { bits := 16, ebits := 8, bias := 127, mbits := 7, inf := true }
  | 0x03 => some { bits := 16, ebits := 5, bias := 15, mbits := 10, inf := true }
  | 0x04 => some { bits := 8, ebits := 4, bias := 7, mbits := 3, topNan := true }
  | 0x05 => some { bits := 8, ebits := 5, bias := 15, mbits := 2, inf := true }
  | 0x06 => some { bits := 8, ebits := 4, bias := 7, mbits := 3, topNan := true, mx := true }
  | 0x07 => some { bits := 8, ebits := 5, bias := 15, mbits := 2, inf := true, mx := true }
  | 0x08 => some { bits := 6, ebits := 3, bias := 3, mbits := 2, mx := true }
  | 0x09 => some { bits := 6, ebits := 2, bias := 1, mbits := 3, mx := true }
  | 0x0A => some { bits := 4, ebits := 2, bias := 1, mbits := 1, mx := true }
  | 0x0B => some { bits := 8, ebits := 0, bias := 0, mbits := 0, int := true }
  | 0x0C => some { bits := 32, ebits := 0, bias := 0, mbits := 0, int := true }
  | 0x0D => some { bits := 64, ebits := 11, bias := 1023, mbits := 52, inf := true }
  | _ => none

/-- The codes of FP64 and ACC. -/
def fmtFp64 : Nat := 0x0D
def fmtAcc : Nat := 0x0E

/-- R401: the code is listed. -/
def fmtKnown (f : Nat) : Bool := 1 ≤ f && f ≤ 0x0E

/-- R401, R402: the format is a block format. -/
def isMx (f : Nat) : Bool := 6 ≤ f && f ≤ 0x0A

/-- R402: bytes of one element, or of one block of 32 in a block format. -/
def unitBytes (f : Nat) : Nat :=
  if f = fmtAcc then 64
  else
    match fmtOf f with
    | some x => if x.mx then 1 + 4 * x.bits else x.bits / 8
    | none => 1

/-- Elements of a unit. -/
def unitElems (f : Nat) : Nat := if isMx f then 32 else 1

/-- Whether `len` bytes are whole elements of a format. -/
def wholeElems (f len : Nat) : Bool := len % unitBytes f = 0

/-- Elements in `len` bytes. -/
def elemsIn (f len : Nat) : Nat := len / unitBytes f * unitElems f

/-- Bytes of `n` elements. -/
def bytesFor (f n : Nat) : Nat := n / unitElems f * unitBytes f

/-- R403, R421: bytes of one accumulator. -/
def accBytes (f : Nat) : Nat := if f = fmtFp64 then 8 else 64

/-! ### Classes and the accumulator (R403 to R405) -/

/-- R403: the classes, in their codes. -/
inductive AccClass where
  | finite | posInf | negInf | nan
  deriving DecidableEq, Repr

def AccClass.code : AccClass → Nat
  | .finite => 0 | .posInf => 1 | .negInf => 2 | .nan => 3

def AccClass.ofCode : Nat → AccClass
  | 0 => .finite | 1 => .posInf | 2 => .negInf | _ => .nan

/-- R405: the join of classes. -/
def AccClass.join : AccClass → AccClass → AccClass
  | .finite, c => c
  | c, .finite => c
  | .posInf, .posInf => .posInf
  | .negInf, .negInf => .negInf
  | _, _ => .nan

/-- R403: an accumulator image. `s` is VALUE and WRAP together (R404). -/
structure Acc where
  s     : BitVec 328 := 0
  cls   : AccClass := .finite
  empty : Bool := false
  mixed : Bool := false
  rsv   : BitVec 4 := 0
  kind  : BitVec 8 := 0
  high  : BitVec 168 := 0
  deriving DecidableEq, Repr

/-- R403: the image as 64 bytes. -/
def Acc.word (a : Acc) : W512 :=
  pack 512 [(328, a.s.toNat), (2, a.cls.code), (1, if a.empty then 1 else 0), (1, if a.mixed then 1 else 0), (4, a.rsv.toNat),
    (8, a.kind.toNat), (168, a.high.toNat)]

/-- R403: the image that 64 bytes hold. -/
def Acc.ofWord (x : W512) : Acc where
  s := field 0 328 x
  cls := .ofCode (fieldNat 328 2 x)
  empty := flag 330 x
  mixed := flag 331 x
  rsv := field 332 4 x
  kind := field 336 8 x
  high := field 344 168 x

/-- R431: the image that CLEAR writes. -/
def Acc.cleared (op : Nat) : Acc := { kind := BitVec.ofNat 8 op, empty := op = 1 || op = 2 }

/-- The sum of a KIND SUM accumulator, or the value of a MAX or MIN accumulator, whose WRAP is 0, as an integer. -/
def Acc.total (a : Acc) : Int := if a.kind = 0 then a.s.toInt else (a.s.setWidth 320).toInt

/-! ### Converting inputs (R406 to R409) -/

/-- R406: one input element: its class and, where it is finite, its value in units of 2^-149. -/
structure Input where
  cls : AccClass
  val : Int
  deriving DecidableEq, Repr

/-- R406: element bits of a format in a block of scale X, `nanBlock` for a scale byte of 0xFF. -/
def decodeElem (f : Fmt) (x : Nat) (scale : Int) (nanBlock : Bool) : Input :=
  if f.int then ⟨.finite, toSigned f.bits x * (2 ^ 149 : Nat)⟩
  else if f.mx && nanBlock then ⟨.nan, 0⟩
  else
    let neg := natField (f.bits - 1) 1 x = 1
    let e := natField f.mbits f.ebits x
    let m := natField 0 f.mbits x
    let top := e = 2 ^ f.ebits - 1
    if f.inf && top && m = 0 then ⟨if neg then .negInf else .posInf, 0⟩
    else if (f.inf && top) || (f.topNan && top && m = 7) then ⟨.nan, 0⟩
    else
      let sig : Int := if e = 0 then m else m + 2 ^ f.mbits
      let e2 : Int := (if e = 0 then 1 else (e : Int)) - f.bias - f.mbits + scale
      let v := sig * (2 ^ (e2 + 149).toNat : Nat)
      ⟨.finite, if neg then -v else v⟩

/-- The elements of one unit of a format. -/
def decodeUnit (f : Fmt) (b : Bytes) : List Input :=
  if f.mx then
    let s := leAt 0 1 b
    let v := leNat (b.drop 1)
    (upTo 32).map (fun j => decodeElem f (natField (f.bits * j) f.bits v) ((s : Int) - 127) (s = 255))
  else [decodeElem f (leNat b) 0 false]

/-- Cut bytes into pieces of `n`; a last partial piece is dropped. -/
def chunks (n : Nat) : Nat → Bytes → List Bytes
  | 0, _ => []
  | k + 1, b => if b.length < n ∨ n = 0 then [] else b.take n :: chunks n k (b.drop n)

/-- The elements of a run of bytes. -/
def decodeAll (code : Nat) (b : Bytes) : List Input :=
  match fmtOf code with
  | some f => (chunks (unitBytes code) b.length b).flatMap (decodeUnit f)
  | none => []

/-- R406: add an input into an accumulator. -/
def Acc.add (a : Acc) (i : Input) : Acc :=
  if a.kind ≠ 0 then { a with mixed := true }
  else { a with
    cls := a.cls.join i.cls
    s := if i.cls = .finite then a.s + BitVec.ofInt 328 i.val else a.s }

/-- R407: add an ACC image. -/
def Acc.addImage (a b : Acc) : Acc :=
  if a.kind ≠ 0 then { a with mixed := true }
  else { a with
    s := a.s + b.s, cls := a.cls.join b.cls, mixed := a.mixed || b.mixed || b.kind ≠ 0 || b.empty }

/-- R409: whether a value is greater than another in the order -inf < finite < +inf. -/
def valueGreater (a b : Input) : Bool :=
  match a.cls, b.cls with
  | .posInf, .posInf => false
  | .posInf, .nan => false
  | .posInf, _ => true
  | .finite, .negInf => true
  | .finite, .finite => a.val > b.val
  | _, _ => false

/-- R409: MAX (op 1) or MIN (op 2). [DESIGN CHOICE, log 76] -/
def Acc.extreme (op : Nat) (a : Acc) (i : Input) : Acc :=
  if a.kind.toNat ≠ op then { a with mixed := true }
  else if i.cls = .nan then { a with cls := .nan, empty := false }
  else
    let cur : Input := ⟨a.cls, a.total⟩
    let wins := if op = 1 then valueGreater i cur else valueGreater cur i
    if a.empty || (a.cls ≠ .nan && wins) then
      { a with s := (BitVec.ofInt 320 i.val).setWidth 328, cls := i.cls, empty := false }
    else a

/-- An input of operation `op` (0 SUM, 1 MAX, 2 MIN). -/
def Acc.take (op : Nat) (a : Acc) (i : Input) : Acc := if op = 0 then a.add i else a.extreme op i

/-! ### Read-out (R410 to R416) -/

/-- Bits of a number. -/
def bitLen (n : Nat) : Nat := if n = 0 then 0 else n.log2 + 1

/-- R411: the rounding modes: RNE 0, RTZ 1, STOCHASTIC 2. -/
def roundUp (mode n r sh u : Nat) : Bool :=
  if sh = 0 then false
  else if mode = 0 then
    let h := 2 ^ (sh - 1)
    r > h || (r = h && n % 2 = 1)
  else if mode = 2 then r * 4294967296 / 2 ^ sh > u
  else false

/-- R410: the largest finite magnitude of a float format as its bits without sign. -/
def Fmt.maxBits (f : Fmt) : Nat :=
  if f.inf then (2 ^ f.ebits - 1) * 2 ^ f.mbits - 1
  else if f.topNan then 2 ^ (f.bits - 1) - 2
  else 2 ^ (f.bits - 1) - 1

/-- R410: the magnitude bits of |value| = m × 2^-unit, rounded: exponent and mantissa fields as one number, as a number
that may pass the format's largest. `scale` is X of a block format. -/
def roundMag (f : Fmt) (mode u : Nat) (m unit : Nat) (scale : Int) : Nat :=
  let p := f.mbits + 1
  let emin : Int := 1 - f.bias
  let e : Int := (bitLen m : Int) - 1 - unit - scale
  let q := max e emin - (p - 1 : Nat)
  let sh := (q + unit + scale).toNat
  let n := m / 2 ^ sh
  let r := m - n * 2 ^ sh
  let n := if roundUp mode n r sh u then n + 1 else n
  let q := if n = 2 ^ p then q + 1 else q
  let n := if n = 2 ^ p then 2 ^ (p - 1) else n
  if n < 2 ^ (p - 1) then n
  else (q + (p - 1 : Nat) + f.bias).toNat * 2 ^ f.mbits + (n - 2 ^ (p - 1))

/-- A signed encoding. -/
def withSign (f : Fmt) (neg : Bool) (mag : Nat) : Nat := if neg then mag + 2 ^ (f.bits - 1) else mag

/-- The bits of infinity of a format that has one. -/
def Fmt.infBits (f : Fmt) : Nat := (2 ^ f.ebits - 1) * 2 ^ f.mbits

/-- R412: the canonical NaN, 0 for the integer formats. -/
def Fmt.nanBits (f : Fmt) : Nat :=
  if f.int then 0 else if f.topNan then 0x7F else f.infBits + 2 ^ (f.mbits - 1)

/-- R412: ±INF, or beyond the largest finite value: the bits and whether it counts as range. `beyond`: the value was
finite. `mode` 0 SATURATE, 1 INFINITY. -/
def outOfRange (f : Fmt) (rangeMode : Nat) (neg beyond : Bool) : Nat × Bool :=
  if f.int then (if neg then 2 ^ (f.bits - 1) else 2 ^ (f.bits - 1) - 1, true)
  else if rangeMode = 0 then (withSign f neg f.maxBits, true)
  else if f.inf then (withSign f neg f.infBits, beyond)
  else if f.topNan then (withSign f neg 0x7F, true)
  else (withSign f neg f.maxBits, true)

/-- R410: an integer format's value of |value| = m × 2^-149. -/
def roundInt (f : Fmt) (mode u : Nat) (neg : Bool) (m rangeMode : Nat) : Nat × Bool :=
  let n := m / 2 ^ 149
  let r := m - n * 2 ^ 149
  let n := if roundUp mode n r 149 u then n + 1 else n
  let limit := if neg then 2 ^ (f.bits - 1) else 2 ^ (f.bits - 1) - 1
  if n > limit then outOfRange f rangeMode neg true
  else (ofSigned f.bits (if neg then -(n : Int) else n), false)

/-- R410, R412: a finite total in units of 2^-unit. -/
def readFinite (f : Fmt) (mode u rangeMode : Nat) (s : Int) (unit : Nat) : Nat × Bool :=
  if s = 0 then (0, false)
  else
    let neg := s < 0
    if f.int then roundInt f mode u neg s.natAbs rangeMode
    else
      let mag := roundMag f mode u s.natAbs unit 0
      if mag > f.maxBits then outOfRange f rangeMode neg true
      else if mag = 0 then (0, false)
      else (withSign f neg mag, false)

/-- R412: the most negative or most positive value that an EMPTY MAX or MIN reads. [DESIGN CHOICE, log 76] -/
def emptyBits (f : Fmt) (op : Nat) : Nat :=
  let neg := op = 1
  if f.int then (if neg then 2 ^ (f.bits - 1) else 2 ^ (f.bits - 1) - 1)
  else if f.inf then withSign f neg f.infBits
  else withSign f neg f.maxBits

/-- R410 to R412: read out one accumulator to a plain format. -/
def Acc.read (a : Acc) (f : Fmt) (mode u rangeMode : Nat) : Nat × Bool :=
  if a.mixed then (f.nanBits, f.int)
  else if a.empty && a.kind ≠ 0 then (emptyBits f a.kind.toNat, false)
  else
    match a.cls with
    | .nan => (f.nanBits, f.int)
    | .posInf => outOfRange f rangeMode false false
    | .negInf => outOfRange f rangeMode true false
    | .finite => readFinite f mode u rangeMode a.total 149

/-- R413: EMPTY accumulators of MAX or MIN in a block read as infinities, which a block format does not have. -/
def Acc.infinite (a : Acc) : Bool := (a.empty && a.kind ≠ 0) || a.cls = .posInf || a.cls = .negInf

/-- R413: emax of a block format. -/
def Fmt.emax (f : Fmt) : Int :=
  if f.ebits = 4 then 8 else if f.ebits = 5 then 15 else if f.ebits = 3 then 4 else 2

/-- R413: the largest e of R410 among the accumulators of a block. -/
def blockEmax (as : List Acc) : Int :=
  as.foldl (fun (x : Int) (a : Acc) => if a.total = 0 then x else max x ((bitLen a.total.natAbs : Int) - 150)) (-400)

/-- R413: one element of a block under scale X. -/
def readMxElem (f : Fmt) (mode u : Nat) (x : Int) (s : Int) : Nat :=
  if s = 0 then 0
  else
    let mag := min (roundMag f mode u s.natAbs 149 x) f.maxBits
    if mag = 0 then 0 else withSign f (s < 0) mag

/-- R413: a block from its scale byte and its elements. [DESIGN CHOICE, log 76] -/
def mxBlock (f : Fmt) (scale : Nat) (es : List Nat) : Bytes :=
  BitVec.ofNat 8 scale :: leBytes (4 * f.bits) (packNat (es.map (fun e => (f.bits, e))))

/-- R413: read out 32 accumulators to a block; the second part says whether the block counts as range. `us` are the
random values of the elements. -/
def readBlock (f : Fmt) (mode rangeMode : Nat) (us : List Nat) (as : List Acc) : Bytes × Bool :=
  let zeros := as.map (fun _ => 0)
  if as.any (fun a => a.mixed || (a.cls = .nan && !(a.empty && a.kind ≠ 0))) then (mxBlock f 255 zeros, false)
  else if as.any Acc.infinite then (mxBlock f 255 zeros, true)
  else if as.all (fun a => a.total = 0) then (mxBlock f 0 zeros, false)
  else
    let x := max (blockEmax as - f.emax) (-127)
    let range := x > 127
    if range && rangeMode ≠ 0 then (mxBlock f 255 zeros, true)
    else
      let x := min x 127
      (mxBlock f (x + 127).toNat (List.zipWith (fun (a : Acc) u => readMxElem f mode u x a.total) as us), range)

/-- R416: the random value of element k. -/
def stochastic (seed : W64) (iter k : Nat) : Nat :=
  let z := seed + BitVec.ofNat 64 iter * 0xD1B54A32D192ED03 + BitVec.ofNat 64 k * 0x9E3779B97F4A7C15
  let z := (z ^^^ (z >>> 30)) * 0xBF58476D1CE4E5B9
  let z := (z ^^^ (z >>> 27)) * 0x94D049BB133111EB
  let z := z ^^^ (z >>> 31)
  (z >>> 32).toNat

/-- R410 to R416: read out a run of accumulators, the first with element index `k`; the second part counts range. -/
def readOut (code mode rangeMode : Nat) (seed : W64) (iter k : Nat) (as : List Acc) : Bytes × Nat :=
  match fmtOf code with
  | none => (as.flatMap (fun a => bytesOf 64 a.word), 0)
  | some f =>
    if f.mx then
      (upTo (as.length / 32)).foldl (fun (acc : Bytes × Nat) b =>
        let r := readBlock f mode rangeMode ((upTo 32).map (fun j => stochastic seed iter (k + 32 * b + j))) ((as.drop (32 * b)).take 32)
        (acc.1 ++ r.1, acc.2 + (if r.2 then 32 else 0))) ([], 0)
    else
      ((as.mapIdx (fun i a => (i, a))).foldl (fun (acc : Bytes × Nat) e =>
        let r := e.2.read f mode (stochastic seed iter (k + e.1)) rangeMode
        (acc.1 ++ leBytes (f.bits / 8) r.1, acc.2 + (if r.2 then 1 else 0))) ([], 0))

/-! ### Products (R408) and FP64 (R436) -/

/-- The format of FP32 and of FP64. -/
def fp32 : Fmt := { bits := 32, ebits := 8, bias := 127, mbits := 23, inf := true }
def fp64 : Fmt := { bits := 64, ebits := 11, bias := 1023, mbits := 52, inf := true }

/-- An input is negative or zero as a factor. -/
def Input.sign (i : Input) : Int :=
  match i.cls with | .posInf => 1 | .negInf => -1 | .nan => 0 | .finite => i.val.sign

/-- R408: the product of a gate weight and an element, rounded once to FP32. -/
def gateProduct (w v : Input) : Input :=
  if w.cls = .nan || v.cls = .nan then ⟨.nan, 0⟩
  else if w.cls ≠ .finite || v.cls ≠ .finite then
    let g := w.sign * v.sign
    if g = 0 then ⟨.nan, 0⟩ else ⟨if g < 0 then .negInf else .posInf, 0⟩
  else
    let s := w.val * v.val
    decodeElem fp32 (readFinite fp32 0 0 1 s 298).1 0 false

/-- FP64 bits as class and value in units of 2^-1074. -/
def decode64 (x : Nat) : Input :=
  let neg := natField 63 1 x = 1
  let e := natField 52 11 x
  let m := natField 0 52 x
  if e = 2047 then ⟨if m ≠ 0 then .nan else if neg then .negInf else .posInf, 0⟩
  else
    let sig : Int := if e = 0 then m else m + 2 ^ 52
    let v := sig * (2 ^ (e - 1) : Nat)
    ⟨.finite, if neg then -v else v⟩

/-- R436: one binary64 addition, rounded to nearest even, to a class and a value in units of 2^-1074. -/
def add64 (a b : Input) : Input :=
  match a.cls.join b.cls with
  | .finite =>
    let s := a.val + b.val
    if s = 0 then ⟨.finite, 0⟩
    else
      let mag := roundMag fp64 0 0 s.natAbs 1074 0
      if mag > fp64.maxBits then ⟨if s < 0 then .negInf else .posInf, 0⟩ else decode64 (withSign fp64 (s < 0) mag)
  | c => ⟨c, 0⟩

/-- R412, R436: an FP64 result read out to FP64 or, rounded once more, to FP32. -/
def read64 (i : Input) (code rangeMode : Nat) : Nat × Bool :=
  let f := if code = 0x01 then fp32 else fp64
  match i.cls with
  | .nan => (f.nanBits, false)
  | .posInf => outOfRange f rangeMode false false
  | .negInf => outOfRange f rangeMode true false
  | .finite => readFinite f 0 0 rangeMode i.val 1074

end Sys2Proof.Machine
end

