-- ==== Sys2Proof/Machine/Realms.lean ====
section
/-! DEFINITION. Realms, realm keys, the local and remote checks, and
the realm control page (R224 to R234). -/
namespace Sys2Proof.Machine

/-! ### The realm context (R225) -/

/-- R225: the code of RSTATE. -/
def RealmMode.code : RealmMode → Nat
  | .free => 0 | .valid => 1 | .changing => 2

/-- R225: RSTATE of a code. -/
def RealmMode.ofCode : Nat → RealmMode
  | 1 => .valid | 2 => .changing | _ => .free

/-- R225: two words of a fence range. -/
def Fence.rows (f : Fence) : List (Nat × Nat) := [(4, f.perms.toNat), (8, 0), (52, f.start.toNat), (12, 0), (52, f.stop.toNat)]

/-- R225: a realm context as REALM_CTX0 to 7. -/
def Realm.word (r : Realm) : W512 :=
  pack 512 ([(8, r.tag.toNat), (3, r.mode.code), (5, 0), (2, r.space.toNat), (3, r.attachPort.toNat), (11, r.tenant.toNat),
    (16, r.tenantInc.toNat), (16, 0), (20, r.pasid.toNat), (1, r.pasidEn.toNat), (11, 0), (8, r.perms.toNat), (24, 0)]
    ++ r.fence0.rows ++ r.fence1.rows ++ r.fence2.rows)

/-- R225: the fence range whose first word begins at bit `lo`. -/
def Fence.ofWord (lo : Nat) (x : W512) : Fence where
  perms := field lo 4 x
  start := field (lo + 12) 52 x
  stop := field (lo + 76) 52 x

/-- R225: the realm that REALM_CTX0 to 7 hold. -/
def Realm.ofWord (x : W512) : Realm where
  tag := field 0 8 x
  mode := .ofCode (fieldNat 8 3 x)
  space := field 16 2 x
  attachPort := field 18 3 x
  tenant := field 21 11 x
  tenantInc := field 32 16 x
  pasid := field 64 20 x
  pasidEn := field 84 1 x
  perms := field 96 8 x
  fence0 := .ofWord 128 x
  fence1 := .ofWord 256 x
  fence2 := .ofWord 384 x

/-- R225: the reserved bits of REALM_CTX0 to 7 are zero. -/
def realmReservedZero (x : W512) : Bool :=
  fieldNat 11 5 x = 0 && fieldNat 48 16 x = 0 && fieldNat 85 11 x = 0 && fieldNat 104 24 x = 0 &&
  fieldNat 132 8 x = 0 && fieldNat 192 12 x = 0 && fieldNat 260 8 x = 0 && fieldNat 320 12 x = 0 &&
  fieldNat 388 8 x = 0 && fieldNat 448 12 x = 0

/-- R225: a fence range is used. -/
def Fence.used (f : Fence) : Bool := f.start ≠ f.stop

/-- R228: RANGE_PERMS grants only what PERMS grants: REMOTE_READ, REMOTE_WRITE, REMOTE_ACCUM, CROSS_PATH. -/
def fencePermsOk (perms : BitVec 8) (f : Fence) : Bool :=
  (!f.perms.getLsbD 0 || perms.getLsbD 2) && (!f.perms.getLsbD 1 || perms.getLsbD 3) &&
  (!f.perms.getLsbD 2 || perms.getLsbD 4) && (!f.perms.getLsbD 3 || perms.getLsbD 5)

/-- The fence ranges of a realm. -/
def Realm.fences (r : Realm) : List Fence := [r.fence0, r.fence1, r.fence2]

/-- R228, R555: the fields of CREATE and MODIFY. -/
def State.realmFieldsOk (s : State) (t : Nat) (x : W512) : Bool :=
  let r := Realm.ofWord x
  r.space ≠ 3 &&
  (if r.space = 2 then r.attachPort.toNat < s.towers && s.dict.active.portGranted t r.attachPort.toNat else r.attachPort = 0) &&
  (r.pasidEn = 0 || (r.space = 0 && (s.host (tenantHost t)).pasid)) &&
  (!r.perms.getLsbD 4 || r.space = 1) &&
  r.fences.all (fun f => f.start.toNat ≤ f.stop.toNat && fencePermsOk r.perms f) &&
  (!r.perms.getLsbD 6 || r.fences.any Fence.used) && realmReservedZero x

/-! ### The table -/

/-- A realm of the table; an unlisted index is FREE. -/
def State.realm? (s : State) (i : Nat) : Option Realm := tget i s.realms.realms
def State.setRealm (i : Nat) (r : Realm) (s : State) : State :=
  { s with realms := { s.realms with realms := tset i r s.realms.realms } }

/-- R229: a realm as checks see it: one under DESTROY is already FREE. -/
def State.liveRealm (s : State) (i : Nat) : Option Realm :=
  match s.realm? i with
  | some r => if r.destroying then none else some r
  | none => none

/-- R224: the key of a realm. -/
def realmKey (i : Nat) (tag : BitVec 8) : W32 := BitVec.ofNat 32 (i % 16777216 + tag.toNat * 16777216)

/-- The lowest index from `k` that a rising list of keys does not hold. -/
def firstGap : Nat → List Nat → Nat
  | k, [] => k
  | k, j :: js => if j < k then firstGap k js else if j = k then firstGap (k + 1) js else k

/-- R227: the free index that follows the one chosen last, with wrap; none when the table is full. -/
def State.nextRealm (s : State) : Option Nat :=
  let keys := s.realms.realms.map (·.1)
  let a := firstGap (s.realms.lastIndex + 1) keys
  if a < 1048576 then some a
  else
    let b := firstGap 0 keys
    if b < 1048576 then some b else none

/-- REALM_HELD: realms of a tenant. -/
def State.realmsHeld (s : State) (t : Nat) : Nat := (s.realms.realms.filter (fun e => e.2.tenant.toNat = t)).length

/-! ### The local check (R232) -/

/-- R233: reasons. -/
def rsNoRealm : Nat := 1
def rsTag : Nat := 2
def rsTenant : Nat := 3
def rsPermission : Nat := 4
def rsNotify : Nat := 5
def rsRange : Nat := 6
def rsTranslation : Nat := 7
def rsPower : Nat := 8

/-- What a local check decides: the place the buffer lies in, a failure with its reason, or a page the adapter holds
no translation for. -/
inductive LocalCheck where
  | ok (place : Place) (realm : Realm)
  | fail (reason : Nat)
  | translate (page : Nat)
  deriving DecidableEq, Repr

/-- R232: the status of a reason at the initiator. -/
def localStatus (reason : Nat) : Status :=
  if reason = rsTag then .keyStale else if reason = rsTranslation then .translationFault else .accessDenied

/-- The place that a realm opens. -/
def Realm.place (r : Realm) : Place :=
  ⟨r.space.toNat, r.attachPort.toNat, if r.pasidEn = 1 then r.pasid.toNat + 1 else 0⟩

/-- R558: the first page of a range, of those under a PASID, whose translation the adapter does not hold. -/
def State.missingPage (s : State) (t : Nat) (p : Place) (a len : Nat) (write : Bool) : Option Nat :=
  if p.space = 0 && p.pasid ≠ 0 && len ≠ 0 then
    ((upTo ((a + len - 1) / 4096 - a / 4096 + 1)).map (· + a / 4096)).find? (fun g =>
      !s.ats.any (fun x => x.fn = t && x.pasid = p.pasid && x.page = g && (x.write || !write)))
  else none

/-- R232: the local check of a key: `perm` 0 LOCAL_READ, 1 LOCAL_WRITE. -/
def State.localCheck (s : State) (t : Nat) (key : W32) (perm : Nat) (a len : Nat) : LocalCheck :=
  let i := fieldNat 0 24 key
  if i ≥ 1048576 then .fail rsNoRealm
  else
    match s.liveRealm i with
    | none => .fail rsNoRealm
    | some r =>
      if field 24 8 key ≠ r.tag then .fail rsTag
      else if r.tenant.toNat ≠ t || r.tenantInc ≠ (s.tenant t).inc then .fail rsTenant
      else if !r.perms.getLsbD perm then .fail rsPermission
      else if !s.placeOk t r.place a len (perm = 1) then .fail rsRange
      else
        match s.missingPage t r.place a len (perm = 1) with
        | some g => .translate g
        | none => .ok r.place r

/-- R226: an entry refused for a local key is counted. -/
def State.countLocalRefused (t : Nat) (s : State) : State :=
  let p := s.fn t
  s.setFn t { p with localRefused := p.localRefused + 1 }

/-- R232, R235: an entry fails its local check. -/
def State.failLocal (t : Nat) (e : EntryRef) (reason : Nat) (s : State) : State :=
  (s.countLocalRefused t).failEntry e (localStatus reason) (256 + reason)

/-- R558, R559: an entry waits for a translation: it is requested from the host. -/
def State.awaitPage (t : Nat) (e : EntryRef) (pasid page : Nat) (write : Bool) (s : State) : State :=
  let s := { s with atsWait := s.atsWait ++ [(⟨t, pasid, page, write, e.ring, e.first, e.pos, s.entryExpired e, none⟩ : AtsWait)] }
  (s.emit (.ats t 0 page)).runEntry e

/-- The realm that a key names has an index. -/
def State.keyPasid (s : State) (key : W32) : Nat :=
  match s.realm? (fieldNat 0 24 key) with | some r => r.place.pasid | none => 0

/-! ### The remote check (R233) -/

/-- R233, checks 6: with FENCE_EN the range lies wholly within one range whose RANGE_PERMS grants the operation. -/
def Realm.fenceOk (r : Realm) (a len bit : Nat) : Bool :=
  !r.perms.getLsbD 6 || r.fences.any (fun f =>
    f.used && f.start.toNat * 4096 ≤ a && a + len ≤ f.stop.toNat * 4096 && f.perms.getLsbD bit)

/-- R249: the last byte of an address range is within 64 bits. -/
def rangeFits (a len : Nat) : Bool := a + len ≤ 18446744073709551616

/-- R233: the realm checks of a request: 1 to 4, then 6 to 8 (check 5 stands between, with its own rule).
`bit`: 0 REMOTE_READ, 1 REMOTE_WRITE, 2 REMOTE_ACCUM. -/
def State.realmCheck (s : State) (t : Nat) (inc : BitVec 16) (key : W32) (bit : Nat) (a len : Nat) (notifyOk translates : Bool)
    (cupola : Option Nat) : Except Nat Realm :=
  let i := fieldNat 0 24 key
  if i ≥ 1048576 then .error rsNoRealm
  else
    match s.liveRealm i with
    | none => .error rsNoRealm
    | some r =>
      if field 24 8 key ≠ r.tag then .error rsTag
      else if r.tenant.toNat ≠ t || r.tenantInc ≠ inc then .error rsTenant
      else if !r.perms.getLsbD (bit + 2) then .error rsPermission
      else if !notifyOk then .error rsNotify
      else if !rangeFits a len || !s.placeOk t r.place a len (bit ≠ 0) || !r.fenceOk a len bit then .error rsRange
      else if r.place.space = 0 && r.place.pasid ≠ 0 && !translates then .error rsTranslation
      else if s.placeShut r.place a len || (match cupola with | some k => s.domShut (domCupola k) | none => false) then
        .error rsPower
      else .ok r

/-- R233, R235: the initiator's status of a refusal's reason. -/
def remoteStatus (reason : Nat) : Status :=
  if reason = rsTag then .keyStale else if reason = rsPower then .poweredDown else .remoteAccess

/-- R234: a refused packet is counted for the realm's tenant. [DESIGN CHOICE, log 54] -/
def State.countRemoteRefused (key : W32) (t : Nat) (s : State) : State :=
  let o := match s.realm? (fieldNat 0 24 key) with | some r => r.tenant.toNat | none => t
  let p := s.fn o
  s.setFn o { p with remoteRefused := p.remoteRefused + 1 }

/-! ### The realm control page (R226 to R229) -/

/-- Result codes of the realm control page. -/
def rcOk : Nat := 0
def rcNoRealm : Nat := 1
def rcBadState : Nat := 2
def rcBadField : Nat := 3
def rcNoContext : Nat := 4
def rcNotOwner : Nat := 5

/-- R226: run a command of the realm control page: discarded with LOST while BUSY. -/
def State.realmCmd (t target : Nat) (f : State → State) (s : State) : State :=
  if !s.fnLive t then s
  else
    let p := s.fn t
    if p.realm.busy then s.setFn t { p with realm := { p.realm with lost := true } }
    else f (s.setFn t { p with realm := { p.realm with busy := true, target := BitVec.ofNat 32 target } })

/-- R226: complete a command: RESULT, and KEY the realm's key after it. [DESIGN CHOICE, log 54] -/
def State.realmResult (t code : Nat) (key : W32) (s : State) : State :=
  let p := s.fn t
  s.setFn t { p with realm := { endCmd code p.realm with aux := key } }

/-- The image in REALM_CTX0 to 7. [DESIGN CHOICE, log 54] -/
def State.realmImage (s : State) (t : Nat) : W512 := (s.fn t).realm.ctx.setWidth 512

/-- REALM_CREATE (R227, R228). -/
def execRealmCreate (t : Nat) (s : State) : Outcome :=
  .next (s.realmCmd t 0 (fun s =>
    let x := s.realmImage t
    if !s.realmFieldsOk t x then s.realmResult t rcBadField 0
    else if s.realmsHeld t ≥ s.par d12_8004 t then s.realmResult t rcNoContext 0
    else
      match s.nextRealm with
      | none => s.realmResult t rcNoContext 0
      | some i =>
        let tag := tgetD s.realms.lastTags i 0 + 1
        let r := { Realm.ofWord x with
          tag := tag, mode := .valid, tenant := BitVec.ofNat 11 t, tenantInc := (s.tenant t).inc }
        let s := { s with realms := {
          realms := tset i r s.realms.realms, lastTags := tput 0 i tag s.realms.lastTags, lastIndex := i } }
        s.realmResult t rcOk (realmKey i tag)))

/-- R227: a command on an existing realm of the tenant in VALID; else the code of the refusal. -/
def State.withRealm (t i : Nat) (f : Realm → State → State) (s : State) : State :=
  match s.realm? i with
  | none => s.realmResult t rcNoRealm 0
  | some r =>
    if r.tenant.toNat ≠ t then s.realmResult t rcNotOwner 0
    else if r.mode = .changing then s.realmResult t rcBadState (realmKey i r.tag)
    else f r s

/-- REALM_MODIFY (R227 to R229): PERMS and the fence ranges are replaced, and the realm enters CHANGING. -/
def execRealmModify (t realm : Nat) (s : State) : Outcome :=
  .next (s.realmCmd t realm (fun s => s.withRealm t realm (fun r s =>
    let x := s.realmImage t
    let n := Realm.ofWord x
    if !s.realmFieldsOk t x || n.space ≠ r.space || n.attachPort ≠ r.attachPort || n.pasid ≠ r.pasid || n.pasidEn ≠ r.pasidEn then
      s.realmResult t rcBadField (realmKey realm r.tag)
    else
      s.setRealm realm { r with
        perms := n.perms, fence0 := n.fence0, fence1 := n.fence1, fence2 := n.fence2, mode := .changing, changeAt := s.now })))

/-- REALM_REVOKE (R227, R229, R230): TAG advances, and the realm enters CHANGING. -/
def execRealmRevoke (t realm : Nat) (s : State) : Outcome :=
  .next (s.realmCmd t realm (fun s => s.withRealm t realm (fun r s =>
    let s := { s with realms := { s.realms with lastTags := tput 0 realm (r.tag + 1) s.realms.lastTags } }
    s.setRealm realm { r with tag := r.tag + 1, mode := .changing, changeAt := s.now })))

/-- REALM_DESTROY (R227, R229): through CHANGING to FREE; no access passes from now on. -/
def execRealmDestroy (t realm : Nat) (s : State) : Outcome :=
  .next (s.realmCmd t realm (fun s => s.withRealm t realm (fun r s =>
    s.setRealm realm { r with mode := .changing, destroying := true, changeAt := s.now })))

/-- REALM_QUERY (R227). -/
def execRealmQuery (t realm : Nat) (s : State) : Outcome :=
  .next (s.realmCmd t realm (fun s => s.withRealm t realm (fun r s =>
    let p := s.fn t
    (s.setFn t { p with realm := { p.realm with ctx := ((p.realm.ctx >>> 512) <<< 512) ||| r.word.setWidth 1024 } }).realmResult
      t rcOk (realmKey realm r.tag))))

/-- REALM_CMD_UNKNOWN (R226). -/
def execRealmCmdUnknown (t : Nat) (value : W64) (s : State) : Outcome :=
  if 1 ≤ fieldNat 0 8 value ∧ fieldNat 0 8 value ≤ 5 ∧ fieldNat 32 32 value = 0 then .next s
  else .next (s.realmCmd t (fieldNat 8 24 value) (fun s => s.realmResult t rcBadField 0))

end Sys2Proof.Machine
end

