-- ==== Sys2Proof/Machine/RateCtl.lean ====
section
/-! DEFINITION. Dome rate control (R333 to R346): delay samples, the rate, pacing, path weights, pruning, selection. -/
namespace Sys2Proof.Machine

/-- An arithmetic shift right of an integer. -/
def asr (x : Int) (n : Nat) : Int := x / (2 ^ n : Nat)

/-- Change path `p` of a context. -/
def Ctx.modifyPath (p : Nat) (f : PathRec → PathRec) (x : Ctx) : Ctx :=
  { x with paths := x.paths.mapIdx (fun i r => if i = p then f r else r) }

/-- The record of path `p`. -/
def Ctx.path (x : Ctx) (p : Nat) : PathRec := x.paths.getD p unusedPath

/-- R337: RATE, not above the tenant's cap. -/
def State.cappedRate (s : State) (k : Core) (r : Rate) : Nat := min r.rate.toNat (s.par d8_8006 k.tenant.toNat)

/-- R335, R336: lower the rate by a cut of so many 1/1,024, at most once per smoothed round trip. -/
def State.cutRate (s : State) (ce : Bool) (qd : Nat) (x : Ctx) : Ctx × Nat :=
  let r := x.rate
  if r.nextDec.toNat ≤ s.now then
    let t := s.par d8_0010 0
    let cut := if qd > t then min (s.par d8_0013 0) ((qd - t) * s.par d8_0012 0 / t) else 0
    let cut := if ce then max cut (s.par d8_0014 0) else cut
    let now := s.cappedRate x.core r
    ({ x with rate := { r with
        rate := BitVec.ofNat 32 (max (s.par d8_0003 0) (now - now * cut / 1024))
        nextDec := BitVec.ofNat 64 (s.now + r.srtt.toNat)
        decCount := r.decCount + 1 } }, 1)
  else (x, 0)

/-- R335: raise the rate by acknowledged bytes. -/
def State.raiseRate (s : State) (acked : Nat) (x : Ctx) : Ctx :=
  let r := x.rate
  let acc := r.incAcc.toNat + acked
  { x with rate := { r with
      rate := BitVec.ofNat 32 (min (s.par d8_8006 x.core.tenant.toNat) (s.cappedRate x.core r + acc / 4096 * s.par d8_0015 0))
      incAcc := BitVec.ofNat 32 (acc % 4096) } }

/-- R335: update_rate; the second part counts rate decreases. -/
def State.updateRate (s : State) (qd : Nat) (ce : Bool) (acked : Nat) (x : Ctx) : Ctx × Nat :=
  if ce || qd > s.par d8_0010 0 then s.cutRate ce qd x else (s.raiseRate acked x, 0)

/-- R342: update_weight. -/
def State.updateWeight (s : State) (qd : Nat) (ce : Bool) (r : PathRec) : PathRec :=
  let t := s.par d8_0010 0
  let w := r.weight.toNat
  if ce || qd > t then { r with weight := BitVec.ofNat 8 (max 1 (w - w / 4)) }
  else if qd ≤ t / 2 then { r with weight := BitVec.ofNat 8 (min 255 (w + 1)) }
  else r

/-- ACTIVE paths of a context. -/
def State.activePaths (s : State) (x : Ctx) : Nat :=
  ((x.paths.zipIdx).filter (fun e => e.1.pstate = 1 && !s.ctxPathDown x e.2)).length

/-- R345: prune a path unless it is the only ACTIVE one or already pruned; the second part counts. [DEDUCED, log 62] -/
def State.prune (s : State) (p : Nat) (x : Ctx) : Ctx × Nat :=
  if (x.path p).pstate = 1 ∧ s.activePaths x ≠ 1 then
    (x.modifyPath p (fun r => { r with
      pstate := 2, pruneEnd := BitVec.ofNat 10 (s.now / 65536 + ceilDiv (s.par d8_0021 0) 65536) }), 1)
  else (x, 0)

/-- R333, R334, R337: apply a delay sample of path `p`; the further parts count rate decreases and prunings. -/
def State.delaySample (s : State) (p : Nat) (echo rx : W32) (ce : Bool) (acked : Nat) (x : Ctx) : Ctx × Nat × Nat :=
  let owd := (rx - echo).toInt
  let rtt := (s.tag - echo).toInt
  if owd < 0 ∨ owd > s.par d8_0005 0 then
    ({ x with rate := { x.rate with discarded := x.rate.discarded + 1 } }, 0, 0)
  else
    let x := if x.rate.baseEpoch.toNat + s.par d8_0011 0 ≤ s.now then
        { x with
          paths := x.paths.map (fun r => { r with baseDelay := 0xFFFF })
          rate := { x.rate with baseEpoch := BitVec.ofNat 64 s.now } }
      else x
    let base := min (x.path p).baseDelay.toNat owd.toNat
    let qd := owd.toNat - base
    let srtt : Int := x.rate.srtt.toNat + asr (rtt - x.rate.srtt.toNat) 3
    let q : Int := 4 * (x.path p).qdelay.toNat
    let q := q + asr (qd - q) 3
    let x := { x with rate := { x.rate with
      rate := BitVec.ofNat 32 (s.cappedRate x.core x.rate), srtt := BitVec.ofInt 32 srtt, ceCount := if ce then x.rate.ceCount + 1 else x.rate.ceCount } }
    let x := x.modifyPath p (fun r => s.updateWeight qd ce { r with
      baseDelay := BitVec.ofNat 16 base, qdelay := BitVec.ofNat 12 (min 4095 (asr q 2).toNat), lossRecent := 0 })
    let u := s.updateRate qd ce acked x
    let v := if 4 * (u.1.path p).qdelay.toNat > s.par d8_0020 0 then s.prune p u.1 else (u.1, 0)
    (v.1, u.2, v.2)

/-- R338: refill the bucket; RATE is clamped to the tenant's cap here too (R337). -/
def State.refill (s : State) (x : Ctx) : Ctx :=
  let r := x.rate
  let rate := s.cappedRate x.core r
  let tokens := min ((s.par d8_0004 0 * 256 : Nat) : Int) (r.tokens.toInt + (rate * (s.now - r.lastRefill.toNat) : Nat))
  { x with rate := { r with
      rate := BitVec.ofNat 32 rate, tokens := BitVec.ofInt 32 tokens, lastRefill := BitVec.ofNat 64 s.now } }

/-- R344: a copy on path `p` is declared lost: its weight halves; a second loss in a row makes it a prune candidate. -/
def State.pathLoss (s : State) (p : Nat) (x : Ctx) : Ctx × Nat :=
  let r := x.path p
  let x := x.modifyPath p (fun r => { r with weight := BitVec.ofNat 8 (max 1 (r.weight.toNat / 2)), lossRecent := 1 })
  if r.lossRecent = 1 then s.prune p x else (x, 0)

/-- R346: pruned paths whose PRUNE_END has passed return at a path selection. -/
def State.pruneEnds (s : State) (x : Ctx) : Ctx :=
  let t : BitVec 10 := BitVec.ofNat 10 (s.now / 65536)
  { x with paths := x.paths.map (fun r =>
      if r.pstate = 2 ∧ (r.pruneEnd - t).toInt ≤ 0 then
        { r with pstate := 1, weight := BitVec.ofNat 8 (s.par d8_0023 0), qdelay := 0, swrr := 0, lossRecent := 0 }
      else r) }

/-! ### Path selection (R341, R343) -/

/-- R256, D6.0005: the PCP of a VC. -/
def State.pcp (s : State) (vc : Nat) : Nat := natField (3 * vc) 3 (s.par d6_0005 0)

/-- R356: a VC is paused on a port in Ethernet standard mode. -/
def State.vcPaused (s : State) (n vc : Nat) : Bool :=
  let p := s.port n
  p.modeCode ≠ 0x10 && (s.now < tgetD p.paused 8 0 || s.now < tgetD p.paused (s.pcp vc) 0)

/-- R341: a path's usability for a packet: what the bound of D8.0033 alone decides stands apart. -/
def State.pathOpen (s : State) (h : SpraySet) (x : Ctx) (vc p : Nat) : Bool :=
  let n := (s.dict.active.portEntry (h.list + p)).port
  p < h.count && (x.path p).pstate = 1 && !s.pathIsDown h p && !s.vcPaused n vc &&
  !s.domShut (domLanes (portTower n)) && !s.domShut (domTower (portTower n))

/-- R341: the port holds D8.0033 or more bytes of the packet's VC. -/
def State.portFull (s : State) (n vc : Nat) : Bool := (s.port n).vcBytes vc ≥ s.par d8_0033 n

/-- R341: the usable paths, and the ports that the bound alone left out. -/
def State.usablePaths (s : State) (h : SpraySet) (x : Ctx) (vc : Nat) : List Nat × List Nat :=
  let open_ := (upTo h.count).filter (s.pathOpen h x vc)
  let port := fun p => (s.dict.active.portEntry (h.list + p)).port
  (open_.filter (fun p => !s.portFull (port p) vc), (open_.filter (fun p => s.portFull (port p) vc)).map port)

/-- The path with the largest selection counter, the lowest index of equals. -/
def bestPath (x : Ctx) : List Nat → Option Nat
  | [] => none
  | p :: ps =>
    match bestPath x ps with
    | none => some p
    | some q => if (x.path q).swrr.toInt > (x.path p).swrr.toInt then some q else some p

/-- R343: smooth weighted round robin over the usable paths. [DEDUCED, log 62] -/
def selectPath (x : Ctx) (usable : List Nat) : Ctx × Option Nat :=
  let x := usable.foldl (fun x p => x.modifyPath p (fun r => { r with swrr := r.swrr + r.weight.setWidth 15 })) x
  let total := usable.foldl (fun a p => a + (x.path p).weight.toNat) 0
  match bestPath x usable with
  | none => (x, none)
  | some c => (x.modifyPath c (fun r => { r with swrr := r.swrr - BitVec.ofNat 15 total }), some c)

/-- R286: the next usable path after the path of the latest copy, in ascending order with wrap; the same path last. -/
def nextPath (last : Nat) (usable : List Nat) : Option Nat :=
  match usable.find? (fun p => p > last) with
  | some p => some p
  | none => usable.head?

end Sys2Proof.Machine
end

