-- ==== Sys2Proof/Machine/Sender.lean ====
section
/-! DEFINITION. The sending side of a connection: messages, packets, acknowledgements, refusals, voids, losses and
timers (R262, R270, R276 to R294, R336, R344). -/
namespace Sys2Proof.Machine

/-! ### Messages -/

/-- R262: packets of a message of `len` bytes in chunks of `q`. -/
def packetsOf (len q : Nat) : Nat := if len = 0 then 1 else ceilDiv len q

/-- R262: bytes of packet `i`. -/
def TxMsg.bytesAt (m : TxMsg) (i : Nat) : Nat := min m.length ((i + 1) * m.chunk) - i * m.chunk

/-- R254, R276: give a message its MSN and append it to the connection's messages. -/
def State.post (c : Nat) (m : TxMsg) (s : State) : State :=
  match s.conn? c with
  | none => s
  | some x =>
    let d := x.ctx.delivery
    s.setConn c (x.able s.now { x with
      tx := x.tx ++ [{ m with msn := d.txMsn, conn := c }]
      ctx := { x.ctx with delivery := { d with txMsn := d.txMsn + 1 } } })

/-- A packet that carries payload bytes of its own side's memory. -/
def MsgKind.hasPayload : MsgKind → Bool
  | .write | .writeImm | .accum | .resp => true
  | .read | .flush => false

/-- R260: the PTYPE of a kind. -/
def MsgKind.ptype : MsgKind → Nat
  | .write => 1 | .writeImm => 2 | .read => 3 | .resp => 4 | .accum => 5 | .flush => 6

/-- A message of the connection, by MSN and direction. -/
def Conn.msg? (x : Conn) (msn : W32) (resp : Bool) : Option TxMsg :=
  x.tx.find? (fun m => m.msn = msn && (m.kind = .resp) = resp)

/-- Change a message of the connection. -/
def Conn.modifyMsg (x : Conn) (msn : W32) (resp : Bool) (f : TxMsg → TxMsg) : Conn :=
  { x with tx := x.tx.map (fun m => if m.msn = msn && (m.kind = .resp) = resp then f m else m) }

/-- Change a packet in flight. -/
def Conn.modifyPkt (x : Conn) (psn : W32) (f : TxPkt → TxPkt) : Conn :=
  { x with flight := x.flight.map (fun p => if p.psn = psn then f p else p) }

/-- A packet in flight. -/
def Conn.pkt? (x : Conn) (psn : W32) : Option TxPkt := x.flight.find? (fun p => p.psn = psn)

/-- Messages that have ended on both sides leave the tracker, a voided READ once the peer has closed it; responses leave
once they are acknowledged. -/
def Conn.sweep (x : Conn) : Conn :=
  { x with tx := x.tx.filter (fun m =>
      if m.kind = .resp then m.sent < m.packets || x.flight.any (fun p => p.msn = m.msn && p.kind = .resp && !p.acked)
      else !(m.reported && (m.closed || (m.kind = .read && m.voided.isSome)))) }

/-- R278: stop a message's data: its chain fails with the status, and VOIDs take the place of what is owed; a message
that has not sent all its packets sends one VOID more. -/
def State.voidMsg (c : Nat) (msn : W32) (resp : Bool) (status : Status) (detail : Nat) (s : State) : State :=
  match s.conn? c with
  | none => s
  | some x =>
    match x.msg? msn resp with
    | none => s
    | some m =>
      if m.voided.isSome || m.closed then s
      else
        let x := x.modifyMsg msn resp (fun m => { m with
          voided := some (status.code, detail), voidEnd := !resp && decide (m.sent < m.packets) })
        let x := { x with flight := x.flight.map (fun p =>
          if p.msn = msn && (p.kind = .resp) = resp && !p.acked then { p with void := true } else p) }
        (s.setConn c x).messageFail m status detail

/-! ### Acknowledgements (R269, R279, R284) -/

/-- R269: `p` lies before `cum` in serial order, seen from `una`. -/
def psnBefore (p cum : W32) : Bool := (p - cum).toInt < 0

/-- R284, R288: acknowledge every PSN in flight that `f` names; the second part is the payload bytes acknowledged for
the first time. A PSN with a copy sent before one of them was sent learns of a later acknowledgement. -/
def Conn.ackWhere (x : Conn) (now : Nat) (f : W32 → Bool) : Conn × Nat :=
  let new := x.flight.filter (fun p => !p.acked && f p.psn)
  let bytes := new.foldl (fun a p => a + (if p.void then 0 else p.len)) 0
  let fl := x.flight.map (fun p => if !p.acked && f p.psn then { p with acked := true, owed := false } else p)
  let fl := fl.map (fun p =>
    if !p.acked && p.tag.isSome && p.laterAck.isNone && new.any (fun q => p.sentAt < q.sentAt) then
      { p with laterAck := some now }
    else p)
  let una := x.ctx.core.txUna
  let map := x.ctx.txMap ||| new.foldl (fun m p => m ||| ((1 : BitVec 4096) <<< serialDiff p.psn una)) 0
  ({ x with flight := fl, ctx := { x.ctx with txMap := map } }, bytes)

/-- R284: TX_UNA becomes `cum`, TX_MAP shifts, RETRY_COUNT becomes 0, and the timer runs from the new TX_UNA's copy. -/
def Conn.advanceUna (x : Conn) (cum : W32) : Conn :=
  let k := x.ctx.core
  if serialNewer cum k.txUna then
    let fl := x.flight.filter (fun p => !psnBefore p.psn cum)
    let rto := match fl.find? (fun p => p.psn = cum) with
      | some p => if p.tag.isSome then some p.sentAt else none
      | none => none
    { x with
      flight := fl, rtoFrom := rto, busyPsn := if psnBefore x.busyPsn cum then cum else x.busyPsn
      ctx := { x.ctx with
        txMap := x.ctx.txMap >>> serialDiff cum k.txUna
        core := { k with txUna := cum, retryCount := 0 }
        delivery := { x.ctx.delivery with busyStreak := if psnBefore x.busyPsn cum then 0 else x.ctx.delivery.busyStreak } } }
  else x

/-- R280: own messages other than READs that wait for a MSG_CONFIRM. -/
def Conn.awaiting (x : Conn) : Bool :=
  x.tx.any (fun m => (m.kind = .write || m.kind = .writeImm || m.kind = .accum || m.kind = .flush) && !m.reported)

/-- R280: since when every PSN is acknowledged while messages stay unconfirmed. -/
def Conn.markQuery (x : Conn) (now : Nat) : Conn :=
  if x.awaiting && x.tx.all (fun m => m.sent = m.packets || m.voided.isSome) && x.flight.all (·.acked) then
    { x with querySince := x.querySince.or (some now) }
  else { x with querySince := none, queries := 0 }

/-- R279: the peer has closed every message up to `conf`: each ends, or, voided, has already failed. -/
def State.confirmTo (c : Nat) (conf : W32) (s : State) : State :=
  match s.conn? c with
  | none => s
  | some x =>
    let hit := fun (m : TxMsg) => m.kind ≠ MsgKind.resp && !m.reported && (m.msn - conf).toInt ≤ 0
    let done := x.tx.filter (fun (m : TxMsg) => hit m && m.kind ≠ MsgKind.read && !m.closed)
    let x := { x with tx := x.tx.map (fun m =>
      if hit m then { m with reported := true, closed := m.closed || m.kind ≠ MsgKind.read } else m) }
    let s := s.setConn c x.sweep
    done.foldl (fun s m => if m.voided.isSome then s else s.messageDone m) s

/-- R284: an ACK's CUM_PSN lies after TX_NEXT_PSN. -/
def Conn.ackTooFar (x : Conn) (cum : W32) : Bool := serialNewer cum x.ctx.core.txNextPsn

/-- R333, R334: apply a delay sample of an ACTIVE or PRUNED path to a dome connection, with its counters. -/
def State.sample (c : Nat) (path : Nat) (echo rx : W32) (ce : Bool) (acked : Nat) (s : State) : State :=
  match s.conn? c with
  | none => s
  | some x =>
    let st := (x.ctx.path path).pstate
    if x.ctx.core.cls = 0 ∧ (st = 1 ∨ st = 2) ∧ !s.ctxPathDown x.ctx path then
      let r := s.delaySample path echo rx ce acked x.ctx
      let t := x.ctx.core.tenant.toNat
      ((s.setConn c { x with ctx := r.1 }).count d8_0201 t r.2.1).count d8_0202 t r.2.2
    else s

/-- LAST_ACTIVITY of a connection. -/
def Conn.touch (x : Conn) (now : Nat) : Conn :=
  { x with ctx := { x.ctx with core := { x.ctx.core with lastActivity := BitVec.ofNat 64 now } } }

/-- ACK (R264, R279, R284, R333). -/
def State.takeAck (c : Nat) (p : Packet) (s : State) : State :=
  match s.conn? c with
  | none => s
  | some x =>
    let cum : W32 := field 0 32 p.ext
    let base : W32 := field 32 32 p.ext
    let sack : BitVec 256 := field 64 256 p.ext
    if x.ackTooFar cum then s.bump d6_0105 (connTower c)
    else
      let a := x.ackWhere s.now (fun q => psnBefore q cum || (serialDiff q base < 256 && sack.getLsbD (serialDiff q base)))
      let s := s.setConn c (x.able s.now (((a.1.advanceUna cum).sweep.markQuery s.now).touch s.now))
      let echo := fieldNat 416 8 p.ext
      if echo / 128 = 1 then s
      else s.sample c (echo % 64) (field 352 32 p.ext) (field 384 32 p.ext) (echo / 64 % 2 = 1) a.2

/-- R279: a MSG_CONFIRM acknowledges every PSN before its CUM_PSN and reports messages closed. -/
def State.takeConfirm (c : Nat) (p : Packet) (s : State) : State :=
  match s.conn? c with
  | none => s
  | some x =>
    let conf : W32 := field 0 32 p.ext
    let cum : W32 := field 32 32 p.ext
    if x.ackTooFar cum then s.bump d6_0105 (connTower c)
    else
      let a := x.ackWhere s.now (fun q => psnBefore q cum)
      let x := x.able s.now { ((a.1.advanceUna cum).touch s.now) with queries := 0, querySince := none }
      let s := (s.setConn c x).confirmTo c conf
      match s.conn? c with
      | some y => s.setConn c (y.sweep.markQuery s.now)
      | none => s

/-! ### Losses and timers (R286 to R294, R336, R344) -/

/-- R185: the retransmissions allowed. -/
def Core.limit (k : Core) : Nat := if k.retryLimit = 0 then 7 else k.retryLimit.toNat

/-- R290: give up: ERROR with RETRY_EXHAUSTED, counted. [DEDUCED, log 61] -/
def State.exhausted (c : Nat) (s : State) : State :=
  match s.conn? c with
  | none => s
  | some x => (s.bump d6_0200 x.ctx.core.tenant.toNat).connError c .retryExhausted

/-- R344: path loss with its counter. -/
def State.losePath (c path : Nat) (s : State) : State :=
  match s.conn? c with
  | none => s
  | some x =>
    if x.ctx.core.cls = 0 then
      let r := s.pathLoss path x.ctx
      (s.setConn c { x with ctx := r.1 }).count d8_0202 x.ctx.core.tenant.toNat r.2
    else s

/-- R336: the rate step of a declared loss. -/
def State.loseRate (c : Nat) (s : State) : State :=
  match s.conn? c with
  | none => s
  | some x =>
    if x.ctx.core.cls = 0 then
      let r := s.updateRate 0 true 0 x.ctx
      (s.setConn c { x with ctx := r.1 }).count d8_0201 x.ctx.core.tenant.toNat r.2
    else s

/-- R336: the halving of an RTO. -/
def State.halveRate (c : Nat) (s : State) : State :=
  match s.conn? c with
  | none => s
  | some x =>
    if x.ctx.core.cls = 0 then
      let r := x.ctx.rate
      (s.setConn c { x with ctx := { x.ctx with rate := { r with
        rate := BitVec.ofNat 32 (max (s.par d8_0003 0) (r.rate.toNat / 2))
        nextDec := BitVec.ofNat 64 (s.now + r.srtt.toNat)
        decCount := r.decCount + 1 } } }).bump d8_0201 x.ctx.core.tenant.toNat
    else s

/-- R286, R290: a copy of a PSN is owed; for TX_UNA it raises RETRY_COUNT, and one too many ends the connection. -/
def State.oweCopy (c : Nat) (psn : W32) (counts : Bool) (s : State) : State :=
  match s.conn? c with
  | none => s
  | some x =>
    let k := x.ctx.core
    if counts && psn = k.txUna && k.retryCount.toNat + 1 > k.limit then s.exhausted c
    else
      let y := x.modifyPkt psn (fun p => { p with owed := true, laterAck := none })
      let y := if counts && psn = k.txUna then
          { y with ctx := { y.ctx with core := { k with retryCount := k.retryCount + 1 } } }
        else y
      s.setConn c (x.able s.now y)

/-- R288: the reorder slack. -/
def State.slack (s : State) (c : Nat) (x : Conn) : Nat :=
  if x.ctx.core.cls = 0 then s.par d6_0040 (connTower c) else s.par d6_0041 (connTower c)

/-- R288: a PSN is lost. -/
def State.isLost (s : State) (c : Nat) (x : Conn) (p : TxPkt) : Bool :=
  !p.acked && !p.owed && !p.queued && (match p.laterAck with | some t => t + s.slack c x ≤ s.now | none => false)

/-- R286, R288, R336, R344: a declared loss. -/
def State.declareLost (c : Nat) (p : TxPkt) (s : State) : State :=
  ((((s.bump d6_0107 (connTower c)).loseRate c).losePath c p.path).oweCopy c p.psn true)

/-- LOSS_DETECT (R288, R336, R344): the reorder slack has passed for an unacknowledged PSN. -/
def execLossDetect (conn : Nat) (psn : W32) (s : State) : Outcome :=
  .next (s.withCtx conn (fun x s =>
    match x.pkt? psn with
    | none => s
    | some p => if s.isLost conn x p then s.declareLost conn p else s))

/-- R289: the timer on TX_UNA has expired. -/
def State.rtoExpired (s : State) (c : Nat) (x : Conn) : Bool :=
  x.hold.isNone && x.ctx.core.txUna ≠ x.ctx.core.txNextPsn &&
  (match x.rtoFrom with | some f => f + s.rtoOf c x.ctx.core ≤ s.now | none => false)

/-- R392: no path of a dome connection is usable. -/
def State.noPath (s : State) (x : Conn) : Bool :=
  x.ctx.core.cls = 0 &&
  (match s.sprayOf (s.handle x.ctx.core.handle.toNat) with
   | none => true
   | some h => (s.usablePaths h x.ctx x.ctx.core.vc.toNat).1.isEmpty)

/-- R392: RETRY_COUNT rises as for a retransmission, and the timer restarts. [DEDUCED, log 61] -/
def State.countRetry (c : Nat) (s : State) : State :=
  match s.conn? c with
  | none => s
  | some x =>
    let k := x.ctx.core
    if k.retryCount.toNat + 1 > k.limit then s.exhausted c
    else s.setConn c { x with
      ctx := { x.ctx with core := { k with retryCount := k.retryCount + 1 } }, rtoFrom := some s.now }

/-- RTO_EXPIRE (R289, R290, R336, R344, R392). [DEDUCED, log 101] -/
def execRtoExpire (conn : Nat) (s : State) : Outcome :=
  .next (s.withCtx conn (fun x s =>
    if s.rtoExpired conn x then
      let s := s.halveRate conn
      if s.noPath x then s.countRetry conn
      else
        let una := x.ctx.core.txUna
        let s := s.setConn conn { (s.conn? conn).getD x with rtoFrom := some s.now }
        let s := s.bump d6_0110 (connTower conn)
        match x.pkt? una with
        | none => s
        | some p => (s.losePath conn p.path).oweCopy conn una true
    else s))

/-- R291: a NAK sent without a context is accepted only for a PSN in flight whose latest copy had the echoed tag. -/
def Conn.nakMatches (x : Conn) (psn tag : W32) : Bool :=
  match x.pkt? psn with
  | some p => !p.acked && p.tag = some tag
  | none => false

/-- R292: CONTEXT_BUSY: the hold, and failure after D6.0022 answers in a row for one PSN. -/
def State.busyHold (c : Nat) (psn : W32) (backoff : Nat) (s : State) : State :=
  match s.conn? c with
  | none => s
  | some x =>
    let d := x.ctx.delivery
    let streak := if x.busyPsn = psn then d.busyStreak.toNat + 1 else 1
    let x := { x with
      busyPsn := psn, hold := some (s.now + backoff, psn)
      ctx := { x.ctx with
        core := { x.ctx.core with busyNaks := x.ctx.core.busyNaks + 1 }
        delivery := { d with busyStreak := BitVec.ofNat 8 streak, holdUntil := BitVec.ofNat 32 (s.now + backoff) } } }
    let s := s.setConn c x
    if streak ≥ s.par d6_0022 (connTower c) then s.exhausted c else s

/-- R293: REMOTE_NOT_READY: the packet is resent after its back-off; after D6.0021 answers the message is voided. -/
def State.notReady (c : Nat) (psn msn : W32) (backoff : Nat) (s : State) : State :=
  match s.conn? c with
  | none => s
  | some x =>
    match x.msg? msn false with
    | none => s
    | some m =>
      let x := (x.modifyMsg msn false (fun m => { m with rnr := m.rnr + 1 })).modifyPkt psn (fun p =>
        { p with notBefore := s.now + backoff })
      let s := s.setConn c x
      if m.rnr + 1 ≥ s.par d6_0021 (connTower c) then s.voidMsg c msn false .remoteNotReady 0 else s

/-- R291 to R294, R235: a NAK by its code. -/
def State.takeNak (c : Nat) (p : Packet) (s : State) : State :=
  match s.conn? c with
  | none => s
  | some x =>
    let code := fieldNat 0 8 p.ext
    let reason := fieldNat 8 8 p.ext
    let psn : W32 := field 32 32 p.ext
    let msn : W32 := field 64 32 p.ext
    let index := fieldNat 96 23 p.ext
    let backoff := fieldNat 128 32 p.ext
    let tag : W32 := field 160 32 p.ext
    if code = 1 ∨ code = 2 then
      if x.nakMatches psn tag then
        if code = 1 then s.busyHold c psn backoff else s.connError c .contextLost
      else s.bump d6_0106 (connTower c)
    else if code = 3 then s.notReady c psn msn backoff
    else if code = 4 then s.voidMsg c msn false (remoteStatus reason) (reason + 512 * index)
    else s

/-- BUSY_HOLD_END (R292): the hold ends: NAK_PSN is resent first, without raising RETRY_COUNT; the timer restarts. -/
def execBusyHoldEnd (conn : Nat) (s : State) : Outcome :=
  .next (s.withCtx conn (fun x s =>
    match x.hold with
    | none => s
    | some (e, psn) =>
      if e ≤ s.now then
        let x := { x with
          hold := none, rtoFrom := x.rtoFrom.map (fun _ => s.now)
          ctx := { x.ctx with delivery := { x.ctx.delivery with holdUntil := 0 } } }
        (s.setConn conn x).oweCopy conn psn false
      else s))

/-- RNR_RESEND (R293): the back-off of a packet ends and it is resent. -/
def execRnrResend (conn : Nat) (psn : W32) (s : State) : Outcome :=
  .next (s.withCtx conn (fun x s =>
    match x.pkt? psn with
    | none => s
    | some p =>
      if p.notBefore ≠ 0 ∧ p.notBefore ≤ s.now ∧ !p.acked then
        (s.setConn conn (x.modifyPkt psn (fun p => { p with notBefore := 0 }))).oweCopy conn psn false
      else s))

/-- R280: when the next CONFIRM_QUERY is due. -/
def State.queryDue (s : State) (c : Nat) (x : Conn) : Bool :=
  match x.querySince with
  | none => false
  | some f =>
    if x.queries = 0 then f + s.par d6_0012 (connTower c) ≤ s.now else f + s.rtoOf c x.ctx.core ≤ s.now

/-- CONFIRM_QUERY_TIMER (R280): a query is sent; repeats count against RETRY_LIMIT. [DEDUCED, log 61] -/
def execConfirmQueryTimer (conn : Nat) (s : State) : Outcome :=
  .next (s.withCtx conn (fun x s =>
    if s.queryDue conn x then
      if x.queries > x.ctx.core.limit then s.exhausted conn
      else
        (s.setConn conn { x with querySince := some s.now, queries := x.queries + 1 }).sendControl conn 0x13
          [(32, 0), (32, 0)] false
    else s))

end Sys2Proof.Machine
end

