-- ==== Sys2Proof/Machine/Inet.lean ====
section
/-! DEFINITION. Ethernet, IPv6 and UDP as their standards lay them out, in network order (R9, R45, R256, R683). -/
namespace Sys2Proof.Machine

/-- R45: the MAC address of a port. -/
def State.portMac (s : State) (n : Nat) : Nat := (s.pkg.fuses.macBase.toNat + n) % 281474976710656

/-- An Ethernet header with an 802.1Q priority tag: 18 bytes. -/
def ethHeader (dst src pcp etherType : Nat) : Bytes :=
  beBytes 6 dst ++ beBytes 6 src ++ [0x81, 0x00] ++ beBytes 2 (pcp * 8192) ++ beBytes 2 etherType

/-- The sum of bytes as big-endian 16-bit words. -/
def sum16 : Bytes → Nat
  | [] => 0
  | [a] => a.toNat * 256
  | a :: b :: r => a.toNat * 256 + b.toNat + sum16 r

/-- The Internet checksum: the complement of the sum with its carries added back. -/
def inetSum (b : Bytes) : Nat :=
  let t := sum16 b
  let t := t % 65536 + t / 65536
  65535 - (t % 65536 + t / 65536)

/-- The Internet checksum, as a UDP header carries it: zero is sent as all ones. -/
def inetChecksum (b : Bytes) : Nat := if inetSum b = 0 then 65535 else inetSum b

/-- The Ethernet multicast address of an IPv6 multicast address. -/
def multicastMac (a : Nat) : Nat := 0x333300000000 + a % 4294967296

/-- An IPv6 header and its payload. -/
def ipv6 (next hop src dst : Nat) (body : Bytes) : Bytes :=
  beBytes 4 (6 * 268435456) ++ beBytes 2 body.length ++ [BitVec.ofNat 8 next, BitVec.ofNat 8 hop] ++ beBytes 16 src ++ beBytes 16 dst ++ body

/-- The pseudo-header of IPv6. -/
def pseudoHeader (src dst len next : Nat) : Bytes := beBytes 16 src ++ beBytes 16 dst ++ beBytes 4 len ++ beBytes 4 next

/-- A UDP datagram. -/
def udp (src dst sport dport : Nat) (body : Bytes) : Bytes :=
  let n := body.length + 8
  let h := beBytes 2 sport ++ beBytes 2 dport ++ beBytes 2 n
  h ++ beBytes 2 (inetChecksum (pseudoHeader src dst n 17 ++ h ++ [0, 0] ++ body)) ++ body

/-- The Internet checksum of a message that holds it is right. -/
def checksumOk (b : Bytes) : Bool :=
  let t := sum16 b
  let t := t % 65536 + t / 65536
  t % 65536 + t / 65536 = 65535

end Sys2Proof.Machine
end

