-- ==== Sys2Proof/Machine/Time.lean ====
section
/-! DEFINITION. Fabric time: the counter and its servo, time symbols, grandmaster selection, holdover, the pulse pins,
IEEE 1588, and the release of armed triggers (R52 to R92). -/
namespace Sys2Proof.Machine

/-! ### The counter (R52 to R55) -/

/-- R55: the largest frequency correction, ±100 ppm, in 2^-32 tick per period. -/
def freqLimit : Int := 429497

/-- An integer held between two bounds. -/
def clampInt (lo hi x : Int) : Int := if x < lo then lo else if x > hi then hi else x

/-- R55: the largest phase correction of one period, in 2^-32 tick: SLEW_LIMIT parts per million. -/
def State.slewLimit (s : State) : Int := ((s.par d2_0034 0 * 4294967296 / 1000000 : Nat) : Int)

/-- R54: the phase correction that this period applies. -/
def State.slewNow (s : State) : Int := clampInt (-s.slewLimit) s.slewLimit s.time.phaseLeft

/-- R54: the fraction after this period's step, before the tick is taken out of it. [DESIGN CHOICE, log 22] -/
def State.rateSum (s : State) : Int := (s.time.fraction.toNat : Int) + 4294967296 + s.time.freq + s.slewNow

/-- R54: how far fabric time advances in this period: 0, 1 or 2. [DESIGN CHOICE, log 22] -/
def State.advance (s : State) : Nat := min 2 (s.rateSum / 4294967296).toNat

/-- R539: anything is paused on the port. -/
def Port.anyPaused (p : Port) (now : Nat) : Bool := p.paused.any (fun e => now < e.2)

/-- R400: the Cupola input buffer of a tower is full. -/
def State.inputFull (s : State) (k : Nat) : Bool := s.cupola.input.any (fun h => h.tower = k && h.ingress.isSome)

/-- Counters of ticks: ticks paused (D13.0113), ticks throttled (D20.0101), ticks with a full input buffer (D10.0015). [DEDUCED, log 31] -/
def State.countTicks (n : Nat) (s : State) : State :=
  let s := s.ports.foldl (fun s e => if e.2.anyPaused s.now then s.count d13_0113 e.1 n else s) s
  let s := (upTo s.towers).foldl (fun s k => if s.throttle k > 0 then s.count d20_0101 k n else s) s
  (upTo s.towers).foldl (fun s k => if s.inputFull k then s.count d10_0015 k n else s) s

/-- Fabric time runs from the release of reset (R53, R737). -/
def State.timeRuns (s : State) : Bool := s.pkg.phase ≠ .held && s.pkg.phase ≠ .supplyHold

/-- R52, R54, R55: one period of the time clock. [DEDUCED, log 30] -/
def State.timeTick (s : State) : State :=
  if s.timeRuns then
    let n := s.advance
    let s' := s.countTicks n
    { s' with time := { s'.time with
      now := (s.time.now + n) % 18446744073709551616
      fraction := BitVec.ofInt 32 s.rateSum
      phaseLeft := s.time.phaseLeft - s.slewNow } }
  else s

/-! ### Time states (R63 to R68) -/

/-- R63: the code of a time state. -/
def TimeMode.code : TimeMode → Nat
  | .freeRun => 0 | .acquiring => 1 | .locked => 2 | .holdover => 3

/-- D2.0005: the code of a reference. -/
def TimeRef.code : TimeRef → Nat
  | .port n => n | .self => 0xFD | .pps => 0xFE | .none => 0xFF

/-- R82: the error estimate, in quarter ticks: in HOLDOVER it grows with the assumed drift. [DEDUCED, log 24] -/
def State.errorEstimate (s : State) : Nat :=
  if s.time.mode = .holdover then
    s.time.errorLock + 4 * s.par d2_0032 0 * (s.now - s.time.holdSince) / 1000000000
  else s.time.errorQ

/-- R67: a transition of the time state, with its event (class TIME, reason STATE) to tenants 0 and 1,024. [DEDUCED, log 27] -/
def State.setTimeMode (m : TimeMode) (s : State) : State :=
  if s.time.mode = m then s
  else
    let s := if m = .holdover then s.bump d2_0071 0 else s
    let t := s.time
    let s := { s with time := { t with
      mode := m
      errorLock := if m = TimeMode.holdover then t.errorQ else t.errorLock
      holdSince := if m = TimeMode.holdover then t.now else t.holdSince
      everLocked := t.everLocked || m = TimeMode.locked
      regained := false
      inBand := 0 } }
    s.packageEvent 0x06 0x01 0 0 m.code

/-- A change of reference; consecutive offsets are counted anew. -/
def State.setRef (r : TimeRef) (s : State) : State :=
  { s with time := { s.time with ref := r, inBand := 0, regained := false, lastAccept := s.time.now } }

/-- R67, ACQUIRING entered with a reference. -/
def State.acquire (r : TimeRef) (s : State) : State := (s.setRef r).setTimeMode .acquiring

/-- R66: triggers that a forward step has passed over fire with the late-trigger flag. -/
def markPassed (before after : Nat) (t : Trigger) : Trigger :=
  if before < t.time ∧ t.time < after then { t with late := true } else t

/-- R310, R324: the packets of open loads go back to the head of their connections' queues. -/
def State.closeLoads (s : State) : State :=
  let back := s.spire.instances.reverse
  { s with spire := { s.spire with
      instances := [], opened := []
      leftover := back.foldl (fun l (i : SlotInstance) => tput [] i.conn (i.load ++ tgetD l i.conn []) l) s.spire.leftover } }

/-- R66: after a backward step the slot instances of the repeated time fall due again. -/
def State.repeatSlots (s : State) : State :=
  let s := s.closeLoads
  { s with spire := { s.spire with fired := tmap (fun _ v => min v s.now) s.spire.fired } }

/-- R65, R66: a step of `q` quarter ticks: fabric time takes the reference's time in one move. -/
def State.stepTime (q : Int) (s : State) : State :=
  let after := (((s.time.now : Int) + q / 4) % 18446744073709551616).toNat
  let s := (s.bump d2_0004 0)
  let s := { s with time := { s.time with
    now := after, phaseLeft := 0, inBand := 0
    triggers := s.time.triggers.map (markPassed s.time.now after) } }
  let s := if q < 0 then s.repeatSlots else s
  s.packageEvent 0x06 0x02 0 0 s.time.mode.code

/-- R65: a step is permitted: in every ACQUIRING period under STEP_POLICY 1, else only before the first lock. -/
def State.stepAllowed (s : State) : Bool := s.par d2_0036 0 = 1 || !s.time.everLocked

/-- R55, R65: slew the phase by `q` quarter ticks and correct the frequency by the servo's step. [DESIGN CHOICE, log 22] -/
def State.slew (q : Int) (s : State) : State :=
  { s with time := { s.time with
    phaseLeft := q * 1073741824
    freq := clampInt (-freqLimit) freqLimit (s.time.freq + Config.servoStep q s.time.freq) } }

/-- The locked error estimate: the manual gives no rule for it, so it is a free value. [DESIGN CHOICE, log 103] -/
def State.freeEstimate (s : State) : State :=
  let (n, s) := s.takeFree
  { s with time := { s.time with errorQ := (Config.freeWord32 n).toNat } }

/-- R67: the count of consecutive offsets within the lock threshold. -/
def State.countInBand (q : Int) (s : State) : State :=
  { s with time := { s.time with inBand := if q.natAbs ≤ 4 * s.par d2_0037 0 then s.time.inBand + 1 else 0 } }

/-- R67: enough consecutive offsets lock. -/
def State.lockIfCounted (s : State) : State :=
  if s.time.inBand ≥ s.par d2_0038 0 then s.setTimeMode .locked else s

/-- R65, R67, R74: an accepted offset of `q` quarter ticks from the reference. [DESIGN CHOICE, log 103] -/
def State.acceptOffset (q : Int) (s : State) : State :=
  let far := q.natAbs > 4 * s.par d2_0031 0
  let first := s.time.firstOffset
  let s := { s with time := { s.time with lastOffset := q, lastAccept := s.time.now, firstOffset := false } }
  match s.time.mode with
  | .acquiring =>
    if far && s.stepAllowed then s.stepTime q else ((s.slew q).countInBand q).lockIfCounted
  | .locked =>
    if first && far then s.setTimeMode .acquiring else (s.slew q).freeEstimate
  | .holdover =>
    if s.time.regained then ((s.slew q).countInBand q).lockIfCounted
    else if far then s.setTimeMode .acquiring
    else
      let s := s.slew q
      { s with time := { s.time with regained := true, inBand := 0 } }
  | .freeRun => s

/-! ### Grandmaster selection (R79 to R81, R86) -/

/-- R80: the adapter's own clock; GM_CAPABLE 0 advertises CLOCK_CLASS 255. [DEDUCED, log 25] -/
def State.ownClock (s : State) : Announce :=
  { priority1 := BitVec.ofNat 8 (s.par d2_0010 0)
    clockClass := if s.parFlag d2_0013 0 then BitVec.ofNat 8 (s.par d2_0012 0) else 255
    accuracy := BitVec.ofNat 8 (s.par d2_0015 0)
    priority2 := BitVec.ofNat 8 (s.par d2_0011 0)
    variance := BitVec.ofNat 16 (s.par d2_0016 0)
    stepsRemoved := 0
    identity := s.pkg.fuses.eui64
    utcOffset := 0 }

/-- R79: what candidates are compared by, in order: the IEEE 1588 dataset, then STEPS_REMOVED, then the port. -/
def rankOf (a : Announce) (port : Nat) : List Nat :=
  [a.priority1.toNat, a.clockClass.toNat, a.accuracy.toNat, a.variance.toNat, a.priority2.toNat,
    a.identity.toNat, a.stepsRemoved.toNat, port]

/-- The lexicographic order of two equally long lists of numbers: the first is lower. -/
def lexLt : List Nat → List Nat → Bool
  | a :: as, b :: bs => a < b || (a = b && lexLt as bs)
  | _, _ => false

/-- The candidates: the best announcement of every port, and the own clock (port code 0xFD) when GM_CAPABLE. -/
def State.candidates (s : State) : List (Announce × Nat) :=
  (s.time.ports.filterMap (fun e => e.2.cand.map (fun c => (c.ann, e.1)))) ++
  (if s.parFlag d2_0013 0 then [(s.ownClock, 0xFD)] else [])

/-- The best of two candidates. -/
def betterOf (a b : Announce × Nat) : Announce × Nat := if lexLt (rankOf b.1 b.2) (rankOf a.1 a.2) then b else a

/-- R79: the outcome of selection. -/
def State.bestClock (s : State) : Option (Announce × Nat) :=
  match s.candidates with
  | [] => none
  | c :: cs => some (cs.foldl betterOf c)

/-- R67: another port that carries the grandmaster followed at present. -/
def State.otherPort (s : State) : Option Nat :=
  let here := match s.time.ref with | .port n => n | _ => 0xFFFF
  (s.time.ports.find? (fun e => e.1 ≠ here &&
    (match e.2.cand with | some c => c.ann.identity = s.time.gm.identity | none => false))).map (·.1)

/-- R67, R68: the reference is lost. [DEDUCED, log 27] -/
def State.loseRef (s : State) : State :=
  match s.time.mode with
  | .acquiring => (s.setRef .none).setTimeMode .freeRun
  | .locked =>
    match s.otherPort with
    | some p => let s := s.setRef (.port p); { s with time := { s.time with firstOffset := true } }
    | none => (s.setRef .none).setTimeMode .holdover
  | .holdover => s.setRef .none
  | .freeRun => s.setRef .none

/-- R67, R86: selection picks this adapter. [DEDUCED, log 27] -/
def State.pickSelf (s : State) : State :=
  let s := { s with time := { s.time with gm := s.ownClock } }
  if s.par d2_0050 0 = 1 then
    if s.time.ref = .pps || s.time.ppsLost then s else s.acquire .pps
  else
    match s.time.mode, s.time.ref with
    | .locked, .self => s
    | .locked, _ => ((s.loseRef).setRef .self).setTimeMode .locked
    | .acquiring, _ => ((s.loseRef).setRef .self).setTimeMode .locked
    | .freeRun, _ => (s.setRef .self).setTimeMode .locked
    | .holdover, _ => (s.setRef .self).setTimeMode .locked

/-- R67: selection picks a reference port. [DEDUCED, log 27] -/
def State.pickPort (a : Announce) (p : Nat) (s : State) : State :=
  let same := a.identity = s.time.gm.identity
  let s := { s with time := { s.time with gm := a } }
  if s.time.ref = .port p && same then s
  else
    match s.time.mode with
    | .freeRun => s.acquire (.port p)
    | .acquiring => s.setRef (.port p)
    | .locked =>
      if same && s.time.ref ≠ .self && s.time.ref ≠ .pps then
        let s := s.setRef (.port p)
        { s with time := { s.time with firstOffset := true } }
      else s.acquire (.port p)
    | .holdover => s.setRef (.port p)

/-- R79: run selection and act on it. -/
def State.select (s : State) : State :=
  match s.bestClock with
  | none => if s.time.ref = .none then s else s.loseRef
  | some (a, p) => if p = 0xFD then s.pickSelf else s.pickPort a p

/-! ### Time symbols (R69 to R74) -/

/-- R69: the fields of a 24-byte time symbol. -/
def symType (y : BitVec 192) : Nat := fieldNat 0 8 y
def symDomain (y : BitVec 192) : Nat := fieldNat 8 8 y
def symSeq (y : BitVec 192) : BitVec 8 := field 16 8 y
def symFrac (y : BitVec 192) : Nat := fieldNat 24 2 y
def symTime (y : BitVec 192) : Nat := fieldNat 32 64 y
def symTurn (y : BitVec 192) : Nat := fieldNat 96 32 y

/-- R69: the announcement that a symbol carries. -/
def symAnnounce (y : BitVec 192) : Announce :=
  ⟨field 32 8 y, field 40 8 y, field 48 8 y, field 56 8 y, field 64 16 y, field 80 16 y, field 96 64 y, field 160 16 y⟩

/-- R69: FLAGS of a symbol this adapter sends. -/
def State.symFlags (s : State) (frac : Nat) : Nat :=
  frac % 4 + 4 * s.time.mode.code + (if s.parFlag d2_0013 0 then 16 else 0)

/-- R69: a SYNC or an ECHO. -/
def State.mkSymbol (s : State) (type : Nat) (seq : BitVec 8) (frac ticks turn : Nat) : BitVec 192 :=
  pack 192 [(8, type), (8, s.par d2_0014 0), (8, seq.toNat), (8, s.symFlags frac), (64, ticks), (32, turn)]

/-- R69, R81: an ANNOUNCE of the chosen grandmaster, STEPS_REMOVED increased by 1; without one, the own clock. [DEDUCED, log 25] -/
def State.mkAnnounce (s : State) (seq : BitVec 8) : BitVec 192 :=
  let a := if s.time.ref = .none && s.time.mode ≠ .holdover then s.ownClock else s.time.gm
  pack 192 [(8, 3), (8, s.par d2_0014 0), (8, seq.toNat), (8, s.symFlags 0), (8, a.priority1.toNat),
    (8, a.clockClass.toNat), (8, a.accuracy.toNat), (8, a.priority2.toNat), (16, a.variance.toNat),
    (16, a.stepsRemoved.toNat + 1), (64, a.identity.toNat), (16, a.utcOffset.toNat), (16, 0)]

/-- R525: a TIME link block around a symbol. -/
def timeBlock (y : BitVec 192) : Bytes := [6, 0, 0, 0, 0, 0, 0, 0] ++ bytesOf 24 y

/-- The port is up in fabric link mode. -/
def State.fabricUp (s : State) (n : Nat) : Bool := (s.port n).mode = .up && (s.port n).modeCode = 0x10

/-- The port is up in an Ethernet standard mode. -/
def State.etherUp (s : State) (n : Nat) : Bool := (s.port n).mode = .up && (s.port n).modeCode ≠ 0x10

/-- SYNC_SEND (R71): the sync interval has expired: a SYNC leaves, and an ANNOUNCE after every eighth. -/
def execSyncSend (port frac : Nat) (s : State) : Outcome :=
  let tp := s.timePort port
  if s.fabricUp port && tp.nextSync ≤ s.now then
    let t1 := 4 * s.now + frac % 4
    let eighth := (tp.syncs + 1) % 8 = 0
    let s := s.emit (.block port 6 (timeBlock (s.mkSymbol 1 tp.seq frac s.now 0)))
    let s := if eighth then s.emit (.block port 6 (timeBlock (s.mkAnnounce tp.annSeq))) else s
    .next (s.setTimePort port { tp with
      seq := tp.seq + 1
      annSeq := if eighth then tp.annSeq + 1 else tp.annSeq
      syncs := tp.syncs + 1
      nextSync := s.now + s.par d2_0020 0
      pendingSyncs := tp.pendingSyncs ++ [⟨tp.seq, t1, s.now⟩] })
  else .next s

/-- R69: a symbol is accepted only with its TYPE and the adapter's DOMAIN; else it is discarded and counted. -/
def State.symbolOk (s : State) (type : Nat) (y : BitVec 192) : Bool :=
  symType y = type && symDomain y = s.par d2_0014 0

/-- R71: the answer to a SYNC: an ECHO with its receive time and the turn-around (at most 2,048 ticks). -/
def State.answerSync (port : Nat) (y : BitVec 192) (frac turn : Nat) (s : State) : State :=
  s.emit (.block port 6 (timeBlock (s.mkSymbol 2 (symSeq y) frac s.now (min turn 8192))))

/-- SYNC_RX (R71). `frac`: quarter ticks of the receive time; `turn`: quarter ticks until the ECHO leaves. -/
def execSyncRx (port : Nat) (sym : BitVec 192) (frac turn : Nat) (s : State) : Outcome :=
  if s.fabricUp port then
    .next (if s.symbolOk 1 sym then s.answerSync port sym frac turn else s.bump d2_0072 port)
  else .next s

/-- R72, R73: one exchange: the outlier test, the running mean, the offset. [DESIGN CHOICE, log 23; DEDUCED, log 28] -/
def State.exchange (port : Nat) (mean offset : Int) (s : State) : State :=
  let tp := s.timePort port
  let outlier : Bool := match tp.mean with
    | some m => (mean - m).natAbs > 4 * s.par d2_0039 0
    | none => false
  if outlier then s.bump d2_0073 port
  else
    let s := (s.setTimePort port { tp with mean := some (Config.delayMean tp.mean mean), offset := offset }).bump d2_0070 port
    if s.time.ref = .port port then s.acceptOffset offset else s

/-- R72: the asymmetry correction of a port, in quarter ticks. [DEDUCED, log 28] -/
def State.asymmetry (s : State) (port : Nat) : Int := toSigned 32 (s.par d2_0040 port)

/-- R72: take the exchange that an ECHO completes; an ECHO that answers no pending SYNC does nothing. -/
def State.takeEcho (port : Nat) (y : BitVec 192) (frac : Nat) (s : State) : State :=
  let tp := s.timePort port
  match tp.pendingSyncs.find? (fun e => e.seq = symSeq y) with
  | none => s
  | some e =>
    let s := s.setTimePort port { tp with pendingSyncs := tp.pendingSyncs.filter (fun x => x.seq ≠ e.seq) }
    let t1 : Int := e.t1
    let t2 : Int := 4 * symTime y + symFrac y
    let t4 : Int := 4 * s.now + frac % 4
    let mean := ((t4 - t1) - symTurn y) / 2
    s.exchange port mean ((t2 - t1) - (mean + s.asymmetry port))

/-- ECHO_RX (R72 to R74). -/
def execEchoRx (port : Nat) (sym : BitVec 192) (frac : Nat) (s : State) : Outcome :=
  if s.fabricUp port then
    .next (if s.symbolOk 2 sym then s.takeEcho port sym frac else s.bump d2_0072 port)
  else .next s

/-- SYNC_ABANDON (R71): a SYNC without an ECHO within 4 sync intervals is abandoned. -/
def execSyncAbandon (port : Nat) (seq : BitVec 8) (s : State) : Outcome :=
  let tp := s.timePort port
  .next (s.setTimePort port { tp with
    pendingSyncs := tp.pendingSyncs.filter (fun e => !(e.seq = seq && e.at_ + 4 * s.par d2_0020 0 ≤ s.now)) })

/-- R79, R81: hold an announcement as the port's candidate; one with STEPS_REMOVED of 255 or more is ignored. -/
def State.takeAnnounce (port : Nat) (a : Announce) (s : State) : State :=
  if a.stepsRemoved.toNat ≥ 255 then s
  else
    let tp := s.timePort port
    let s := s.setTimePort port { tp with cand := some ⟨a, s.now⟩ }
    s.select

/-- ANNOUNCE_RX (R69, R79, R81). -/
def execAnnounceRx (port : Nat) (sym : BitVec 192) (s : State) : Outcome :=
  if s.fabricUp port then
    .next (if s.symbolOk 3 sym then s.takeAnnounce port (symAnnounce sym) else s.bump d2_0072 port)
  else .next s

/-- R71, R76: the announce interval of a port: eight sync intervals. -/
def State.announceInterval (s : State) (port : Nat) : Nat :=
  if s.etherUp port then 8 * 1250000000 / 2 ^ (-(toSigned 32 (s.par d2_0021 0))).toNat
  else 8 * s.par d2_0020 0

/-- R68, R79, R81: the candidate of a port is withdrawn; selection runs, and a withdrawn grandmaster is a lost reference. -/
def State.withdraw (port : Nat) (s : State) : State :=
  let tp := s.timePort port
  let s := s.setTimePort port { tp with cand := none }
  let s := if s.time.ref = .port port then s.loseRef else s
  s.select

/-- ANNOUNCE_WITHDRAW (R81): an announcement not renewed within 3 announce intervals is withdrawn. -/
def execAnnounceWithdraw (port : Nat) (s : State) : Outcome :=
  match (s.timePort port).cand with
  | some c => if c.renewed + 3 * s.announceInterval port ≤ s.now then .next (s.withdraw port) else .next s
  | none => .next s

/-- R525, R69: a received TIME block, by the TYPE of its symbol. -/
def State.timeSymbol (port : Nat) (y : BitVec 192) (frac turn : Nat) (s : State) : State :=
  if s.symbolOk 1 y then s.answerSync port y frac turn
  else if s.symbolOk 2 y then s.takeEcho port y frac
  else if s.symbolOk 3 y then s.takeAnnounce port (symAnnounce y)
  else s.bump d2_0072 port

/-- TIME_SYMBOL_RX (R69, R525). -/
def execTimeSymbolRx (port : Nat) (sym : BitVec 192) (frac turn : Nat) (s : State) : Outcome :=
  if s.fabricUp port then .next (s.timeSymbol port sym frac turn) else .next s

/-! ### Loss and holdover (R68, R82, R83) -/

/-- R68: the sync interval of the reference. -/
def State.refInterval (s : State) : Nat :=
  match s.time.ref with
  | .port n => s.announceInterval n / 8
  | _ => s.par d2_0020 0

/-- REFERENCE_LOST (R68): no measurement accepted from the reference for D2.0030 sync intervals. -/
def execReferenceLost (s : State) : Outcome :=
  match s.time.ref with
  | .port _ =>
    if s.time.lastAccept + s.par d2_0030 0 * s.refInterval ≤ s.now then .next s.loseRef else .next s
  | _ => .next s

/-- R82, R83: the error estimate, taken exactly, exceeds D2.0033 ticks. [DEDUCED, log 24] -/
def State.errorOver (s : State) : Bool :=
  4 * s.par d2_0033 0 * 1000000000 < s.time.errorLock * 1000000000 + 4 * s.par d2_0032 0 * (s.now - s.time.holdSince)

/-- HOLDOVER_EXPIRE (R83): the error estimate exceeds D2.0033 ticks. [DEDUCED, log 24] -/
def execHoldoverExpire (s : State) : Outcome :=
  if s.time.mode = .holdover ∧ s.errorOver then
    .next ((s.setRef .none).setTimeMode .freeRun)
  else .next s

/-! ### 1 PPS pins (R84 to R86) -/

/-- Ticks in one second. -/
def second : Nat := 1250000000

/-- PPS_OUT_EDGE (R84): fabric time has reached a whole second (within 2 ticks) and the output is enabled. -/
def execPpsOutEdge (s : State) : Outcome :=
  if s.timeRuns && s.parFlag d2_0051 0 && s.now % second ≤ 2 && !s.time.ppsOut then
    .next { (s.emit (.pin 0 true)) with time := { s.time with ppsOut := true, ppsOutRose := s.now } }
  else .next s

/-- PPS_OUT_FALL (R84): the high time has passed. -/
def execPpsOutFall (s : State) : Outcome :=
  if s.time.ppsOut && s.time.ppsOutRose + s.par d2_0052 0 ≤ s.now then
    .next { (s.emit (.pin 0 false)) with time := { s.time with ppsOut := false } }
  else .next s

/-- R85: an edge's time, corrected by the cable delay. [DEDUCED, log 26] -/
def State.ppsEdge (s : State) : Nat :=
  (((s.now : Int) - toSigned 32 (s.par d2_0054 0)) % 18446744073709551616).toNat

/-- R85: from an edge to the nearest whole second, in ticks. -/
def ppsOffset (edge : Nat) : Int :=
  if edge % second ≤ second / 2 then -((edge % second : Nat) : Int) else ((second - edge % second : Nat) : Int)

/-- R86: an accepted edge while selection picks this adapter. -/
def State.acceptPps (q : Int) (s : State) : State :=
  let s := { s with time := { s.time with ppsAccept := s.now, ppsLost := false } }
  if s.time.ref = .pps then s.acceptOffset q
  else
    match s.time.mode with
    | .holdover => ((s.setRef .pps).acceptOffset q)
    | _ => (s.acquire .pps).acceptOffset q

/-- PPS_IN_EDGE (R85, R86): under policy 1 or 2 the edge is latched; under policy 1 it disciplines time when selection
picks this adapter. An edge more than half a second from any second is ignored and counted. [DEDUCED, log 26] -/
def execPpsInEdge (s : State) : Outcome :=
  if s.timeRuns && s.par d2_0050 0 ≠ 0 then
    let e := s.ppsEdge
    let s := { s with time := { s.time with ppsLast := e } }
    let d := ppsOffset e
    let own : Bool := match s.bestClock with | some (_, p) => p = 0xFD | none => false
    if s.par d2_0050 0 = 1 then
      if d.natAbs > 625000000 then .next (s.bump d2_0074 0)
      else if own then .next (s.acceptPps (4 * d)) else .next s
    else .next s
  else .next s

/-- R86: the PPS reference is lost: HOLDOVER from LOCKED, FREE_RUN from ACQUIRING. -/
def State.losePps (s : State) : State :=
  let s' := s.setRef .none
  match s.time.mode with
  | .acquiring => s'.setTimeMode .freeRun
  | .locked => s'.setTimeMode .holdover
  | .holdover => s'
  | .freeRun => s'

/-- PPS_REFERENCE_LOST (R86): no edge accepted for 2 s. -/
def execPpsReferenceLost (s : State) : Outcome :=
  if s.time.ref = .pps ∧ s.time.lastAccept + 2 * second ≤ s.now then
    .next { s.losePps with time := { s.losePps.time with ppsLost := true } }
  else .next s

/-! ### IEEE 1588 (R76 to R78) -/

/-- R77: a message's timestamp, seconds and nanoseconds, in quarter ticks: 5 quarter ticks a nanosecond. -/
def ptpTime (msg : Bytes) : Int := 5 * (beNat (slice 34 6 msg) * 1000000000 + beNat (slice 40 4 msg) : Nat)

/-- IEEE 1588-2019: a message's correction field, nanoseconds times 2^16, in quarter ticks. -/
def ptpCorrection (msg : Bytes) : Int := 5 * toSigned 64 (beNat (slice 8 8 msg)) / 65536

/-- The message has its two-step flag set. -/
def ptpTwoStep (msg : Bytes) : Bool := beNat (slice 6 1 msg) / 2 % 2 = 1

/-- R77: fabric time in quarter ticks as the ten bytes of a PTP timestamp. [PRESUMED, log 29] -/
def ptpStamp (q : Nat) : Bytes := let ns := q / 5; beBytes 6 (ns / 1000000000) ++ beBytes 4 (ns % 1000000000)

/-- IEEE 1588-2019: the announcement an Announce message carries. [PRESUMED, log 29] -/
def ptpAnnounce (m : Bytes) : Announce :=
  ⟨BitVec.ofNat 8 (beNat (slice 47 1 m)), BitVec.ofNat 8 (beNat (slice 48 1 m)), BitVec.ofNat 8 (beNat (slice 49 1 m)),
    BitVec.ofNat 8 (beNat (slice 52 1 m)), BitVec.ofNat 16 (beNat (slice 50 2 m)), BitVec.ofNat 16 (beNat (slice 61 2 m)),
    BitVec.ofNat 64 (beNat (slice 53 8 m)), BitVec.ofNat 16 (beNat (slice 44 2 m))⟩

/-- IEEE 1588-2019: the 34-byte header of a message this adapter sends, then its body. [PRESUMED, log 29] -/
def State.ptpMessage (s : State) (type : Nat) (twoStep : Bool) (seq : BitVec 16) (port : Nat) (body : Bytes) : Bytes :=
  [BitVec.ofNat 8 type, 2] ++ beBytes 2 (34 + body.length) ++ beBytes 1 (s.par d2_0014 0) ++ [0]
    ++ [if twoStep then 2 else 0, 8] ++ List.replicate 8 0 ++ List.replicate 4 0
    ++ beBytes 8 s.pkg.fuses.eui64.toNat ++ beBytes 2 (port + 1) ++ beBytes 2 seq.toNat ++ [0, 0x7F] ++ body

/-- R76: the 1588 sync interval, in ticks. -/
def State.ptpInterval (s : State) : Nat := 1250000000 / 2 ^ (-(toSigned 32 (s.par d2_0021 0))).toNat

/-- R76: send a message on its transport: Ethernet multicast, or UDP over IPv6; the peer-delay messages go to their own
addresses. -/
def State.ptpSend (port type : Nat) (msg : Bytes) (s : State) : State :=
  let mac := s.portMac port
  let peer := type = 2 || type = 3
  s.emit (.frame port (
    if s.par d2_0023 0 = 0 then
      beBytes 6 (if peer then 0x0180C200000E else 0x011B19000000) ++ beBytes 6 mac ++ [0x88, 0xF7] ++ msg
    else
      let src := (Sys2Proof.Config.ipv6Source port).toNat
      let dst := if peer then 0xFF02000000000000000000000000006B else 0xFF0E0000000000000000000000000181
      let p := if type < 4 then 319 else 320
      beBytes 6 (multicastMac dst) ++ beBytes 6 mac ++ [0x86, 0xDD] ++ ipv6 17 (if peer then 1 else 64) src dst (udp src dst p p msg)))

/-- A Sync is complete: t1 its origin time, t2 its receive time; the offset of the master from this clock is corrected for the
delay held, less the asymmetry of R72, because a Sync travels inward. [DEDUCED, log 28] -/
def State.ptpOffset (port : Nat) (t1 t2 : Int) (s : State) : State :=
  let tp := s.timePort port
  let s := s.setTimePort port { tp with ptpT1 := none, ptpSync := some (t2 - t1) }
  match tp.ptpDelay with
  | none => s
  | some delay => s.exchange port delay (t1 - t2 + delay - s.asymmetry port)

/-- A delay answer to the request sent last. -/
def State.ptpMine (port : Nat) (msg : Bytes) (s : State) : Bool :=
  slice 44 10 msg = beBytes 8 s.pkg.fuses.eui64.toNat ++ beBytes 2 (port + 1)

/-- R76: a delay answer: the path delay of the mechanism, peer to peer or end to end. -/
def State.ptpDelayAnswer (port : Nat) (msg : Bytes) (rx : Nat) (s : State) : State :=
  let tp := s.timePort port
  match tp.ptpReq with
  | none => s
  | some (q, t1) =>
    if q.toNat ≠ beNat (slice 30 2 msg) || !s.ptpMine port msg then s
    else if beNat (slice 0 1 msg) % 16 = 3 then
      let d := (rx : Int) - t1 - ptpCorrection msg
      if ptpTwoStep msg then s.setTimePort port { tp with ptpReq := none, ptpResp := some (q, d + ptpTime msg) }
      else s.setTimePort port { tp with ptpReq := none, ptpDelay := some (d / 2) }
    else
      match tp.ptpSync with
      | none => s
      | some d => s.setTimePort port { tp with ptpReq := none, ptpDelay := some ((d + ptpTime msg - t1 - ptpCorrection msg) / 2) }

/-- R76, R77: a 1588 message: Sync, Follow_Up, Announce and the delay messages of the mechanism in use; every other message is
discarded. `frac`: quarter ticks of the receive time. [PRESUMED, log 29] -/
def State.takePtp (port : Nat) (msg : Bytes) (frac : Nat) (s : State) : State :=
  if s.parFlag d2_0025 port && beNat (slice 4 1 msg) = s.par d2_0014 0 then
    let tp := s.timePort port
    let type := beNat (slice 0 1 msg) % 16
    let seq : BitVec 16 := BitVec.ofNat 16 (beNat (slice 30 2 msg))
    let rx := 4 * s.now + frac % 4
    let peer := s.par d2_0022 0 = 0
    let answer := fun (s : State) (k : Nat) => s.ptpSend port k (s.ptpMessage k false seq port (ptpStamp rx ++ slice 20 10 msg))
    if type = 0 then
      if ptpTwoStep msg then s.setTimePort port { tp with ptpT1 := some (seq, (rx : Int) - ptpCorrection msg) }
      else s.ptpOffset port (ptpTime msg + ptpCorrection msg) rx
    else if type = 8 then
      match tp.ptpT1 with
      | some (q, t2) => if q = seq then s.ptpOffset port (ptpTime msg + ptpCorrection msg) t2 else s
      | none => s
    else if type = 0xB then s.takeAnnounce port (ptpAnnounce msg)
    else if type = 2 && peer then answer s 3
    else if type = 1 && !peer then answer s 9
    else if (type = 3 && peer) || (type = 9 && !peer) then s.ptpDelayAnswer port msg rx
    else if type = 0xA && peer then
      match tp.ptpResp with
      | some (q, d) =>
        if q = seq && s.ptpMine port msg then
          s.setTimePort port { tp with ptpResp := none, ptpDelay := some ((d - ptpTime msg - ptpCorrection msg) / 2) }
        else s
      | none => s
    else s
  else s

/-- PTP_MESSAGE_RX (R76, R77). -/
def execPtpMessageRx (port : Nat) (msg : Bytes) (frac : Nat) (s : State) : Outcome :=
  if s.etherUp port then .next (s.takePtp port msg frac) else .next s

/-- PTP_SYNC_SEND (R76): the 1588 sync interval expires on a standard-mode port: a Sync leaves (with its Follow_Up when
two-step), an Announce at one eighth of the rate, and the delay request of the mechanism. -/
def execPtpSyncSend (port frac : Nat) (s : State) : Outcome :=
  let tp := s.timePort port
  if s.etherUp port && s.parFlag d2_0025 port && tp.ptpNext ≤ s.now then
    let q := 4 * s.now + frac % 4
    let two := s.par d2_0024 0 = 0
    let seq := tp.ptpSeq
    let s := s.ptpSend port 0 (s.ptpMessage 0 two seq port (if two then List.replicate 10 0 else ptpStamp q))
    let s := if two then s.ptpSend port 8 (s.ptpMessage 8 false seq port (ptpStamp q)) else s
    let a := if s.time.ref = .none then s.ownClock else s.time.gm
    let s := if seq.toNat % 8 = 7 then
        s.ptpSend port 0xB (s.ptpMessage 0xB false seq port (List.replicate 10 0 ++ beBytes 2 a.utcOffset.toNat ++ [0]
          ++ beBytes 1 a.priority1.toNat ++ beBytes 1 a.clockClass.toNat ++ beBytes 1 a.accuracy.toNat
          ++ beBytes 2 a.variance.toNat ++ beBytes 1 a.priority2.toNat ++ beBytes 8 a.identity.toNat
          ++ beBytes 2 (a.stepsRemoved.toNat + 1) ++ [0xA0]))
      else s
    let k := if s.par d2_0022 0 = 0 then 2 else 1
    let s := s.ptpSend port k (s.ptpMessage k false seq port (List.replicate 20 0))
    .next (s.setTimePort port { tp with ptpSeq := seq + 1, ptpNext := s.now + s.ptpInterval, ptpReq := some (seq, q) })
  else .next s

/-! ### Triggers (R59, R87 to R89) -/

/-- R89: the order of the kinds. -/
def TriggerKind.rank : TriggerKind → Nat
  | .reduce => 0 | .mover => 1 | .deadline => 2

/-- R89: what triggers are released by: kind, then 64-bit time, then ring. [DEDUCED, log 32] -/
def triggerRank (t : Trigger) : List Nat := [t.kind.rank, t.time, t.ring, t.first.toNat, t.entry]

/-- The trigger of two that R89 releases first. -/
def earlierTrigger (a b : Trigger) : Trigger := if lexLt (triggerRank b) (triggerRank a) then b else a

/-- R88, R89: the due trigger to release first; deadlines are SPEC_DEADLINE's. [DEDUCED, log 32] -/
def State.dueTrigger (s : State) : Option Trigger :=
  match s.time.triggers.filter (fun t => t.time ≤ s.now && t.kind ≠ .deadline) with
  | [] => none
  | t :: ts => some (ts.foldl earlierTrigger t)

/-- The entry a trigger names, released: it may start; a late release is flagged on its chain (R60). A mover's descriptor
that waits on its channel is released by the trigger's end. -/
def releaseEntry (t : Trigger) (c : Chain) : Chain :=
  if c.first = t.first then
    { c with
      late := c.late || t.late
      entries := c.entries.mapIdx (fun i e => if i = t.entry && e.phase = .armed t.time then { e with phase := .ready } else e) }
  else c

/-- TRIGGER_FIRE (R88, R89): an armed trigger that has fallen due is released. -/
def execTriggerFire (s : State) : Outcome :=
  match s.dueTrigger with
  | none => .next s
  | some t =>
    let s := { s with time := { s.time with triggers := s.time.triggers.erase t } }
    let s := if t.late then s.bump d2_0075 0 else s
    match s.ring? t.ring with
    | none => .next s
    | some r => .next (s.setRing t.ring { r with chains := r.chains.map (releaseEntry t) })

/-! ### Tags (R57 to R60) -/

/-- R57: the signed distance from now to the time a tag names. -/
def tagDistance (now : Nat) (g : W32) : Int := (g - BitVec.ofNat 32 now).toInt

/-- R57: the 64-bit time a tag names. [DEDUCED, log 18] -/
def tagTime (now : Nat) (g : W32) : Nat := ((now : Int) + tagDistance now g).toNat

/-- R58: what a tag is at a time. -/
inductive TagState where
  | future | due | expired
  deriving DecidableEq, Repr

/-- R58: future, due, or more than one second in the past. [DEDUCED, log 18; DEDUCED, log 32] -/
def tagState (now : Nat) (g : W32) : TagState :=
  let d := tagDistance now g
  if d > 0 then .future else if d ≥ -1250000000 then .due else .expired

/-- R87: a tower's armed triggers. -/
def State.towerTriggers (s : State) (k : Nat) : Nat := (s.time.triggers.filter (fun t => t.tower = k)).length

end Sys2Proof.Machine
end

