-- ==== Sys2Proof/Machine/Forward.lean ====
section
/-! DEFINITION. Forwarding in the fabric (R363 to R394): route generations, transit packets, credits, route-down notices,
and the framing of fabric management datagrams (R676, R677, R687, R688). -/
namespace Sys2Proof.Machine

/-! ### Packets on a link -/

/-- R265, R526: bytes of a packet. -/
def Packet.len (p : Packet) : Nat := 24 + extLen (hdrType p) + p.payload.length + p.trailer.length

/-- R377, R526: credits of a packet of so many bytes: its length on the link with the SOP block, in units of 64. -/
def creditsOf (len : Nat) : Nat := ceilDiv (len + 8) 64

/-- R376: VC5, VC6 and VC7 have one class each. -/
def classOf (vc cls : Nat) : Nat := if vc ≥ 5 then 0 else cls

/-- The key of a VC and class. -/
def vcKey (vc cls : Nat) : Nat := 4 * vc + classOf vc cls

/-- R378: a packet leaves the ingress buffer: its credits are freed on a fabric link, its bytes on an Ethernet port. -/
def State.freeIngress (port vc cls len : Nat) (s : State) : State :=
  let p := s.port port
  let k := vcKey vc cls
  s.setPort port { p with
    freed := if p.modeCode = 0x10 then tput 0 k ((tgetD p.freed k 0 + creditsOf len) % 65536) p.freed else p.freed
    ingress := tput 0 vc (tgetD p.ingress vc 0 - len) p.ingress }

/-- R376: a packet enters the ingress buffer. -/
def State.holdIngress (port vc len : Nat) (s : State) : State :=
  let p := s.port port
  s.setPort port { p with ingress := tput 0 vc (tgetD p.ingress vc 0 + len) p.ingress }

/-- R376, R379: the allocation of a VC and class on a port, in units of 64 bytes. -/
def State.allocation (s : State) (port vc cls : Nat) : Nat :=
  let units := natField (8 * vc) 8 (s.par d9_0021 port) * 64
  let k := s.par d9_0020 port
  if vc ≥ 5 then (if cls = 0 then units else 0) else if cls < k then units / k else 0

/-! ### Fabric management datagrams (R676, R677, R687, R688) -/

/-- ASCII "ZARICA-FM". -/
def fmName : Bytes := [0x5A, 0x41, 0x52, 0x49, 0x43, 0x41, 0x2D, 0x46, 0x4D]

/-- R676: a management header. -/
def mgmtHeader (mstatus : Nat) (seq boot : W32) (len : Nat) : Bytes :=
  leBytes 16 (packNat [(16, 0x4D5A), (8, 1), (8, mstatus), (32, seq.toNat), (32, boot.toNat), (16, len), (16, 0)])

/-- R677: the key of the fabric; one that is not loaded is taken as zeros. -/
def State.fabricKey (s : State) : Bytes := s.mgmt.fabKey.getD (List.replicate 32 0)

/-- R677: the tag of a fabric datagram under a key: its base header with HOPS and CE zero, then header and body. -/
def datagramTag (key : Bytes) (hdr : BitVec 192) (payload : Bytes) : Bytes :=
  kmac256 key (bytesOf 24 (putField 20 4 0 (putField 12 1 0 hdr)) ++ payload) 16 fmName

/-- R687: the base header of a datagram, on VC5. -/
def State.datagramHdr (s : State) (type dst path : Nat) : BitVec 192 :=
  mkHdr type 5 (s.par d9_0001 0) path dst (s.par d0_0001 0) 0 0 0 0 0 0

/-- The egress item of a datagram. Its TAG and its TIME_TAG are made as it leaves. -/
def State.datagramItem (s : State) (port : Nat) (hdr : BitVec 192) (payload : Bytes) : EgressItem :=
  { pkt := ⟨hdr, 0, payload, [], false⟩, ready := true, tenant := 2048, owner := none
    encap := if (s.port port).modeCode = 0x10 then 0 else 1
    outer := [], cls := 0, len := 24 + payload.length + 16, entered := s.now, arrived := s.now, ingress := none }

/-- R366: the forwarding entry of an adapter in a set: COUNT and LIST. -/
def ParamSet.fwdEntry (ps : ParamSet) (a : Nat) : Nat × Nat :=
  let b := ps.blob d9_0012 0 (8 * a) 8
  (leAt 0 1 b, leAt 2 2 b)

/-- R366, R370: the port-list entry that a forwarding entry gives a PATH; none without a route. -/
def ParamSet.fwdChoice (ps : ParamSet) (a path : Nat) : Option PortEntry :=
  let e := ps.fwdEntry a
  if e.1 = 0 then none else some (ps.portEntry (e.2 + path % e.1))

/-- R688: send a datagram by the forwarding entry of its destination; nothing leaves without a route or an id. -/
def State.sendDatagram (type dst path : Nat) (payload : Bytes) (s : State) : State × Bool :=
  match s.dict.active.fwdChoice dst path with
  | none => (s, false)
  | some e =>
    if s.hasId then (s.enqueue e.port 5 (s.datagramItem e.port (s.datagramHdr type dst path) payload), true) else (s, false)

/-! ### Route generations (R372 to R375) -/

/-- R375: the armed shadow's tables, when a route change with that generation is armed. -/
def State.armedTables (k g : Nat) (s : State) : State × Option ParamSet :=
  if g = (s.par d9_0001 0 + 1) % 16 ∧ s.dict.armed.isSome ∧ s.dict.shadow.int s.pkg.part d9_0001 0 = g then
    (s.bump d9_0110 k, some s.dict.shadow)
  else (s.bump d9_0102 k, none)

/-- R374: the previous tables as a set that holds nothing else. -/
def previousSet (n : Nat) (blobs : Tbl Byte) : ParamSet := { blobs := blobs, ints := tput 0 (d9_0010.key 0) n [] }

/-- R375: which tables a packet's ROUTE_GEN names, with the count at the arrival tower. -/
def State.routeTables (k g : Nat) (s : State) : State × Option ParamSet :=
  let c := s.par d9_0001 0
  if g = c then (s, some s.dict.active)
  else
    match s.fwd.previous with
    | some (n, blobs) =>
      if g = (c + 15) % 16 ∧ s.fwd.changed ∧ s.now < s.fwd.lastChange + s.par d9_0002 0 then
        (s.bump d9_0109 k, some (previousSet n blobs))
      else s.armedTables k g
    | none => s.armedTables k g

/-! ### Transit (R363, R370, R380, R382, R387) -/

/-- R388: the body of a route-down notice. -/
def State.noticeBody (s : State) (p : Packet) (cause : Nat) : Bytes :=
  leBytes 16 (packNat [(16, s.par d0_0001 0), (16, hdrDstAdapter p), (8, hdrPath p), (8, hdrGen p), (8, cause), (8, 0), (64, s.now)])

/-- R387: a route-down notice to the packet's source, unless one left within D9.0006. -/
def State.notice (p : Packet) (cause : Nat) (s : State) : State :=
  let key := (hdrSrcAdapter p * 65536 + hdrDstAdapter p) * 64 + hdrPath p
  let recent : Bool := match tget key s.fwd.noticed with | some t => decide (s.now < t + s.par d9_0006 0) | none => false
  if recent then s
  else
    let r := s.sendDatagram 0x22 (hdrSrcAdapter p) (hdrPath p) (mgmtHeader 0 0 0 16 ++ s.noticeBody p cause)
    if r.2 then
      ({ r.1 with fwd := { r.1.fwd with noticed := tset key s.now r.1.fwd.noticed } } : State).bump d9_0113 0
    else r.1

/-- R386, R388: why an egress is out of service. -/
def State.downCause (s : State) (e : PortEntry) : Nat :=
  if e.down then 2 else if (s.port e.port).mode ≠ .up then 1 else 3

/-- R382: transit bytes that a port holds for a VC. -/
def Port.transitBytes (p : Port) (vc : Nat) : Nat :=
  let sum := fun (l : List EgressItem) => l.foldl (fun a (i : EgressItem) => if i.tenant = 2048 && i.ingress.isSome then a + i.len else a) 0
  if vc = 5 then sum p.vc5 else if vc = 6 then sum p.vc6 else if vc = 7 then sum p.vc7 else sum (tgetD p.dome (4096 * vc + 2048) [])

/-- R370, steps 4 and 5: the packet goes to its egress. `check`: 0 its link check holds, 1 it fails before the packet has
started at the egress, 2 it fails after. The second part says whether the packet is queued. -/
def State.forwardTo (rx : Rx) (e : PortEntry) (check : Nat) (s : State) : State × Bool :=
  let p := rx.pkt
  let vc := hdrVc p
  let out := s.port e.port
  let fabric := out.modeCode = 0x10
  let len := p.len
  if check = 1 then (s.bump d9_0107 (portTower rx.port), false)
  else if !fabric && out.transitBytes vc + len > s.par d9_0024 e.port then (s.bump d9_0108 (portTower e.port), false)
  else
    let cls := if e.dateline then min (rx.cls + 1) (s.par d9_0020 e.port - 1) else rx.cls
    let item : EgressItem := {
      pkt := { p with hdr := putField 20 4 (hdrHops p + 1) p.hdr }, ready := true, tenant := 2048, owner := none
      encap := if fabric then 0 else if rx.outer.length < 40 then 1 else 2
      outer := if fabric then [] else rx.outer, cls := classOf vc cls, len := len, entered := s.now, arrived := s.now
      ingress := some (rx.port, vc, classOf vc rx.cls), bad := check = 2 }
    ((s.holdIngress rx.port vc len).enqueue e.port vc item, true)

/-- R363, R370: a transit packet under the route tables of its generation. [DEDUCED, log 66] -/
def State.transit (rx : Rx) (set : ParamSet) (check : Nat) (s : State) : State :=
  let p := rx.pkt
  let k := portTower rx.port
  let drop := fun (s : State) => s.freeIngress rx.port (hdrVc p) rx.cls p.len
  if s.par d9_0000 0 = 0 ∨ !s.hasId then drop (s.bump d9_0105 k)
  else
    match set.fwdChoice (hdrDstAdapter p) (hdrPath p) with
    | none => drop (s.bump d9_0105 k)
    | some e =>
      if hdrHops p ≥ s.par d9_0003 0 then drop (s.bump d9_0103 k)
      else if e.down || !s.carries e.port then drop ((s.bump d9_0106 k).notice p (s.downCause e))
      else
        let r := s.forwardTo rx e check
        if r.2 then r.1 else drop r.1

/-- R58, R91: the packet's TIME_TAG is expired. [DEDUCED, log 19] -/
def State.tagExpired (s : State) (p : Packet) : Bool := tagState s.now (hdrTag p) = .expired

/-- The packet is for this adapter. -/
def State.isMine (s : State) (p : Packet) : Bool := hdrDstAdapter p = s.par d0_0001 0

/-- TRANSIT_RX (R363, R370, R375, R380): steps 1 and 2 of R273, then forwarding. [DEDUCED, log 19; DEDUCED, log 66] -/
def execTransitRx (rx : Rx) (check : Nat) (s : State) : Outcome :=
  let k := portTower rx.port
  if s.isMine rx.pkt ∧ s.hasId then .next s
  else if s.tagExpired rx.pkt then .next ((s.bump d6_0103 k).freeIngress rx.port (hdrVc rx.pkt) rx.cls rx.pkt.len)
  else
    match s.routeTables k (hdrGen rx.pkt) with
    | (s, none) => .next (s.freeIngress rx.port (hdrVc rx.pkt) rx.cls rx.pkt.len)
    | (s, some set) => .next (s.transit rx set check)

/-- The queue of a VC of a port in which transit packets wait; a dome VC's is the transit queue (R383). -/
def Port.transitQueue (p : Port) (vc : Nat) : List EgressItem :=
  if vc = 5 then p.vc5 else if vc = 6 then p.vc6 else if vc = 7 then p.vc7 else tgetD p.dome (4096 * vc + 2048) []

/-- A VC's queue of a tenant, replaced. -/
def Port.setQueue (p : Port) (vc tenant : Nat) (q : List EgressItem) : Port :=
  if vc = 5 then { p with vc5 := q } else if vc = 6 then { p with vc6 := q } else if vc = 7 then { p with vc7 := q }
  else { p with dome := tput [] (4096 * vc + tenant) q p.dome }

/-- TRANSIT_RESIDENCE_EXPIRE (R384): the head of a queue has not started within D9.0004 of its arrival. -/
def execTransitResidenceExpire (port vc : Nat) (s : State) : Outcome :=
  let p := s.port port
  match p.transitQueue vc with
  | [] => .next s
  | i :: rest =>
    match i.ingress with
    | some (n, v, c) =>
      if i.arrived + s.par d9_0004 0 < s.now then
        .next (((s.setPort port (p.setQueue vc 2048 rest)).freeIngress n v c i.len).bump d9_0104 (portTower port))
      else .next s
    | none => .next s

/-! ### Credits (R378, R379, R529) -/

/-- R529: the layout of a CREDIT or ADVERT block. -/
def creditBlock (ltype k : Nat) (f : Nat → Nat → Nat) : Bytes :=
  [BitVec.ofNat 8 ltype, BitVec.ofNat 8 k, 0, 0, 0, 0, 0, 0]
    ++ (upTo 5).flatMap (fun vc => (upTo 4).flatMap (fun j => leBytes 2 (f vc j)))
    ++ leBytes 2 (f 5 0) ++ leBytes 2 (f 6 0) ++ leBytes 2 (f 7 0) ++ [0, 0]

/-- R529: the counts of a block, by VC and class. -/
def blockCounts (b : Bytes) : Tbl Nat :=
  let t := (upTo 20).foldl (fun t i => tput 0 i (leAt (8 + 2 * i) 2 b) t) []
  (upTo 3).foldl (fun t i => tput 0 (vcKey (5 + i) 0) (leAt (48 + 2 * i) 2 b) t) t

/-- R379: at link-up each side advertises its limits, and both counts start at 0. -/
def State.sendAdvert (port : Nat) (s : State) : State :=
  s.emit (.block port 5 (creditBlock 5 (s.par d9_0020 port) (fun vc j => s.allocation port vc j)))

/-- Every VC and class of a fabric link. -/
def vcClasses : List (Nat × Nat) :=
  (upTo 5).flatMap (fun vc => (upTo 4).map (fun j => (vc, j))) ++ [(5, 0), (6, 0), (7, 0)]

/-- R378: the credits freed on some VC and class since the last block reach a quarter of its allocation. -/
def State.quarterFreed (s : State) (port : Nat) : Bool :=
  let p := s.port port
  vcClasses.any (fun (vc, j) =>
    let d := (tgetD p.freed (vcKey vc j) 0 + 65536 - tgetD p.freedSent (vcKey vc j) 0) % 65536
    d ≠ 0 && 4 * d ≥ s.allocation port vc j)

/-- CREDIT_BLOCK_SEND (R378, R529). -/
def execCreditBlockSend (port : Nat) (s : State) : Outcome :=
  let p := s.port port
  if s.fabricUp port ∧ (p.creditSent + s.par d9_0022 port ≤ s.now ∨ s.quarterFreed port) then
    let s := s.emit (.block port 4 (creditBlock 4 0 (fun vc j => tgetD p.freed (vcKey vc j) 0)))
    .next (s.setPort port { p with creditSent := s.now, freedSent := p.freed })
  else .next s

/-- CREDIT_RX (R378, R529): the partner's cumulative counts. -/
def execCreditRx (port : Nat) (block : Bytes) (s : State) : Outcome :=
  if s.fabricUp port ∧ leAt 0 1 block = 4 then .next (s.setPort port { s.port port with peerFreed := blockCounts block })
  else .next s

/-- ADVERT_RX (R379, R529): limits and hop classes of the partner; the counts start at 0. -/
def execAdvertRx (port : Nat) (block : Bytes) (s : State) : Outcome :=
  let p := s.port port
  if (p.mode = .train ∨ p.mode = .up) ∧ leAt 0 1 block = 5 then
    .next (s.setPort port { p with
      limit := blockCounts block, peerK := leAt 1 1 block, consumed := [], peerFreed := [], advertised := true })
  else .next s

/-- R378: the credits available on a VC and class. -/
def Port.available (p : Port) (vc cls : Nat) : Nat :=
  let k := vcKey vc cls
  tgetD p.limit k 0 - (tgetD p.consumed k 0 + 65536 - tgetD p.peerFreed k 0) % 65536

/-! ### Path removal (R389 to R391, R374) -/

/-- Steps 1 and 3 of R678 and R688 for a datagram that is handled here: none when it is discarded. -/
def State.openDatagram (s : State) (p : Packet) : Except State (Bytes × Bytes) :=
  let h := p.payload.take 16
  let body := p.payload.drop 16
  if leAt 0 2 h ≠ 0x4D5A || leAt 2 1 h ≠ 1 || leAt 12 2 h ≠ body.length || body.length > 1044 || p.payload.length < 16 then
    .error (s.bump d19_0107 0)
  else if p.trailer ≠ datagramTag s.fabricKey p.hdr p.payload then .error (s.bump d19_0103 0)
  else .ok (h, body)

/-- R687 to R689: where a datagram on VC5 goes: it is handled here by `f`, forwarded, or discarded. -/
def State.takeDatagram (rx : Rx) (f : State → State) (s : State) : State :=
  let k := portTower rx.port
  let free := fun (s : State) => s.freeIngress rx.port 5 0 rx.pkt.len
  if s.tagExpired rx.pkt then free (s.bump d19_0107 0)
  else if hdrDstAdapter rx.pkt = 0xFFFF then free (s.bump d19_0107 0)
  else if s.isMine rx.pkt then f (free s)
  else
    match s.routeTables k (hdrGen rx.pkt) with
    | (s, none) => free s
    | (s, some set) => s.transit rx set 0

/-- The dome connections whose spray set leads to adapter `d` with a path `p`. -/
def State.pathUsers (s : State) (d p : Nat) : List (Nat × Conn) :=
  s.conns.filter (fun e =>
    e.2.ctx.core.cls = 0 && e.2.ctx.core.mode ≠ .quarantine &&
    (match s.sprayOf (s.handle e.2.ctx.core.handle.toNat) with
     | some x => x.dst = d && p < x.count
     | none => false))

/-- R386, R390: every unacknowledged copy of a connection that left on a path is lost and owed, without raising
RETRY_COUNT and without a rate or weight step. -/
def Conn.losePathCopies (now p : Nat) (x : Conn) : Conn :=
  x.able now { x with
    flight := x.flight.map (fun (q : TxPkt) => if !q.acked && q.tag.isSome && q.path = p then { q with owed := true, laterAck := none } else q) }

/-- The entry of a table that expires first. -/
def firstExpiry : Tbl Nat → Option (Nat × Nat)
  | [] => none
  | e :: es =>
    match firstExpiry es with
    | none => some e
    | some g => if g.2 < e.2 then some g else some e

/-- R389: enter (destination, path) into the path-down table of 4,096 entries. -/
def State.enterPathDown (key : Nat) (s : State) : State :=
  let t := s.fwd.pathDown
  let t := if (tget key t).isNone && t.length ≥ 4096 then
      (match firstExpiry t with | some (k, _) => terase k t | none => t) else t
  { s with fwd := { s.fwd with pathDown := tset key (s.now + s.par d9_0005 0) t } }

/-- R389, R390: a route-down notice for this adapter. -/
def State.takeNotice (p : Packet) (s : State) : State :=
  match s.openDatagram p with
  | .error s => s
  | .ok (_, body) =>
    let d := leAt 2 2 body
    let path := leAt 4 1 body % 64
    if leAt 5 1 body % 16 ≠ s.par d9_0001 0 then s.bump d9_0115 0
    else
      let s := (s.enterPathDown (d * 64 + path)).bump d9_0114 0
      (s.pathUsers d path).foldl (fun s e => s.setConn e.1 (e.2.losePathCopies s.now path)) s

/-- ROUTE_DOWN_RX (R388 to R390, R687). -/
def execRouteDownRx (rx : Rx) (s : State) : Outcome := .next (s.takeDatagram rx (State.takeNotice rx.pkt))

/-- R391: a path of adapter `d` takes the reset values again. -/
def State.resetPath (d p : Nat) (s : State) : State :=
  (s.pathUsers d p).foldl (fun s e =>
    s.setConn e.1 { e.2 with ctx := e.2.ctx.modifyPath p (fun _ => s.freshPath) }) s

/-- PATH_DOWN_EXPIRE (R391). -/
def execPathDownExpire (dst path : Nat) (s : State) : Outcome :=
  match tget (dst * 64 + path) s.fwd.pathDown with
  | some t =>
    if t ≤ s.now then
      .next (({ s with fwd := { s.fwd with pathDown := terase (dst * 64 + path) s.fwd.pathDown } } : State).resetPath dst path)
    else .next s
  | none => .next s

/-- DRAIN_END (R374): the previous tables are dropped. -/
def execDrainEnd (s : State) : Outcome :=
  if s.fwd.previous.isSome ∧ s.fwd.lastChange + s.par d9_0002 0 ≤ s.now then
    .next { s with fwd := { s.fwd with previous := none } }
  else .next s

end Sys2Proof.Machine
end

