-- ==== Sys2Proof/Machine/Receiver.lean ====
section
/-! DEFINITION. The receiving side of a connection: the ordered checks (R192, R205 to R208, R233, R260, R263, R273), the
window, acknowledgements, placement, read-backs, closing of messages and notifications (R174 to R177, R236 to R252,
R276 to R284, R661). -/
namespace Sys2Proof.Machine

/-! ### Fields of the extensions (R261, R264) -/

def extMsn (p : Packet) : W32 := field 0 32 p.ext
def extIndex (p : Packet) : Nat := fieldNat 32 23 p.ext
def extAddr (p : Packet) : W64 := field 64 64 p.ext
def extKey (p : Packet) : W32 := field 128 32 p.ext
def extLength (p : Packet) : Nat := fieldNat 160 32 p.ext
def extAux (p : Packet) : W32 := field 192 32 p.ext
def extRelaxed (p : Packet) : Bool := flag 224 p.ext
def extResp (p : Packet) : Bool := flag 225 p.ext

/-- R260: reserved bits of the header and of the extension are zero, and RESP is set only in VOID. -/
def reservedOk (p : Packet) : Bool :=
  let t := hdrType p
  fieldNat 30 2 p.hdr = 0 &&
  (if takesPsn t then
     fieldNat 55 9 p.ext = 0 && fieldNat 226 30 p.ext = 0 && (!extResp p || t = 7) &&
     (t ≠ 5 || fieldNat 208 16 p.ext = 0)
   else if t = 0x10 then fieldNat 424 24 p.ext = 0
   else if t = 0x11 then fieldNat 16 16 p.ext = 0 && fieldNat 119 9 p.ext = 0
   else true)

/-- R263: what the header alone decides. -/
def shapeOk (p : Packet) : Bool :=
  let t := hdrType p
  let n := p.payload.length
  !takesPsn t ||
  (n ≤ 8192 && n ≤ extLength p && !((t = 3 || t = 6 || t = 7) && n ≠ 0) &&
   (hdrFirst p = (extIndex p = 0)) &&
   !((t = 1 || t = 2 || t = 4 || t = 5) && hdrFirst p && hdrLast p && n ≠ extLength p) &&
   (t ≠ 5 || (fmtKnown (fieldNat 192 8 p.ext) && fieldNat 200 8 p.ext ≤ 2 && wholeElems (fieldNat 192 8 p.ext) n)))

/-- R258: the packet's CE, from its header or from the IPv6 ECN field. -/
def Rx.ce (rx : Rx) : Bool :=
  hdrCe rx.pkt || (rx.outer.length ≥ 40 && natField 4 2 (leAt 19 1 rx.outer) = 3)

/-- R282: the ECHO byte of an acknowledgement. -/
def Rx.echo (rx : Rx) (dup : Bool) : BitVec 8 :=
  pack 8 [(6, hdrPath rx.pkt), (1, if rx.ce then 1 else 0), (1, if dup then 1 else 0)]

/-! ### Answers (R264, R282, R283) -/

/-- R283: an ACK for a packet: its PSN, TIME_TAG, RX_TAG and ECHO. [DEDUCED, log 57; DEDUCED, log 100] -/
def State.sendAck (c : Nat) (psn tag rxTag : W32) (echo : BitVec 8) (s : State) : State :=
  match s.conn? c with
  | none => s
  | some x =>
    let cum := x.ctx.core.rxNextPsn
    let near := (psn - cum).toInt.natAbs ≤ 255
    let base := if near then cum else psn - 255
    let bit := fun (k : Nat) =>
      let d := (base + BitVec.ofNat 32 k - cum).toInt
      decide (d < 0) || (d < 4096 && x.ctx.rxMap.getLsbD d.toNat)
    let sack := (upTo 256).foldl (fun a k => a + (if bit k then 2 ^ k else 0)) 0
    let s := s.setConn c { x with
      ackSince := none
      ctx := { x.ctx with delivery := { x.ctx.delivery with ackedTo := cum, unacked := 0 } } }
    s.sendControl c 0x10 [(32, cum.toNat), (32, base.toNat), (256, sack), (32, psn.toNat), (32, tag.toNat),
      (32, rxTag.toNat), (8, echo.toNat)] false

/-- R279, R280: a MSG_CONFIRM of the present state. -/
def State.sendConfirm (c : Nat) (s : State) : State :=
  match s.conn? c with
  | none => s
  | some x => s.sendControl c 0x12 [(32, (x.ctx.delivery.rxMsn - 1).toNat), (32, x.ctx.core.rxNextPsn.toNat)] false

/-- R264: a NAK of a connection that has its context. -/
def State.sendRefusal (c : Nat) (p : Packet) (code reason backoff : Nat) (s : State) : State :=
  s.sendControl c 0x11 [(8, code), (8, reason), (16, 0), (32, (hdrPsn p).toNat), (32, (extMsn p).toNat), (32, extIndex p),
    (32, backoff), (32, (hdrTag p).toNat)] false

/-- R207: answered with CONTEXT_BUSY, from the header alone. -/
def State.answerBusy (c : Nat) (rx : Rx) (backoff : Nat) (s : State) : State :=
  (s.bump d5_0102 (connTower c)).sendNak rx.port rx.outer rx.pkt 1 backoff

/-- R192: answered with STALE_CONNECTION, from the header alone. [DEDUCED, log 93] -/
def State.answerStale (c : Nat) (rx : Rx) (s : State) : State :=
  (s.bump d5_0105 (if connTower c < s.towers then connTower c else portTower rx.port)).sendNak rx.port rx.outer rx.pkt 2 0

/-! ### The window (R269, R272, R282) -/

/-- Consecutive set bits from bit 0. -/
def trailingOnes : Nat → BitVec w → Nat
  | 0, _ => 0
  | n + 1, x => if x.getLsbD 0 then trailingOnes n (x >>> 1) + 1 else 0

/-- R269: where a PSN lies: its distance from RX_NEXT_PSN. [DEDUCED, log 57] -/
def Conn.window (x : Conn) (psn : W32) : Int := (psn - x.ctx.core.rxNextPsn).toInt

/-- R269: the PSN lies behind the window, or its bit is set. -/
def Conn.received (x : Conn) (psn : W32) : Bool :=
  let d := x.window psn
  decide (d < 0) || (d < 4096 && x.ctx.rxMap.getLsbD d.toNat)

/-- R272, R273: set a PSN's bit and advance RX_NEXT_PSN over every consecutive set bit. [DEDUCED, log 57] -/
def Conn.markReceived (x : Conn) (psn : W32) : Conn :=
  let map := x.ctx.rxMap ||| ((1 : BitVec 4096) <<< (x.window psn).toNat)
  let n := trailingOnes 4096 map
  { x with ctx := { x.ctx with
      rxMap := map >>> n, core := { x.ctx.core with rxNextPsn := x.ctx.core.rxNextPsn + BitVec.ofNat 32 n } } }

/-- R282: acknowledge an accepted packet, at once when it is out of order or fills a gap, else by count or by delay.
`before` is the connection as the packet found it. -/
def State.ackAccepted (c : Nat) (before : Conn) (psn tag rxTag : W32) (echo : BitVec 8) (s : State) : State :=
  match s.conn? c with
  | none => s
  | some x =>
    let d := x.ctx.delivery
    let n := d.unacked.toNat + 1
    let prompt := before.window psn ≠ 0 || before.ctx.rxMap ≠ 0
    let x := { x with
      ackOf := (psn, tag, rxTag, echo), ackSince := x.ackSince.or (some s.now)
      ctx := { x.ctx with delivery := { d with unacked := BitVec.ofNat 16 n } } }
    let s := s.setConn c x
    if prompt || n ≥ s.par d6_0010 (connTower c) || s.par d6_0011 (connTower c) = 0 then s.sendAck c psn tag rxTag echo else s

/-- ACK_TIMER (R282): D6.0011 has passed since the first unacknowledged acceptance. [DEDUCED, log 101] -/
def execAckTimer (conn : Nat) (s : State) : Outcome :=
  .next (s.withCtx conn (fun x s =>
    match x.ackSince with
    | none => s
    | some t =>
      if t + s.par d6_0011 (connTower conn) ≤ s.now then s.sendAck conn x.ackOf.1 x.ackOf.2.1 x.ackOf.2.2.1 x.ackOf.2.2.2 else s))

/-! ### Messages of the peer (R276, R296) -/

/-- A message of the peer. -/
def Conn.rx? (x : Conn) (msn : W32) : Option RxMsg := x.rx.find? (fun m => m.msn = msn)

/-- Change a message of the peer. -/
def Conn.modifyRx (x : Conn) (msn : W32) (f : RxMsg → RxMsg) : Conn :=
  { x with rx := x.rx.map (fun m => if m.msn = msn then f m else m) }

/-- The kind of message a data packet belongs to. -/
def kindOf : Nat → MsgKind
  | 2 => .writeImm | 3 => .read | 4 => .resp | 5 => .accum | 6 => .flush | _ => .write

/-- R262: the message's REMOTE_ADDR, from the ADDR of one of its packets. -/
def packetBase (p : Packet) : W64 :=
  let f := fieldNat 192 8 p.ext
  let scale := fun (n : Nat) => if hdrType p = 5 then elemsIn f n * accBytes f else n
  let n := scale p.payload.length
  if extIndex p = 0 then extAddr p
  else if hdrLast p then extAddr p + BitVec.ofNat 64 n - BitVec.ofNat 64 (scale (extLength p))
  else extAddr p - BitVec.ofNat 64 (extIndex p * n)

/-- R296: a message of the peer from its first packet. -/
def Conn.trackRx (x : Conn) (p : Packet) : Conn :=
  let d := x.ctx.delivery
  let high := if serialNewer (extMsn p) d.rxHighMsn then extMsn p else d.rxHighMsn
  let x := { x with ctx := { x.ctx with delivery := { d with rxHighMsn := high } } }
  match x.rx? (extMsn p) with
  | some _ => x
  | none =>
    { x with rx := x.rx ++ [{
        msn := extMsn p, kind := kindOf (hdrType p), length := extLength p, imm := extAux p, addr := packetBase p
        key := extKey p, relaxed := extRelaxed p, enc := hdrEnc p, srcAdapter := BitVec.ofNat 16 (hdrSrcAdapter p) }] }

/-- R276: a PSN of a message has been received. -/
def RxMsg.took (m : RxMsg) (p : Packet) : RxMsg :=
  { m with
    got := m.got ++ [(extIndex p, hdrPsn p)]
    lastPos := if hdrLast p then some (extIndex p) else m.lastPos
    kind := if hdrType p = 7 then m.kind else kindOf (hdrType p)
    imm := if hdrType p = 2 then extAux p else m.imm
    addr := if hdrType p = 7 then m.addr else packetBase p
    key := if hdrType p = 7 then m.key else extKey p
    length := if hdrType p = 7 then m.length else extLength p }

/-- R276: every PSN the message took has been received. -/
def RxMsg.complete (m : RxMsg) : Bool := match m.lastPos with | some l => m.got.length ≥ l + 1 | none => false

/-- R249: the message needs a read-back before it is confirmed. -/
def RxMsg.needsRead (m : RxMsg) : Bool :=
  match m.kind with
  | .write | .writeImm => m.place.space ≠ 1 && !m.relaxed && m.bytes ≠ 0
  | _ => false

/-- R249: where the read-back of a range of `n` bytes at `a` reads: its last 4 bytes. [DEDUCED, log 58] -/
def lastWord (a n : Nat) : Nat := a + (n - min 4 n)

/-- R249, R250: the read-backs of a range: one on its data path, one more on the other path of attach memory. [DEDUCED, log 58] -/
def readsOf (p : Place) (cross : Bool) : Nat := if p.space = 1 then 0 else if p.space = 2 && cross then 2 else 1

/-- R250: the range lies under a cross-path attribute. [DEDUCED, log 58] -/
def Realm.crossPath (r : Realm) (a len : Nat) : Bool :=
  r.perms.getLsbD 5 || (r.perms.getLsbD 6 && r.fences.any (fun f =>
    f.used && f.perms.getLsbD 3 && f.start.toNat * 4096 ≤ a && a + len ≤ f.stop.toNat * 4096))

/-- R244, R276: the message may close once every earlier message is closed. -/
def RxMsg.ready (m : RxMsg) : Bool :=
  m.closed ||
  (m.complete && (m.refused.isSome || m.voided)) ||
  (match m.kind with
   | .read => m.reading
   | .flush => m.complete && m.readbacks = some 0
   | _ => m.complete && m.placing = 0 && (if m.needsRead then m.readbacks = some 0 else true))

/-! ### Notifications (R174 to R176, R238) -/

/-- R238: entries of a notification ring that count as produced. -/
def Ring.notifyUsed (r : Ring) : Nat := serialDiff r.tail r.done + r.reserved.length

/-- R134: entries of a notification ring. -/
def Ring.notifySize (r : Ring) : Nat := r.size

/-- R233, check 5: the connection's notification ring, when it is ACTIVE. -/
def State.notifyRing (s : State) (k : Core) : Option (Nat × Ring) :=
  let key := ringKey k.tenant.toNat k.notifyRing.toNat
  if k.notifyEn = 1 then
    match s.ring? key with
    | some r => if r.image.notify = 1 && r.mode = .active then some (key, r) else none
    | none => none
  else none

/-- R238: the message holds a reservation of the ring. -/
def Ring.holdsFor (r : Ring) (c : Nat) (msn : W32) : Bool := r.reserved.any (fun e => e.1 = c && e.2.1 = msn)

/-- R238: reserve an entry at the first accepted packet, and renew the time at every further one. -/
def Ring.reserve (r : Ring) (c : Nat) (msn : W32) (now : Nat) : Ring :=
  if r.holdsFor c msn then
    { r with reserved := r.reserved.map (fun (e : Nat × W32 × Nat) => if e.1 = c && e.2.1 = msn then (e.1, e.2.1, now) else e) }
  else { r with reserved := r.reserved ++ [(c, msn, now)] }

/-- R238: release a message's reservation. -/
def State.unreserve (c : Nat) (msn : W32) (s : State) : State :=
  match s.conn? c with
  | none => s
  | some x =>
    let key := ringKey x.ctx.core.tenant.toNat x.ctx.core.notifyRing.toNat
    match s.ring? key with
    | none => s
    | some r => s.setRing key { r with reserved := r.reserved.filter (fun e => !(e.1 = c && e.2.1 = msn)) }

/-- R165: raise a ring's event: an MSI-X message, an event-ring entry, or both, as EVT_MODE says. -/
def State.raiseRing (k : Nat) (s : State) : State :=
  match s.ring? k with
  | none => s
  | some r =>
    let t := keyTenant k
    let m := r.image.evtMode.toNat
    let s := s.setRing k { r with uncovered := 0, firstUncovered := none, eventDue := false }
    let s := if m = 2 ∨ m = 3 then s.event t 1 1 (keyRing k) 0 (if r.image.notify = 1 then r.tail.toNat else r.done.toNat) else s
    if m = 1 ∨ m = 3 then s.raiseMsix t r.image.msixVector.toNat else s

/-- R164: a signalled completion is uncovered from now on; the count that EVT_COUNT sets makes the event due. -/
def Ring.signal (r : Ring) (now : Nat) : Ring :=
  if r.image.evtMode = 0 then r
  else
    let n := r.uncovered + 1
    { r with
      uncovered := n, firstUncovered := r.firstUncovered.or (some now)
      eventDue := r.eventDue || n ≥ max 1 r.image.evtCount.toNat }

/-- R174: a notification entry. [DESIGN CHOICE, log 102] -/
def notifyEntry (m : RxMsg) (c : Nat) (inc : BitVec 8) (index : W32) (now : Nat) : Bytes :=
  leBytes 32 (packNat [(32, m.imm.toNat), (24, c), (8, inc.toNat), (32, m.length), (16, index.toNat),
    (8, if m.enc then 1 else 0), (8, 0), (32, now), (16, m.srcAdapter.toNat)])

/-- R175, R177: the confirmed WRITE_IMM's entry is written; it counts as a signalled completion. A notification ring that
is no longer ACTIVE receives nothing. -/
def State.notifyWrite (c : Nat) (m : RxMsg) (s : State) : State :=
  match s.conn? c with
  | none => s
  | some x =>
    let k := x.ctx.core
    let s := s.unreserve c m.msn
    match s.notifyRing k with
    | none => s
    | some (key, r) =>
      let a := r.image.base.toNat + 32 * (r.tail.toNat % r.notifySize)
      let s := (s.placeWrite k.tenant.toNat r.place a (notifyEntry m c k.incarnation r.tail s.now)).getD s
      let r := ({ r with tail := r.tail + 1 } : Ring).signal s.now
      let s := s.setRing key r
      if r.eventDue then s.raiseRing key else s

/-- NOTIFY_RESERVATION_EXPIRE (R238): no packet of a message has been accepted for 1 s. -/
def execNotifyReservationExpire (t ring conn : Nat) (msn : W32) (s : State) : Outcome :=
  match s.ring? (ringKey t ring) with
  | none => .next s
  | some r =>
    if r.reserved.any (fun e => e.1 = conn && e.2.1 = msn && e.2.2 + 1250000000 ≤ s.now) then
      .next ((s.setRing (ringKey t ring) { r with reserved := r.reserved.filter (fun e => !(e.1 = conn && e.2.1 = msn)) }).bump
        d4_0104 t)
    else .next s

/-! ### Collective handles (R426, R428) -/

/-- R426: a tenant's range of handles: first and count. -/
def ParamSet.handleRange (ps : ParamSet) (part : Part) (t : Nat) : Nat × Nat :=
  let v := ps.int part d10_8001 t
  (natField 0 12 v, natField 16 13 v)

/-- R426: descriptor `i` of a tenant's handles. -/
def ParamSet.handleDesc (ps : ParamSet) (t i : Nat) : Bytes := ps.blob d10_0100 t (64 * i) 64

/-- R426: fields of a descriptor. -/
def hdOp (d : Bytes) : Nat := leAt 0 1 d
def hdValid (d : Bytes) : Bool := leAt 1 1 d % 2 = 1
def hdInFormat (d : Bytes) : Nat := leAt 2 1 d
def hdOutFormat (d : Bytes) : Nat := leAt 3 1 d
def hdRound (d : Bytes) : Nat := leAt 4 1 d
def hdRange (d : Bytes) : Nat := leAt 5 1 d
def hdSegCount (d : Bytes) : Nat := leAt 6 2 d
def hdSegElems (d : Bytes) : Nat := leAt 8 4 d
def hdKey (d : Bytes) : W32 := BitVec.ofNat 32 (leAt 12 4 d)
def hdBase (d : Bytes) : Nat := leAt 16 8 d
def hdSeed (d : Bytes) : W64 := BitVec.ofNat 64 (leAt 24 8 d)
def hdElemBase (d : Bytes) : Nat := leAt 32 8 d
def hdSlots (d : Bytes) : Nat := leAt 40 1 d

/-- R426, R436: bytes of a handle's region. -/
def hdRegion (d : Bytes) : Nat :=
  let n := hdSegCount d * hdSegElems d
  if hdOp d = 3 then 8 * n * hdSlots d else 64 * n

/-- R426: a handle is defined for the tenant: its descriptor. -/
def State.handleDesc? (s : State) (t h : Nat) : Option Bytes :=
  let r := s.dict.active.handleRange s.pkg.part t
  if r.1 ≤ h && h < r.1 + r.2 then
    let d := s.dict.active.handleDesc t (h - r.1)
    if hdValid d then some d else none
  else none

/-- The defined handle of a tenant in whose region a range lies, with its descriptor. -/
def State.handleAt (s : State) (t a len : Nat) : Option (Nat × Bytes) :=
  let r := s.dict.active.handleRange s.pkg.part t
  match (upTo r.2).find? (fun i =>
    let d := s.dict.active.handleDesc t i
    hdValid d && hdBase d ≤ a && a + len ≤ hdBase d + hdRegion d) with
  | some i => some (r.1 + i, s.dict.active.handleDesc t i)
  | none => none

/-- R428: raise ARRIVED of the segments that elements `first` to `first + n - 1` of a handle lie in. -/
def State.raiseArrived (h : Nat) (d : Bytes) (first n : Nat) (s : State) : State :=
  let e := hdSegElems d
  if e = 0 then s
  else
    (upTo (hdSegCount d)).foldl (fun s g =>
      let lo := max first (g * e)
      let hi := min (first + n) ((g + 1) * e)
      if lo < hi then
        let k := 256 * h + g
        { s with cupola := { s.cupola with
            arrived := tput 0 k ((tgetD s.cupola.arrived k 0 + (hi - lo)) % 18446744073709551616) s.cupola.arrived } }
      else s) s

/-- R428, R436: a confirmed ACCUM raises ARRIVED of its elements' segments; in a region of OP 3, by the position within
the rank slot. [DEDUCED, log 77] -/
def State.countArrived (t : Nat) (m : RxMsg) (s : State) : State :=
  let f := fieldNat 0 8 m.imm
  let n := elemsIn f m.length
  let a := m.addr.toNat
  match s.handleAt t a (n * accBytes f) with
  | none => s
  | some (h, d) =>
    if hdOp d = 3 then
      let per := hdSegCount d * hdSegElems d
      s.raiseArrived h d ((a - hdBase d) / 8 % (max per 1)) n
    else s.raiseArrived h d ((a - hdBase d) / 64) n

/-! ### Closing messages (R244, R276, R279) -/

/-- R244, R245, R276: what the closing of a message announces. -/
def State.announce (c : Nat) (m : RxMsg) (s : State) : State :=
  match s.conn? c with
  | none => s
  | some x =>
    if m.refused.isSome || m.voided then (if m.kind = .writeImm then s.unreserve c m.msn else s)
    else
      match m.kind with
      | .writeImm => s.notifyWrite c m
      | .accum => s.countArrived x.ctx.core.tenant.toNat m
      | _ => s

/-- R276, R296: close the oldest message: RX_MSN advances and RX_MSG_PSN follows its last packet. -/
def State.closeHead (c : Nat) (m : RxMsg) (s : State) : State :=
  match s.conn? c with
  | none => s
  | some x =>
    let d := x.ctx.delivery
    let last := match m.lastPos with
      | some l => (match m.got.find? (fun e => e.1 = l) with | some e => e.2 + 1 | none => d.rxMsgPsn)
      | none => d.rxMsgPsn
    let s := s.setConn c { x with
      rx := x.rx.filter (fun n => n.msn ≠ m.msn)
      ctx := { x.ctx with delivery := { d with rxMsn := d.rxMsn + 1, rxMsgPsn := last } } }
    s.announce c m

/-- Close every message that may close, in MSN order; the count says how many. -/
def State.closeMany : Nat → Nat → State → State × Nat
  | 0, _, s => (s, 0)
  | n + 1, c, s =>
    match s.conn? c with
    | none => (s, 0)
    | some x =>
      match x.rx? x.ctx.delivery.rxMsn with
      | none => (s, 0)
      | some m =>
        if m.ready then
          let r := State.closeMany n c (s.closeHead c m)
          (r.1, r.2 + 1)
        else (s, 0)

/-- R296: RX_MSG_BYTES shows the oldest open message. -/
def Conn.showBytes (x : Conn) : Conn :=
  let d := x.ctx.delivery
  { x with ctx := { x.ctx with delivery := { d with
      rxMsgBytes := match x.rx? d.rxMsn with | some m => BitVec.ofNat 32 m.bytes | none => 0 } } }

/-- R279: close what may close, and send a MSG_CONFIRM when the closed MSN advanced. -/
def State.closeReady (c : Nat) (s : State) : State :=
  match s.conn? c with
  | none => s
  | some x =>
    let r := State.closeMany (x.rx.length + 1) c s
    let s := match r.1.conn? c with | some y => r.1.setConn c y.showBytes | none => r.1
    if r.2 = 0 then s else s.sendConfirm c

/-! ### Placement (R247 to R252, R753) -/

/-- R252, R296: the bit of RELAXED_PATHS of a place: host port, DMA channel, or CXL.io. -/
def State.pathBit (s : State) (p : Place) : Nat :=
  if p.space = 0 then 0 else if (s.attachPort p.port).mode = .cxlUp then 3 else 1

/-- R252: a path that relaxed messages wrote: where its read-back reads. -/
def Conn.relaxPath (x : Conn) (b : Nat) (p : Place) (a : Nat) : Conn :=
  let d := x.ctx.delivery
  { x with
    relaxedAt := tset (b + 4 * p.port) (p, a) x.relaxedAt
    ctx := { x.ctx with delivery := { d with relaxedPaths := d.relaxedPaths ||| (1 <<< b : BitVec 4) } } }

/-- R250, R252: a relaxed message wrote a path; under a cross-path attribute the attach link's other path is recorded too. -/
def State.recordRelaxed (c : Nat) (p : Place) (a : Nat) (cross : Bool) (s : State) : State :=
  match s.conn? c with
  | none => s
  | some x =>
    if p.space = 1 then s
    else
      let y := x.relaxPath (s.pathBit p) p a
      s.setConn c (if p.space = 2 && cross then y.relaxPath 2 p a else y)

/-- R753: a placement write fails at the target: fault log, ERROR with BUS_ERROR. -/
def State.placementFailed (c addr : Nat) (s : State) : State :=
  match s.conn? c with
  | none => s
  | some x =>
    (s.logFault .tenant .connection 0 (some x.ctx.core.tenant.toNat) c addr Status.busError.code).connError c .busError

/-- Place the payload of an accepted WRITE or WRITE_IMM packet. [DESIGN CHOICE, log 15] -/
def State.place (c : Nat) (p : Packet) (r : Realm) (s : State) : State :=
  match s.conn? c with
  | none => s
  | some x =>
    let a := (extAddr p).toNat
    let n := p.payload.length
    let t := x.ctx.core.tenant.toNat
    if n = 0 then s
    else
      match s.placeWrite t r.place a p.payload with
      | none => (s.countStale t r.place a n).placementFailed c a
      | some s =>
        let s := s.setConn c (x.modifyRx (extMsn p) (fun m => { m with
          bytes := m.bytes + n, place := r.place, lastAddr := max m.lastAddr (lastWord a n), lastLen := min 4 n, cross := m.cross || r.crossPath a n }))
        if extRelaxed p then s.recordRelaxed c r.place (lastWord a n) (r.crossPath a n) else s

/-- PLACEMENT_WRITE_FAIL (R753): a placement write under way fails. `own`: it places a response of this side's READ. -/
def execPlacementWriteFail (conn : Nat) (msn : W32) (own : Bool) (addr : W64) (s : State) : Outcome :=
  match s.conn? conn with
  | none => .next s
  | some x =>
    if own then .next (s.setConn conn (x.modifyMsg msn false (fun m => { m with failed := true })))
    else if (x.rx? msn).isSome then .next (s.placementFailed conn addr.toNat)
    else .next s

/-! ### Trailer (R265, R266, R268, R661) -/

/-- What the end of a packet shows: good, with its plaintext; good under the next epoch only; bad, with the counter; or
the key that must be derived first. -/
inductive Opened where
  | good (p : Packet)
  | next (p : Packet)
  | bad (crc : Bool)
  | wait (k : KeyName)
  deriving DecidableEq, Repr

/-- R265, R266, R661: check a packet's trailer at its connection. [DESIGN CHOICE, log 15] -/
def State.openPacket (s : State) (c : Nat) (k : Core) (p : Packet) (plain : Bool) : Opened :=
  if k.cipherEn = 0 ∨ plain then
    if hdrEnc p then .bad true else (match p.openWith none with | some q => .good q | none => .bad true)
  else if !hdrEnc p then .bad false
  else
    let k0 := s.inlineKey (connTower c) k.rootSlot.toNat k.keyEpoch p
    let k1 := s.inlineKey (connTower c) k.rootSlot.toNat (k.keyEpoch + 1) p
    if !s.keyCached k0 then .wait k0
    else
      match p.openWith (some (s.keyValue k0)) with
      | some q => .good q
      | none =>
        if !s.keyCached k1 then .wait k1
        else
          match p.openWith (some (s.keyValue k1)) with
          | some q => .next q
          | none => .bad false

/-- R268, R273: a packet whose end is bad is discarded and counted. -/
def State.countBad (c : Nat) (p : Packet) (crc : Bool) (s : State) : State :=
  s.bump (if p.badEnd then d6_0102 else if crc then d6_0100 else d6_0101) (connTower c)

/-- R661: follow the sender to the next epoch. -/
def State.followEpoch (c : Nat) (s : State) : State :=
  match s.conn? c with
  | none => s
  | some x =>
    (s.setConn c { x with ctx := { x.ctx with core := { x.ctx.core with keyEpoch := x.ctx.core.keyEpoch + 1 } } }).bump
      d18_0102 (connTower c)

/-- R659: a packet waits for a derivation. -/
def State.awaitKey (k : KeyName) (arrived : Nat) (rx : Rx) (s : State) : State :=
  let s := s.requestKey k
  { s with cipher := { s.cipher with waiting := s.cipher.waiting ++ [⟨k, arrived, rx⟩] } }

/-! ### Policer (R355) -/

/-- R353 to R355: refill a bucket. -/
def Bucket.refill (b : Bucket) (rate burst now : Nat) : Bucket :=
  { level := min ((256 * burst : Nat) : Int) (b.level + (rate * (now - b.last) : Nat)), last := now }

/-- R339: the charged length of a frame on a port. -/
def State.charged (s : State) (port encap len : Nat) : Nat := len + outerLen encap + s.par d8_0031 port

/-- R256: the encapsulation that received bytes show. -/
def encapOf (outer : Bytes) : Nat := if outer.isEmpty then 0 else if outer.length < 40 then 1 else 2

/-- R355: the ingress policer of the connection's tenant on its home tower. -/
def State.police (c : Nat) (rx : Rx) (s : State) : State × Bool :=
  match s.conn? c with
  | none => (s, true)
  | some x =>
    let t := x.ctx.core.tenant.toNat
    let rate := s.par d8_8004 t
    if x.ctx.core.cls = 1 ∨ hdrVc rx.pkt > 4 ∨ rate = 0 then (s, true)
    else
      let key := 8 * t + connTower c
      let burst := s.par d8_8005 t
      let b := (tgetD s.policers key ⟨(256 * burst : Nat), s.now⟩).refill rate burst s.now
      let need := 256 * s.charged rx.port (encapOf rx.outer) rx.pkt.len
      if need ≤ b.level then ({ s with policers := tset key { b with level := b.level - (need : Nat) } s.policers }, true)
      else (({ s with policers := tset key b s.policers } : State).bump d8_0200 t, false)

/-! ### Data packets -/

/-- R588, R595: how a tenant's reset or quiesce answers a data packet: none when it passes, true STALE, false BUSY.
`begun`: the packet's message had begun. -/
def State.tenantAnswer (s : State) (t : Nat) (begun : Bool) : Option Bool :=
  match (s.tenant t).reset with
  | some r => if r.squash || !begun then some true else none
  | none => if (s.tenant t).quiesceAt.isSome && !begun then some false else none

/-- R424: an ACCUM of FP64 lies wholly in the region of a handle of OP 3 of the tenant; of any other format, it meets none. -/
def State.orderedFits (s : State) (t f a len : Nat) : Bool :=
  let r := s.dict.active.handleRange s.pkg.part t
  let ordered := ((upTo r.2).map (s.dict.active.handleDesc t)).filter (fun d => hdValid d && hdOp d = 3)
  if f = fmtFp64 then ordered.any (fun d => hdBase d ≤ a && a + len ≤ hdBase d + hdRegion d)
  else !ordered.any (fun d => hdBase d < a + len && a < hdBase d + hdRegion d)

/-- R233, R399, R421, R424: the realm check of a request packet: the reason of a refusal, or the realm. [DEDUCED, log 56; DEDUCED, log 77] -/
def State.requestCheck (s : State) (_c : Nat) (k : Core) (rx : Rx) : Except Nat Realm :=
  let p := rx.pkt
  let t := k.tenant.toNat
  let ty := hdrType p
  let f := fieldNat 192 8 p.ext
  let n := elemsIn f p.payload.length
  let a := (extAddr p).toNat
  let len := if ty = 3 then extLength p else if ty = 5 then n * accBytes f else p.payload.length
  let bit := if ty = 3 then 0 else if ty = 5 then 2 else 1
  match s.realmCheck t k.tenantInc (extKey p) bit a len (ty ≠ 2 || (s.notifyRing k).isSome) rx.translates
      (if ty = 5 then some (extentTower (extentOf a)) else none) with
  | .error e =>
    if ty = 5 && e > rsPermission && s.par d10_8000 t = 0 then .error rsPermission
    else if ty = 5 && e > rsRange && !s.orderedFits t f a len then .error rsRange
    else .error e
  | .ok r =>
    if ty = 5 && s.par d10_8000 t = 0 then .error rsPermission
    else if ty = 5 && !s.orderedFits t f a len then .error rsRange
    else .ok r

/-- R277: a packet of a refused message: its bit is set, nothing is placed, and it is answered NAK REFUSED. -/
def State.refuse (c : Nat) (rx : Rx) (arrived reason : Nat) (s : State) : State :=
  match s.conn? c with
  | none => s
  | some x =>
    let p := rx.pkt
    let y := ((x.trackRx p).markReceived (hdrPsn p)).modifyRx (extMsn p) (fun m =>
      { m.took p with refused := m.refused.or (some reason) })
    let s := (s.setConn c (y.touch s.now)).countRemoteRefused (extKey p) x.ctx.core.tenant.toNat
    let s := s.sendRefusal c p 4 reason 0
    (s.ackAccepted c x (hdrPsn p) (hdrTag p) (BitVec.ofNat 32 arrived) (rx.echo false)).closeReady c

/-- The accumulators that a held packet covers: address, count, bytes. -/
def AccHold.count (h : AccHold) : Nat :=
  match h.gate with
  | none => elemsIn h.fmt h.payload.length
  | some _ =>
    let u := unitBytes h.fmt
    if h.payload.isEmpty then 0 else ((h.off + h.payload.length - 1) / u - h.off / u + 1) * unitElems h.fmt
def AccHold.span (h : AccHold) : Nat := h.count * accBytes h.fmt

/-- R243, R400: an ACCUM packet, whole and checked, waits for the cores of its accumulators' home tower. When the
input buffer of 2 MiB is full, it keeps its place in the ingress buffer. -/
def State.holdAccum (h : AccHold) (rx : Rx) (s : State) : State :=
  let used := s.cupola.input.foldl (fun n (x : AccHold) => if x.tower = h.tower && x.ingress.isNone then n + x.len else n) 0
  let full := used + h.len > 2097152
  let p := s.port rx.port
  let vc := hdrVc rx.pkt
  let key := vcKey vc rx.cls
  let s := if full then
      s.setPort rx.port { p with
        freed := if p.modeCode = 0x10 then tput 0 key ((tgetD p.freed key 0 + 65536 - creditsOf rx.pkt.len) % 65536) p.freed else p.freed
        ingress := tput 0 vc (tgetD p.ingress vc 0 + rx.pkt.len) p.ingress }
    else s
  { s with cupola := { s.cupola with
      input := s.cupola.input ++ [{ h with gens := s.gensOf h.addr h.span, ingress := if full then some (rx.port, vc, classOf vc rx.cls, rx.pkt.len) else none }] } }

/-- R281: the responses that a READ of this side has, and its end: BUS_ERROR when one failed, else its read-backs. -/
def State.readEnd (c : Nat) (msn : W32) (s : State) : State :=
  match s.conn? c with
  | none => s
  | some x =>
    match x.msg? msn false with
    | none => s
    | some m =>
      let all := match m.lastResp with | some l => m.gotResp.length ≥ l + 1 | none => false
      if !all || m.closed then s
      else if m.failed then
        let s := s.setConn c ((x.modifyMsg msn false (fun m => { m with closed := true })).sweep)
        s.messageFail m .busError 0
      else if m.gate.isSome || m.relaxed || m.src.space = 1 then
        (s.setConn c ((x.modifyMsg msn false (fun m => { m with closed := true })).sweep)).messageDone m
      else if x.ownReadbacks.any (fun e => e.1 = msn) then s
      else s.setConn c { x with ownReadbacks := x.ownReadbacks ++ [(msn, none)] }

/-- R247, R281, R474, R753: a response of this side's READ, or a VOID in its place, has been accepted. -/
def State.takeResponse (c : Nat) (rx : Rx) (arrived : Nat) (p : Packet) (s : State) : State :=
  match s.conn? c with
  | none => s
  | some x =>
    let msn := extMsn p
    match x.msg? msn false with
    | none => s
    | some m =>
      if m.voided.isSome || m.closed then s
      else
        let note := fun (m : TxMsg) => { m with
          gotResp := if m.gotResp.contains (extIndex p) then m.gotResp else extIndex p :: m.gotResp
          lastResp := if hdrLast p then some (extIndex p) else m.lastResp }
        if hdrType p = 7 then (s.setConn c (x.modifyMsg msn false (fun m => { note m with failed := true }))).readEnd c msn
        else if m.gate.isSome then
          s.holdAccum {
            source := .resp c (hdrPsn p) msn (extIndex p), inc := hdrDstInc p, tower := extentTower (extentOf m.addr)
            tenant := x.ctx.core.tenant.toNat, addr := m.addr + 64 * unitElems (fieldNat 0 8 m.aux) * ((extAddr p).toNat / unitBytes (fieldNat 0 8 m.aux)), off := (extAddr p).toNat
            fmt := fieldNat 0 8 m.aux, op := 0, gate := m.gate
            payload := p.payload, len := p.len, tag := hdrTag p, rxTag := BitVec.ofNat 32 arrived, echo := rx.echo false } rx
        else
          let t := x.ctx.core.tenant.toNat
          let a := m.addr + (extAddr p).toNat
          let y := x.modifyMsg msn false note
          let refused := match m.lkey with
            | some k => (match s.localCheck t k 1 a p.payload.length with | .fail r => some r | _ => none)
            | none => none
          match refused with
          | some r => (s.countLocalRefused t).voidMsg c msn false (localStatus r) (r + 256)
          | none =>
          match (s.setConn c y).placeWrite t m.src a p.payload with
          | some s =>
            let y := (s.conn? c).getD y
            (s.setConn c (y.modifyMsg msn false (fun m => { m with placed := m.placed + p.payload.length }))).readEnd c msn
          | none => ((s.countStale t m.src a p.payload.length).setConn c (y.modifyMsg msn false (fun m => { m with failed := true }))).readEnd c msn

/-- Step 9 passed: the PSN is accepted (R273, R276, R282), and the packet acts by its type. [DEDUCED, log 56] -/
def State.accept (c : Nat) (rx : Rx) (arrived : Nat) (p : Packet) (realm : Option Realm) (s : State) : State :=
  match s.conn? c with
  | none => s
  | some x =>
    let ty := hdrType p
    let resp := ty = 4 || (ty = 7 && extResp p)
    let k := x.ctx.core
    let rxTag := BitVec.ofNat 32 arrived
    if ty = 5 then
      -- R240, R241: the bit is set when the additions are applied
      let y := (x.trackRx p).modifyRx (extMsn p) (fun m =>
        { (if m.got.any (fun e => e.2 = hdrPsn p) then m else m.took p) with placing := m.placing + 1 })
      let a := (extAddr p).toNat
      (s.setConn c y).holdAccum {
        source := .accum c (hdrPsn p) (extMsn p), inc := hdrDstInc p, tower := extentTower (extentOf a), tenant := k.tenant.toNat, addr := a
        fmt := fieldNat 192 8 p.ext, op := fieldNat 200 8 p.ext, payload := p.payload, len := p.len, tag := hdrTag p
        rxTag := rxTag, echo := rx.echo false } rx
    else
      let y := x.markReceived (hdrPsn p)
      let y := { y with ctx := { y.ctx with core := { y.ctx.core with pktsRx := y.ctx.core.pktsRx + 1 } } }
      let y := if resp then y
        else (y.trackRx p).modifyRx (extMsn p) (fun m => { m.took p with voided := m.voided || ty = 7 })
      let s := s.setConn c (y.touch s.now)
      let s := if resp then s.takeResponse c rx arrived p
        else
          match ty, realm with
          | 1, some r => s.place c p r
          | 2, some r =>
            let s := match s.notifyRing k with
              | some (key, ring) => s.setRing key (ring.reserve c (extMsn p) s.now)
              | none => s
            s.place c p r
          | _, _ => s
      let held := match s.cupola.input.getLast? with
        | some h => (match h.source with | .resp c' q _ _ => c' = c && q = hdrPsn p && ty = 4 | _ => false)
        | none => false
      let s := if held then s else s.ackAccepted c x (hdrPsn p) (hdrTag p) rxTag (rx.echo false)
      s.closeReady c

/-- R273: steps 5 to 9 of a data packet at its connection. `resumed`: it waited for a key, past steps 5 to 8. -/
def State.dataPacket (c : Nat) (rx : Rx) (arrived : Nat) (resumed : Bool) (s : State) : State :=
  match s.conn? c with
  | none => s
  | some x =>
    let p := rx.pkt
    let tw := connTower c
    let ty := hdrType p
    let resp := ty = 4 || (ty = 7 && extResp p)
    if x.window (hdrPsn p) ≥ 4096 then s.bump d6_0104 tw
    else if x.received (hdrPsn p) then
      let k := x.ctx.core
      (s.setConn c { x with ctx := { x.ctx with core := { k with duplicates := k.duplicates + 1 } } }).sendAck c (hdrPsn p)
        (hdrTag p) (BitVec.ofNat 32 arrived) (rx.echo true)
    else
      let pol := if resumed then (s, true) else s.police c rx
      if !pol.2 then pol.1
      else
        let s := pol.1
        let refusedAs := if resp then none else (match x.rx? (extMsn p) with | some m => m.refused | none => none)
        match refusedAs with
        | some reason => s.refuse c rx arrived reason
        | none =>
          let checked : Except Nat (Option Realm) :=
            if ty = 1 ∨ ty = 2 ∨ ty = 3 ∨ ty = 5 then (s.requestCheck c x.ctx.core rx).map some else .ok none
          match checked with
          | .error reason => s.refuse c rx arrived reason
          | .ok realm =>
            let hostShut := match realm with
              | some r => (s.tenant x.ctx.core.tenant.toNat).reset.isSome && r.place.space = 0
              | none => (s.tenant x.ctx.core.tenant.toNat).reset.isSome && ty = 4 &&
                  (match x.msg? (extMsn p) false with | some m => m.src.space = 0 | none => false)
            let full := ty = 2 && (match s.notifyRing x.ctx.core with
              | some (_, r) => !r.holdsFor c (extMsn p) && r.notifyUsed ≥ r.notifySize
              | none => false)
            if hostShut then s.answerStale c rx
            else if full then
              (s.bump d4_0104 x.ctx.core.tenant.toNat).sendRefusal c p 3 0 (s.par d6_0020 tw)
            else
              match s.openPacket c x.ctx.core p false with
              | .bad crc => s.countBad c p crc
              | .next _ => s.followEpoch c
              | .wait k => s.awaitKey k arrived rx
              | .good q => s.accept c rx arrived q realm

/-- A control packet at its connection (R279 to R284, R291, R661). -/
def State.controlPacket (c : Nat) (rx : Rx) (arrived : Nat) (s : State) : State :=
  match s.conn? c with
  | none => s
  | some x =>
    let p := rx.pkt
    let code := fieldNat 0 8 p.ext
    let plain := hdrType p = 0x11 && (code = 1 || code = 2) && !hdrEnc p
    let act := fun (q : Packet) (s : State) =>
      match hdrType q with
      | 0x10 => s.takeAck c q
      | 0x11 => s.takeNak c q
      | 0x12 => s.takeConfirm c q
      | _ => s.sendConfirm c
    match s.openPacket c x.ctx.core p plain with
    | .bad crc => s.countBad c p crc
    | .wait k => s.awaitKey k arrived rx
    | .next q => act q (s.followEpoch c)
    | .good q => act q s

/-- The packet's message had begun on this connection. -/
def Conn.begun (x : Conn) (p : Packet) : Bool :=
  if hdrType p = 4 || (hdrType p = 7 && extResp p) then (x.msg? (extMsn p) false).isSome else (x.rx? (extMsn p)).isSome

/-- R192: what a FROZEN connection still accepts: responses of its READs begun before a FREEZE that has not completed. -/
def Conn.frozenTakes (x : Conn) (p : Packet) : Bool :=
  (hdrType p = 4 || (hdrType p = 7 && extResp p)) && x.freezeAt.isSome && (extMsn p - x.freezeMsn).toInt < 0

/-- R192: a packet with its connection's context at hand. -/
def State.withConn (c : Nat) (rx : Rx) (arrived : Nat) (s : State) : State :=
  let p := rx.pkt
  let data := takesPsn (hdrType p)
  match s.conn? c with
  | none => if data then s.answerStale c rx else s
  | some x =>
    let k := x.ctx.core
    let m := k.mode
    if m = .free ∨ m = .quarantine ∨ m = .init ∨ hdrDstInc p ≠ k.incarnation then (if data then s.answerStale c rx else s)
    else if hdrSrcAdapter p ≠ (s.handle k.handle.toNat).peerAdapter.toNat then s.bump d5_0108 (connTower c)
    else if m = .error then (if data then s.answerStale c rx else s)
    else
      match s.tenantAnswer k.tenant.toNat (x.begun p) with
      | some true => if data then s.answerStale c rx
                     else if ((s.tenant k.tenant.toNat).reset.map (·.squash)).getD false then s
                     else s.controlPacket c rx arrived
      | some false => if data then s.answerBusy c rx (s.par d15_0024 0) else s.controlPacket c rx arrived
      | none =>
        if !data then s.controlPacket c rx arrived
        else if m = .frozen && !x.frozenTakes p then s.answerBusy c rx (s.par d5_0012 (connTower c))
        else s.dataPacket c rx arrived false

/-! ### The miss buffer (R205 to R208) -/

/-- R205: the bytes an entry occupies. -/
def missBytes (rx : Rx) : Nat := ceilDiv rx.pkt.len 64 * 64

/-- A tower's entries. -/
def State.missOf (s : State) (k : Nat) (vc6 : Bool) : List MissEntry :=
  s.miss.filter (fun e => connTower e.conn = k && ((hdrVc e.rx.pkt = 6) = vc6))

/-- R205, R207: there is room for a packet in the tower's miss buffer. -/
def State.missRoom (s : State) (k t : Nat) (rx : Rx) : Bool :=
  let vc6 := hdrVc rx.pkt = 6
  let es := s.missOf k vc6
  let used := es.foldl (fun n e => n + missBytes e.rx) 0 + missBytes rx
  if vc6 then es.length < 64 && used ≤ 262144
  else
    es.length < 960 && used ≤ 3932160 &&
    (hdrVc rx.pkt > 5 || (es.filter (fun e => e.tenant = t && hdrVc e.rx.pkt ≤ 5)).length < s.par d5_8002 t)

/-- R206 to R208: a packet whose context is not cached waits for one fetch of it, or finds no room. -/
def State.missPacket (c : Nat) (x : Conn) (rx : Rx) (s : State) : State :=
  let k := connTower c
  let t := x.ctx.core.tenant.toNat
  if s.backingBarred c t then (if takesPsn (hdrType rx.pkt) then s.answerStale c rx else s)
  else if s.missRoom k t rx then
    let s := ({ s with miss := s.miss ++ [⟨c, t, s.now, rx⟩] } : State).fetchCtx c
    let n := (s.miss.filter (fun e => connTower e.conn = k)).length
    if n > s.roVal d5_0107 k then s.setRo d5_0107 k n else s
  else if takesPsn (hdrType rx.pkt) then s.answerBusy c rx (s.par d5_0012 k)
  else s.bump d5_0103 k

/-- A packet at its connection's home tower. -/
def State.atHome (rx : Rx) (s : State) : State :=
  let c := hdrDst rx.pkt
  match s.conn? c with
  | none => s.withConn c rx s.now
  | some x =>
    if x.ctx.core.mode = .quarantine then s.withConn c rx s.now
    else
      match x.cache with
      | .cached => s.withConn c rx s.now
      | .evicting _ => (s.setConn c { x with cache := .evicting true }).withConn c rx s.now
      | _ => s.missPacket c x rx

/-- R273: a Silus packet from its arrival: time tag, route generation, transit, form, then its connection. [DESIGN CHOICE, log 15; DEDUCED, log 56] -/
def State.receive (rx : Rx) (s : State) : State :=
  let k := portTower rx.port
  let p := rx.pkt
  let s := s.trace k 0 2048 (bytesOf 24 p.hdr)
  let free := fun (s : State) => s.freeIngress rx.port (hdrVc p) rx.cls p.len
  if s.tagExpired p then free (s.bump d6_0103 k)
  else
    match s.routeTables k (hdrGen p) with
    | (s, none) => free s
    | (s, some set) =>
      if !s.isMine p || !s.hasId then s.transit rx set 0
      else
        let s := free s
        if !(takesPsn (hdrType p) || isControl (hdrType p)) || !reservedOk p || !shapeOk p then s.bump d6_0109 k
        else s.atHome rx

/-- A packet of one of the types that a command names; any other packet leaves the state as it is. -/
def State.receiveType (type : Nat) (rx : Rx) (s : State) : State := if hdrType rx.pkt = type then s.receive rx else s

/-- PKT_WRITE_RX (R273). -/
def execPktWriteRx (rx : Rx) (s : State) : Outcome := .next (s.receiveType 0x01 rx)
/-- PKT_WRITE_IMM_RX (R238, R273). -/
def execPktWriteImmRx (rx : Rx) (s : State) : Outcome := .next (s.receiveType 0x02 rx)
/-- PKT_READ_REQ_RX (R273, R281): the READ waits until it may start. -/
def execPktReadReqRx (rx : Rx) (s : State) : Outcome := .next (s.receiveType 0x03 rx)
/-- PKT_READ_RESP_RX (R247, R281). -/
def execPktReadRespRx (rx : Rx) (s : State) : Outcome := .next (s.receiveType 0x04 rx)
/-- PKT_ACCUM_RX (R240, R273). -/
def execPktAccumRx (rx : Rx) (s : State) : Outcome := .next (s.receiveType 0x05 rx)
/-- PKT_FLUSH_REQ_RX (R253, R273). -/
def execPktFlushReqRx (rx : Rx) (s : State) : Outcome := .next (s.receiveType 0x06 rx)
/-- PKT_VOID_RX (R278). -/
def execPktVoidRx (rx : Rx) (s : State) : Outcome := .next (s.receiveType 0x07 rx)
/-- ACK_RX (R284). -/
def execAckRx (rx : Rx) (s : State) : Outcome := .next (s.receiveType 0x10 rx)
/-- NAK_RX (R291). -/
def execNakRx (rx : Rx) (s : State) : Outcome := .next (s.receiveType 0x11 rx)
/-- MSG_CONFIRM_RX (R279). -/
def execMsgConfirmRx (rx : Rx) (s : State) : Outcome := .next (s.receiveType 0x12 rx)
/-- CONFIRM_QUERY_RX (R280). -/
def execConfirmQueryRx (rx : Rx) (s : State) : Outcome := .next (s.receiveType 0x13 rx)

/-- R206: process the packets that waited for a context, in arrival order. -/
def State.runMisses (c : Nat) (s : State) : State :=
  let mine := s.miss.filter (fun e => e.conn = c)
  let s := { s with miss := s.miss.filter (fun e => e.conn ≠ c) }
  mine.foldl (fun s e => s.withConn c e.rx e.arrived) s

/-- R202, R204, R206, R332: the context that a fetch returns: the tier-1 context store and package memory from the
block's own state, host memory from the answer. -/
def State.fetchedCtx (s : State) (c : Nat) (x : Conn) (ans : MemAns) : Option Ctx :=
  match s.backing c x.ctx.core.tenant.toNat with
  | none => match ans with | .data _ => some x.ctx | _ => none
  | some (p, a) => (s.placeRead x.ctx.core.tenant.toNat p a 2048 ans).map (fun b => if p.space = 0 then s.returnedPaths (.ofBytes b) else x.ctx)

/-- CONTEXT_INSTALL (R204, R206, R725): a context fetch completes; waiting packets are processed, or discarded when it
failed. -/
def execContextInstall (conn : Nat) (ans : MemAns) (s : State) : Outcome :=
  match s.conn? conn with
  | none => .next s
  | some x =>
    if x.cache = .fetching then
      let shut := match s.backing conn x.ctx.core.tenant.toNat with
        | some (p, a) => s.placeShut p a 2048
        | none => false
      if shut then
        let s := s.setConn conn { x with cache := .cached }
        .next (({ s with miss := s.miss.filter (fun e => e.conn ≠ conn) } : State).backingFailure conn .poweredDown)
      else
        match s.fetchedCtx conn x ans with
        | some c =>
          let c := { c with core := { c.core with misses := c.core.misses + 1 } }
          .next ((s.setConn conn { x with ctx := c, cache := .cached }).runMisses conn)
        | none =>
          let s := match s.backing conn x.ctx.core.tenant.toNat with
            | some (p, a) => s.readFailed x.ctx.core.tenant.toNat p a 2048
            | none => s
          let s := s.setConn conn { x with cache := .cached }
          .next (({ s with miss := s.miss.filter (fun e => e.conn ≠ conn) } : State).backingFailure conn .busError)
    else .next s

/-! ### READs at the target (R236, R281, R753) -/

/-- READ_START (R236, R276, R281): every earlier message is closed, and the target starts to read. -/
def execReadStart (conn : Nat) (s : State) : Outcome :=
  .next (s.withCtx conn (fun x s =>
    let d := x.ctx.delivery
    match x.rx? d.rxMsn with
    | none => s
    | some m =>
      if m.kind = .read && m.complete && m.refused.isNone && !m.voided && !m.reading then
        let r := (s.realm? (fieldNat 0 24 m.key)).map Realm.place
        let q := x.ctx.core.payload
        let msg : TxMsg := {
          msn := m.msn, kind := .resp, owner := none, length := m.length, chunk := q, packets := packetsOf m.length q
          remote := 0, key := m.key, aux := 0, src := r.getD ⟨1, 0, 0⟩, addr := m.addr.toNat, sentAt := s.now }
        let y := x.modifyRx m.msn (fun m => { m with reading := true })
        (s.setConn conn (y.able s.now { y with tx := y.tx ++ [msg] })).closeReady conn
      else s))

/-- R753: a READ's responses are replaced by VOIDs. -/
def State.failResponses (c : Nat) (msn : W32) (addr : Nat) (s : State) : State :=
  match s.conn? c with
  | none => s
  | some x =>
    if (x.msg? msn true).isSome then
      (s.logFault .tenant .connection 0 (some x.ctx.core.tenant.toNat) c addr Status.busError.code).voidMsg c msn true .busError 0
    else s

/-- TARGET_READ_FAIL (R753). -/
def execTargetReadFail (conn : Nat) (msn : W32) (addr : W64) (s : State) : Outcome :=
  .next (s.failResponses conn msn addr.toNat)

/-! ### Read-backs (R249 to R253) -/

/-- R253: the read-backs of a flush request: one for every path that relaxed messages wrote. [DEDUCED, log 52] -/
def State.flushReads (_c : Nat) (x : Conn) (s : State) : State × Nat :=
  (x.relaxedAt.foldl (fun s e => s.emit (.memRead e.2.1.space e.2.1.port e.2.1.pasid e.2.2 4)) s, x.relaxedAt.length)

/-- R253: the recorded paths are read back from now on. -/
def Conn.flushed (x : Conn) : Conn :=
  { x with relaxedAt := [], ctx := { x.ctx with delivery := { x.ctx.delivery with relaxedPaths := 0 } } }

/-- Emit the read-backs of a range. -/
def State.emitReads (p : Place) (a n : Nat) (s : State) : State :=
  (upTo n).foldl (fun s _ => s.emit (.memRead p.space p.port p.pasid a 4)) s

/-- READBACK_ISSUE (R249, R250, R253, R275): every byte of a message is placed, and its read-backs are issued. `own`: of
this side's READ. -/
def execReadbackIssue (conn : Nat) (msn : W32) (own : Bool) (s : State) : Outcome :=
  match s.conn? conn with
  | none => .next s
  | some x =>
    if own then
      match x.ownReadbacks.find? (fun e => e.1 = msn), x.msg? msn false with
      | some (_, none), some m =>
        let cross := match s.realm? (fieldNat 0 24 m.aux) with
          | some r => r.crossPath m.addr m.length
          | none => false
        let n := readsOf m.src cross
        if s.hostBarred x.ctx.core.tenant.toNat m.src then
          let y := { x with ownReadbacks := x.ownReadbacks.filter (fun e => e.1 ≠ msn) }
          .next (((s.setConn conn ((y.modifyMsg msn false (fun m => { m with closed := true })).sweep)).countSquashed
            x.ctx.core.tenant.toNat 1).messageFail m .squashed 0)
        else
        let s := s.emitReads m.src (lastWord m.addr m.length) n
        .next (s.setConn conn { x with ownReadbacks := x.ownReadbacks.map (fun e => if e.1 = msn then (msn, some n) else e) })
      | _, _ => .next s
    else
      match x.rx? msn with
      | none => .next s
      | some m =>
        let t := x.ctx.core.tenant.toNat
        let barred := if m.kind = .flush then x.relaxedAt.any (fun e => s.hostBarred t e.2.1) else s.hostBarred t m.place
        if m.readbacks.isNone && m.complete && m.refused.isNone && !m.voided && m.placing = 0 && !barred then
          if m.kind = .flush then
            let r := s.flushReads conn x
            .next ((r.1.setConn conn (x.flushed.modifyRx msn (fun m => { m with readbacks := some r.2 }))).closeReady conn)
          else if m.needsRead then
            let n := readsOf m.place m.cross
            .next ((s.emitReads m.place m.lastAddr n).setConn conn (x.modifyRx msn (fun m => { m with readbacks := some n })))
          else .next s
        else .next s

/-- R251, R281: a read-back of this side's READ completes, or fails. -/
def State.ownReadDone (conn : Nat) (msn : W32) (ok : Bool) (s : State) : State :=
  match s.conn? conn with
  | none => s
  | some x =>
    match x.ownReadbacks.find? (fun e => e.1 = msn), x.msg? msn false with
    | some (_, some n), some m =>
      let drop := { x with ownReadbacks := x.ownReadbacks.filter (fun e => e.1 ≠ msn) }
      let close := (drop.modifyMsg msn false (fun m => { m with closed := true })).sweep
      if !ok then (s.setConn conn close).messageFail m .busError 0
      else if n ≤ 1 then (s.setConn conn close).messageDone m
      else s.setConn conn { x with ownReadbacks := x.ownReadbacks.map (fun e => if e.1 = msn then (msn, some (n - 1)) else e) }
    | _, _ => s

/-- R244, R251: a read-back of a message of the peer completes, or fails. -/
def State.peerReadDone (conn : Nat) (msn : W32) (ok : Bool) (s : State) : State :=
  match s.conn? conn with
  | none => s
  | some x =>
    match x.rx? msn with
    | none => s
    | some m =>
      match m.readbacks with
      | some (n + 1) =>
        if ok then (s.setConn conn (x.modifyRx msn (fun m => { m with readbacks := some n }))).closeReady conn
        else s.placementFailed conn m.lastAddr
      | _ => s

/-! ### Keys that arrive (R659) -/

/-- The packets that waited for a key, in arrival order. -/
def State.runWaits (k : KeyName) (s : State) : State :=
  let mine := s.cipher.waiting.filter (fun w => w.name = k)
  let s := { s with cipher := { s.cipher with waiting := s.cipher.waiting.filter (fun w => w.name ≠ k) } }
  mine.foldl (fun s w =>
    let c := hdrDst w.rx.pkt
    if takesPsn (hdrType w.rx.pkt) then s.dataPacket c w.rx w.arrived true else s.controlPacket c w.rx w.arrived) s

/-- KEY_DERIVED (R659): the oldest derivation of a tower ends; what waits for it proceeds. -/
def execKeyDerived (tower : Nat) (s : State) : Outcome :=
  match s.cipher.deriving_.find? (fun k => k.tower = tower) with
  | none => .next s
  | some k => .next ((s.installKey k).runWaits k)

end Sys2Proof.Machine
end

