-- ==== Sys2Proof/Machine/Entry.lean ====
section
/-! DEFINITION. What every opcode's meaning shares: the local keys of an entry (R232, R559, R723), its place in its chain,
local read-backs (R249, R250), and the static rules of an entry's fields (R11, R166). -/
namespace Sys2Proof.Machine

/-! ### Static rules -/

/-- R160: the byte offset of the first field that breaks a rule; the fields stand in ascending order. [DEDUCED, log 50] -/
def firstBad : List (Nat × Bool) → Option Nat
  | [] => none
  | (o, bad) :: r => if bad then some o else firstBad r

/-- Bytes `b` to `b + n - 1` of the entry are not all zero. -/
def entDirty (b n : Nat) (w : W512) : Bool := entAt b 0 (8 * n) w ≠ 0

/-- R137: the reserved bits of FLAGS. -/
def flagsDirty (w : W512) : Bool := fieldNat 14 2 w ≠ 0

/-! ### Local keys -/

/-- R232: a local range that an entry uses: its key, the permission (0 LOCAL_READ, 1 LOCAL_WRITE), address, length. -/
structure Need where
  key  : W32
  perm : Nat
  addr : Nat
  len  : Nat
  deriving DecidableEq, Repr

/-- What the checks of an entry's local ranges give: the realms, in order; the first reason that fails; or the page that
must be translated first. -/
inductive Needs where
  | ok (rs : List Realm)
  | fail (reason : Nat)
  | translate (need : Need) (page : Nat)
  deriving DecidableEq, Repr

/-- R232: check local ranges in order. [DEDUCED, log 51] -/
def State.checkNeeds (s : State) (t : Nat) : List Need → Needs
  | [] => .ok []
  | n :: ns =>
    match s.localCheck t n.key n.perm n.addr n.len with
    | .fail r => .fail r
    | .translate g => .translate n g
    | .ok _ r =>
      match State.checkNeeds s t ns with
      | .ok rs => .ok (r :: rs)
      | x => x

/-- R723: some local range lies in a domain that is closing or closed. -/
def State.needsShut (s : State) (ns : List Need) (rs : List Realm) : Bool :=
  (List.zip ns rs).any (fun e => s.placeShut e.2.place e.1.addr e.1.len)

/-- R232, R558, R587, R723: go on with the realms of an entry's local ranges; else the entry fails or waits for a page. -/
def State.withNeeds (t : Nat) (e : EntryRef) (ns : List Need) (f : List Realm → State → State) (s : State) : State :=
  match s.checkNeeds t ns with
  | .fail r => s.failLocal t e r
  | .translate n g => s.awaitPage t e (s.keyPasid n.key) g (n.perm = 1)
  | .ok rs =>
    if s.needsShut ns rs then s.failEntry e .poweredDown 0
    else if (s.tenant t).mode = .resetting && rs.any (fun r => r.space = 0) then (s.countSquashed t 1).failEntry e .squashed 0
    else f rs s

/-! ### Local read-backs -/

/-- R249, R250, R435: an entry that wrote a local buffer ends once the read-backs of its last range complete. -/
def State.endAfterReads (e : EntryRef) (p : Place) (a : Nat) (cross : Bool) (s : State) : State :=
  let n := readsOf p cross
  if n = 0 then s.endEntry e
  else if s.hostBarred (keyTenant e.ring) p then (s.countSquashed (keyTenant e.ring) 1).failEntry e .squashed 0
  else
    let s := s.emitReads p a n
    { s with localReads := s.localReads ++ [{ ref := e, left := n }] }

/-- R251: a local read-back of an entry completes, or fails; the second part is what all its read-backs allow. -/
def State.localReadDone (e : EntryRef) (ok : Bool) (s : State) : State × Option LocalRead :=
  match s.localReads.find? (fun r => r.ref = e) with
  | none => (s, none)
  | some r =>
    let rest := s.localReads.filter (fun r => r.ref ≠ e)
    if !ok then (({ s with localReads := rest } : State).failEntry e .busError 0, none)
    else if r.left ≤ 1 then ({ s with localReads := rest }, some r)
    else ({ s with localReads := { r with left := r.left - 1 } :: rest }, none)

end Sys2Proof.Machine
end

