-- ==== Sys2Proof/Machine/SpireTable.lean ====
section
/-! DEFINITION. The slot tables of spire traffic (R298 to R305): entries, instances, windows; the rates of ports
(R303, R511). -/
namespace Sys2Proof.Machine

/-! ### Rates of ports -/

/-- R508: the lanes of a port by its configuration: 2^LOG2_WIDTH. -/
def laneWidth (v : Nat) : Nat := 2 ^ natField 3 2 v

/-- R508: ENABLE of a lane assignment. -/
def laneEnable (v : Nat) : Bool := natField 7 1 v = 1

/-- R303: the rate that a port's configuration in a set gives, bytes per tick. -/
def ParamSet.rateOf (ps : ParamSet) (part : Part) (port : Nat) : Nat :=
  let w := laneWidth (ps.int part d13_0001 port)
  if ps.int part d13_0003 port % 4 = 2 then (if w ≥ 4 then 40 else 10 * w) else 20 * w

/-- R511: the rate of a mode with so many active lanes. -/
def modeRate (code active : Nat) : Nat :=
  match code with
  | 0x01 => 160 | 0x02 => 80 | 0x03 => 40 | 0x04 => 20 | 0x05 => 40 | 0x06 => 20 | 0x07 => 10
  | 0x10 => 20 * active
  | _ => 0

/-- R511: the port's present rate. -/
def Port.rate (p : Port) : Nat := modeRate p.modeCode.toNat p.active.toNat

/-! ### Slot entries (R300 to R302) -/

/-- R300: KIND of a slot. -/
inductive SlotKind where
  | send | transit | reduce | move | reserved
  deriving DecidableEq, Repr

/-- R300: an entry of the slot table. -/
structure Slot where
  start  : Nat
  size   : Nat
  target : Nat
  kind   : SlotKind
  expect : Bool
  route  : Nat
  egress : Nat
  hops   : Nat
  /-- A reserved bit of the entry is set. -/
  dirty  : Bool
  deriving DecidableEq, Repr

/-- R300: an entry from its 16 bytes. -/
def slotOf (b : Bytes) : Slot :=
  let t := leAt 8 4 b
  let kind : SlotKind := match natField 24 3 t with | 0 => .send | 1 => .transit | 2 => .reduce | 3 => .move | _ => .reserved
  let target := natField 0 24 t
  let route := leAt 12 2 b
  let egress := leAt 14 1 b
  let hops := leAt 15 1 b
  let dirty : Bool := natField 28 4 t ≠ 0 || egress ≥ 64 || hops ≥ 16 ||
    (match kind with
     | .send => false
     | .transit => target ≠ 0 || route ≥ 64 || hops ≠ 0
     | .reduce => leAt 4 4 b ≠ 0 || route ≠ 0 || egress ≠ 0 || hops ≠ 0
     | .move => leAt 4 4 b ≠ 0 || target ≥ 16 || route ≠ 0 || egress ≠ 0 || hops ≠ 0
     | .reserved => true)
  ⟨leAt 0 4 b, leAt 4 4 b, target, kind, natField 27 1 t = 1, route, egress % 64, hops % 16, dirty⟩

/-- R298: the round length of a set. -/
def ParamSet.round (ps : ParamSet) (part : Part) : Nat := 2 ^ ps.int part d7_0000 0

/-- R300: entry `i` of a tower's table. -/
def ParamSet.slot (ps : ParamSet) (k i : Nat) : Slot := slotOf (ps.blob d7_0011 k (16 * i) 16)

/-- R300: the entries in use of a tower's table. -/
def ParamSet.slots (ps : ParamSet) (part : Part) (k : Nat) : List Slot := (upTo (ps.int part d7_0010 k)).map (ps.slot k)

/-- R300: entry `i` of a tower's active table, when it is in use. -/
def State.slotAt (s : State) (k i : Nat) : Option Slot :=
  if k < s.towers ∧ i < s.par d7_0010 k then some (s.dict.active.slot k i) else none

/-- R303: payload bytes of a full packet, and the bytes a packet adds, of a SEND slot's connection. -/
def State.slotConn (s : State) (c : Nat) : Nat × Nat :=
  match s.conn? c with
  | some x => (x.ctx.core.payload, if x.ctx.core.cipherEn = 1 then 72 else 64)
  | none => (4096, 64)

/-- R303: packets, k, and wire capacity, W, of a SEND slot. -/
def State.slotPackets (s : State) (x : Slot) : Nat := ceilDiv x.size (s.slotConn x.target).1
def State.slotWire (s : State) (x : Slot) : Nat := x.size + (s.slotConn x.target).2 * s.slotPackets x

/-- R303: the duration of a window under a set. -/
def State.slotTicks (s : State) (ps : ParamSet) (x : Slot) : Nat :=
  if x.kind = .transit then x.size else ceilDiv (s.slotWire x) (ps.rateOf s.pkg.part x.egress)

/-- R304, R305: the windows of a port in a set: START and D. -/
def State.windowsIn (s : State) (ps : ParamSet) (port : Nat) : List (Nat × Nat) :=
  ((ps.slots s.pkg.part (portTower port)).filter (fun x => (x.kind = .send || x.kind = .transit) && x.egress = port)).map
    (fun x => (x.start, s.slotTicks ps x))

/-- The windows of a port in the active table. -/
def State.windows (s : State) (port : Nat) : List (Nat × Nat) := s.windowsIn s.dict.active port

/-- R306, R532: the port carries a window of the active table. -/
def State.hasWindow (s : State) (port : Nat) : Bool :=
  (s.dict.active.slots s.pkg.part (portTower port)).any (fun x => (x.kind = .send || x.kind = .transit) && x.egress = port)

/-- The start of the round in which a time lies. -/
def State.roundStart (s : State) (t : Nat) : Nat := t / s.dict.active.round s.pkg.part * s.dict.active.round s.pkg.part

/-- R305: the guarded intervals near the present: from START - G to START + D + G, of this round and the next. -/
def State.guarded (s : State) (port : Nat) : List (Int × Int) :=
  let g : Int := s.par d7_0001 0
  let r := s.dict.active.round s.pkg.part
  (s.windows port).flatMap (fun w =>
    [s.roundStart s.now, s.roundStart s.now + r].map (fun (b : Nat) => ((b : Int) + w.1 - g, (b : Int) + w.1 + w.2 + g)))

/-- R305: a packet that occupies a port for `n` ticks from now keeps clear of the windows. -/
def State.clearOfWindows (s : State) (port n : Nat) : Bool :=
  (s.guarded port).all (fun w => w.2 ≤ s.now || (s.now : Int) + n ≤ w.1)

/-- R318: a VC7 packet that occupies a port for `n` ticks from now lies in no window. -/
def State.offWindow (s : State) (port n : Nat) : Bool :=
  (s.guarded port).all (fun w => (s.now : Int) < w.1 || w.2 ≤ (s.now : Int) + n - 1)

/-- R299: the due time of an entry's instance that a fetch lead, a deadline or a slot concerns: the latest instance whose
time, `lead` ticks ahead, is not after the present. -/
def State.instanceDue (s : State) (start lead : Nat) : Option Nat :=
  let r := s.dict.active.round s.pkg.part
  if start ≤ s.now + lead then some (s.now + lead - (s.now + lead - start) % r) else none

/-- R311, R322: schedules run in LOCKED and HOLDOVER. -/
def State.scheduled (s : State) : Bool := s.time.mode = .locked || s.time.mode = .holdover

end Sys2Proof.Machine
end

