-- ==== Sys2Proof/Machine/Cupola.lean ====
section
/-! DEFINITION. The Cupola cores (R398 to R438): bays, additions, collective steps, quantize. -/
namespace Sys2Proof.Machine

/-! ### Bays (R417 to R420) -/

/-- A tower's bays in use, most recently used first. -/
def State.baysOf (s : State) (k : Nat) : List Bay := tgetD s.cupola.bays k []
def State.setBays (k : Nat) (b : List Bay) (s : State) : State :=
  { s with cupola := { s.cupola with bays := tput [] k b s.cupola.bays } }

/-- R417: the core of a block. -/
def coreOf (block : Nat) : Nat := block / 16384 % 6

/-- R417: a block stands in its bay. -/
def State.bayReady (s : State) (k block : Nat) : Bool := (s.baysOf k).any (fun b => b.block = block && b.phase = .resident)

/-- R418: a block's bay is used, and perhaps changed. -/
def State.touchBay (k block : Nat) (changed : Bool) (s : State) : State :=
  let bs := s.baysOf k
  match bs.find? (fun b => b.block = block) with
  | some b => s.setBays k ({ b with modified := b.modified || changed } :: bs.filter (fun b => b.block ≠ block))
  | none => s

/-- R418: the load of a block begins. -/
def State.loadBay (k block : Nat) (s : State) : State :=
  let b : Bay := { block := block, phase := .loading, gen := (s.extent (extentOf block)).bindGen }
  (((s.setBays k (b :: (s.baysOf k).filter (fun b => b.block ≠ block))).bump d10_0010 k)).emit (.memRead 1 0 0 block 16384)

/-- R418: the least recently used resident bay of a core. -/
def State.bayVictim (s : State) (k core : Nat) : Option Bay :=
  ((s.baysOf k).filter (fun b => coreOf b.block = core && b.phase = .resident)).getLast?

/-- R418: a block that is not resident is loaded; a full core evicts its least recently used bay first. -/
def State.needBay (k block : Nat) (s : State) : State :=
  let bs := s.baysOf k
  if bs.any (fun b => b.block = block) then s
  else if (bs.filter (fun b => coreOf b.block = coreOf block)).length < 96 then s.loadBay k block
  else
    match s.bayVictim k (coreOf block) with
    | none => s
    | some v =>
      let s := s.setBays k (bs.filter (fun b => b.block ≠ v.block))
      if v.modified then
        let s := s.setBays k ({ block := block, phase := .waiting v.block } :: s.baysOf k)
        ({ s with cupola := { s.cupola with writing := s.cupola.writing ++ [(k, v.block)] } } : State).bump d10_0011 k
      else s.loadBay k block

/-- The blocks that accumulators at `a`, `len` bytes long, lie in. -/
def State.needBlocks (k : Nat) (bs : List Nat) (s : State) : State := bs.foldl (fun s b => s.needBay k b) s

/-- R420: undefined contents: a free byte in each place. [DESIGN CHOICE, log 8] -/
def freeBytes (first n : Nat) : Bytes := (upTo n).map (fun i => Config.freeByte (first + i))

/-- R243, R420: a range of package memory holds undefined values. [DESIGN CHOICE, log 76] -/
def State.scramble (a n : Nat) (s : State) : State :=
  { s with
    memory := { s.memory with mem := memStore a (freeBytes s.free n) s.memory.mem }
    free := s.free + n }

/-! ### Lane-cycles (R398, R399) -/

/-- R398: lane-cycles of an addition of `n` elements of a format. [DESIGN CHOICE, log 76] -/
def laneCost (fmt n : Nat) : Nat := if fmt = fmtAcc then 4 * n else if isMx fmt then n + n / 32 else n

/-- D10.0014, D10.0200: count lane-cycles. -/
def State.useLanes (k t n : Nat) (s : State) : State := (s.count d10_0014 k n).count d10_0200 t n

/-! ### Additions (R403 to R409, R425) -/

/-- The images of `n` accumulators. -/
def State.accs (s : State) (a n : Nat) : Option (List Acc) :=
  (s.memRead a (64 * n)).map (fun b => (chunks 64 n b).map (fun c => Acc.ofWord (w512OfBytes c)))

/-- Write accumulators. -/
def State.putAccs (a : Nat) (l : List Acc) (s : State) : Option State := s.memWrite a (l.flatMap (fun x => bytesOf 64 x.word))

/-- R406, R407, R409: inputs of a format and an operation into accumulators. -/
def addInputs (fmt op : Nat) (as : List Acc) (payload : Bytes) : List Acc :=
  if fmt = fmtAcc then List.zipWith Acc.addImage as ((chunks 64 as.length payload).map (fun c => Acc.ofWord (w512OfBytes c)))
  else List.zipWith (Acc.take op) as (decodeAll fmt payload)

/-- R408: products of a gate weight and the elements into accumulators. -/
def addProducts (fmt : Nat) (gate : W32) (as : List Acc) (payload : Bytes) : List Acc :=
  let w := decodeElem fp32 gate.toNat 0 false
  List.zipWith (fun a v => a.add (gateProduct w v)) as (decodeAll fmt payload)

/-- D10.0013, D10.0016: additions that changed WRAP, and accumulators made MIXED. -/
def State.countAdds (k : Nat) (old new : List Acc) (s : State) : State :=
  let wraps := (List.zip old new).foldl (fun n e => if e.1.s.toNat / 2 ^ 320 ≠ e.2.s.toNat / 2 ^ 320 then n + 1 else n) 0
  let mixed := (List.zip old new).foldl (fun n e => if !e.1.mixed && e.2.mixed then n + 1 else n) 0
  (s.count d10_0013 k wraps).count d10_0016 k mixed

/-- R418, R425: change the accumulators of a range; none when the memory does not complete it. -/
def State.applyAccs (k a n : Nat) (f : List Acc → List Acc) (s : State) : Option State :=
  match s.accs a n with
  | none => none
  | some as =>
    let bs := f as
    match s.putAccs a bs with
    | none => none
    | some s => some (((blocksOf a (64 * n)).foldl (fun s b => s.touchBay k b true) s).countAdds k as bs)

/-! ### The input buffer (R240 to R243, R400) -/

/-- R400: a packet leaves the input buffer; the next packets take its place and free their ingress buffers. -/
def State.dropHold (h : AccHold) (s : State) : State :=
  let s := { s with cupola := { s.cupola with input := s.cupola.input.erase h } }
  let s := match h.ingress with | some (n, v, c, len) => s.freeIngress n v c len | none => s
  s.cupola.input.foldl (fun s g =>
    match g.ingress with
    | some (n, v, c, len) =>
      let used := s.cupola.input.foldl (fun a (x : AccHold) => if x.tower = g.tower && x.ingress.isNone then a + x.len else a) 0
      if g.tower = h.tower && used + g.len ≤ 2097152 then
        ({ s with cupola := { s.cupola with
            input := s.cupola.input.map (fun x => if x = g then { x with ingress := none } else x) } } : State).freeIngress n v c len
      else s
    | none => s) s

/-- R436: FP64 packets use no bays. -/
def AccHold.blocks (h : AccHold) : List Nat := if h.fmt = fmtFp64 then [] else blocksOf h.addr h.span

/-- R494: the binding of an extent of a held packet's accumulators, or of a step's, has changed since its check. [DEDUCED, log 78] -/
def State.staleHold (s : State) (h : AccHold) : Bool := h.gens ≠ s.gensOf h.addr h.span

/-- R243, R494: the accumulators of an ACCUM packet could not be written; a packet that is stale by then has changed
nothing. -/
def State.accumFailed (c addr len : Nat) (stale : Bool) (s : State) : State :=
  match s.conn? c with
  | none => s
  | some x =>
    ((if stale then s else s.scramble addr len).logFault .tenant .cupola (cellLocation addr) (some x.ctx.core.tenant.toNat) c addr Status.busError.code).connError
      c .busError

/-- R240 to R242: apply a held ACCUM packet and set its bit in one step; a duplicate is only acknowledged again. -/
def State.applyAccum (h : AccHold) (c : Nat) (psn msn : W32) (s : State) : State :=
  match s.conn? c with
  | none => s
  | some x =>
    match x.rx? msn with
    | none => s
    | some m =>
      if x.ctx.core.incarnation ≠ h.inc || m.placing = 0 then s
      else
        let done := fun (x : Conn) => x.modifyRx msn (fun m => { m with placing := m.placing - 1 })
        if x.received psn then
          let k := x.ctx.core
          ((s.setConn c (done { x with ctx := { x.ctx with core := { k with duplicates := k.duplicates + 1 } } })).sendAck c psn
            h.tag h.rxTag (h.echo ||| 128)).closeReady c
        else
          let applied : Option State :=
            if h.fmt = fmtFp64 then s.memWrite h.addr h.payload
            else (s.applyAccs h.tower h.addr h.count (fun as => addInputs h.fmt h.op as h.payload)).map
              (·.useLanes h.tower h.tenant (laneCost h.fmt h.count))
          match applied with
          | none => s.accumFailed c h.addr h.span false
          | some s =>
            let y := done (x.markReceived psn)
            let y := y.modifyRx msn (fun m => { m with bytes := m.bytes + h.payload.length })
            let k := y.ctx.core
            let y := { y with ctx := { y.ctx with core := { k with pktsRx := k.pktsRx + 1 } } }
            ((s.setConn c (y.touch s.now)).ackAccepted c x psn h.tag h.rxTag h.echo).closeReady c

/-- R243, R420, R475, R494: a held packet cannot be applied: the memory of its accumulators has failed, or it is stale. -/
def State.loseHold (h : AccHold) (s : State) : State :=
  let stale := s.staleHold h
  let s := s.dropHold h
  match h.source with
  | .accum c _ _ => s.accumFailed c h.addr h.span stale
  | .resp c _ msn _ =>
    (match s.conn? c with
     | some x => (s.setConn c (x.modifyMsg msn false (fun m => { m with failed := true }))).readEnd c msn
     | none => s)
  | .row e =>
    { s with experts := { s.experts with combines := s.experts.combines.map (fun (k : Combine) =>
        if k.ref = e then { k with rows := k.rows - 1, failed := k.failed.or (some (Status.busError.code, 0)) } else k) } }

/-- R241: an ACCUM hold of a tower. -/
def AccHold.isAccum (k : Nat) (h : AccHold) : Bool :=
  h.tower = k && (match h.source with | .accum _ _ _ => true | _ => false)

/-- ACCUM_APPLY (R240 to R243, R418, R494): the oldest held ACCUM packet of a tower whose blocks stand in their bays is
applied; when there is none, the blocks of the oldest are loaded. A stale packet is refused. [DESIGN CHOICE, log 76] -/
def execAccumApply (tower : Nat) (s : State) : Outcome :=
  let mine := s.cupola.input.filter (AccHold.isAccum tower)
  match mine.find? s.staleHold with
  | some h => .next ((s.bump d12_0104 tower).loseHold h)
  | none =>
  match mine.find? (fun h => h.blocks.all (s.bayReady tower)) with
  | some h =>
    match h.source with
    | .accum c psn msn => .next ((s.applyAccum h c psn msn).dropHold h)
    | _ => .next s
  | none =>
    match mine with
    | [] => .next s
    | h :: _ => .next (s.needBlocks tower h.blocks)

/-! ### Collective steps (R429 to R436) -/

/-- R429: fields of a COLLECTIVE_STEP entry. -/
def stHandle (w : W512) : Nat := fieldNat 32 12 w
def stAction (w : W512) : Nat := entAt 32 0 8 w
def stFlags (w : W512) : Nat := entAt 33 0 8 w
def stSegFirst (w : W512) : Nat := entAt 34 0 16 w
def stSegNum (w : W512) : Nat := entAt 36 0 16 w
def stContrib (w : W512) : Nat := entAt 38 0 16 w
def stFormat (w : W512) : Nat := entAt 40 0 8 w
def stIter (w : W512) : Nat := entAt 44 0 32 w
def stTimed (w : W512) : Bool := natField 1 1 (stFlags w) = 1
def stTrigger (w : W512) : W32 := field 480 32 w

/-- R429: the step's format: its own, or its handle's. -/
def stepFormat (d : Bytes) (w : W512) : Nat :=
  if stFormat w ≠ 0 then stFormat w else if stAction w = 2 then hdInFormat d else if stAction w = 3 then hdOutFormat d else 0

/-- R427, R430: the format is permitted for the handle's OP. -/
def formatFits (d : Bytes) (action f : Nat) : Bool :=
  if action = 1 then true
  else if hdOp d = 3 then (if action = 2 then f = fmtFp64 else f = fmtFp64 || f = 1)
  else if action = 2 then fmtKnown f && f ≠ fmtFp64 && !(hdOp d ≠ 0 && f = fmtAcc)
  else fmtKnown f && f ≠ fmtFp64

/-- R319: a REDUCE slot of the active table names the handle. -/
def State.boundHandle (s : State) (h : Nat) : Bool :=
  (upTo s.towers).any (fun k => (s.dict.active.slots s.pkg.part k).any (fun x => x.kind = .reduce && x.target = h))

/-- R430, R321: the malformed fields of a COLLECTIVE_STEP entry. What depends on the handle is judged when it is defined. [DEDUCED, log 77] -/
def State.stepBad (s : State) (t : Nat) (w : W512) : Option Nat :=
  let a := stAction w
  let d := s.handleDesc? t (stHandle w)
  let onHandle := fun (f : Bytes → Bool) => match d with | some d => f d | none => false
  let lenBad := onHandle (fun d => a ≠ 1 && entLength w ≠ bytesFor (stepFormat d w) (stSegNum w * hdSegElems d))
  firstBad [
    (1, flagsDirty w || entInline w || entSpec w),
    (4, fieldNat 44 20 w ≠ 0),
    (8, a = 1 && entLocal w ≠ 0),
    (16, entRemote w ≠ 0),
    (24, (a = 1 && entLength w ≠ 0) || lenBad),
    (28, a = 1 && entKey w ≠ 0),
    (32, !(1 ≤ a && a ≤ 3)),
    (33, stFlags w ≥ 4 || (stFlags w % 2 = 1 && a ≠ 3) || (stTimed w && s.boundHandle (stHandle w))),
    (34, onHandle (fun d => stSegFirst w + stSegNum w > hdSegCount d)),
    (36, stSegNum w = 0),
    (38, if a = 3 then stContrib w = 0 || onHandle (fun d => hdOp d = 3 && stContrib w > hdSlots d)
         else if a = 2 then onHandle (fun d => if hdOp d = 3 then stContrib w ≥ hdSlots d else stContrib w ≠ 0)
         else stContrib w ≠ 0),
    (40, (stFormat w ≠ 0 && (!fmtKnown (stFormat w) || a = 1)) || onHandle (fun d => !formatFits d a (stepFormat d w))),
    (41, entDirty 41 3 w),
    (48, entDirty 48 12 w),
    (60, !stTimed w && stTrigger w ≠ 0)]

/-- Elements of a step, and its first element. -/
def AccWork.total (w : AccWork) : Nat := w.segNum * hdSegElems w.desc
def AccWork.first (w : AccWork) : Nat := w.segFirst * hdSegElems w.desc
/-- R426: the address of element `i` of a step. -/
def AccWork.addrOf (w : AccWork) (i : Nat) : Nat := hdBase w.desc + 64 * (w.first + i)

/-- R432: ARRIVED of every segment of the step is at least CONTRIB × SEG_ELEMS. -/
def State.arrivedEnough (s : State) (w : AccWork) : Bool :=
  (upTo w.segNum).all (fun g => w.contrib * hdSegElems w.desc ≤ tgetD s.cupola.arrived (256 * w.handle + w.segFirst + g) 0)

/-- R428: change ARRIVED of the segments of a step. -/
def State.eachArrived (w : AccWork) (f : Nat → Nat) (s : State) : State :=
  (upTo w.segNum).foldl (fun s g =>
    let k := 256 * w.handle + w.segFirst + g
    { s with cupola := { s.cupola with arrived := tput 0 k (f (tgetD s.cupola.arrived k 0) % 18446744073709551616) s.cupola.arrived } }) s

/-- Replace a running step; none removes it. -/
def State.putWork (e : EntryRef) (w : Option AccWork) (s : State) : State :=
  { s with cupola := { s.cupola with
      works := match w with
        | some w => s.cupola.works.map (fun v => if v.ref = e then w else v)
        | none => s.cupola.works.filter (fun v => v.ref ≠ e) } }

/-- R420: a step fails. -/
def State.failWork (w : AccWork) (status : Status) (s : State) : State := (s.putWork w.ref none).failEntry w.ref status 0

/-- R415, R431, R435: a step has done all its elements: ARRIVED follows, and the entry ends after its read-backs. -/
def State.finishWork (w : AccWork) (s : State) : State :=
  let s := s.putWork w.ref none
  let e := hdSegElems w.desc
  match w.action with
  | 1 => ((s.eachArrived w (fun _ => 0)).addBytes w.ref (if hdOp w.desc = 3 then 0 else 64 * w.total)).endEntry w.ref
  | 2 =>
    let s := (s.eachArrived w (· + e)).addBytes w.ref (bytesFor w.fmt w.total)
    s.endAfterReads w.ref w.place (lastWord w.addr (bytesFor w.fmt w.total)) w.cross
  | _ =>
    let s := if w.clearAfter then s.eachArrived w (· - w.contrib * e) else s
    let s := if w.ranges = 0 then s
      else (s.noteFail w.ref .formatRange (min w.ranges 0xFFFFFFFF)).count d10_0012 w.tower w.ranges
    let n := bytesFor w.fmt w.total
    (s.addBytes w.ref n).endAfterReads w.ref w.place (lastWord w.addr n) w.cross

/-- R398: lane-cycles of one block of 256 accumulators of a step. -/
def AccWork.blockCost (w : AccWork) : Nat :=
  match w.action with
  | 1 => 64
  | 2 => laneCost w.fmt 256
  | _ => if w.fmt = fmtAcc then 64 else 256

/-- R431, R433: one block of 256 accumulators of a step, at element `pos`; none when memory does not complete it. -/
def State.workBlock (w : AccWork) (s : State) : Option (State × AccWork) :=
  let a := w.addrOf w.pos
  let op := hdOp w.desc
  let clear := List.replicate 256 (Acc.cleared op)
  let next := { w with pos := w.pos + 256 }
  let pay := s.useLanes w.tower w.tenant w.blockCost
  match w.action with
  | 1 =>
    match pay.putAccs a clear with
    | some s => some (s.touchBay w.tower a true, next)
    | none => none
  | 2 =>
    let input := slice (bytesFor w.fmt w.pos) (bytesFor w.fmt 256) w.data
    (pay.applyAccs w.tower a 256 (fun as => addInputs w.fmt op as input)).map (fun s => (s, next))
  | _ =>
    match pay.accs a 256 with
    | none => none
    | some as =>
      let r := readOut w.fmt (hdRound w.desc) (hdRange w.desc) (hdSeed w.desc) w.iter (hdElemBase w.desc + w.first + w.pos) as
      match pay.placeWrite w.tenant w.place (w.addr + bytesFor w.fmt w.pos) r.1 with
      | none => none
      | some s =>
        let next := { next with ranges := w.ranges + r.2 }
        if w.clearAfter then
          match s.putAccs a clear with
          | some s => some (s.touchBay w.tower a true, next)
          | none => none
        else some (s.touchBay w.tower a false, next)

/-- R494: the accumulators that a step reaches, and whether the binding of one of their extents has changed since its check. -/
def AccWork.reach (w : AccWork) : Nat × Nat := if hdOp w.desc = 3 then (hdBase w.desc, hdRegion w.desc) else (w.addrOf 0, 64 * w.total)
def State.staleWork (s : State) (w : AccWork) : Bool := w.gens ≠ s.gensOf w.reach.1 w.reach.2

/-- Run a step block by block while its blocks stand in their bays; a block that does not is loaded. -/
def State.runWork : Nat → AccWork → State → State
  | 0, w, s => s.finishWork w
  | n + 1, w, s =>
    if w.pos ≥ w.total then s.finishWork w
    else
      let a := w.addrOf w.pos
      if s.staleWork w then (s.bump d12_0104 w.tower).failWork w .busError
      else if w.action = 3 && s.hostBarred w.tenant w.place then (s.countSquashed w.tenant 1).failWork w .squashed
      else if s.bayReady w.tower a then
        match s.workBlock w with
        | some (s, w) => State.runWork n w (s.putWork w.ref (some w))
        | none => s.failWork w .busError
      else s.needBay w.tower a

/-- R436: the address of element `i` of slot `r` of a handle of OP 3. -/
def slotAddr (d : Bytes) (r i : Nat) : Nat := hdBase d + 8 * (r * hdSegCount d * hdSegElems d + i)

/-- R436: a step on a handle of OP 3, all at once. -/
def State.runOrdered (w : AccWork) (s : State) : State :=
  let n := w.total
  match w.action with
  | 1 => s.finishWork w
  | 2 =>
    match s.memWrite (slotAddr w.desc w.contrib w.first) w.data with
    | some s => s.finishWork w
    | none => s.failWork w .busError
  | _ =>
    let slots := (upTo w.contrib).map (fun r => s.memRead (slotAddr w.desc r w.first) (8 * n))
    if slots.any (·.isNone) then s.failWork w .busError
    else
      let cols := slots.map (fun o => (chunks 8 n (o.getD [])).map (fun c => decode64 (leNat c)))
      let sums := cols.foldl (fun acc col => List.zipWith add64 acc col) (List.replicate n ⟨.finite, 0⟩)
      let outs := sums.map (fun x => read64 x w.fmt (hdRange w.desc))
      let bytes := outs.flatMap (fun x => leBytes (if w.fmt = 1 then 4 else 8) x.1)
      let ranges := outs.foldl (fun a x => if x.2 then a + 1 else a) 0
      let s := s.useLanes w.tower w.tenant (4 * n * w.contrib)
      match s.placeWrite w.tenant w.place w.addr bytes with
      | some s => s.finishWork { w with ranges := ranges }
      | none => s.failWork w (if s.hostBarred w.tenant w.place then .squashed else .busError)

/-- R431, R432: a step that may run runs. -/
def State.startWork (w : AccWork) (s : State) : State :=
  let w := { w with phase := .running }
  let s := s.putWork w.ref (some w)
  if hdOp w.desc = 3 then (if s.staleWork w then (s.bump d12_0104 w.tower).failWork w .busError else s.runOrdered w)
  else State.runWork (w.total / 256 + 1) w s

/-- Run every step of a tower that runs. -/
def State.resumeWorks (k : Nat) (s : State) : State :=
  (s.cupola.works.filter (fun w => w.tower = k && w.phase = .running)).foldl (fun s w =>
    if s.cupola.works.contains w then State.runWork (w.total / 256 + 1) w s else s) s

/-- R232, R430: the local ranges of a step: its buffer, then its part of the region. [DEDUCED, log 71; DEDUCED, log 77] -/
def stepNeeds (d : Bytes) (w : W512) : List Need :=
  let n := stSegNum w * hdSegElems d
  let region := fun (perm : Nat) =>
    if hdOp d = 3 then (⟨hdKey d, perm, hdBase d, hdRegion d⟩ : Need)
    else ⟨hdKey d, perm, hdBase d + 64 * stSegFirst w * hdSegElems d, 64 * n⟩
  match stAction w with
  | 1 => [region 1]
  | 2 => [⟨entKey w, 0, entLocal w, entLength w⟩, region 1]
  | _ => [⟨entKey w, 1, entLocal w, entLength w⟩, region 0] ++ (if stFlags w % 2 = 1 then [region 1] else [])

/-- R430, R434: the step of an entry, with its handle's descriptor and its local buffer's realm. -/
def mkWork (e : EntryRef) (t : Nat) (d : Bytes) (w : W512) (r : Option Realm) : AccWork :=
  { ref := e, tenant := t, tower := extentTower (extentOf (hdBase d)), handle := stHandle w, desc := d, action := stAction w
    clearAfter := stFlags w % 2 = 1, segFirst := stSegFirst w, segNum := stSegNum w, contrib := stContrib w
    fmt := stepFormat d w, iter := stIter w
    place := match r with | some r => r.place | none => ⟨1, 0, 0⟩
    addr := entLocal w
    cross := match r with | some r => stAction w ≠ 1 && r.crossPath (entLocal w) (entLength w) | none => false }

/-- R399, R430, R723: judge a step as it starts: its work, or the state in which its entry has failed or waits. -/
def State.judgeStep (e : EntryRef) (t : Nat) (w : W512) (s : State) : Except State AccWork :=
  match s.handleDesc? t (stHandle w) with
  | none => .error (s.failEntry e .accessDenied 0)
  | some d =>
    if s.par d10_8000 t = 0 then .error (s.failEntry e .accessDenied 0)
    else
      let ns := stepNeeds d w
      match s.checkNeeds t ns with
      | .fail r => .error (s.failLocal t e r)
      | .translate n g => .error (s.awaitPage t e (s.keyPasid n.key) g (n.perm = 1))
      | .ok rs =>
        let k := extentTower (extentOf (hdBase d))
        if s.needsShut ns rs || s.domShut (domCupola k) || s.domShut (domTower k) then .error (s.failEntry e .poweredDown 0)
        else
          let k := mkWork e t d w rs.head?
          .ok { k with gens := s.gensOf k.reach.1 k.reach.2 }

/-- R431: ADD_LOCAL's input as the read of the local buffer returns it; a step of another action needs none. -/
def State.stepInput (s : State) (w : AccWork) (ans : MemAns) : Option AccWork :=
  if w.action = 2 then (s.placeRead w.tenant w.place w.addr (bytesFor w.fmt w.total) ans).map (fun b => { w with data := b })
  else some w

/-- R431, R432: a judged step starts: a READOUT whose data have not arrived waits; ADD_LOCAL reads its buffer. -/
def State.beginStep (w : AccWork) (ans : MemAns) (s : State) : State :=
  match s.stepInput w ans with
  | none => (s.readFailed w.tenant w.place w.addr (bytesFor w.fmt w.total)).failWork w .busError
  | some w =>
    if w.action = 3 && !s.arrivedEnough w then s.putWork w.ref (some { w with phase := .arrived })
    else s.startWork w

/-- A COLLECTIVE_STEP entry of an action: one that a REDUCE slot starts waits for its instance (R319). -/
def State.collective (t ring action : Nat) (ans : MemAns) (s : State) : State :=
  match s.readyEntry t ring 0x20 with
  | none => s
  | some (e, w) =>
    if stAction w ≠ action then s
    else if s.entryExpired e then s.failEntry e .scheduleMiss 0
    else
      match s.judgeStep e t w with
      | .error s => s
      | .ok work =>
        let bound := s.boundHandle work.handle
        let s := s.runEntry e
        let work := { work with phase := if bound then .slot else .running }
        let s := { s with cupola := { s.cupola with works := s.cupola.works ++ [work] } }
        if bound then s else s.beginStep work ans

/-- COLLECTIVE_CLEAR (R430, R431). -/
def execCollectiveClear (t ring : Nat) (s : State) : Outcome := .next (s.collective t ring 1 (.data []))

/-- COLLECTIVE_ADD_LOCAL (R430, R431). -/
def execCollectiveAddLocal (t ring : Nat) (ans : MemAns) (s : State) : Outcome := .next (s.collective t ring 2 ans)

/-- COLLECTIVE_READOUT (R430 to R432). -/
def execCollectiveReadout (t ring : Nat) (s : State) : Outcome := .next (s.collective t ring 3 (.data []))

/-- READOUT_READY (R432): the oldest READOUT of a tower whose data have arrived starts. -/
def execReadoutReady (tower : Nat) (s : State) : Outcome :=
  match s.cupola.works.find? (fun w => w.tower = tower && w.phase = .arrived && s.arrivedEnough w) with
  | some w => .next (s.startWork w)
  | none => .next s

/-! ### Ends of loads and write-backs (R418, R420, R494) -/

/-- R420: what acts on a block whose load or write-back failed fails. `stale`: only what carries an earlier BIND_GEN (R494). -/
def State.blockLost (k block : Nat) (stale : Bool) (s : State) : State :=
  let touches := fun (w : AccWork) => w.tower = k && w.phase = .running && w.pos < w.total && w.addrOf w.pos = block
    && (!stale || s.staleWork w)
  let holds := s.cupola.input.filter (fun h => h.tower = k && h.blocks.contains block && (!stale || s.staleHold h))
  let s := (s.cupola.works.filter touches).foldl (fun s w => s.failWork w .busError) s
  holds.foldl (fun s h => s.loseHold h) s

/-- R420: a load or a write-back of a block failed: its contents are undefined, the block is logged, and what acts on it
fails. -/
def State.blockFailed (k block : Nat) (s : State) : State :=
  let s := s.scramble block 16384
  let e := s.extentEntry (extentOf block)
  let s := s.logFault (if bindOf e = 1 ∨ bindOf e = 3 then .tenant else .package) .cupola (cellLocation block)
    (if bindOf e = 1 ∨ bindOf e = 3 then some (bindTenant e) else none) 0 block Status.busError.code
  s.blockLost k block false

/-- R494: a load of an earlier BIND_GEN is refused at the memory: it is counted, and what waited for it under that BIND_GEN
fails; the block stays as it is. [DEDUCED, log 78] -/
def State.staleLoad (k block : Nat) (s : State) : State := ((s.bump d12_0104 k).blockLost k block true).resumeWorks k

/-- BAY_LOAD_DONE (R418, R420, R494): a bay's load completes, or fails; a load issued under an earlier BIND_GEN is
refused. -/
def execBayLoadDone (tower block : Nat) (ok : Bool) (s : State) : Outcome :=
  match (s.baysOf tower).find? (fun b => b.block = block && b.phase = .loading) with
  | none => .next s
  | some b =>
    let rest := (s.baysOf tower).filter (fun b => b.block ≠ block)
    if b.gen ≠ (s.extent (extentOf block)).bindGen then .next ((s.setBays tower rest).staleLoad tower block)
    else if ok then .next ((s.setBays tower ({ b with phase := .resident } :: rest)).resumeWorks tower)
    else .next ((s.setBays tower rest).blockFailed tower block)

/-- BAY_WRITEBACK_DONE (R418, R420): the write-back of an evicted block completes, or fails, and the load that waited for
its bay begins. -/
def execBayWritebackDone (tower block : Nat) (ok : Bool) (s : State) : Outcome :=
  if s.cupola.writing.contains (tower, block) then
    let s := { s with cupola := { s.cupola with writing := s.cupola.writing.erase (tower, block) } }
    let s := if ok then s else s.blockFailed tower block
    match (s.baysOf tower).find? (fun b => b.phase = .waiting block) with
    | some b => .next (s.loadBay tower b.block)
    | none => .next s
  else .next s

/-! ### Quantize (R437, R438) -/

/-- R437: fields of a QUANTIZE entry. -/
def qzOutKey (w : W512) : W32 := field 256 32 w
def qzErrKey (w : W512) : W32 := field 288 32 w
def qzErrAddr (w : W512) : Nat := entAt 40 0 64 w
def qzSeed (w : W512) : W64 := field 384 64 w
def qzIn (w : W512) : Nat := entAt 56 0 8 w
def qzOut (w : W512) : Nat := entAt 57 0 8 w
def qzRound (w : W512) : Nat := entAt 58 0 8 w
def qzErrEn (w : W512) : Bool := entAt 59 0 1 w = 1
def qzErrZero (w : W512) : Bool := entAt 59 1 1 w = 1
def qzKBase (w : W512) : Nat := entAt 60 0 32 w
/-- Elements of a QUANTIZE entry. -/
def qzCount (w : W512) : Nat := elemsIn (qzIn w) (entLength w)

/-- R437: the malformed fields of a QUANTIZE entry. [DEDUCED, log 50] -/
def quantizeBad (w : W512) : Option Nat :=
  firstBad [
    (1, flagsDirty w || entInline w || entSpec w),
    (4, entTarget w ≠ 0),
    (24, 1 ≤ qzIn w && qzIn w ≤ 3 && (!wholeElems (qzIn w) (entLength w) || (isMx (qzOut w) && qzCount w % 32 ≠ 0))),
    (36, !qzErrEn w && qzErrKey w ≠ 0),
    (40, !qzErrEn w && qzErrAddr w ≠ 0),
    (56, !(1 ≤ qzIn w && qzIn w ≤ 3)),
    (57, !(1 ≤ qzOut w && qzOut w ≤ 0x0C)),
    (58, qzRound w > 2),
    (59, entAt 59 2 6 w ≠ 0)]

/-- R438: the accumulators t of the elements. -/
def quantizeSums (w : W512) (input errors : Bytes) : List Acc :=
  let base := (decodeAll (qzIn w) input).map (fun i => (Acc.cleared 0).add i)
  if qzErrEn w && !qzErrZero w then List.zipWith Acc.add base (decodeAll 1 errors) else base

/-- R438: the new error of an element: t less the value written, in FP32; 0 unless both are finite. -/
def quantizeError (t : Acc) (y : Input) : Nat :=
  if t.cls = .finite && !t.mixed && y.cls = .finite then
    ({ t with s := t.s - BitVec.ofInt 328 y.val } : Acc).read fp32 0 0 0 |>.1
  else 0

/-- R232, R437: the local ranges of a QUANTIZE entry. -/
def quantizeNeeds (w : W512) : List Need :=
  [⟨entKey w, 0, entLocal w, entLength w⟩, ⟨qzOutKey w, 1, entRemote w, bytesFor (qzOut w) (qzCount w)⟩]
    ++ (if qzErrEn w then [⟨qzErrKey w, 0, qzErrAddr w, 4 * qzCount w⟩, ⟨qzErrKey w, 1, qzErrAddr w, 4 * qzCount w⟩] else [])

/-- R438: the error buffer lies wholly in tier-1 memory under a key of SPACE 1. -/
def tierOne (p : Place) (a len : Nat) : Bool := p.space = 1 && (extentsOf a len).all (· < 1024)

/-- R437, R723: the tower on whose cores QUANTIZE runs: the home of its error buffer, else of its ring. -/
def State.quantizeTower (s : State) (e : EntryRef) (w : W512) : Nat :=
  if qzErrEn w then extentTower (extentOf (qzErrAddr w))
  else match s.ring? e.ring with | some r => r.image.homeTower.toNat | none => 0

/-- R438: quantize the input that the local read returned. -/
def State.quantize (e : EntryRef) (t : Nat) (w : W512) (rs : List Realm) (input : Bytes) (s : State) : State :=
  let n := qzCount w
  let k := s.quantizeTower e w
  let out := (rs.map Realm.place).getD 1 ⟨1, 0, 0⟩
  match (if qzErrEn w then s.memRead (qzErrAddr w) (4 * n) else some []) with
  | none => (s.readFailed t ⟨1, 0, 0⟩ (qzErrAddr w) (4 * n)).failEntry e .busError 0
  | some errs =>
    let ts := quantizeSums w input errs
    let r := readOut (qzOut w) (qzRound w) 0 (qzSeed w) 0 (qzKBase w) ts
    let es := (List.zipWith quantizeError ts (decodeAll (qzOut w) r.1)).flatMap (leBytes 4)
    let s := s.useLanes k t ((if qzErrEn w then 3 else 1) * n)
    match s.placeWrite t out (entRemote w) r.1 with
    | none => s.failEntry e .busError 0
    | some s =>
      match (if qzErrEn w then s.memWrite (qzErrAddr w) es else some s) with
      | none => s.failEntry e .busError 0
      | some s =>
        let s := if r.2 = 0 then s else (s.noteFail e .formatRange (min r.2 0xFFFFFFFF)).count d10_0012 k r.2
        let cross := match rs[1]? with | some r => r.crossPath (entRemote w) (bytesFor (qzOut w) n) | none => false
        (s.addBytes e (entLength w)).endAfterReads e out (lastWord (entRemote w) (bytesFor (qzOut w) n)) cross

/-- QUANTIZE (R399, R437, R438): `ans` is what the read of the input returns. -/
def execQuantize (t ring : Nat) (ans : MemAns) (s : State) : Outcome :=
  match s.readyEntry t ring 0x21 with
  | none => .next s
  | some (e, w) =>
    if s.par d10_8000 t = 0 then .next (s.failEntry e .accessDenied 0)
    else
      .next (s.withNeeds t e (quantizeNeeds w) (fun rs s =>
        let k := s.quantizeTower e w
        if qzErrEn w && !tierOne ((rs.map Realm.place).getD 2 ⟨0, 0, 0⟩) (qzErrAddr w) (4 * qzCount w) then s.failEntry e .accessDenied 0
        else if s.domShut (domCupola k) || s.domShut (domTower k) then s.failEntry e .poweredDown 0
        else
          let s := s.runEntry e
          let p := (rs.map Realm.place).getD 0 ⟨1, 0, 0⟩
          match s.placeRead t p (entLocal w) (entLength w) ans with
          | none => (s.readFailed t p (entLocal w) (entLength w)).failEntry e .busError 0
          | some b => s.quantize e t w rs b))

end Sys2Proof.Machine
end

