-- ==== Sys2Proof/Machine/Egress.lean ====
section
/-! DEFINITION. What leaves the network ports: the commit of packets (R339 to R343), their payload (R752), the schedulers
of a port (R347 to R357), the encapsulations (R256, R257), and the Lantern (R359 to R361). -/
namespace Sys2Proof.Machine

/-! ### Data packets -/

/-- R261, R262: ADDR of packet `i` of a message. VOID and FLUSH_REQ carry zero. -/
def TxMsg.wireAddr (m : TxMsg) (i : Nat) : Nat :=
  match m.kind with
  | .write | .writeImm => m.remote.toNat + i * m.chunk
  | .accum => m.remote.toNat + i * m.chunk / m.elemIn * m.elemOut
  | .read => m.remote.toNat
  | .resp => i * m.chunk
  | .flush => 0

/-- R260 to R262, R278, R348, R368: the packet of one PSN, unsealed. -/
def State.buildPacket (s : State) (x : Conn) (m : TxMsg) (p : TxPkt) (path : Nat) (payload : Bytes) : Packet :=
  let k := x.ctx.core
  let h := s.handle k.handle.toNat
  let resp := m.kind = .resp
  let flags := k.vc.toNat + (if k.vc.toNat ≤ 4 then 8 else 0) + (if p.index = 0 then 32 else 0)
    + (if p.index + 1 = m.packets then 64 else 0) + (if k.cipherEn = 1 then 128 else 0)
  let bare := p.void || resp || m.kind = .flush
  let type := if p.void then 7 else m.kind.ptype
  let aux := if p.void then 0 else match m.kind with | .writeImm | .accum => m.aux.toNat | _ => 0
  ⟨mkHdr type flags (s.par d9_0001 0) path h.peerAdapter.toNat (s.par d0_0001 0) (wireConn h k.peerConn).toNat
      k.peerInc.toNat p.psn 0 k.conn.toNat k.incarnation.toNat,
    pack 448 [(32, p.msn.toNat), (23, p.index), (9, 0), (64, if p.void then 0 else m.wireAddr p.index),
      (32, if bare then 0 else m.key.toNat), (32, m.length), (32, aux), (1, if m.relaxed then 1 else 0),
      (1, if p.void && resp then 1 else 0)],
    payload, [], false⟩

/-- R458: the parts of rows of `len` bytes that lie in the bytes `lo` to `hi - 1` of their concatenation. -/
def rowParts (len lo hi : Nat) (rows : List Nat) : List (Nat × Nat) :=
  (rows.zipIdx).filterMap (fun (a, r) =>
    let b := max lo (r * len)
    let e := min hi ((r + 1) * len)
    if b < e then some (a + (b - r * len), e - b) else none)

/-- R458, R752: where the payload of packet `i` is read: addresses and lengths. -/
def TxMsg.payloadAt (m : TxMsg) (i : Nat) : List (Nat × Nat) :=
  if m.rows.isEmpty then [(m.addr + i * m.chunk, m.bytesAt i)]
  else rowParts m.rowLen (i * m.chunk) (i * m.chunk + m.bytesAt i) m.rows

/-- Issue reads of several ranges of a place. -/
def State.emitParts (p : Place) (l : List (Nat × Nat)) (s : State) : State :=
  l.foldl (fun s x => s.emit (.memRead p.space p.port p.pasid x.1 x.2)) s

/-- What the reads of several ranges return, one after another; the answer holds all of them. -/
def State.readParts (s : State) (t : Nat) (p : Place) (ans : MemAns) : List (Nat × Nat) → Nat → Option Bytes
  | [], _ => some []
  | (a, n) :: l, off =>
    let mine := match ans with | .data b => MemAns.data (slice off n b) | x => x
    match s.placeRead t p a n mine, s.readParts t p ans l (off + n) with
    | some b, some r => some (b ++ r)
    | _, _ => none

/-- The payload bytes a packet carries. -/
def TxMsg.carried (m : TxMsg) (p : TxPkt) : Nat := if p.void || !m.kind.hasPayload then 0 else m.bytesAt p.index

/-- R221: the payload of an INLINE message stands in the entry. -/
def TxMsg.inlineAt (m : TxMsg) (i : Nat) : Option Bytes :=
  m.inline.map (fun b => slice (i * m.chunk) (m.bytesAt i) b)

/-! ### What a connection sends next (R192, R270, R278, R286, R292, R339) -/

/-- What is committed: a copy of a PSN in flight, or the next packet of a message. -/
inductive Work where
  | copy (p : TxPkt)
  | fresh (m : TxMsg)
  deriving DecidableEq, Repr

/-- R192: the state of the connection lets it send: what a FREEZE that has not completed still allows is known by `m`. -/
def Conn.sends (x : Conn) (m : Option TxMsg) : Bool :=
  match x.ctx.core.mode with
  | .ready | .draining => true
  | .frozen => x.freezeAt.isSome &&
      (match m with | some m => m.kind = .resp || (m.msn - x.freezeMsn).toInt < 0 | none => true)
  | _ => false

/-- A message has a packet that has not taken a PSN. -/
def TxMsg.hasNext (m : TxMsg) : Bool := m.voidEnd || (m.sent < m.packets && (m.voided.isNone || m.kind = .resp))

/-- R286, R292: the copy that goes first: the one that a CONTEXT_BUSY answer named, else the oldest owed. -/
def Conn.nextCopy (now : Nat) (x : Conn) : Option TxPkt :=
  let due := x.flight.filter (fun p => p.owed && !p.acked && !p.queued && p.notBefore ≤ now)
  match due.find? (fun p => p.psn = x.busyPsn) with
  | some p => some p
  | none => due.head?

/-- R270, R276: the message whose packet goes next. -/
def Conn.nextFresh (x : Conn) : Option TxMsg :=
  if serialDiff x.ctx.core.txNextPsn x.ctx.core.txUna < x.ctx.core.txWindow.toNat then
    x.tx.find? (fun m => m.hasNext && x.sends (some m))
  else none

/-- What the connection sends next. -/
def Conn.nextWork (now : Nat) (x : Conn) : Option Work :=
  if x.hold.isSome || !x.sends none then none
  else
    match x.nextCopy now with
    | some p => some (.copy p)
    | none => x.nextFresh.map .fresh

/-- R262, R276, R278: the next packet of a message as it takes its PSN. -/
def Conn.takePsn (x : Conn) (m : TxMsg) : Conn × TxMsg × TxPkt :=
  let psn := x.ctx.core.txNextPsn
  let m' := { m with sent := m.sent + 1, packets := if m.voidEnd then m.sent + 1 else m.packets, voidEnd := false }
  let p : TxPkt := {
    psn := psn, msn := m.msn, kind := m.kind, index := m.sent, void := m.voided.isSome
    len := if m.voided.isSome || !m.kind.hasPayload then 0 else m.bytesAt m.sent }
  let x := x.modifyMsg m.msn (m.kind = .resp) (fun _ => m')
  ({ x with
      flight := x.flight ++ [p]
      ctx := { x.ctx with core := { x.ctx.core with txNextPsn := psn + 1 } } }, m', p)

/-! ### Commit (R338 to R343) -/

/-- R340: when a connection became able to commit, with its bucket refilled, if it can commit at all. [DEDUCED, log 62; DEDUCED, log 101] -/
def State.commitTime (s : State) (x : Conn) : Option Nat :=
  if x.ctx.core.cls = 0 && s.hasId && x.cache = .cached then
    match x.nextWork s.now, s.sprayOf (s.handle x.ctx.core.handle.toNat) with
    | some w, some h =>
      let y := s.pruneEnds (s.refill x.ctx)
      if (s.usablePaths h y x.ctx.core.vc.toNat).1.isEmpty then none
      else
        match w with
        | .copy _ => some x.ableSince
        | .fresh _ =>
          if y.rate.tokens.toInt < 0 then none
          else
            let lack := (-x.ctx.rate.tokens.toInt).toNat
            let rate := max 1 (s.cappedRate x.ctx.core x.ctx.rate)
            some (max x.ableSince (if lack = 0 then 0 else x.ctx.rate.lastRefill.toNat + ceilDiv lack rate))
    | _, _ => none
  else none

/-- R340: of two connections that can commit, the one that became able first, and of equal times the lower number. -/
def earlierAble (a b : Nat × Nat × Conn) : Nat × Nat × Conn := if b.1 < a.1 then b else a

/-- R340: the connection of a tower that commits next. [DEDUCED, log 62] -/
def State.nextCommit (s : State) (k : Nat) : Option (Nat × Conn) :=
  let able := s.conns.filterMap (fun e => if connTower e.1 = k then (s.commitTime e.2).map (fun t => (t, e.1, e.2)) else none)
  match able with
  | [] => none
  | e :: es => some (es.foldl earlierAble e).2

/-- R349: put a packet into a port's queue, and start the read of its payload unless it has none or stands in the entry. -/
def State.queueData (c : Nat) (x : Conn) (m : TxMsg) (p : TxPkt) (path port : Nat) (s : State) : State :=
  let k := x.ctx.core
  let n := m.carried p
  let inl := m.inlineAt p.index
  let payload := if n = 0 then [] else inl.getD []
  let wait := n ≠ 0 && inl.isNone
  let s := if wait then s.emitParts m.src (m.payloadAt p.index) else s
  s.enqueue port k.vc.toNat {
    pkt := s.buildPacket x m p path payload, ready := !wait, tenant := k.tenant.toNat, owner := some (c, p.psn)
    encap := (s.handle k.handle.toNat).encap.toNat, outer := [], cls := 0
    len := wireLen (if p.void then 7 else m.kind.ptype) n (k.cipherEn = 1), entered := s.now, arrived := s.now, ingress := none }

/-- R341: count the ports that the bound alone left out. -/
def State.countFull (ports : List Nat) (s : State) : State := ports.eraseDups.foldl (fun s n => s.bump d8_0101 n) s

/-- R339: charge a packet that is committed to a port. -/
def State.chargeTokens (port encap len : Nat) (x : Ctx) (s : State) : Ctx :=
  { x with rate := { x.rate with
      tokens := BitVec.ofInt 32 (x.rate.tokens.toInt - (256 * s.charged port encap len : Nat)) } }

/-- R229, R232, R587: the payload of a packet may no longer be read: its tenant is being reset and would read host memory,
its local key fails, or the realm that its READ named no longer grants the read; the status, the DETAIL. [DEDUCED, log 51] -/
def State.readRefused (s : State) (x : Conn) (m : TxMsg) (i : Nat) : Option (Status × Nat) :=
  let t := x.ctx.core.tenant.toNat
  if m.inline.isSome || !m.kind.hasPayload || m.bytesAt i = 0 then none
  else if m.src.space = 0 && (s.tenant t).mode = .resetting then some (.squashed, 0)
  else if m.kind = .resp then
    match s.realmCheck t x.ctx.core.tenantInc m.key 0 (m.addr + i * m.chunk) (m.bytesAt i) true true none with
    | .error r => some (remoteStatus r, r)
    | .ok _ => none
  else
    match m.lkey with
    | none => none
    | some k =>
      match (m.payloadAt i).findSome? (fun p => match s.localCheck t k 0 p.1 p.2 with | .fail r => some r | _ => none) with
      | some r => some (localStatus r, r + 256)
      | none => none

/-- R229, R235, R753: a message whose payload may no longer be read is voided; of a READ, its responses are. -/
def State.stopRead (c : Nat) (x : Conn) (m : TxMsg) (i : Nat) (r : Status × Nat) (s : State) : State :=
  if m.kind = .resp then s.failResponses c m.msn (m.addr + i * m.chunk)
  else
    let t := x.ctx.core.tenant.toNat
    let s := if r.2 ≥ 256 then s.countLocalRefused t else s
    (if r.1 = .squashed then s.countSquashed t 1 else s).voidMsg c m.msn false r.1 r.2

/-- The message and position of the packet that a connection sends next. -/
def Work.msg? (x : Conn) : Work → Option (TxMsg × Nat)
  | .copy p => if p.void then none else (x.msg? p.msn (p.kind = .resp)).map (fun m => (m, p.index))
  | .fresh m => if m.voided.isSome then none else some (m, m.sent)

/-- R286, R339, R341, R343: commit the next packet of a connection. -/
def State.commit (c : Nat) (x : Conn) (s : State) : State :=
  match x.nextWork s.now, s.sprayOf (s.handle x.ctx.core.handle.toNat) with
  | some w, some h =>
    let x := { x with ctx := s.pruneEnds (s.refill x.ctx) }
    let u := s.usablePaths h x.ctx x.ctx.core.vc.toNat
    let s := s.countFull u.2
    let encap := (s.handle x.ctx.core.handle.toNat).encap.toNat
    let enc : Bool := x.ctx.core.cipherEn == (1 : BitVec 1)
    match w with
    | .copy p =>
      match nextPath p.path u.1, x.msg? p.msn (p.kind = .resp) with
      | some path, some m =>
        let port := (s.dict.active.portEntry (h.list + path)).port
        let y := x.modifyPkt p.psn (fun q => { q with owed := false, queued := true, path := path })
        let k := { y.ctx.core with retransmits := y.ctx.core.retransmits + 1 }
        let n := wireLen (if p.void then 7 else m.kind.ptype) (m.carried p) enc
        let y := { y with ctx := s.chargeTokens port encap n { y.ctx with core := k } }
        (s.setConn c y).queueData c y m p path port
      | _, _ => s
    | .fresh m =>
      let sel := selectPath x.ctx u.1
      match sel.2 with
      | none => s
      | some path =>
        let port := (s.dict.active.portEntry (h.list + path)).port
        let r := ({ x with ctx := sel.1 } : Conn).takePsn m
        let y := r.1.modifyPkt r.2.2.psn (fun q => { q with queued := true, path := path })
        let n := wireLen (if r.2.2.void then 7 else m.kind.ptype) (r.2.1.carried r.2.2) enc
        let y := { y with ctx := s.chargeTokens port encap n y.ctx }
        (s.setConn c y).queueData c y r.2.1 r.2.2 path port
  | _, _ => s

/-- PACKET_COMMIT (R286, R338 to R343): the dome connection of a tower that became able to first commits its next packet. [DESIGN CHOICE, log 63] -/
def execPacketCommit (tower : Nat) (s : State) : Outcome :=
  match s.nextCommit tower with
  | none => .next s
  | some (c, x) =>
    match (x.nextWork s.now).bind (Work.msg? x) with
    | some (m, i) =>
      (match s.readRefused x m i with
       | some r => .next (s.stopRead c x m i r)
       | none => .next (s.commit c x))
    | none => .next (s.commit c x)

/-! ### Payload (R157, R752, R753) -/

/-- A queued packet of a message position that waits for its payload. [DEDUCED, log 67] -/
def EgressItem.waitsFor (c : Nat) (msn : W32) (resp : Bool) (index : Nat) (i : EgressItem) : Bool :=
  !i.ready && i.dataOf c && extMsn i.pkt = msn && ((hdrType i.pkt = 4) = resp) && extIndex i.pkt = index

/-- The payload of a queued packet has been read; none: the packet leaves as its VOID. -/
def EgressItem.fill (payload : Option Bytes) (i : EgressItem) : EgressItem :=
  match payload with
  | some b => { i with ready := true, pkt := { i.pkt with payload := b } }
  | none => { i with ready := true }

/-- Change the queued packets of a message position. -/
def State.fillQueued (c : Nat) (msn : W32) (resp : Bool) (index : Nat) (payload : Option Bytes) (s : State) : State :=
  let f := fun (q : List EgressItem) => q.map (fun i => if i.waitsFor c msn resp index then i.fill payload else i)
  { s with ports := tmap (fun _ p => { p with dome := tmap (fun _ q => f q) p.dome, vc7 := f p.vc7 }) s.ports }

/-- R308: the payload of a position enters the loads and leftovers that wait for it. -/
def State.fillStaged (c : Nat) (msn : W32) (resp : Bool) (index : Nat) (b : Bytes) (s : State) : State :=
  let f := fun (q : LoadPkt) =>
    if q.msn = msn && q.index = index && q.resp = resp && q.staged.isNone then { q with staged := some b } else q
  { s with spire := { s.spire with
      instances := s.spire.instances.map (fun (i : SlotInstance) => if i.conn = c then { i with load := i.load.map f } else i)
      leftover := tmodify c (·.map f) s.spire.leftover } }

/-- PAYLOAD_READ_RETURN (R157, R752, R753): the read of the payload of a message's packet returns; a failed read ends the
chain with BUS_ERROR, and VOIDs take the place of the message's packets; at a target, of the READ's responses. [DEDUCED, log 51] -/
def execPayloadReadReturn (conn : Nat) (msn : W32) (resp : Bool) (index : Nat) (ans : MemAns) (s : State) : Outcome :=
  match s.conn? conn with
  | none => .next s
  | some x =>
    match x.msg? msn resp with
    | none => .next (s.fillQueued conn msn resp index none)
    | some m =>
      let at_ := m.payloadAt index
      match s.readParts x.ctx.core.tenant.toNat m.src ans at_ 0 with
      | some b => .next ((s.fillQueued conn msn resp index (some b)).fillStaged conn msn resp index b)
      | none =>
        let s := at_.foldl (fun s e => s.readFailed x.ctx.core.tenant.toNat m.src e.1 e.2) s
        let s := if resp then s.failResponses conn msn ((at_.map Prod.fst).headD 0) else s.voidMsg conn msn false .busError 0
        .next ((s.fillQueued conn msn resp index none).fillStaged conn msn resp index [])

/-! ### Encapsulations (R45, R256, R257) -/

/-- R256: the IPv6 ECN field of a Silus packet. -/
def ecnField (p : Packet) : Nat := if hdrCe p && hdrEct p then 3 else if hdrEct p then 2 else 0

/-- The bytes of a Silus packet. -/
def Packet.bytes (p : Packet) : Bytes := bytesOf 24 p.hdr ++ bytesOf (extLen (hdrType p)) p.ext ++ p.payload ++ p.trailer

/-- R256, R257: the IPv6 and UDP headers of a packet. [DESIGN CHOICE, log 60] -/
def State.udpHeader (s : State) (src dst : Nat) (dscp : Nat) (p : Packet) : Bytes :=
  let conn := hdrDst p
  let n := p.len + 8
  let v6 := beBytes 4 (6 * 268435456 + (dscp * 4 + ecnField p) * 1048576 + hdrPath p * 16384 + conn % 16384)
    ++ beBytes 2 n ++ [17, BitVec.ofNat 8 (s.par d6_0003 0)] ++ beBytes 16 src ++ beBytes 16 dst
  let ports := beBytes 2 (0xC000 + hdrPath p * 256 + conn % 256) ++ beBytes 2 (s.par d6_0002 0)
  let sum := if s.par d6_0004 0 = 1 then
      inetChecksum (beBytes 16 src ++ beBytes 16 dst ++ beBytes 4 n ++ beBytes 4 17 ++ ports ++ beBytes 2 n ++ [0, 0] ++ p.bytes)
    else 0
  v6 ++ ports ++ beBytes 2 n ++ beBytes 2 sum

/-- R256: the bytes outside a Silus packet that leaves a port: by its connection's handle; a NAK without a context goes
back where the packet that it answers came from; a transit packet keeps what it came with. [DESIGN CHOICE, log 60] -/
def State.outerOf (s : State) (port vc : Nat) (i : EgressItem) (p : Packet) : Bytes :=
  let mac := s.portMac port
  match i.encap with
  | 0 => []
  | e =>
    match i.owner.bind (fun o => s.conn? o.1) with
    | some x =>
      let h := s.handle x.ctx.core.handle.toNat
      if e = 1 then ethHeader h.peerMac.toNat mac (s.pcp vc) (s.par d6_0001 0)
      else ethHeader h.peerMac.toNat mac (s.pcp vc) 0x86DD
        ++ s.udpHeader (Config.ipv6Source port).toNat h.peerIpv6.toNat h.dscp.toNat p
    | none =>
      if i.outer.isEmpty then ethHeader (Config.nextHopMac port).toNat mac (s.pcp vc) (s.par d6_0001 0)
      else if i.ingress.isSome then
        if e = 2 && hdrCe p then putBytes 19 [BitVec.ofNat 8 (leAt 19 1 i.outer % 16 + (leAt 19 1 i.outer / 64 * 4 + 3) * 16)] i.outer
        else i.outer
      else if e = 1 then ethHeader (beNat (slice 6 6 i.outer)) mac (s.pcp vc) (s.par d6_0001 0)
      else ethHeader (beNat (slice 6 6 i.outer)) mac (s.pcp vc) 0x86DD
        ++ s.udpHeader (beNat (slice 42 16 i.outer)) (beNat (slice 26 16 i.outer)) 0 p

/-! ### Leaving a port (R267, R268, R318, R347, R353, R377, R385) -/

/-- R347: mark a packet that waited too long. -/
def State.markEcn (s : State) (port vc : Nat) (i : EgressItem) : Packet × Bool :=
  let limit := s.par d8_0036 port
  if vc ≤ 4 && hdrEct i.pkt && limit ≠ 0 && s.now - i.entered > limit then
    ({ i.pkt with hdr := putField 12 1 1 i.pkt.hdr }, true)
  else (i.pkt, false)

/-- R268: a stomped packet: the last 8 bytes inverted, a bad end. -/
def Packet.stomp (p : Packet) : Packet :=
  let n := p.trailer.length - 8
  { p with trailer := p.trailer.take n ++ (p.trailer.drop n).map (fun b => ~~~b), badEnd := true }

/-- A packet of this adapter, not a transit packet. -/
def EgressItem.own (i : EgressItem) : Bool := i.ingress.isNone

/-- R259: the packet with the TIME_TAG of its leaving. [DEDUCED, log 17] -/
def Packet.stamp (now : Nat) (p : Packet) : Packet := { p with hdr := putField 128 32 now p.hdr }

/-- R266, R658: the key under which a packet of this adapter is sealed. -/
def State.sealKey (s : State) (i : EgressItem) : Option KeyName :=
  match i.owner with
  | some (c, _) =>
    if i.own && hdrEnc i.pkt then
      (s.conn? c).map (fun x => s.inlineKey (connTower c) x.ctx.core.rootSlot.toNat x.ctx.core.keyEpoch (i.pkt.stamp s.now))
    else none
  | none => none

/-- The bytes of a frame or link packet that a port sends, with what surrounds it on the line. -/
def State.lineBytes (s : State) (port : Nat) (i : EgressItem) : Nat :=
  if (s.port port).modeCode = 0x10 then i.len + 8 else i.len + outerLen i.encap + 20

/-- The ticks that a packet occupies a port. -/
def State.ticksOf (s : State) (port : Nat) (i : EgressItem) : Nat := ceilDiv (s.lineBytes port i) (max 1 (s.port port).rate)

/-- R278: the packet in flight that an item carries, as it stands: a voided one leaves as its VOID. -/
def State.refresh (s : State) (i : EgressItem) : EgressItem :=
  match i.owner with
  | none => i
  | some (c, psn) =>
    if i.own && takesPsn (hdrType i.pkt) then
      match s.conn? c with
      | none => i
      | some x =>
        match x.pkt? psn with
        | none => i
        | some p =>
          match x.msg? p.msn (p.kind = .resp) with
          | none => i
          | some m =>
            if p.void && hdrType i.pkt ≠ 7 then
              { i with
                pkt := { s.buildPacket x m p (hdrPath i.pkt) [] with trailer := [] }, ready := true
                len := wireLen 7 0 (x.ctx.core.cipherEn = 1) }
            else i
    else i

/-- R259, R265, R266, R677: the packet as it leaves: stamped and sealed when it is this adapter's. [DEDUCED, log 17] -/
def State.finishPacket (s : State) (i : EgressItem) (p : Packet) : Packet :=
  if !i.own then (if i.bad then p.stomp else p)
  else
    let p := p.stamp s.now
    if hdrType p ≥ 0x20 then
      (if p.trailer.isEmpty then { p with trailer := datagramTag s.fabricKey p.hdr p.payload } else p)
    else p.sealWith ((s.sealKey i).map s.keyValue)

/-- R289: the connection learns that a copy of a PSN has left. -/
def Conn.departed (x : Conn) (psn : W32) (now : Nat) : Conn :=
  let x := x.modifyPkt psn (fun p => { p with tag := some (BitVec.ofNat 32 now), sentAt := now, queued := false, laterAck := none })
  { x with
    rtoFrom := if psn = x.ctx.core.txUna then some now else x.rtoFrom
    ctx := { x.ctx with core := { x.ctx.core with pktsTx := x.ctx.core.pktsTx + 1 } } }

/-- R353: a tenant's shaper bucket on a tower, refilled. -/
def State.shaper (s : State) (t k : Nat) : Bucket :=
  let burst := s.par d8_8003 t
  (tgetD s.shapers (8 * t + k) ⟨(256 * burst : Nat), s.now⟩).refill (s.par d8_8002 t) burst s.now

/-- R353: the shaper does not hold the tenant's queues back. -/
def State.shaperOpen (s : State) (t k : Nat) : Bool := t = 2048 || s.par d8_8002 t = 0 || 0 ≤ (s.shaper t k).level

/-- R353: charge a tenant's shaper. -/
def State.chargeShaper (t k n : Nat) (s : State) : State :=
  if t = 2048 ∨ s.par d8_8002 t = 0 then s
  else
    let b := s.shaper t k
    { s with shapers := tset (8 * t + k) { b with level := b.level - (256 * n : Nat) } s.shapers }

/-- A packet's first byte leaves a port. [DEDUCED, log 17] -/
def State.launch (port vc : Nat) (i : EgressItem) (s : State) : State :=
  let k := portTower port
  let i := s.refresh i
  let r := s.markEcn port vc i
  let p := s.finishPacket i r.1
  let n := s.ticksOf port i
  let outer := s.outerOf port vc i p
  let s := if r.2 then s.bump d8_0100 port else s
  let s := if vc = 7 ∧ !i.own ∧ s.scheduled ∧ s.offWindow port n then s.bump d7_0104 k else s
  let q := s.port port
  let key := vcKey vc i.cls
  let s := s.setPort port { q with
    busyUntil := max q.busyUntil s.now + n
    consumed := if q.modeCode = 0x10 then tput 0 key ((tgetD q.consumed key 0 + creditsOf i.len) % 65536) q.consumed else q.consumed
    shed := { q.shed with periodBytes := q.shed.periodBytes + i.len } }
  let s := if i.own then s
    else
      let s := (s.bump d9_0100 port).count d9_0101 port i.len
      let s := if i.waited then s.bump d9_0112 port else s
      let s := if i.bad then s.bump d9_0111 port else s
      match i.ingress with | some (n, v, c) => s.freeIngress n v c i.len | none => s
  let s := if i.own && hdrType p = 7 then s.bump d6_0108 k else s
  let s := match i.owner with
    | some (c, psn) =>
      if i.own && takesPsn (hdrType p) then
        (match s.conn? c with | some x => s.setConn c (x.departed psn s.now) | none => s)
      else s
    | none => s
  let s := s.trace k 1 i.tenant (bytesOf 24 p.hdr)
  s.emit (.packet port i.encap i.cls outer p)

/-! ### The schedulers of a port (R349 to R352, R356) -/

/-- R377: the credits for a packet are there; a port in Ethernet standard mode has none (R382). -/
def State.hasCredits (s : State) (port vc : Nat) (i : EgressItem) : Bool :=
  let p := s.port port
  p.modeCode ≠ 0x10 || creditsOf i.len ≤ p.available vc i.cls

/-- R267: a copy of the packet's PSN with the present TIME_TAG has already left. -/
def State.tagUsed (s : State) (i : EgressItem) : Bool :=
  match i.owner with
  | some (c, psn) => i.own && takesPsn (hdrType i.pkt) &&
      (match (s.conn? c).bind (·.pkt? psn) with | some p => p.tag = some s.tag | none => false)
  | none => false

/-- R384: the packet has outlived its residence. -/
def State.residenceOver (s : State) (i : EgressItem) : Bool :=
  !i.own && i.arrived + s.par d9_0004 0 < s.now

/-- R305, R356, R377: nothing holds a packet of a VC at a port but the port itself. [DEDUCED, log 66] -/
def State.mayStart (s : State) (port vc : Nat) (i : EgressItem) : Bool :=
  let i := s.refresh i
  i.ready && s.hasCredits port vc i && !s.vcPaused port vc && !s.tagUsed i && !s.residenceOver i &&
  (vc = 7 || s.clearOfWindows port (s.ticksOf port i))

/-- R350: the later of two tags in serial arithmetic. -/
def laterTag (a b : W64) : W64 := if (a - b).toInt > 0 then a else b

/-- R350: a queue's head receives its tag: its weight, the head's charged length, the level's virtual time, the burst
credit, and when the head arrived. -/
def WfqQueue.tagHead (q : WfqQueue) (weight len credit entered : Nat) (v : W64) : WfqQueue :=
  let w := max 1 weight
  let back := v - BitVec.ofNat 64 (credit * 65536 / w)
  let start := match q.emptySince with
    | some t => if entered - t ≤ 1250000000 then laterTag q.finish back else back
    | none => q.finish
  { finish := start + BitVec.ofNat 64 (max 1 (len * 65536 / w)), emptySince := none, tagged := true }

/-- R383, D8.8001: the weight of a tenant's queue, or of the transit queue. [DESIGN CHOICE, log 99] -/
def State.tenantWeight (s : State) (port t : Nat) : Nat := if t = 2048 then s.par d9_0023 port else s.par d8_8001 t

/-- The queues of a VC that hold packets: key and packets. -/
def Port.queuesOf (p : Port) (vc : Nat) : List (Nat × List EgressItem) := p.dome.filter (fun e => e.1 / 4096 = vc && !e.2.isEmpty)

/-- R350: tag the heads of a VC's tenant queues that have no tag. [DEDUCED, log 67] -/
def State.tagTenants (port vc : Nat) (s : State) : State :=
  let p := s.port port
  let tags := (p.queuesOf vc).foldl (fun tags e =>
    let q := tgetD tags e.1 {}
    match q.tagged, e.2 with
    | false, i :: _ =>
      tput {} e.1 (q.tagHead (s.tenantWeight port (e.1 % 4096)) (s.charged port i.encap i.len) (s.par d8_0032 port) i.entered
        (tgetD p.virt vc 0)) tags
    | _, _ => tags) p.tenantTags
  s.setPort port { p with tenantTags := tags }

/-- R351, R352: a tenant's queue of a VC may be served. -/
def State.eligible (s : State) (port vc : Nat) (e : Nat × List EgressItem) : Bool :=
  match e.2 with
  | i :: _ => s.shaperOpen (e.1 % 4096) (portTower port) && s.mayStart port vc i
  | [] => false

/-- R351: of two queues, the one with the smaller tag; the first of equals. -/
def Port.smaller (p : Port) (a b : Nat × List EgressItem) : Nat × List EgressItem :=
  if ((tgetD p.tenantTags b.1 {}).finish - (tgetD p.tenantTags a.1 {}).finish).toInt < 0 then b else a

/-- R351: the queue of a list with the smallest tag. -/
def Port.smallest (p : Port) : List (Nat × List EgressItem) → Option (Nat × List EgressItem)
  | [] => none
  | e :: es => some (es.foldl p.smaller e)

/-- R351: the tenant queue of a VC that is served next. -/
def State.tenantChoice (s : State) (port vc : Nat) : Option (Nat × List EgressItem) :=
  let p := s.port port
  p.smallest ((p.queuesOf vc).filter (s.eligible port vc))

/-- R350: tag a class whose head has no tag: its head is the packet its tenant level would serve. [DEDUCED, log 67] -/
def State.tagClass (port vc : Nat) (s : State) : State :=
  let s := s.tagTenants port vc
  let p := s.port port
  let q := tgetD p.classTags vc {}
  match (s.tenantChoice port vc).or (p.smallest (p.queuesOf vc)) with
  | some (_, i :: _) =>
    if q.tagged then s
    else s.setPort port { p with
      classTags := tput {} vc (q.tagHead (natField (8 * vc) 8 (s.par d8_0030 port)) (s.charged port i.encap i.len)
        (s.par d8_0032 port) i.entered (tgetD p.virt 5 0)) p.classTags }
  | _ => s

/-- Tag every head of a port's dome queues. [DEDUCED, log 67] -/
def State.tagHeads (port : Nat) (s : State) : State := (upTo 5).foldl (fun s vc => s.tagClass port vc) s

/-- R351: the class that is served next: its VC and its tenant queue. -/
def State.classChoice (s : State) (port : Nat) : Option (Nat × Nat × List EgressItem) :=
  let p := s.port port
  let able := (upTo 5).filterMap (fun vc => (s.tenantChoice port vc).map (fun e => (vc, e)))
  match able with
  | [] => none
  | e :: es => some (es.foldl (fun a b =>
      if ((tgetD p.classTags b.1 {}).finish - (tgetD p.classTags a.1 {}).finish).toInt < 0 then b else a) e)

/-- R350: a queue after its head has left. -/
def WfqQueue.served (q : WfqQueue) (empty : Bool) (now : Nat) : WfqQueue :=
  { q with tagged := false, emptySince := if empty then some now else none }

/-- R350, R351: serve the head of a tenant's queue of a class: virtual times and tags follow. [DESIGN CHOICE, log 99] -/
def State.serveDome (port vc key : Nat) (q : List EgressItem) (s : State) : State :=
  match q with
  | [] => s
  | i :: rest =>
    let p := s.port port
    let tt := tgetD p.tenantTags key {}
    let ct := tgetD p.classTags vc {}
    let p := { p with
      dome := tput [] key rest p.dome
      virt := tput 0 5 ct.finish (tput 0 vc tt.finish p.virt) }
    let p := { p with
      tenantTags := tput {} key (tt.served rest.isEmpty s.now) p.tenantTags
      classTags := tput {} vc (ct.served (p.queuesOf vc).isEmpty s.now) p.classTags }
    let s := (s.setPort port p).chargeShaper (key % 4096) (portTower port) (s.charged port i.encap i.len)
    (s.launch port vc i).tagHeads port

/-- R385: a transit packet that finds no credits has had to wait. -/
def markWaiting (ok : EgressItem → Bool) : List EgressItem → List EgressItem
  | [] => []
  | i :: rest => (if !i.own && !ok i then { i with waited := true } else i) :: rest

/-- R385: mark the transit packets at the heads of a port's queues that wait for credits. -/
def State.markWaits (port : Nat) (s : State) : State :=
  let p := s.port port
  s.setPort port { p with
    vc5 := markWaiting (s.hasCredits port 5) p.vc5, vc6 := markWaiting (s.hasCredits port 6) p.vc6
    vc7 := markWaiting (s.hasCredits port 7) p.vc7
    dome := tmap (fun k q => markWaiting (s.hasCredits port (k / 4096)) q) p.dome }

/-- R349: what a port starts next: its VC, its key among the dome queues, and its queue. -/
def State.choice (s : State) (port : Nat) : Option (Nat × Nat × List EgressItem) :=
  let p := s.port port
  let first := fun (vc : Nat) (q : List EgressItem) =>
    match q with | i :: _ => s.mayStart port vc i | [] => false
  if first 7 p.vc7 then some (7, 0, p.vc7)
  else if first 6 p.vc6 then some (6, 0, p.vc6)
  else if first 5 p.vc5 then some (5, 0, p.vc5)
  else s.classChoice port

/-- EGRESS_START (R305, R347 to R353, R377): a port that is free starts its next packet. A packet whose key is not cached
waits for its derivation (R659). [DESIGN CHOICE, log 63] -/
def execEgressStart (port : Nat) (s : State) : Outcome :=
  if port < s.nports ∧ s.carries port ∧ (s.port port).busyUntil ≤ s.now then
    let s := (s.markWaits port).tagHeads port
    match s.choice port with
    | none => .next s
    | some (vc, key, q) =>
      match q with
      | [] => .next s
      | i :: rest =>
        let wait : Option KeyName := match s.sealKey (s.refresh i) with
          | some k => if s.keyCached k then none else some k
          | none => none
        match wait with
        | some k => .next (s.requestKey k)
        | none =>
          if vc ≥ 5 then .next ((s.setPort port ((s.port port).setQueue vc 2048 rest)).launch port vc i)
          else .next (s.serveDome port vc key q)
  else .next s

/-! ### The Lantern (R359 to R361) -/

/-- R359: the packet at the head of a VC of a port: the one that entered first. -/
def Port.headEntered (p : Port) (vc : Nat) : Option Nat :=
  let heads := if vc ≥ 5 then (p.transitQueue vc).head?.toList else (p.queuesOf vc).filterMap (fun e => e.2.head?)
  heads.foldl (fun a i => match a with | none => some i.entered | some t => some (min t i.entered)) none

/-- R360: sample one VC of a port. -/
def State.sampleQueue (port vc : Nat) (s : State) : State :=
  let p := s.port port
  let depth := p.vcBytes vc
  let maxq := max depth (tgetD p.maxDepth vc 0)
  let delay := match p.headEntered vc with | some t => s.now - t | none => 0
  let thr := s.par d8_0052 0
  let p := { p with maxDepth := tput 0 vc depth p.maxDepth }
  if depth ≥ thr ∨ maxq ≥ thr then
    let n := s.roVal d8_0054 port
    let rec_ : BitVec 128 := pack 128 [(64, s.now), (24, min depth 16777215), (3, vc), (1, if s.vcPaused port vc then 1 else 0), (4, 0),
      (16, min delay 65535), (16, min (maxq / 256) 65535)]
    (s.setPort port { p with lantern := tput 0 (n % 2 ^ s.par d8_0053 port) rec_ p.lantern }).bump d8_0054 port
  else s.setPort port p

/-- LANTERN_SAMPLE (R359 to R361): a sample of every queue, in ascending port, then VC, order. -/
def execLanternSample (s : State) : Outcome :=
  if s.par d8_0051 0 = 1 ∧ s.now % s.par d8_0050 0 = 0 then
    .next ((upTo s.nports).foldl (fun s n => (upTo 8).foldl (fun s vc => s.sampleQueue n vc) s) s)
  else .next s

end Sys2Proof.Machine
end

