-- ==== Sys2Proof/Machine/Links.lean ====
section
/-! DEFINITION. Network ports and links (R508 to R543): modes and negotiation, training, link states, STATUS blocks, lane
shedding and restore, PAUSE and PFC. -/
namespace Sys2Proof.Machine

/-! ### Lanes, modes and holds (R508 to R519, R521) -/

/-- R508: the width of a port by its lane assignment in the active set. -/
def State.portWidth (s : State) (n : Nat) : Nat := laneWidth (s.par d13_0001 n)

/-- R508, R510: the port exists on the part and its ENABLE is 1 in the active set. -/
def State.portEnabled (s : State) (n : Nat) : Bool := n < s.nports && laneEnable (s.par d13_0001 n)

/-- R720, R724, R726: the domain is without power: CLOSED or OPENING. -/
def State.domDark (s : State) (d : Nat) : Bool := (s.domain d).mode = .closed || (s.domain d).mode = .opening

/-- R31, R32, R169, R394, R698: what holds every network port DISABLED; R720: a lane block without power holds its tower's
ports down. -/
def State.portHeld (s : State) (n : Nat) : Bool :=
  s.pkg.phase ≠ .running || s.pkg.fatal || s.pkg.halted || s.domDark (domLanes (portTower n)) || s.domDark (domTower (portTower n))

/-- R511: lanes that an Ethernet mode uses, port-relative, from lane 0. -/
def modeLanes (code : Nat) : Nat :=
  match code with
  | 0x01 => 8 | 0x02 => 4 | 0x03 => 2 | 0x04 => 1 | 0x05 => 4 | 0x06 => 2 | 0x07 => 1 | _ => 0

/-- R511, R513: the Ethernet modes of a port width that D13.0003 allows, highest rate first, 802.3dj before 802.3ck. -/
def widthModes (width allowed : Nat) : List Nat :=
  let dj := match width with | 8 => [0x01] | 4 => [0x02] | 2 => [0x03] | _ => [0x04]
  let ck := match width with | 8 => [0x05] | 4 => [0x05] | 2 => [0x06] | _ => [0x07]
  (if allowed % 2 = 1 then dj else []) ++ (if allowed / 2 % 2 = 1 then ck else [])

/-- R513: the Ethernet modes that a port advertises. -/
def State.ownModes (s : State) (n : Nat) : List Nat :=
  if s.par d13_0002 n = 2 then [] else widthModes (s.portWidth n) (s.par d13_0003 n)

/-- R513: the port advertises fabric ability. -/
def State.ownFabric (s : State) (n : Nat) : Bool := s.par d13_0002 n ≠ 1

/-- R519: a lane of the first `n` failed its check. -/
def lanesFail (faults : BitVec 16) (n : Nat) : Bool := faults.toNat % 2 ^ n ≠ 0

/-- R519: the largest aligned group of at most `n` lanes none of which failed, lower group first: its width, 0 when no
lane passes. -/
def passingWidth (n faults : Nat) : Nat :=
  (([8, 4, 2, 1].filter (· ≤ n)).find? (fun w =>
    (upTo (n / w)).any (fun g => natField (g * w) w faults = 0))).getD 0

/-! ### Leaving and entering UP (R379, R386, R521, R522) -/

/-- R522: an event of class LINK, reason NETWORK, with the port and its new state. -/
def State.linkEvent (n : Nat) (m : PortMode) (s : State) : State :=
  let code := match m with | .disabled => 0 | .detect => 1 | .negotiate => 2 | .train => 3 | .up => 4 | .fault => 5
  s.packageEvent 5 1 n 0 code

/-- Every packet that waits at a port. -/
def Port.allItems (p : Port) : List EgressItem := p.vc7 ++ p.vc6 ++ p.vc5 ++ p.dome.flatMap (·.2)

/-- R386: a committed copy is declared lost and is retransmitted at once. -/
def Conn.loseQueued (now : Nat) (psn : W32) (x : Conn) : Conn :=
  x.able now { x with flight := x.flight.map (fun (q : TxPkt) =>
    if q.psn = psn && q.queued then { q with queued := false, owed := !q.acked, notBefore := 0, laterAck := none } else q) }

/-- R370, R386: a packet that waited at a port which can no longer carry it: an own copy is lost and owed; a transit packet
is discarded, with a notice. -/
def State.dropItem (n : Nat) (i : EgressItem) (s : State) : State :=
  match i.ingress with
  | some (port, vc, cls) =>
    ((s.bump d9_0106 (portTower n)).notice i.pkt 1).freeIngress port vc cls i.len
  | none =>
    match i.owner with
    | some (c, psn) =>
      if takesPsn (hdrType i.pkt) then
        match s.conn? c with
        | some x => s.setConn c (x.loseQueued s.now psn)
        | none => s
      else s
    | none => s

/-- R379, R386: what a port forgets when its link is down: queues, credits, shedding, pauses, the partner. -/
def Port.cleared (p : Port) (m : PortMode) (now : Nat) : Port :=
  { p with
    mode := m, modeCode := 0, active := 0, trained := 0, partner := 0, since := now, linkWidth := 0
    peerReady := false, advertised := false, shed := { period := p.shed.period }
    vc5 := [], vc6 := [], vc7 := [], dome := [], classTags := [], tenantTags := [], virt := []
    limit := [], consumed := [], peerFreed := [], freed := [], freedSent := [], peerK := 0, paused := [], flowSent := [] }

/-- R68: the link of the reference port goes down, and what it announced with it. -/
def State.portTimeLost (n : Nat) (s : State) : State :=
  let s := s.setTimePort n { s.timePort n with cand := none, pendingSyncs := [] }
  if s.time.ref = .port n then s.loseRef else s

/-- R386, R521, R522: a port leaves its state for another than UP. [DEDUCED, log 69] -/
def State.portTo (n : Nat) (m : PortMode) (cause : Nat) (s : State) : State :=
  let p := s.port n
  let items := p.allItems
  let was := p.mode
  let s := s.setPort n { p.cleared m s.now with cause := if m = .fault then BitVec.ofNat 8 cause else p.cause }
  let s := items.foldl (fun s i => s.dropItem n i) s
  if was = .up then ((s.portTimeLost n).bump d13_0101 n).linkEvent n m else s

/-- R521: ports whose ENABLE is 1 and which no hold keeps leave DISABLED for DETECT; held or disabled ports become DISABLED. -/
def State.settlePort (n : Nat) (s : State) : State :=
  if !s.portEnabled n || s.portHeld n then (if (s.port n).mode = .disabled then s else s.portTo n .disabled 0)
  else if (s.port n).mode = .disabled then s.portTo n .detect 0 else s

/-- R521: every port by its ENABLE and its holds. -/
def State.settlePorts (s : State) : State := (upTo s.nports).foldl (fun s n => s.settlePort n) s

/-- R521: a swap has changed a port's lanes, policy, rates or media: it leaves UP. -/
def State.portsAfterSwap (old : ParamSet) (s : State) : State :=
  let changed := fun (n : Nat) =>
    [d13_0001, d13_0002, d13_0003, d13_0004].any (fun p => old.int s.pkg.part p n ≠ s.par p n)
  (upTo s.nports).foldl (fun s n =>
    let s := s.settlePort n
    if changed n && (s.port n).mode = .up then s.portTo n .detect 0 else s) s

/-- R379, R521: a port enters TRAIN in a mode; in fabric link mode both counts start at 0 and the limits are advertised. -/
def State.startTrain (n code width : Nat) (s : State) : State :=
  let s := s.setPort n { s.port n with mode := .train, since := s.now, modeCode := BitVec.ofNat 8 code, linkWidth := width }
  if code = 0x10 then s.sendAdvert n else s

/-! ### DETECT to UP (R513 to R523) -/

/-- R515: the mode that a port without auto-negotiation runs. -/
def State.auiMode (s : State) (n : Nat) : Nat :=
  if s.par d13_0002 n = 2 then 0x10 else match s.portWidth n with | 8 => 1 | 4 => 2 | 2 => 3 | _ => 4

/-- R519: no mode that the port might run can come up with these failed lanes. -/
def State.noModePasses (s : State) (n : Nat) (faults : BitVec 16) : Bool :=
  let none_ := passingWidth (s.portWidth n) faults.toNat = 0
  if s.par d13_0004 n = 2 then (if s.auiMode n = 0x10 then none_ else lanesFail faults (modeLanes (s.auiMode n)))
  else if s.ownFabric n then none_
  else !(s.ownModes n).isEmpty && (s.ownModes n).all (fun c => lanesFail faults (modeLanes c))

/-- LINE_CHECK_DONE (R515, R516, R518, R519, R521): the failed lanes and SWAPPED, as D13.0013 shows them. -/
def execLineCheckDone (port : Nat) (faults : BitVec 16) (s : State) : Outcome :=
  let p := s.port port
  let f := faults &&& 0x1FF
  if s.portEnabled port && !s.portHeld port && p.mode = .detect then
    let s := s.setPort port { p with laneFaults := f }
    if f.getLsbD 8 then .next (s.portTo port .fault 4)
    else if s.noModePasses port f then .next (s.portTo port .fault 5)
    else if s.par d13_0004 port = 2 then .next (s.startTrain port (s.auiMode port) (s.portWidth port))
    else .next (s.setPort port { s.port port with mode := .negotiate, since := s.now })
  else .next s

/-- AN_COMPLETE (R514, R519, R521): the partner's fabric ability, width and Ethernet modes (bit k: code k). [DEDUCED, log 69] -/
def execAnComplete (port : Nat) (fabric : Bool) (width : Nat) (modes : BitVec 8) (s : State) : Outcome :=
  let p := s.port port
  if p.mode = .negotiate then
    if fabric && s.ownFabric port then .next (s.startTrain port 0x10 (min (s.portWidth port) width))
    else
      match (s.ownModes port).find? (fun c => modes.getLsbD c) with
      | none => .next (s.portTo port .fault 1)
      | some c =>
        if lanesFail p.laneFaults (modeLanes c) then .next (s.portTo port .fault 5)
        else .next (s.startTrain port c (modeLanes c))
  else .next s

/-- NEGOTIATE_TIMEOUT (R521). -/
def execNegotiateTimeout (port : Nat) (s : State) : Outcome :=
  let p := s.port port
  if p.mode = .negotiate && p.since + s.par d13_0022 port ≤ s.now then .next (s.portTo port .fault 2) else .next s

/-- R521, R522: a port enters UP with so many lanes. -/
def State.portUp (n lanes : Nat) (inverted : BitVec 8) (reversed : Bool) (s : State) : State :=
  let p := s.port n
  let s := s.setPort n { p with
    mode := .up, since := s.now, active := BitVec.ofNat 8 lanes, trained := BitVec.ofNat 8 lanes, inverted := inverted
    laneFaults := putField 9 1 (if reversed then 1 else 0) p.laneFaults
    lastStatus := s.now, statusSent := s.now, statusSaid := (0, 0, 0), creditSent := s.now, busyUntil := s.now }
  (s.bump d13_0100 n).linkEvent n .up

/-- TRAIN_DONE (R517, R519, R521): lanes that fail at the far end, lanes received inverted, and the order of the lanes. A
fabric link also needs the partner's ADVERT. -/
def execTrainDone (port : Nat) (farFaults inverted : BitVec 8) (reversed : Bool) (s : State) : Outcome :=
  let p := s.port port
  if p.mode = .train then
    if p.modeCode = 0x10 then
      let w := passingWidth p.linkWidth (p.laneFaults.toNat % 256 ||| farFaults.toNat)
      if w = 0 then .next (s.portTo port .fault 5)
      else if p.advertised then .next (s.portUp port w inverted reversed)
      else .next s
    else .next (s.portUp port p.linkWidth inverted reversed)
  else .next s

/-- TRAIN_TIMEOUT (R521). -/
def execTrainTimeout (port : Nat) (s : State) : Outcome :=
  let p := s.port port
  if p.mode = .train && p.since + s.par d13_0022 port ≤ s.now then .next (s.portTo port .fault 3) else .next s

/-- LINK_LOSS (R521, R523). `silent`: for D13.0021 ticks no codeword has decoded, or the PCS has had no alignment. [DEDUCED, log 69] -/
def execLinkLoss (port : Nat) (silent : Bool) (s : State) : Outcome :=
  let p := s.port port
  if p.mode = .up && (silent || (p.modeCode = 0x10 && p.lastStatus + 4 * s.par d13_0020 port ≤ s.now)) then
    .next (s.portTo port .detect 0)
  else .next s

/-- FAULT_RETRY (R521). [DEDUCED, log 69] -/
def execFaultRetry (port : Nat) (s : State) : Outcome :=
  let p := s.port port
  if p.mode = .fault && p.since + s.par d13_0024 port ≤ s.now then .next (s.portTo port .detect 0) else .next s

/-! ### STATUS blocks (R393, R523, R528) -/

/-- R393: what the port advertises as forwarding-ready. -/
def State.fwdReady (s : State) : Bool := s.parFlag d9_0000 0 && s.hasId

/-- R528: SFLAGS, TARGET_WIDTH and SWITCH_TICK as they stand; `refuse`: this block refuses a request. -/
def State.statusFields (s : State) (n : Nat) (refuse : Bool) : Nat × Nat × Nat :=
  let h := (s.port n).shed
  let b := fun (i : Nat) (c : Bool) => if c then 2 ^ i else 0
  let shed := match h.asked with | some (_, false) => true | _ => false
  let restore := match h.asked with | some (_, true) => true | _ => false
  let flags := b 0 s.fwdReady + b 1 shed + b 2 (h.granter && !h.restoring && h.switch.isSome) + b 3 restore
    + b 4 (h.granter && h.restoring) + b 5 (h.restoring && h.ownReady) + b 6 refuse
  let target := match h.switch, h.asked with
    | some (w, _), _ => w
    | none, some (w, _) => w
    | none, none => if h.restoring then (s.port n).trained.toNat else 0
  let tick := match h.switch with | some (_, t) => if h.granter then t else 0 | none => 0
  (flags, target, tick)

/-- R528: a STATUS block. -/
def State.sendStatus (n : Nat) (refuse : Bool) (s : State) : State :=
  let f := s.statusFields n refuse
  let s := s.emit (.block n 3 (leBytes 16 (packNat [(8, 3), (8, 0), (16, s.par d0_0001 0), (6, n), (2, 0), (8, f.1), (8, f.2.1),
    (8, 0), (64, f.2.2)])))
  s.setPort n { s.port n with statusSent := s.now, statusSaid := f }

/-- R528: send a STATUS at once when what it says has changed. -/
def State.statusChange (n : Nat) (s : State) : State :=
  if (s.port n).statusSaid = s.statusFields n false then s else s.sendStatus n false

/-- STATUS_SEND (R528). -/
def execStatusSend (port : Nat) (s : State) : Outcome :=
  let p := s.port port
  if s.fabricUp port && (p.statusSent + s.par d13_0020 port ≤ s.now || p.statusSaid ≠ s.statusFields port false) then
    .next (s.sendStatus port false)
  else .next s

/-! ### Shedding and restore (R532 to R536) -/

/-- R533: the first multiple of 64 ticks that is at least 512 ticks ahead. -/
def switchTick (now : Nat) : Nat := ceilDiv (now + 512) 64 * 64

/-- R532: what a shed needs of this side, given the bytes of a period. -/
def State.mayShed (s : State) (n bytes : Nat) : Bool :=
  let p := s.port n
  let w := p.active.toNat
  s.fabricUp n && s.par d13_0030 n = 1 && !s.hasWindow n && w > s.par d13_0034 n && p.shed.switch.isNone && !p.shed.restoring &&
  100 * bytes < s.par d13_0032 n * (20 * (w / 2)) * s.par d13_0031 n

/-- Change the shedding state of a port. -/
def State.setShed (n : Nat) (h : Shed) (s : State) : State := s.setPort n { s.port n with shed := h }

/-- R533: the side with the lower id keeps its request when both ask at once. -/
def State.keepsRequest (s : State) (peer : Nat) : Bool := s.par d0_0001 0 < peer

/-- R533: a shed request for a width. -/
def State.takeShedReq (n width peer : Nat) (s : State) : State :=
  let h := (s.port n).shed
  let grant := (s.setShed n { h with asked := none, switch := some (width, switchTick s.now), granter := true }).statusChange n
  match h.switch, h.asked with
  | some (w, _), _ => if w = width && h.granter then s else s.sendStatus n true
  | none, some (w, false) => if w ≠ width || s.hasWindow n then s.sendStatus n true else if s.keepsRequest peer then s else grant
  | none, _ => if s.mayShed n h.lastBytes && width = (s.port n).active.toNat / 2 then grant else s.sendStatus n true

/-- R535: there is something to restore: lanes are asleep, or a granted shed has not been reached. -/
def Port.narrowed (p : Port) : Bool :=
  p.active.toNat < p.trained.toNat || (match p.shed.switch with | some (w, _) => decide (w < p.active.toNat) | none => false)

/-- R535: a restore request: it is granted, cancels a shed that has not been reached, and wakes this side's lanes. A request
that arrives after its own width change asks for nothing. -/
def State.takeRestoreReq (n peer : Nat) (s : State) : State :=
  let h := (s.port n).shed
  let mine := match h.asked with | some (_, true) => true | _ => false
  if !(s.port n).narrowed || (h.restoring && h.granter) || (mine && s.keepsRequest peer) then s
  else
    (s.setShed n { h with asked := none, switch := none, restoring := true, granter := true, ownReady := mine && h.ownReady
                          peerReady := false }).statusChange n

/-- R535: the granting side holds both LANES_READY, and sends the SWITCH_TICK. -/
def State.restoreTick (n : Nat) (s : State) : State :=
  let h := (s.port n).shed
  if h.restoring && h.granter && h.ownReady && h.peerReady && h.switch.isNone then
    s.setShed n { h with switch := some ((s.port n).trained.toNat, switchTick s.now) }
  else s

/-- R528, R533, R535: the answers that a STATUS carries. -/
def State.takeAnswers (n flags width tick : Nat) (s : State) : State :=
  let bit := fun i => natField i 1 flags = 1
  let h := (s.port n).shed
  let s := match h.asked with
    | some (w, false) =>
      if bit 2 && w = width then s.setShed n { h with asked := none, switch := some (width, tick), granter := false }
      else if bit 6 then (s.setShed n { h with asked := none }).bump d13_0112 n
      else s
    | some (_, true) =>
      if bit 4 then s.setShed n { h with switch := if tick = 0 then h.switch else some (width, tick), granter := false } else s
    | none => s
  let h := (s.port n).shed
  if bit 5 && h.restoring then (s.setShed n { h with peerReady := true }).restoreTick n else s

/-- R528: a STATUS block arrives on a fabric link that is up. -/
def State.takeStatus (n : Nat) (b : Bytes) (s : State) : State :=
  if s.fabricUp n && leAt 0 1 b = 3 then
    let flags := leAt 5 1 b
    let width := leAt 6 1 b
    let peer := leAt 2 2 b
    let s := s.setPort n { s.port n with
      lastStatus := s.now, peerReady := natField 0 1 flags = 1
      partner := pack 32 [(16, peer), (6, leAt 4 1 b), (9, 0), (1, 1)] }
    let s := s.takeAnswers n flags width (leAt 8 8 b)
    let s := if natField 1 1 flags = 1 then s.takeShedReq n width peer else s
    let s := if natField 3 1 flags = 1 then s.takeRestoreReq n peer else s
    s.statusChange n
  else s

/-- STATUS_RX (R393, R528). -/
def execStatusRx (port : Nat) (block : Bytes) (s : State) : Outcome := .next (s.takeStatus port block)

/-- SHED_REQ_RX (R533): a STATUS block with SHED_REQ. -/
def execShedReqRx (port : Nat) (block : Bytes) (s : State) : Outcome :=
  if natField 1 1 (leAt 5 1 block) = 1 then .next (s.takeStatus port block) else .next s

/-- RESTORE_REQ_RX (R535): a STATUS block with RESTORE_REQ. -/
def execRestoreReqRx (port : Nat) (block : Bytes) (s : State) : Outcome :=
  if natField 3 1 (leAt 5 1 block) = 1 then .next (s.takeStatus port block) else .next s

/-- SHED_PERIOD_END (R532): a period ends at a multiple of D13.0031. -/
def execShedPeriodEnd (port : Nat) (s : State) : Outcome :=
  let h := (s.port port).shed
  let now := s.now / s.par d13_0031 port
  if port < s.nports && h.period < now then
    let s := s.setShed port { h with period := now, lastBytes := h.periodBytes, periodBytes := 0 }
    if s.mayShed port h.periodBytes && h.asked.isNone then
      .next ((s.setShed port { (s.port port).shed with asked := some ((s.port port).active.toNat / 2, false) }).statusChange port)
    else .next s
  else .next s

/-- WIDTH_SWITCH (R534, R536): the fabric time of a change is reached. -/
def execWidthSwitch (port : Nat) (s : State) : Outcome :=
  let p := s.port port
  match p.shed.switch with
  | none => .next s
  | some (w, t) =>
    if s.fabricUp port && t ≤ s.now then
      let h : Shed := { period := p.shed.period, periodBytes := p.shed.periodBytes, lastBytes := p.shed.lastBytes }
      if w < p.active.toNat && s.hasWindow port then .next (s.setShed port h)
      else
        let s' := s.setPort port { p with active := BitVec.ofNat 8 w, shed := h }
        .next (if w = p.active.toNat then s' else s'.bump d13_0111 port)
    else .next s

/-- R535: a restore is due: the queues of some VC pass D13.0033, or shedding has been disabled. -/
def State.wantsRestore (s : State) (n : Nat) : Bool :=
  s.par d13_0030 n = 0 || (upTo 8).any (fun vc => (s.port n).vcBytes vc > s.par d13_0033 n)

/-- RESTORE_REQ (R535): this side requests its trained width and wakes its lanes. -/
def execRestoreReq (port : Nat) (s : State) : Outcome :=
  let p := s.port port
  if s.fabricUp port && p.narrowed && !p.shed.restoring && s.wantsRestore port then
    .next ((s.setShed port { p.shed with
      asked := some (p.trained.toNat, true), switch := none, restoring := true, granter := false, ownReady := false
      peerReady := false }).statusChange port)
  else .next s

/-- LANES_READY (R535): this side's woken lanes are ready. -/
def execLanesReady (port : Nat) (s : State) : Outcome :=
  let h := (s.port port).shed
  if s.fabricUp port && h.restoring && !h.ownReady then
    .next (((s.setShed port { h with ownReady := true }).restoreTick port).statusChange port)
  else .next s

/-- CODEWORD_DECODE_FAIL (R527): a codeword of a link that is up fails to decode; on a fabric link the block position is
lost with it. -/
def execCodewordDecodeFail (port : Nat) (s : State) : Outcome :=
  let p := s.port port
  if p.mode = .up then
    let s := s.bump d13_0103 port
    .next (if p.modeCode = 0x10 then s.bump d13_0110 port else s)
  else .next s

/-! ### PAUSE and PFC (R538 to R541) -/

/-- R539: ticks of a pause of so many quanta at the port's rate: 512 bit times each, rounded up. -/
def State.pauseTicks (s : State) (n quanta : Nat) : Nat := ceilDiv (64 * quanta) (max 1 (s.port n).rate)

/-- R539: set or end the pause of a priority (8: PAUSE) from now. -/
def State.setPause (n prio quanta : Nat) (s : State) : State :=
  let p := s.port n
  s.setPort n { p with paused := tput 0 prio (if quanta = 0 then 0 else s.now + s.pauseTicks n quanta) p.paused }

/-- R538, R539, R541: a PAUSE frame. -/
def State.takePause (n quanta : Nat) (s : State) : State :=
  if s.etherUp n then
    if s.par d13_0040 n = 1 then (s.setPause n 8 quanta).bump d13_0107 n else s.bump d13_0114 n
  else s

/-- R538, R539, R541: a PFC frame: the enabled priorities and the quanta of each. -/
def State.takePfc (n : Nat) (enable : BitVec 8) (quanta : List Nat) (s : State) : State :=
  if s.etherUp n then
    if s.par d13_0040 n = 2 then
      ((upTo 8).foldl (fun s i => if enable.getLsbD i then s.setPause n i (quanta[i]?.getD 0 % 65536) else s) s).bump d13_0108 n
    else s.bump d13_0114 n
  else s

/-- PAUSE_RX (R538, R539). -/
def execPauseRx (port : Nat) (quanta : BitVec 16) (s : State) : Outcome := .next (s.takePause port quanta.toNat)

/-- PFC_RX (R538, R539). -/
def execPfcRx (port : Nat) (enable : BitVec 8) (quanta : List Nat) (s : State) : Outcome := .next (s.takePfc port enable quanta)

/-- PAUSE_EXPIRE (R539): pauses that have run out end. [DEDUCED, log 31] -/
def execPauseExpire (port : Nat) (s : State) : Outcome :=
  let p := s.port port
  .next (s.setPort port { p with paused := tfilter (fun _ t => s.now < t) p.paused })

/-- R540: free bytes of a VC's ingress allocation. -/
def State.ingressFree (s : State) (n vc : Nat) : Nat :=
  natField (8 * vc) 8 (s.par d9_0021 n) * 4096 - tgetD (s.port n).ingress vc 0

/-- R540: what a flow-control frame of the port concerns: a VC under FLOW 2, all of them (8) under FLOW 1. -/
def State.flowVcs (s : State) (n vc : Nat) : List Nat :=
  if s.par d13_0040 n = 1 then (if vc = 8 then upTo 8 else []) else if s.par d13_0040 n = 2 && vc < 8 then [vc] else []

/-- R538, R540: a PAUSE frame, or a PFC frame for the priority of a VC, without its FCS. -/
def State.flowFrame (s : State) (n vc quanta : Nat) : Bytes :=
  let head := beBytes 6 0x0180C2000001 ++ beBytes 6 (s.portMac n) ++ beBytes 2 0x8808
  let body :=
    if vc = 8 then beBytes 2 0x0001 ++ beBytes 2 quanta
    else beBytes 2 0x0101 ++ beBytes 2 (2 ^ s.pcp vc) ++ (upTo 8).flatMap (fun i => beBytes 2 (if i = s.pcp vc then quanta else 0))
  slice 0 60 (head ++ body)

/-- R540: send a flow-control frame. -/
def State.sendFlow (n vc quanta : Nat) (s : State) : State :=
  let s := (s.emit (.frame n (s.flowFrame n vc quanta))).bump d13_0109 n
  let p := s.port n
  s.setPort n { p with flowSent := if quanta = 0 then terase vc p.flowSent else tset vc ⟨s.now⟩ p.flowSent }

/-- FLOW_XOFF_SEND (R540): `vc` is 8 for PAUSE. -/
def execFlowXoffSend (port vc : Nat) (s : State) : Outcome :=
  if s.etherUp port && (tget vc (s.port port).flowSent).isNone &&
      (s.flowVcs port vc).any (fun v => s.ingressFree port v < s.par d13_0041 port) then
    .next (s.sendFlow port vc (s.par d13_0043 port))
  else .next s

/-- FLOW_REPEAT (R540). -/
def execFlowRepeat (port vc : Nat) (s : State) : Outcome :=
  match tget vc (s.port port).flowSent with
  | some f =>
    if s.etherUp port && 2 * (s.now - f.at_) ≥ s.pauseTicks port (s.par d13_0043 port) &&
        (s.flowVcs port vc).any (fun v => s.ingressFree port v < s.par d13_0042 port) then
      .next (s.sendFlow port vc (s.par d13_0043 port))
    else .next s
  | none => .next s

/-- FLOW_XON_SEND (R540). -/
def execFlowXonSend (port vc : Nat) (s : State) : Outcome :=
  if s.etherUp port && (tget vc (s.port port).flowSent).isSome &&
      (s.flowVcs port vc).all (fun v => s.par d13_0042 port ≤ s.ingressFree port v) then
    .next (s.sendFlow port vc 0)
  else .next s

end Sys2Proof.Machine
end

