-- ==== Sys2Proof/Machine/Halt.lean ====
section
/-! DEFINITION. What stops the whole adapter: the fatal faults (R32, R504, R717, R745) and the halt of COMPAT_HALT (R169). -/
namespace Sys2Proof.Machine

/-- The numbers of the pins that the adapter drives. -/
def pinPpsOut : Nat := 0
def pinThermTrip : Nat := 1
def pinFault : Nat := 2

/-- R745: FAULT_N goes low while a fault of severity FATAL holds. [DEDUCED, log 70] -/
def State.driveFault (s : State) : State :=
  if s.pkg.pins.faultN then s
  else ({ s with pkg := { s.pkg with pins := { s.pkg.pins with faultN := true } } } : State).emit (.pin pinFault false)

/-- R278: a message whose chain is gone is voided; no chain learns of it. -/
def State.orphan (c : Nat) (m : TxMsg) (s : State) : State :=
  match s.conn? c with
  | none => s
  | some x => (s.setConn c (x.modifyMsg m.msn false (fun m => { m with owner := none }))).voidMsg c m.msn false .aborted 0

/-- Every message of this side that a chain waits for. -/
def State.ownedMsgs (s : State) : List (Nat × TxMsg) :=
  s.conns.flatMap (fun e => (e.2.tx.filter (fun m => m.owner.isSome)).map (fun m => (e.1, m)))

/-- Abandon the work of every engine, and every message of this side. [DEDUCED, log 70] -/
def State.dropAllWork (s : State) : State :=
  let s := s.ownedMsgs.foldl (fun s e => s.orphan e.1 e.2) s
  { s with
    cupola := { s.cupola with works := [], input := [] }
    experts := { s.experts with dispatches := [], prefetches := [], combines := [], freed := [] }
    movers := { s.movers with chans := tmap (fun _ (x : Channel) => { x with queue := [] }) s.movers.chans, busy := [] }
    localReads := [], atsWait := []
    time := { s.time with triggers := [] } }

/-- R32, R504: a fault that is fatal at package level: every network port goes down, work in flight completes with
BUS_ERROR, both host ports report it, and it is logged. [DEDUCED, log 70] -/
def State.fatalFault (src : FaultSource) (loc : W64) (object address detail : Nat) (s : State) : State :=
  let s := { s with pkg := { s.pkg with fatal := true } }
  let s := s.dropAllWork
  let s := { s with rings := tmap (fun _ (r : Ring) => { r with chains := r.chains.map (fun (c : Chain) =>
      if c.started then c.finish s.now Status.busError.code 0 else c) }) s.rings }
  (((s.settlePorts.aer 0 .fatalFault).aer 1024 .fatalFault).logFault .fatal src loc none object address detail).driveFault

/-- R169: the ring stops with nothing more fetched or recorded. -/
def Ring.halt (r : Ring) : Ring :=
  { r with mode := .halted, fetches := [], held := [], refetch := none, chains := [], eventDue := false, mirrorSince := none }

/-- A ring of one of the two PFs. -/
def pfRing (k : Nat) : Bool := keyTenant k = 0 || keyTenant k = 1024

/-- R169: a malformed entry of a ring halts the whole adapter. [DEDUCED, log 70] -/
def State.halt (k : Nat) (index : W32) (s : State) : State :=
  let s := { s with pkg := { s.pkg with halted := true } }
  let s := s.dropAllWork
  let s := { s with rings := tmap (fun k (r : Ring) => if pfRing k then r.halt else r) s.rings }
  ((s.settlePorts.aer 0 .halt).logFault .fatal .ring 0 (some (keyTenant k)) (keyRing k) index.toNat 0).driveFault

/-- R167: COMPAT_HALT. -/
def State.compatHalt (s : State) : Bool := s.parFlag d4_8001 0

/-- R160, R166, R169: a running entry proves malformed at a byte offset. -/
def State.lateMalformed (t : Nat) (e : EntryRef) (off : Nat) (s : State) : State :=
  let s := (s.bump d4_0102 t).failEntry e .malformed (e.pos % 256 + 256 * off)
  if s.compatHalt then s.halt e.ring (e.first + BitVec.ofNat 32 e.pos) else s

end Sys2Proof.Machine
end

