-- ==== Sys2Proof/Machine/Lookaside.lean ====
section
/-! DEFINITION. Root key slots (R648 to R656), the pre-derivation of spire keys (R659), and look-aside CIPHER entries
(R662 to R670). -/
namespace Sys2Proof.Machine

/-! ### Key loads (R650 to R654) -/

/-- R651: the outcome of a KEY_LOAD record. [DESIGN CHOICE, log 85] -/
def State.keyOutcome (t code : Nat) (s : State) : State :=
  let s := s.setRo d18_0021 t code
  if code = 0 then s else s.bump d18_0104 t

/-- R653: a connection names the slot. -/
def State.slotReferenced (s : State) (n : Nat) : Bool :=
  s.conns.any (fun e => e.2.ctx.core.mode ≠ .free && e.2.ctx.core.mode ≠ .quarantine && e.2.ctx.core.cipherEn = 1 &&
    e.2.ctx.core.rootSlot.toNat = n)

/-- R650, R651: a reserved or zero field of the record is nonzero, OP is unknown, or USAGE is 0 on LOAD. -/
def keyRecordBad (b : Bytes) : Bool :=
  let op := leAt 2 1 b
  let wrapped := leAt 3 1 b % 2 = 1
  b.length ≠ 96 || (op ≠ 1 && op ≠ 2) || leAt 3 1 b > 1 || (!wrapped && leAt 4 2 b ≠ 0) || leAt 6 1 b ≥ 16 ||
  (op = 1 && leAt 6 1 b = 0) || (op = 2 && (leAt 6 1 b ≠ 0 || leAt 8 4 b ≠ 0)) || leAt 7 1 b ≠ 0 ||
  (!wrapped && (leAt 12 12 b ≠ 0 || leAt 56 16 b ≠ 0)) || leAt 72 24 b ≠ 0

/-- R652: the root key of a LOAD: in the clear, or unwrapped under the wrap slot's key; none when the tag fails. -/
def State.loadedKey (s : State) (b : Bytes) : Option Bytes :=
  if leAt 3 1 b % 2 = 1 then
    let w := leAt 4 2 b
    gcmOpen (s.deriveKey w 32 (s.label w 3 1 0 [])) (slice 12 12 b) (slice 0 12 b) (slice 24 32 b) (slice 56 16 b)
  else some (slice 24 32 b)

/-- R650 to R654: carry out a KEY_LOAD record of a tenant. [DESIGN CHOICE, log 85] -/
def State.keyLoad (t : Nat) (b : Bytes) (s : State) : State :=
  let n := leAt 0 2 b
  let w := leAt 4 2 b
  let wrapped := leAt 3 1 b % 2 = 1
  if keyRecordBad b then s.keyOutcome t 4
  else if !s.ownsSlot t n || (wrapped && !s.ownsSlot t w) then s.keyOutcome t 1
  else if wrapped && !s.slotUsable w 2 then s.keyOutcome t 5
  else if leAt 2 1 b = 2 then
    if s.slotReferenced n then s.keyOutcome t 2 else (s.eraseSlot n).keyOutcome t 0
  else
    match s.loadedKey b with
    | none => s.keyOutcome t 3
    | some k =>
      (s.putSlot n { loaded := true, key := k, domain := BitVec.ofNat 32 (leAt 8 4 b), usage := BitVec.ofNat 8 (leAt 6 1 b) }).keyOutcome t 0

/-- KEY_LOAD_LOAD (R649 to R652, R654). -/
def execKeyLoadLoad (t : Nat) (record : Bytes) (s : State) : Outcome :=
  if leAt 2 1 record = 1 then .next (s.keyLoad t record) else .next s

/-- KEY_LOAD_ERASE (R649 to R651, R653, R654). -/
def execKeyLoadErase (t : Nat) (record : Bytes) (s : State) : Outcome :=
  if leAt 2 1 record = 2 then .next (s.keyLoad t record) else .next s

/-! ### Pre-derivation (R659) -/

/-- R657, R658: the inline key of one direction of a connection in a frame. -/
def State.connKey (s : State) (c : Nat) (x : Conn) (out : Bool) (frame : Nat) : KeyName :=
  let k := x.ctx.core
  let h := s.handle k.handle.toNat
  let own := leBytes 3 k.conn.toNat ++ bytesOf 1 k.incarnation
  let peer := leBytes 3 (if out then wireConn h k.peerConn else k.peerConn).toNat ++ bytesOf 1 k.peerInc
  let me := leBytes 2 (s.par d0_0001 0)
  let he := bytesOf 2 h.peerAdapter
  ⟨connTower c, k.rootSlot.toNat, 32, s.label k.rootSlot.toNat 1 0 k.keyEpoch.toNat
    ((if out then me ++ he ++ own ++ peer else he ++ me ++ peer ++ own) ++ leBytes 4 frame ++ List.replicate 8 0)⟩

/-- R659: derive a key unless it is cached. -/
def State.ensureKey (k : KeyName) (s : State) : State := if s.keyCached k then s else s.installKey k

/-- KEY_PREDERIVE (R659): D18.0040 ticks before a frame of 2^32 ticks begins. [DESIGN CHOICE, log 85] -/
def execKeyPrederive (tower : Nat) (s : State) : Outcome :=
  let frame := s.now / 4294967296 + 1
  if frame * 4294967296 - s.now ≤ s.par d18_0040 0 then
    .next (s.conns.foldl (fun s e =>
      let k := e.2.ctx.core
      if connTower e.1 = tower && k.cls = 1 && k.cipherEn = 1 && k.mode ≠ .quarantine && k.mode ≠ .init then
        (s.ensureKey (s.connKey e.1 e.2 true frame)).ensureKey (s.connKey e.1 e.2 false frame)
      else s) s)
  else .next s

/-! ### Look-aside entries (R662 to R670) -/

/-- R662: fields of a CIPHER entry. -/
def ciSlot (w : W512) : Nat := fieldNat 32 12 w
def ciOutKey (w : W512) : W32 := field 256 32 w
def ciMode (w : W512) : Nat := entAt 36 0 8 w
def ciCont (w : W512) : Bool := entAt 37 0 1 w = 1
def ciMore (w : W512) : Bool := entAt 37 1 1 w = 1
def ciWrap (w : W512) : Bool := entAt 37 2 1 w = 1
def ciDu (w : W512) : Nat := entAt 38 0 8 w
def ciLabel (w : W512) : Nat := entAt 40 0 32 w
def ciAad (w : W512) : Nat := entAt 44 0 32 w
def ciIv (w : W512) : Bytes := slice 48 12 (bytesOf 64 w)
def ciXts (w : W512) : Bool := ciMode w ≥ 2
def ciDec (w : W512) : Bool := ciMode w % 2 = 1

/-- R664: the malformed fields of a CIPHER entry. [DEDUCED, log 50] -/
def cipherBad (w : W512) : Option Nat :=
  let n := entLength w
  let xts := ciXts w
  firstBad [
    (1, flagsDirty w || entInline w || entSpec w),
    (4, fieldNat 44 20 w ≠ 0),
    (24, n > 2147483648 || (xts && (n < 16 || (ciMore w && 9 ≤ ciDu w && ciDu w ≤ 20 && n % 2 ^ ciDu w ≠ 0)))),
    (36, ciMode w > 3),
    (37, entAt 37 3 5 w ≠ 0),
    (38, if xts then !(9 ≤ ciDu w && ciDu w ≤ 20) else ciDu w ≠ 0),
    (39, entAt 39 0 8 w ≠ 0),
    (44, if xts || ciCont w then ciAad w ≠ 0 else ciAad w > 16777216),
    (48, if ciCont w then entDirty 48 12 w else xts && entDirty 56 4 w),
    (60, entDirty 60 4 w)]

/-- R663, R666: bytes of a state record of the entry, of its input and of its output. -/
def ciRecLen (w : W512) : Nat := if ciWrap w then 112 else 80
def ciInLen (w : W512) : Nat :=
  (if ciCont w then ciRecLen w else 0) + ciAad w + entLength w + (if ciMode w = 1 && !ciMore w then 16 else 0)
def ciOutLen (w : W512) : Nat :=
  entLength w + (if ciMode w = 0 && !ciMore w then 16 else 0) + (if ciMore w then ciRecLen w else 0)

/-- R666: a clear state record. -/
structure CipherRec where
  format  : Nat
  mode    : Nat
  slot    : Nat
  gen     : BitVec 8
  label   : Nat
  outKey  : W32
  hash    : Bytes
  counter : Bytes
  aad     : Nat
  data    : Nat
  outBase : Nat
  deriving DecidableEq, Repr

/-- R666: a record from its 80 bytes, and its bytes. -/
def CipherRec.ofBytes (b : Bytes) : CipherRec :=
  ⟨leAt 0 1 b, leAt 1 1 b, leAt 2 2 b, BitVec.ofNat 8 (leAt 4 1 b), leAt 8 4 b, BitVec.ofNat 32 (leAt 12 4 b), slice 16 16 b,
    slice 32 16 b, leAt 48 8 b, leAt 56 8 b, leAt 64 8 b⟩
def CipherRec.bytes (r : CipherRec) : Bytes :=
  leBytes 1 r.format ++ leBytes 1 r.mode ++ leBytes 2 r.slot ++ bytesOf 1 r.gen ++ [0, 0, 0] ++ leBytes 4 r.label ++
  bytesOf 4 r.outKey ++ slice 0 16 r.hash ++ slice 0 16 r.counter ++ leBytes 8 r.aad ++ leBytes 8 r.data ++
  leBytes 8 r.outBase ++ List.replicate 8 0

/-- R657, R665: the derived key of an entry. -/
def State.ciKey (s : State) (tower : Nat) (w : W512) : KeyName :=
  ⟨tower, ciSlot w, if ciXts w then 64 else 32, s.label (ciSlot w) 2 (ciMode w) 0 (leBytes 4 (ciLabel w))⟩

/-- R666: the key that wraps state records. -/
def State.wrapKey (s : State) (w : W512) : Bytes := s.deriveKey (ciSlot w) 32 (s.label (ciSlot w) 3 2 0 [])

/-- R666: wrap a record at a tower. -/
def State.wrapRecord (s : State) (tower : Nat) (w : W512) (r : Bytes) : Bytes :=
  let nonce := leBytes 2 (s.par d0_0001 0) ++ leBytes 1 tower ++ [0] ++ leBytes 8 s.now
  let head := nonce ++ [0, 0, 0, 0]
  let x := gcmSeal (s.wrapKey w) nonce head r
  head ++ x.1 ++ x.2

/-- R666, R667: the clear record of a CONTINUE segment's input; none when a wrapped one fails its tag. -/
def State.openRecord (s : State) (w : W512) (b : Bytes) : Option Bytes :=
  if ciWrap w then gcmOpen (s.wrapKey w) (slice 0 12 b) (slice 0 16 b) (slice 16 80 b) (slice 96 16 b) else some (slice 0 80 b)

/-- The record with which a message begins. -/
def State.firstRecord (s : State) (w : W512) (hash : Bytes) : CipherRec :=
  { format := 1, mode := ciMode w, slot := ciSlot w, gen := (s.slot (ciSlot w)).gen, label := ciLabel w
    outKey := if ciMode w = 1 then ciOutKey w else 0, hash := hash
    counter := if ciXts w then slice 0 8 (ciIv w) ++ leBytes 8 (ciDu w) else natBlock (inc32 (gcmJ0 (ciIv w)))
    aad := ciAad w, data := 0, outBase := if ciMode w = 1 then entRemote w else 0 }

/-- R667, R668: the entry's byte offset at which a record contradicts it. -/
def recordBad (w : W512) (r : CipherRec) : Option Nat :=
  firstBad [(4, r.slot ≠ ciSlot w), (8, r.format ≠ 1),
    (16, ciMode w = 1 && entRemote w ≠ r.outBase + r.data), (32, ciMode w = 1 && ciOutKey w ≠ r.outKey),
    (36, r.mode ≠ ciMode w), (40, r.label ≠ ciLabel w)]

/-- The output data of a segment, the record after it, and the tag that a final GCM segment computes. The tail of a
message that IEEE 1619 cannot take (fewer than 16 bytes of a data unit) and the hash after a part of a block are free. [DESIGN CHOICE, log 86] -/
def State.cipherRun (s : State) (key : Bytes) (w : W512) (r : CipherRec) (data : Bytes) : Bytes × CipherRec × Bytes × Nat :=
  let n := data.length
  if ciXts w then
    let size := 2 ^ ciDu w
    let tail := n % size
    let short := decide (0 < tail ∧ tail < 16)
    let whole := if short then n - tail else n
    let out := xtsData key (ciDec w) size (whole / size + 1) (leAt 0 8 r.counter) (data.take whole)
      ++ (if short then (upTo tail).map (fun i => Config.freeByte (s.free + i)) else [])
    (out, { r with counter := leBytes 8 (leAt 0 8 r.counter + ceilDiv n size) ++ leBytes 8 (ciDu w), data := r.data + n }, [],
      if short then tail else 0)
  else
    let rk := roundKeys key
    let k := blocks16 n
    let out := gctr rk k (blockNat r.counter) data
    let y := ghash (gcmH rk) k (blockNat r.hash) (if ciDec w then data else out)
    let part := ciMore w && n % 16 ≠ 0
    let hash := if part then (upTo 16).map (fun i => Config.freeByte (s.free + i)) else natBlock y
    (out, { r with hash := hash, counter := natBlock (iter inc32 k (blockNat r.counter)), data := r.data + n },
      gcmTag rk (slice 0 12 r.counter) y r.aad (r.data + n), if part then 16 else 0)

/-- R669: an entry fails with AUTH_FAILED. [DESIGN CHOICE, log 86] -/
def State.cipherAuth (t : Nat) (e : EntryRef) (s : State) : State := (s.failEntry e .authFailed 0).bump d18_0103 t

/-- Write zeros over a range of a place; a write that fails leaves it. -/
def State.zeroPlace (t : Nat) (p : Place) (a n : Nat) (s : State) : State :=
  if n = 0 then s else (s.placeWrite t p a (List.replicate n 0)).getD s

/-- R663, R666, R669, R670: what a segment writes and how its entry ends. [DESIGN CHOICE, log 86] -/
def State.cipherFinish (e : EntryRef) (t tower : Nat) (w : W512) (place : Place) (cross : Bool) (r : CipherRec) (data tagIn : Bytes)
    (s : State) : State :=
  let key := s.keyValue (s.ciKey tower w)
  let x := s.cipherRun key w r data
  let s := { s with free := s.free + x.2.2.2 }
  if ciMode w = 1 && !ciMore w && x.2.2.1 ≠ tagIn then
    (s.zeroPlace t place r.outBase (r.data + data.length)).cipherAuth t e
  else
    let rec_ := x.2.1.bytes
    let out := x.1 ++ (if ciMode w = 0 && !ciMore w then x.2.2.1 else [])
      ++ (if ciMore w then (if ciWrap w then s.wrapRecord tower w rec_ else rec_) else [])
    match (if out.isEmpty then some s else s.placeWrite t place (entRemote w) out) with
    | none => s.failEntry e .busError 0
    | some s =>
      let s := if ciMore w && ciWrap w then
          { s with cipher := { s.cipher with lastWrap := tput 0 tower (s.now + 1) s.cipher.lastWrap } } else s
      let s := s.addBytes e (entLength w)
      if out.isEmpty then s.endEntry e else s.endAfterReads e place (lastWord (entRemote w) out.length) cross

/-- R663, R667, R668: a segment whose input has been read. -/
def State.cipherInput (e : EntryRef) (t tower : Nat) (w : W512) (place : Place) (cross : Bool) (b : Bytes) (s : State) : State :=
  let off := if ciCont w then ciRecLen w else 0
  let aad := slice off (ciAad w) b
  let data := slice (off + ciAad w) (entLength w) b
  let tag := slice (off + ciAad w + entLength w) 16 b
  let s := if s.keyCached (s.ciKey tower w) then s else (s.bump d18_0101 tower).installKey (s.ciKey tower w)
  if ciCont w then
    match s.openRecord w b with
    | none => (s.zeroPlace t place (entRemote w) (entLength w)).cipherAuth t e
    | some rb =>
      let r := CipherRec.ofBytes rb
      match recordBad w r with
      | some o => s.lateMalformed t e o
      | none =>
        if r.gen ≠ (s.slot (ciSlot w)).gen then s.failEntry e .accessDenied 0
        else s.cipherFinish e t tower w place cross r data tag
  else
    let key := s.keyValue (s.ciKey tower w)
    let hash := if ciXts w then List.replicate 16 0
      else natBlock (ghash (gcmH (roundKeys key)) (blocks16 aad.length) 0 aad)
    s.cipherFinish e t tower w place cross (s.firstRecord w hash) data tag

/-- R662 to R670: a CIPHER entry of a mode. -/
def State.cipherEntry (mode t ring : Nat) (ans : MemAns) (s : State) : State :=
  match s.readyEntry t ring 0x50 with
  | none => s
  | some (e, w) =>
    let tower := match s.ring? e.ring with | some r => r.image.homeTower.toNat | none => 0
    if ciMode w ≠ mode then s
    else if !s.ownsSlot t (ciSlot w) || !s.slotUsable (ciSlot w) 1 then s.failEntry e .accessDenied 0
    else if ciMore w && ciWrap w && s.now < tgetD s.cipher.lastWrap tower 0 then s
    else
      s.withNeeds t e [⟨entKey w, 0, entLocal w, ciInLen w⟩, ⟨ciOutKey w, 1, entRemote w, ciOutLen w⟩] (fun rs s =>
        let s := s.runEntry e
        let src := (rs.map Realm.place).getD 0 ⟨1, 0, 0⟩
        let dst := (rs.map Realm.place).getD 1 ⟨1, 0, 0⟩
        let cross := match rs[1]? with | some r => r.crossPath (entRemote w) (ciOutLen w) | none => false
        match (if ciInLen w = 0 then some [] else s.placeRead t src (entLocal w) (ciInLen w) ans) with
        | none => (s.readFailed t src (entLocal w) (ciInLen w)).failEntry e .busError 0
        | some b => s.cipherInput e t tower w dst cross b)

/-- CIPHER_GCM_ENC (R662 to R668, R670): `ans` is what the read of the input returns. -/
def execCipherGcmEnc (t ring : Nat) (ans : MemAns) (s : State) : Outcome := .next (s.cipherEntry 0 t ring ans)
/-- CIPHER_GCM_DEC (R662 to R670). -/
def execCipherGcmDec (t ring : Nat) (ans : MemAns) (s : State) : Outcome := .next (s.cipherEntry 1 t ring ans)
/-- CIPHER_XTS_ENC (R662 to R667, R670). -/
def execCipherXtsEnc (t ring : Nat) (ans : MemAns) (s : State) : Outcome := .next (s.cipherEntry 2 t ring ans)
/-- CIPHER_XTS_DEC (R662 to R667, R670). -/
def execCipherXtsDec (t ring : Nat) (ans : MemAns) (s : State) : Outcome := .next (s.cipherEntry 3 t ring ans)

end Sys2Proof.Machine
end

