-- ==== Sys2Proof/Machine/Remote.lean ====
section
/-! DEFINITION. The entries that make messages (R219 to R223, R252 to R254): WRITE, WRITE_IMM, READ, ACCUM and FENCE_FLUSH;
and NOP (R15). -/
namespace Sys2Proof.Machine

/-! ### Fields (R220) -/

/-- R220: RELAXED. -/
def rmRelaxed (w : W512) : Bool := entAt 7 0 1 w = 1
/-- R220: LOCAL_KEY. -/
def rmLocalKey (w : W512) : W32 := field 256 32 w
/-- R220: IMMEDIATE; with INLINE it stands in LOCAL_ADDR. -/
def rmImmediate (w : W512) : W32 := if entInline w then field 64 32 w else field 288 32 w
/-- R220: the input format and the operation of an ACCUM. -/
def rmFormat (w : W512) : Nat := entAt 36 0 8 w
def rmOp (w : W512) : Nat := entAt 37 0 8 w

/-- R219: the longest message. -/
def longestMessage : Nat := 2147483648

/-- R219: LENGTH lies in the range of the opcode. -/
def lengthFits (op : Nat) (w : W512) : Bool :=
  let n := entLength w
  if op = 1 ∨ op = 2 then n ≤ longestMessage
  else if op = 3 then 1 ≤ n && n ≤ longestMessage
  else 1 ≤ n && n ≤ 16777216 && !(fmtKnown (rmFormat w) && !wholeElems (rmFormat w) n)

/-- R222, R423: the malformed fields of an entry of opcode 1 to 4. [DEDUCED, log 50] -/
def remoteBad (op : Nat) (w : W512) : Option Nat :=
  let inl := entInline w
  firstBad [
    (1, flagsDirty w || entSpec w || (inl && (op > 2 || entLength w = 0 || entLength w > 32))),
    (4, entAt 7 1 7 w ≠ 0),
    (8, inl && (entAt 12 0 32 w ≠ 0 || (op ≠ 2 && entAt 8 0 32 w ≠ 0))),
    (24, !lengthFits op w),
    (36, !inl && (if op = 2 then false
      else if op = 4 then !fmtKnown (rmFormat w) || rmOp w > 2 || entAt 38 0 16 w ≠ 0
        || ((rmFormat w = fmtAcc || rmFormat w = fmtFp64) && rmOp w ≠ 0)
      else entDirty 36 4 w)),
    (40, !inl && entDirty 40 24 w)]

/-- R253: the malformed fields of a FENCE_FLUSH; of a NOP (R15). [DEDUCED, log 52] -/
def bareBad (w : W512) : Option Nat :=
  firstBad [(1, flagsDirty w), (4, entDirty 4 4 w), (8, entDirty 8 8 w), (16, entDirty 16 8 w), (24, entDirty 24 4 w),
    (28, entDirty 28 4 w), (32, entDirty 32 32 w)]

/-! ### The connection of an entry (R191) -/

/-- R191: how the connection's state lets an entry use it. -/
inductive ConnUse where
  | go
  | wait
  | fail (status : Status)
  deriving DecidableEq, Repr

/-- R191: what an entry of a tenant may do on a connection. -/
def State.connUse (s : State) (t c : Nat) : ConnUse :=
  if !s.ownsConn t c then .fail .accessDenied
  else
    match s.connMode c with
    | .free | .init | .quarantine => .fail .accessDenied
    | .draining | .error => .fail .contextLost
    | .frozen => .wait
    | .ready => .go

/-- R191, R197: go on with the entry's connection in the cache; else the entry fails, or waits as it is. -/
def State.onConn (t c : Nat) (e : EntryRef) (f : Conn → State → State) (s : State) : State :=
  match s.connUse t c with
  | .fail st => s.failEntry e st 0
  | .wait => s
  | .go => s.withCtx c f

/-! ### Messages (R219, R262) -/

/-- R252, R254: a relaxed entry's ring records its connection; a 65th connection makes the entry strict. -/
def State.recordRelaxedEntry (e : EntryRef) (c : Nat) (want : Bool) (s : State) : State × Bool :=
  if !want then (s, false)
  else
    match s.ring? e.ring with
    | none => (s, false)
    | some r =>
      if r.relaxed.contains c then (s, true)
      else if r.relaxed.length ≥ 64 then (s, false)
      else (s.setRing e.ring { r with relaxed := r.relaxed ++ [c] }, true)

/-- R253: the last range of a relaxed READ at its local place, for the next FENCE_FLUSH. -/
def State.recordRelaxedRead (e : EntryRef) (p : Place) (a n : Nat) (s : State) : State :=
  match s.ring? e.ring with
  | none => s
  | some r =>
    let old := match r.relaxedReads.find? (fun x => x.1 = p) with | some x => x.2.2 | none => 0
    s.setRing e.ring { r with relaxedReads := r.relaxedReads.filter (fun x => x.1 ≠ p) ++ [(p, a, max n old)] }

/-- The kind of message that an opcode makes. -/
def kindOfOp (op : Nat) : MsgKind := if op = 1 then .write else if op = 2 then .writeImm else if op = 3 then .read else .accum

/-- R262, R422: Q of a message on a connection: the payload size, for ACCUM the whole elements that fit in it. -/
def chunkOf (op fmt : Nat) (k : Core) : Nat :=
  if op = 4 then k.payload / unitBytes fmt * unitBytes fmt else k.payload

/-- R219, R262: the message of an entry. -/
def entryMsg (op : Nat) (e : EntryRef) (w : W512) (k : Core) (place : Place) (relaxed : Bool) (now : Nat) : TxMsg :=
  let q := chunkOf op (rmFormat w) k
  { msn := 0, kind := kindOfOp op, owner := some e, length := entLength w, chunk := q
    packets := if op = 3 then 1 else packetsOf (entLength w) q
    remote := field 128 64 w, key := entKey w
    aux := if op = 2 then rmImmediate w else if op = 3 then rmLocalKey w else if op = 4 then BitVec.ofNat 32 (rmFormat w + 256 * rmOp w) else 0
    relaxed := relaxed, src := place, addr := entLocal w
    inline := if entInline w then some (entOperands (entLength w) w) else none
    elemIn := if op = 4 then unitBytes (rmFormat w) else 1
    elemOut := if op = 4 then unitElems (rmFormat w) * accBytes (rmFormat w) else 1
    lkey := if entInline w || entLength w = 0 then none else some (rmLocalKey w)
    sentAt := now }

/-- R219, R232: the local range of an entry; R221 and R232: none for INLINE and for LENGTH 0. -/
def remoteNeeds (op : Nat) (w : W512) : List Need :=
  if entInline w || entLength w = 0 then [] else [⟨rmLocalKey w, if op = 3 then 1 else 0, entLocal w, entLength w⟩]

/-- R191, R219, R232, R252: an entry of opcode 1 to 4 becomes one message on its connection. -/
def State.remoteEntry (op : Nat) (t ring : Nat) (s : State) : State :=
  match s.readyEntry t ring op with
  | none => s
  | some (e, w) =>
    let c := entConn w
    s.onConn t c e (fun x s =>
      s.withNeeds t e (remoteNeeds op w) (fun rs s =>
        let place := match rs with | r :: _ => r.place | [] => ⟨1, 0, 0⟩
        let rec_ := s.recordRelaxedEntry e c (rmRelaxed w)
        let m := entryMsg op e w x.ctx.core place rec_.2 s.now
        let s := rec_.1.runEntry e
        let s := if op = 3 && rec_.2 && place.space ≠ 1 then
            s.recordRelaxedRead e place (lastWord (entLocal w) (entLength w))
              (readsOf place (match rs with | r :: _ => r.crossPath (entLocal w) (entLength w) | [] => false))
          else s
        s.post c m))

/-- WRITE (R191, R219 to R223). -/
def execWrite (t ring : Nat) (s : State) : Outcome := .next (s.remoteEntry 1 t ring)

/-- WRITE_IMM (R191, R219 to R223). -/
def execWriteImm (t ring : Nat) (s : State) : Outcome := .next (s.remoteEntry 2 t ring)

/-- READ (R191, R219 to R223). -/
def execRead (t ring : Nat) (s : State) : Outcome := .next (s.remoteEntry 3 t ring)

/-- ACCUM (R191, R219 to R223, R423). -/
def execAccum (t ring : Nat) (s : State) : Outcome := .next (s.remoteEntry 4 t ring)

/-- NOP (R15): the entry ends well. [DEDUCED, log 52] -/
def execNop (t ring : Nat) (s : State) : Outcome :=
  match s.readyEntry t ring 0x41 with
  | none => .next s
  | some (e, _) => .next (s.endEntry e)

/-! ### FENCE_FLUSH (R253) -/

/-- R156, R253: every earlier chain of the ring has completed. -/
def State.firstChain (s : State) (e : EntryRef) : Bool :=
  match s.ring? e.ring with
  | some r => (match r.chains with | c :: _ => c.first = e.first | [] => false)
  | none => false

/-- R253: the flush request on a recorded connection: it goes, or waits with a FROZEN connection; else it fails. [DEDUCED, log 52] -/
def State.flushOn (t : Nat) (e : EntryRef) (c : Nat) (s : State) : State :=
  let go := fun (s : State) => (s.fetchCtx c).post c
    { msn := 0, kind := .flush, owner := some e, length := 0, chunk := 1, packets := 1, remote := 0, key := 0, aux := 0
      src := ⟨1, 0, 0⟩, addr := 0, sentAt := s.now }
  match s.connUse t c with
  | .go | .wait => go s
  | .fail st => s.noteFail e st 0

/-- FENCE_FLUSH (R253): flush requests on the connections that the ring recorded, and the local read-backs of relaxed
READs; the entry ends when all have answered. [DEDUCED, log 52] -/
def execFenceFlush (t ring : Nat) (s : State) : Outcome :=
  match s.readyEntry t ring 0x40 with
  | none => .next s
  | some (e, _) =>
    if !s.firstChain e then .next s
    else
      match s.ring? e.ring with
      | none => .next s
      | some r =>
        let s := s.setRing e.ring (({ r with relaxed := [], relaxedReads := [] } : Ring))
        let s := s.runEntry e
        let s := r.relaxed.foldl (fun s c => s.flushOn t e c) s
        let s := r.relaxedReads.foldl (fun s x => s.emitReads x.1 x.2.1 x.2.2) s
        let n := r.relaxedReads.foldl (fun n x => n + x.2.2) 0
        let s := if n = 0 then s else { s with localReads := s.localReads ++ [{ ref := e, left := n }] }
        .next (if s.ownerBusy e then s else s.endEntry e)

end Sys2Proof.Machine
end

