-- ==== Sys2Proof/Machine/Experts.lean ====
section
/-! DEFINITION. Expert dispatch and combine (R441 to R481): slots, tentative tokens, publication, COMBINE. -/
namespace Sys2Proof.Machine

/-! ### Directory, peer table, share records (R441 to R449, R454) -/

/-- R441: fields of the directory descriptor. -/
def edEntries (d : Bytes) : Nat := leAt 4 4 d
def edDir (d : Bytes) : Nat := leAt 8 8 d
def edPeers (d : Bytes) : Nat := leAt 16 8 d
def edShares (d : Bytes) : Nat := leAt 24 8 d
def edSources (d : Bytes) : Nat := leAt 32 2 d
def edRank (d : Bytes) : Nat := leAt 34 2 d
def edValid (d : Bytes) : Bool := leAt 36 1 d % 2 = 1

/-- R441: a tenant's active directory descriptor. -/
def State.expertDesc (s : State) (t : Nat) : Bytes := s.parBlob d11_8000 t 0 64

/-- A read of the tenant's package memory. -/
def State.tableRead (s : State) (t a n : Nat) : Option Bytes := s.placeRead t ⟨1, 0, 0⟩ a n (.data [])

/-- R444: replica `i` of a directory entry: its 28 bytes, and their fields. -/
def replicaOf (e : Bytes) (i : Nat) : Bytes := slice (16 + 28 * i) 28 e
def rpAdapter (r : Bytes) : Nat := leAt 0 2 r
def rpValid (r : Bytes) : Bool := leAt 2 1 r % 2 = 1
def rpNotify (r : Bytes) : Bool := leAt 2 1 r / 2 % 2 = 1
def rpKey (r : Bytes) : W32 := BitVec.ofNat 32 (leAt 4 4 r)
def rpBase (r : Bytes) : Nat := leAt 8 8 r
def rpStride (r : Bytes) : Nat := leAt 16 4 r
def rpCap (r : Bytes) : Nat := leAt 20 2 r
def rpOut (r : Bytes) : Nat := leAt 24 4 r

/-- R443: COUNT, POLICY, SPILL_CAP, SPILL_BASE of a directory entry. -/
def deCount (e : Bytes) : Nat := leAt 0 1 e
def dePolicy (e : Bytes) : Nat := leAt 1 1 e
def deSpillCap (e : Bytes) : Nat := leAt 4 2 e
def deSpillBase (e : Bytes) : Nat := leAt 8 8 e

/-- R443, R444: the VALID replicas below COUNT. -/
def deReplicas (e : Bytes) : List Nat := (upTo (deCount e)).filter (fun i => rpValid (replicaOf e i))

/-- R445: what makes every contribution to the entry invalid for rows of `len` bytes. -/
def entryInvalid (len : Nat) (e : Bytes) : Bool :=
  leAt 2 1 e ≠ 1 || !(1 ≤ deCount e && deCount e ≤ 4) || dePolicy e > 2 || leAt 3 1 e ≠ 0 || leAt 6 2 e ≠ 0 ||
  (upTo (min 4 (deCount e))).any (fun i =>
    let r := replicaOf e i
    leAt 2 1 r ≥ 4 || leAt 3 1 r ≠ 0 || leAt 22 2 r ≠ 0 || (rpValid r && len > rpStride r)) ||
  (deReplicas e).isEmpty

/-- R447: a share's home: adapter, key, region, slots, stride; share 4 is the spill region. -/
structure Home where
  adapter : Nat
  key     : W32
  base    : Nat
  stride  : Nat
  cap     : Nat
  out     : Nat
  notify  : Bool
  deriving DecidableEq, Repr

/-- R443, R447: the home of a share of a directory entry. -/
def homeOf (e : Bytes) (share : Nat) : Home :=
  let r := replicaOf e (if share = 4 then 0 else share)
  ⟨rpAdapter r, rpKey r, if share = 4 then deSpillBase e else rpBase r, rpStride r,
    if share = 4 then deSpillCap e else rpCap r, rpOut r, rpNotify r⟩

/-- R447: addresses of the header, a map entry and a slot of this side's share. -/
def Home.header (h : Home) (d : Bytes) : Nat := h.base + 64 * edRank d
def Home.map (h : Home) (d : Bytes) (j : Nat) : Nat := h.base + 64 * edSources d + 8 * h.cap * edRank d + 8 * j
def Home.slot (h : Home) (d : Bytes) (j : Nat) : Nat :=
  h.base + ceilDiv (64 * edSources d + 8 * edSources d * h.cap) 4096 * 4096 + (edRank d * h.cap + j) * h.stride

/-- R446: the connection to an adapter, when its peer entry is VALID. -/
def State.peerConn (s : State) (t : Nat) (d : Bytes) (adapter : Nat) : Option Nat :=
  match s.tableRead t (edPeers d + 4 * adapter) 4 with
  | some b => if leNat b / 2147483648 = 1 then some (leNat b % 16777216) else none
  | none => none

/-- R446: the home is this adapter. -/
def State.homeLocal (s : State) (h : Home) : Bool := h.adapter = s.par d0_0001 0

/-- R454, R455: a share record as a DISPATCH of a round finds it. -/
def State.shareRec (s : State) (t : Nat) (d : Bytes) (x : Nat) (round : W32) : Option Bytes :=
  (s.tableRead t (edShares d + 64 * x) 64).map (fun b =>
    if leAt 0 4 b = round.toNat then b else leBytes 4 round.toNat ++ List.replicate 60 0)

/-- R454: NEXT, PUB, PUB_SEQ of a share in its record. -/
def srNext (b : Bytes) (i : Nat) : Nat := leAt (8 + 8 * i) 2 b
def srPub (b : Bytes) (i : Nat) : Nat := leAt (10 + 8 * i) 2 b
def srSeq (b : Bytes) (i : Nat) : Nat := leAt (12 + 8 * i) 2 b

/-- Write a share record; a write that fails ends the entry with BUS_ERROR (R157). -/
def State.putShare (e : EntryRef) (t : Nat) (d : Bytes) (x : Nat) (b : Bytes) (s : State) : State :=
  match s.placeWrite t ⟨1, 0, 0⟩ (edShares d + 64 * x) b with
  | some s => s
  | none => s.noteFail e .busError 0

/-! ### Record entries (R453) -/

def rfPlaced : BitVec 8 := 1
def rfPublished : BitVec 8 := 2
def rfTentative : BitVec 8 := 4
def rfSpilled : BitVec 8 := 8
def rfFull : BitVec 8 := 16
def rfInvalid : BitVec 8 := 32
def rfNone : BitVec 8 := 64
def rfCancelled : BitVec 8 := 128

/-- A flag of a contribution. -/
def Contribution.is (c : Contribution) (f : BitVec 8) : Bool := c.flags &&& f ≠ 0

/-- The contribution took a slot. -/
def Contribution.took (c : Contribution) : Bool := !(c.is rfFull || c.is rfInvalid || c.is rfNone)

/-- The share of a contribution: its replica, 4 for the spill region. -/
def Contribution.share (c : Contribution) : Nat := if c.is rfSpilled then 4 else c.replica

/-- R453: write the record entry of a contribution. -/
def State.putRecord (d : Dispatch) (c : Contribution) (s : State) : State :=
  let b := leBytes 2 c.slot ++ leBytes 1 (if c.is rfSpilled then 0 else c.replica) ++ leBytes 1 c.flags.toNat ++ leBytes 4 c.expert.toNat
  match s.placeWrite d.tenant d.recs (d.recAddr + 8 * (c.tok * d.topk + c.k)) b with
  | some s => s
  | none => s.noteFail d.ref (if s.hostBarred d.tenant d.recs then .squashed else .busError) 0

/-- Write every record entry of a DISPATCH. -/
def State.putRecords (d : Dispatch) (s : State) : State := d.contribs.foldl (fun s c => s.putRecord d c) s

/-! ### Taking slots (R455 to R457) -/

/-- R443: the directory entry of an expert, latched at its first contribution. -/
def State.latch (s : State) (d : Dispatch) (x : Nat) : Option (Dispatch × Bytes) :=
  match tget x d.entries with
  | some e => some (d, e)
  | none =>
    if x < edEntries d.desc then
      (s.tableRead d.tenant (edDir d.desc + 128 * x) 128).map (fun e => ({ d with entries := tset x e d.entries }, e))
    else none

/-- R456: step 3 to 5: the share that a contribution takes: the share and whether it was redirected; none: full. -/
def pickShare (rank x : Nat) (e rec_ : Bytes) : Option (Nat × Bool) :=
  let n := deCount e
  let vs := deReplicas e
  let f := (rank + x) % n
  let order := ((upTo n).map (fun i => (f + i) % n)).filter (vs.contains ·)
  let room := fun (i : Nat) => srNext rec_ i < rpCap (replicaOf e i)
  match order with
  | [] => none
  | first :: rest =>
    if room first then some (first, false)
    else if dePolicy e = 1 then (rest.find? room).map (fun i => (i, true))
    else if dePolicy e = 2 then (if srNext rec_ 4 < deSpillCap e then some (4, false) else none)
    else none

/-- R456, R457: resolve one choice: the contribution, with the latched entries and the share record written. -/
def State.takeSlot (d : Dispatch) (owner : EntryRef) (tok k : Nat) (choice : W32) (fresh : Bool) (s : State) :
    State × Dispatch × Contribution :=
  let c : Contribution := { tok := tok, k := k, expert := choice, fresh := fresh, phase := .confirmed }
  let invalid := { c with flags := rfInvalid }
  if choice = 0xFFFFFFFF then (s, d, { c with flags := rfNone })
  else
    let x := choice.toNat
    if x ≥ 1048576 then (s, d, invalid)
    else
      match s.latch d x with
      | none => (if x < edEntries d.desc then s.noteFail owner .busError 0 else s, d, invalid)
      | some (d, e) =>
        if entryInvalid d.length e then (s, d, invalid)
        else
          match s.shareRec d.tenant d.desc x d.round with
          | none => (s.noteFail owner .busError 0, d, invalid)
          | some b =>
            match pickShare (edRank d.desc) x e b with
            | none => ((s.putShare owner d.tenant d.desc x b).bump d11_0101 d.tenant, d, { c with flags := rfFull })
            | some (i, redirected) =>
              let h := homeOf e i
              if !s.homeLocal h && (s.peerConn d.tenant d.desc h.adapter).isNone then (s, d, invalid)
              else
                let j := srNext b i
                let s := s.putShare owner d.tenant d.desc x (putBytes (8 + 8 * i) (leBytes 2 (j + 1)) b)
                let s := s.bump d11_0100 d.tenant
                let s := if redirected then s.bump d11_0102 d.tenant else if i = 4 then s.bump d11_0103 d.tenant else s
                (s, d, { c with
                  slot := j, replica := if i = 4 then 0 else i, phase := .sent
                  flags := (if i = 4 then rfSpilled else 0) ||| (if d.spec.isSome && !fresh then rfTentative else 0) })

/-! ### Sending rows (R458) -/

/-- R446, R234: a write to a home on this adapter, checked as a target checks it: the status of its failure, if any. -/
def State.homeWrite (t : Nat) (h : Home) (a : Nat) (b : Bytes) (s : State) : State × Option Status :=
  match s.realmCheck t (s.tenant t).inc h.key 1 a b.length true true none with
  | .error r => (s.countRemoteRefused h.key t, some (remoteStatus r))
  | .ok r =>
    match s.placeWrite t r.place a b with
    | some s => (s, none)
    | none => (s, some (if s.hostBarred t r.place then .squashed else .busError))

/-- The message of a DISPATCH to a home: the connection's next MSN; or the status that keeps it from being sent. -/
def State.homePost (t : Nat) (owner : EntryRef) (c : Nat) (m : TxMsg) (s : State) : State × Except Status W32 :=
  match s.connUse t c with
  | .fail st => (s.noteFail owner st 0, .error st)
  | _ =>
    match s.conn? c with
    | none => (s.noteFail owner .accessDenied 0, .error .accessDenied)
    | some x =>
      let q := x.ctx.core.payload
      (((s.fetchCtx c).post c { m with chunk := q, packets := packetsOf m.length q }), .ok x.ctx.delivery.txMsn)

/-- A WRITE message of a DISPATCH or a CONFIRM. -/
def homeMsg (owner : EntryRef) (kind : MsgKind) (h : Home) (a len : Nat) (imm : W32) (src : Place) (now : Nat) : TxMsg :=
  { msn := 0, kind := kind, owner := some owner, length := len, chunk := 1, packets := 1, remote := BitVec.ofNat 64 a
    key := h.key, aux := imm, src := src, addr := 0, sentAt := now }

/-- R458: runs of contributions that make one message: with LENGTH equal to STRIDE, consecutive slots of one share. -/
def groupRows (d : Dispatch) : List (List Contribution) → List Contribution → List (List Contribution)
  | gs, [] => gs
  | gs, c :: cs =>
    let stride := (homeOf ((tget c.expert.toNat d.entries).getD []) c.share).stride
    let joins := fun (g : List Contribution) =>
      match g.getLast? with
      | some l => l.expert = c.expert && l.share = c.share && l.slot + 1 = c.slot && d.length = stride
          && (g.length + 1) * d.length ≤ longestMessage
      | none => false
    groupRows d (if gs.any joins then gs.map (fun g => if joins g then g ++ [c] else g) else gs ++ [[c]]) cs

/-- Put contributions into a DISPATCH in place of what they name. -/
def Dispatch.put (d : Dispatch) (cs : List Contribution) : Dispatch :=
  { d with contribs := d.contribs.map (fun c =>
      match cs.find? (fun (n : Contribution) => n.tok = c.tok && n.k = c.k && n.fresh = c.fresh) with | some n => n | none => c) }

/-- R458: send the rows of a run. `ans` holds the rows, in order, that were read outside package memory for homes on this
adapter; the last part counts them. -/
def State.sendRun (owner : EntryRef) (ans : MemAns) (acc : State × Dispatch × Nat) (g : List Contribution) : State × Dispatch × Nat :=
  let (s, d, used) := acc
  match g with
  | [] => (s, d, used)
  | c :: _ =>
    let h := homeOf ((tget c.expert.toNat d.entries).getD []) c.share
    let rowAt := fun (c : Contribution) => d.rowAddr + c.tok * d.length
    let k := match s.ring? owner.ring with | some r => r.image.homeTower.toNat | none => 0
    let s := s.useLanes k d.tenant (g.length * ceilDiv d.length 64)
    if s.homeLocal h then
      let parts := g.map (fun c => (rowAt c, d.length))
      match s.readParts d.tenant d.rows ans parts used with
      | none =>
        let s := parts.foldl (fun s e => s.readFailed d.tenant d.rows e.1 e.2) s
        (s.noteFail owner .busError 0, d.put (g.map (fun c => { c with phase := .failed })), used + g.length * d.length)
      | some b =>
        let r := (g.zipIdx).foldl (fun (a : State × List Contribution) (c, i) =>
          let w := a.1.homeWrite d.tenant h (h.slot d.desc c.slot) (slice (i * d.length) d.length b)
          match w.2 with
          | none => (w.1.addBytes owner d.length, a.2 ++ [{ c with phase := .confirmed }])
          | some st => (w.1.noteFail owner st 0, a.2 ++ [{ c with phase := .failed }])) (s, [])
        (r.1, d.put r.2, used + g.length * d.length)
    else
      match s.peerConn d.tenant d.desc h.adapter with
      | none => (s, d.put (g.map (fun c => { c with phase := .failed })), used)
      | some n =>
        let m := { homeMsg owner .write h (h.slot d.desc c.slot) (g.length * d.length) 0 d.rows s.now with
          addr := rowAt c, lkey := some d.key, rows := if g.length = 1 then [] else g.map rowAt, rowLen := d.length }
        match s.homePost d.tenant owner n m with
        | (s, .error _) => (s, d.put (g.map (fun c => { c with phase := .failed })), used)
        | (s, .ok msn) => (s, d.put (g.map (fun c => { c with phase := .sent, msg := some (n, msn) })), used)

/-- R458: send the rows of the contributions that took slots, in the order in which their slots were taken. -/
def State.sendRows (owner : EntryRef) (d : Dispatch) (cs : List Contribution) (ans : MemAns) (s : State) : State × Dispatch :=
  let r := (groupRows d [] (cs.filter (fun c => c.took))).foldl (State.sendRun owner ans) (s, d, 0)
  (r.1, r.2.1)

/-! ### Publication (R460, R461, R470) -/

/-- Runs of consecutive slots of contributions in ascending order of slot. -/
def slotRuns : List Contribution → List (List Contribution)
  | [] => []
  | c :: cs =>
    match slotRuns cs with
    | (d :: g) :: gs => if c.slot + 1 = d.slot then (c :: d :: g) :: gs else [c] :: (d :: g) :: gs
    | gs => [c] :: gs

/-- Contributions in ascending order of slot. -/
def insertSlot (c : Contribution) : List Contribution → List Contribution
  | [] => [c]
  | d :: ds => if c.slot < d.slot then c :: d :: ds else d :: insertSlot c ds

/-- R449: the index-map entry of a slot. -/
def mapEntry (d : Dispatch) (c : Contribution) : Bytes :=
  leBytes 4 (d.tokenBase.toNat + c.tok) ++ leBytes 1 c.k ++ [1] ++ leBytes 2 d.round.toNat

/-- Write to a home, or send a message to it; the MSN of a message that was sent, or the status of a failure. -/
def State.toHome (d : Dispatch) (owner : EntryRef) (h : Home) (kind : MsgKind) (a : Nat) (imm : W32) (b : Bytes) (s : State) :
    State × Except Status (Option (Nat × W32)) :=
  if s.homeLocal h then
    match s.homeWrite d.tenant h a b with
    | (s, none) => (s, .ok none)
    | (s, some st) => (s.noteFail owner st 0, .error st)
  else
    match s.peerConn d.tenant d.desc h.adapter with
    | none => (s.noteFail owner .accessDenied 0, .error .accessDenied)
    | some n =>
      match s.homePost d.tenant owner n { homeMsg owner kind h a b.length imm ⟨1, 0, 0⟩ s.now with inline := some b } with
      | (s, .error st) => (s, .error st)
      | (s, .ok msn) => (s, .ok (some (n, msn)))

/-- The share record of an expert has passed to another round than its DISPATCH's. -/
def State.roundPassed (s : State) (d : Dispatch) (x : Nat) : Bool :=
  match s.tableRead d.tenant (edShares d.desc + 64 * x) 4 with
  | some b => leNat b ≠ d.round.toNat
  | none => true

/-- R448, R460: the map entries of each run of slots of one share. -/
def State.publishMap (owner : EntryRef) (d : Dispatch) (h : Home) (cs : List Contribution) (s : State) : State :=
  (slotRuns cs).foldl (fun s g =>
    match g with
    | [] => s
    | c :: _ => (s.toHome d owner h .write (h.map d.desc c.slot) 0 (g.flatMap (mapEntry d))).1) s

/-- R448: a share header: ROUND, PUBLISHED, HIGH, SRC_ADAPTER, PUB_SEQ. -/
def shareHeader (round : W32) (pub high adapter seq : Nat) : Bytes :=
  leBytes 4 round.toNat ++ leBytes 2 pub ++ leBytes 2 high ++ leBytes 2 adapter ++ [0, 0] ++ leBytes 2 seq ++ List.replicate 50 0

/-- R448, R460: publish contributions of one share: map entries, the share record, the header. A share whose record has
passed to another round gains none. [DEDUCED, log 79] -/
def State.publishShare (owner : EntryRef) (d : Dispatch) (x share : Nat) (cs : List Contribution) (s : State) : State × Dispatch :=
  let h := homeOf ((tget x d.entries).getD []) share
  let cs := cs.foldl (fun l c => insertSlot c l) []
  match s.roundPassed d x, (s.publishMap owner d h cs).shareRec d.tenant d.desc x d.round with
  | false, some b =>
    let s := s.publishMap owner d h cs
    let pub := srPub b share + cs.length
    let seq := srSeq b share + 1
    let s := s.putShare owner d.tenant d.desc x (putBytes (10 + 8 * share) (leBytes 2 pub ++ leBytes 2 seq) b)
    let imm := pack 32 [(20, x), (2, if share = 4 then 0 else share), (1, if share = 4 then 1 else 0), (9, d.round.toNat)]
    let r := s.toHome d owner h (if h.notify then .writeImm else .write) (h.header d.desc) imm
      (shareHeader d.round pub (srNext b share) (s.par d0_0001 0) seq)
    let lost := match r.2 with | .error _ => true | .ok _ => false
    let d := d.put (cs.map (fun c => { c with announced := true, headerLost := lost }))
    (r.1, match r.2 with | .ok (some (n, msn)) => { d with headers := d.headers ++ [(n, msn, x, share)] } | _ => d)
  | _, _ => (s, d.put (cs.map (fun c => { c with announced := true, headerLost := true })))

/-- The shares of contributions, in ascending expert, replica, spill. -/
def insertShare (x : Nat × Nat) : List (Nat × Nat) → List (Nat × Nat)
  | [] => [x]
  | y :: ys => if x = y then y :: ys else if x.1 < y.1 ∨ (x.1 = y.1 ∧ x.2 < y.2) then x :: y :: ys else y :: insertShare x ys

/-- R460: publish contributions. -/
def State.publishAll (owner : EntryRef) (d : Dispatch) (cs : List Contribution) (s : State) : State × Dispatch :=
  let shares := cs.foldl (fun l c => insertShare (c.expert.toNat, c.share) l) []
  shares.foldl (fun (a : State × Dispatch) x =>
    a.1.publishShare owner a.2 x.1 x.2 (cs.filter (fun c => c.expert.toNat = x.1 && c.share = x.2))) (s, d)

/-- A contribution whose slot message is confirmed and that is not yet announced. -/
def Contribution.publishable (c : Contribution) : Bool :=
  c.took && c.phase = .confirmed && !c.announced && !c.is rfCancelled

/-- Put a DISPATCH in its place among those in progress. -/
def State.putDispatch (d : Dispatch) (s : State) : State :=
  { s with experts := { s.experts with dispatches := s.experts.dispatches.map (fun x => if x.ref = d.ref then d else x) } }
def State.dropDispatch (d : Dispatch) (s : State) : State :=
  { s with
    experts := { s.experts with dispatches := s.experts.dispatches.filter (fun x => x.ref ≠ d.ref) }
    time := { s.time with triggers := s.time.triggers.filter (fun t =>
      !(t.kind = .deadline && t.ring = d.ref.ring && t.first = d.ref.first && t.entry = d.ref.pos)) } }

/-- R453, R461: PLACED follows the confirmation of the slot message, PUBLISHED that of the header. -/
def Contribution.marked (c : Contribution) : Contribution :=
  let f := if c.took && c.phase = .confirmed then c.flags ||| rfPlaced else c.flags
  { c with flags := if c.announced && !c.headerLost then (f ||| rfPublished) &&& ~~~rfTentative else f }

/-- How many contributions a test names. -/
def Dispatch.howMany (d : Dispatch) (p : Contribution → Bool) : Nat := (d.contribs.filter p).length

/-- R457, R466: an entry reports its drops. [DEDUCED, log 79] -/
def State.noteDrops (e : EntryRef) (n : Nat) (s : State) : State := if n = 0 then s else s.noteFail e .capacityOverflow n

/-- R457, R461, R466: a DISPATCH whose headers are confirmed completes; with it the CONFIRM that published it. -/
def State.endDispatch (d : Dispatch) (s : State) : State :=
  let d := { d with contribs := d.contribs.map Contribution.marked }
  let s := (s.putRecords d).dropDispatch d
  let s := s.noteDrops d.ref (d.howMany (fun c => c.is rfFull && !c.fresh))
  let s := if d.contribs.any (fun c => c.is rfInvalid && !c.fresh) then s.noteFail d.ref .accessDenied 0 else s
  let s := s.endEntry d.ref
  match d.confirm with
  | none => s
  | some e =>
    let s := s.noteDrops e (d.howMany (fun c => c.fresh && c.is rfFull || c.is rfCancelled))
    let s := if d.contribs.any (fun c => c.is rfInvalid && c.fresh) then s.noteFail e .accessDenied 0 else s
    s.endEntry e

/-- PUBLISH (R459 to R461, R466): the DISPATCH of an entry publishes what R460 allows, and completes when nothing of it is
left; under a CONFIRM its contributions are published together. -/
def execPublish (ring : Nat) (first : W32) (pos : Nat) (s : State) : Outcome :=
  match s.experts.dispatches.find? (fun d => d.ref = ⟨ring, first, pos⟩) with
  | none => .next s
  | some d =>
    let waits := d.contribs.any (fun c => c.phase = .sent)
    if d.spec.isSome && (d.confirm.isNone || waits) then .next s
    else
      let owner := d.confirm.getD d.ref
      let r := s.publishAll owner d (d.contribs.filter Contribution.publishable)
      let d := r.2
      let s := (r.1.putDispatch d).putRecords { d with contribs := d.contribs.map (fun c =>
        { c with flags := if c.took && c.phase = .confirmed then c.flags ||| rfPlaced else c.flags }) }
      .next (if !waits && d.headers.isEmpty then s.endDispatch d else s)

/-! ### DISPATCH (R450 to R463) -/

/-- R450: fields of a DISPATCH entry. -/
def dpRecKey (w : W512) : W32 := field 256 32 w
def dpTokens (w : W512) : Nat := entAt 36 0 16 w
def dpTopk (w : W512) : Nat := entAt 38 0 8 w
def dpMode (w : W512) : Nat := entAt 39 0 8 w
def dpTokenBase (w : W512) : W32 := field 320 32 w
def dpSpecId (w : W512) : W32 := field 352 32 w
def dpDeadline (w : W512) : W32 := field 384 32 w
def dpRound (w : W512) : W32 := field 416 32 w
def dpRecord (w : W512) : Nat := entAt 56 0 64 w
def dpStage (w : W512) : Nat := entAt 56 0 6 w

/-- R450, R451: the malformed fields of a DISPATCH entry. -/
def dispatchBad (w : W512) : Option Nat :=
  let rows := dpMode w = 0
  let n := entLength w
  firstBad [
    (1, flagsDirty w || entInline w),
    (4, entTarget w ≠ 0),
    (16, !rows && entRemote w ≠ 0),
    (24, if rows then !(64 ≤ n && n ≤ 1048576) else !(1 ≤ n && n ≤ longestMessage)),
    (32, !rows && dpRecKey w ≠ 0),
    (36, if rows then dpTokens w = 0 else dpTokens w ≠ 0),
    (38, if rows then !(1 ≤ dpTopk w && dpTopk w ≤ 16) else dpTopk w ≠ 0),
    (39, dpMode w > 1),
    (44, (entSpec w) = (dpSpecId w = 0)),
    (48, !entSpec w && dpDeadline w ≠ 0),
    (56, !rows && dpRecord w ≥ 64)]

/-- R463: unresolved speculations of the package (D11.0001), and of a tenant (D11.0108). -/
def State.speculations (s : State) : List (Nat × W32) :=
  s.experts.dispatches.filterMap (fun d => if d.phase = .open_ then d.spec.map (fun i => (d.tenant, i)) else none)
  ++ s.experts.prefetches.filterMap (fun p => p.spec.map (fun i => (p.tenant, i)))
def State.tenantSpecs (s : State) (t : Nat) : Nat := (s.speculations.filter (fun x => x.1 = t)).length

/-- R463: the deadline trigger that the acceptance of an entry armed. -/
def State.deadlineOf (s : State) (e : EntryRef) : Option Trigger :=
  s.time.triggers.find? (fun t => t.kind = .deadline && t.ring = e.ring && t.first = e.first && t.entry = e.pos)

/-- R463: why a SPEC DISPATCH is cancelled at once. -/
def State.specRefused (s : State) (t : Nat) (e : EntryRef) (w : W512) : Option Nat :=
  if !entSpec w then none
  else if (s.deadlineOf e).isNone then some 1
  else if s.tenantSpecs t ≥ s.par d11_8002 t || s.speculations.length ≥ 8192 then some 2
  else if s.speculations.contains (t, dpSpecId w) then some 3
  else none

/-- R463: a SPEC DISPATCH that is cancelled at once. -/
def State.refuseSpec (e : EntryRef) (why : Nat) (s : State) : State :=
  ({ s with time := { s.time with triggers := match s.deadlineOf e with
      | some t => s.time.triggers.erase t | none => s.time.triggers } } : State).failEntry e .cancelled why

/-- R469: a SPEC_ID is in use again. -/
def State.reuseSpec (t : Nat) (w : W512) (s : State) : State :=
  if entSpec w then { s with experts := { s.experts with cancelled := s.experts.cancelled.filter (· ≠ (t, dpSpecId w)) } } else s

/-- R452, R456: the choices of a router output, in token order and ascending k. -/
def choices (tokens topk : Nat) (b : Bytes) : List (Nat × Nat × W32) :=
  (upTo tokens).flatMap (fun t => (upTo topk).map (fun k => (t, k, BitVec.ofNat 32 (leAt (8 * (t * topk + k)) 4 b))))

/-- R451: the local ranges of a DISPATCH of MODE 0: rows, router output, record. -/
def dispatchNeeds (w : W512) : List Need :=
  let n := 8 * dpTokens w * dpTopk w
  [⟨entKey w, 0, entLocal w, entLength w * dpTokens w⟩, ⟨dpRecKey w, 0, entRemote w, n⟩,
    ⟨dpRecKey w, 0, dpRecord w, n⟩, ⟨dpRecKey w, 1, dpRecord w, n⟩]

/-- R456: take the slots of a list of choices. -/
def State.takeSlots (d : Dispatch) (owner : EntryRef) (fresh : Bool) (l : List (Nat × Nat × W32)) (s : State) :
    State × Dispatch × List Contribution :=
  l.foldl (fun (a : State × Dispatch × List Contribution) x =>
    let r := a.1.takeSlot a.2.1 owner x.1 x.2.1 x.2.2 fresh
    (r.1, r.2.1, a.2.2 ++ [r.2.2])) (s, d, [])

/-- DISPATCH_TOKENS (R441, R450 to R463): `router` is what the read of the router output returns, `rows` what the reads
of rows for homes on this adapter return when the rows lie outside package memory. -/
def execDispatchTokens (t ring : Nat) (router rows : MemAns) (s : State) : Outcome :=
  match s.readyEntry t ring 0x30 with
  | none => .next s
  | some (e, w) =>
    if dpMode w ≠ 0 then .next s
    else if !edValid (s.expertDesc t) then .next (s.failEntry e .accessDenied 0)
    else
      .next (s.withNeeds t e (dispatchNeeds w) (fun rs s =>
        match s.specRefused t e w with
        | some why => s.refuseSpec e why
        | none =>
          let s := (s.reuseSpec t w).runEntry e
          let at_ := fun (i : Nat) => (rs.map Realm.place).getD i ⟨1, 0, 0⟩
          let n := 8 * dpTokens w * dpTopk w
          match s.placeRead t (at_ 1) (entRemote w) n router with
          | none => (s.readFailed t (at_ 1) (entRemote w) n).failEntry e .busError 0
          | some b =>
            let d : Dispatch := {
              ref := e, tenant := t, desc := s.expertDesc t, round := dpRound w, tokens := dpTokens w, topk := dpTopk w
              tokenBase := dpTokenBase w, length := entLength w, rows := at_ 0, rowAddr := entLocal w, recs := at_ 3, key := entKey w
              recAddr := dpRecord w, spec := if entSpec w then some (dpSpecId w) else none }
            let r := s.takeSlots d e false (choices (dpTokens w) (dpTopk w) b)
            let d := { r.2.1 with contribs := r.2.2 }
            let q := r.1.sendRows e d r.2.2 rows
            let s := { q.1 with experts := { q.1.experts with dispatches := q.1.experts.dispatches ++ [q.2] } }
            s.putRecords q.2))

/-! ### Cancelling (R467 to R470) -/

/-- R467: cancel contributions: CANCELLED replaces TENTATIVE, and their slots are freed. -/
def Dispatch.cancel (d : Dispatch) (p : Contribution → Bool) : Dispatch × List FreedSlot :=
  let hit := fun (c : Contribution) => c.is rfTentative && p c
  ({ d with contribs := d.contribs.map (fun c => if hit c then { c with flags := (c.flags &&& ~~~rfTentative) ||| rfCancelled } else c) },
    (d.contribs.filter hit).map (fun c =>
      { tenant := d.tenant, desc := d.desc, expert := c.expert.toNat, share := c.share, slot := c.slot, round := d.round
        pending := if c.phase = .sent then c.msg else none }))

/-- R468: NEXT of a share falls past the freed slots at its top. -/
def lowerNext (free : Nat → Bool) : Nat → Nat
  | 0 => 0
  | n + 1 => if free n then lowerNext free n else n + 1

/-- R468: the freed slots at the top of a share whose slot messages have ended are released. [DEDUCED, log 79] -/
def State.releaseShare (t expert share : Nat) (s : State) : State :=
  match s.experts.freed.find? (fun f => f.tenant = t && f.expert = expert && f.share = share) with
  | none => s
  | some f =>
    let mine := fun (g : FreedSlot) => g.tenant = t && g.expert = expert && g.share = share && g.desc = f.desc
    match s.tableRead t (edShares f.desc + 64 * expert) 64 with
    | none => s
    | some b =>
      let live := s.experts.freed.filter (fun g => mine g && leAt 0 4 b = g.round.toNat)
      let next := lowerNext (fun j => live.any (fun g => g.slot = j && g.pending.isNone)) (srNext b share)
      let keep := s.experts.freed.filter (fun g => !mine g || (leAt 0 4 b = g.round.toNat && g.slot < next))
      let s := { s with experts := { s.experts with freed := keep } }
      if next = srNext b share then s
      else (s.placeWrite t ⟨1, 0, 0⟩ (edShares f.desc + 64 * expert) (putBytes (8 + 8 * share) (leBytes 2 next) b)).getD s

/-- R467, R468: enter freed slots, count the contributions cancelled, and release what stands at the top of its share and
has no message on its way. [DEDUCED, log 79] -/
def State.freeSlots (t : Nat) (l : List FreedSlot) (s : State) : State :=
  let s := ({ s with experts := { s.experts with freed := s.experts.freed ++ l } } : State).count d11_0104 t l.length
  (l.map (fun f => (f.expert, f.share))).eraseDups.foldl (fun s x => s.releaseShare t x.1 x.2) s

/-- R464: PLACED is set once every slot message of a speculation is confirmed or has failed. [DEDUCED, log 79] -/
def Dispatch.markPlaced (d : Dispatch) : Dispatch :=
  if d.contribs.any (fun c => c.phase = .sent) then d
  else { d with contribs := d.contribs.map (fun c => if c.took && c.phase = .confirmed then { c with flags := c.flags ||| rfPlaced } else c) }

/-- R467, R469: a tenant's speculation is cancelled; a DISPATCH's chain then ends with the status given, if any. -/
def State.cancelSpec (t : Nat) (id : W32) (status : Option Status) (s : State) : State :=
  let fail := fun (e : EntryRef) (s : State) => match status with | some st => s.failEntry e st 0 | none => s
  let note := fun (s : State) => { s with experts := { s.experts with cancelled := s.experts.cancelled ++ [(t, id)] } }
  match s.experts.dispatches.find? (fun d => d.tenant = t && d.spec = some id && d.phase = .open_) with
  | some d =>
    let r := d.cancel (fun _ => true)
    fail d.ref (note (((s.putRecords r.1.markPlaced).freeSlots t r.2).dropDispatch d))
  | none =>
    match s.experts.prefetches.find? (fun p => p.tenant = t && p.spec = some id) with
    | some p =>
      fail p.ref (note { s with
        experts := { s.experts with prefetches := s.experts.prefetches.filter (fun (q : Prefetch) => q.ref ≠ p.ref) }
        localReads := s.localReads.filter (fun r => r.ref ≠ p.ref)
        time := { s.time with triggers := match s.deadlineOf p.ref with | some t => s.time.triggers.erase t | none => s.time.triggers } })
    | none => s

/-- R467: the deadline of a speculation has passed with no CONFIRM or CANCEL started before it. -/
def State.specDue (s : State) (t : Nat) (id : W32) : Bool :=
  let due := fun (e : EntryRef) => match s.deadlineOf e with | some x => x.time ≤ s.now | none => false
  s.experts.dispatches.any (fun d => d.tenant = t && d.spec = some id && d.phase = .open_ && !d.started && due d.ref) ||
  s.experts.prefetches.any (fun p => p.tenant = t && p.spec = some id && !p.started && due p.ref)

/-- R467: the deadline acts. -/
def State.expireSpec (t : Nat) (id : W32) (s : State) : State :=
  if s.specDue t id then (s.bump d11_0105 t).cancelSpec t id (some .cancelled) else s

/-- SPEC_DEADLINE (R61, R89, R467). -/
def execSpecDeadline (t : Nat) (id : W32) (s : State) : Outcome := .next (s.expireSpec t id)

/-- R467: the ring of an entry is aborted or its tenant reset: its DISPATCH, prefetch or COMBINE ends. -/
def State.abandonExpert (e : EntryRef) (s : State) : State :=
  match s.experts.dispatches.find? (fun d => d.ref = e), s.experts.prefetches.find? (fun p => p.ref = e) with
  | some d, _ => (match d.spec with
      | some id => if d.phase = .open_ then s.cancelSpec d.tenant id none else s.dropDispatch d
      | none => s.dropDispatch d)
  | none, some p => (match p.spec with
      | some id => s.cancelSpec p.tenant id none
      | none => { s with experts := { s.experts with prefetches := s.experts.prefetches.filter (fun (q : Prefetch) => q.ref ≠ e) } })
  | none, none => { s with experts := { s.experts with combines := s.experts.combines.filter (fun k => k.ref ≠ e) } }

/-- SLOT_RELEASE (R468): the freed slots at the top of a share are released. -/
def execSlotRelease (t expert share : Nat) (s : State) : Outcome := .next (s.releaseShare t expert share)

/-! ### CONFIRM and CANCEL (R465 to R470) -/

/-- R465: the malformed fields of a CONFIRM or a CANCEL. -/
def resolveBad (confirm : Bool) (w : W512) : Option Nat :=
  firstBad [
    (1, flagsDirty w || entFence w || entSpec w || entInline w),
    (4, entTarget w ≠ 0),
    (8, entLocal w ≠ 0),
    (16, if confirm then entRemote w = 0 && entKey w ≠ 0 else entRemote w ≠ 0),
    (24, entLength w ≠ 0),
    (28, if confirm then entRemote w ≠ 0 && entKey w = 0 else entKey w ≠ 0),
    (32, entDirty 32 4 w),
    (36, entDirty 36 2 w),
    (38, entDirty 38 1 w),
    (39, entDirty 39 1 w),
    (40, entDirty 40 4 w),
    (48, entDirty 48 4 w),
    (52, entDirty 52 4 w),
    (56, entDirty 56 8 w)]

/-- R469: a CONFIRM or CANCEL of a SPEC_ID that is confirmed or unknown is malformed at byte 44. -/
def State.unknownSpec (t : Nat) (e : EntryRef) (s : State) : State :=
  s.lateMalformed t e 44

/-- A CONFIRM or CANCEL of the speculation has started. -/
def State.startSpec (t : Nat) (id : W32) (s : State) : State :=
  { s with experts := { s.experts with
      dispatches := s.experts.dispatches.map (fun d => if d.tenant = t && d.spec = some id then { d with started := true } else d)
      prefetches := s.experts.prefetches.map (fun p => if p.tenant = t && p.spec = some id then { p with started := true } else p) } }

/-- R466: the choices that a final output changes: the contribution, and its new choice. -/
def Dispatch.changes (d : Dispatch) (b : Bytes) : List (Contribution × W32) :=
  d.contribs.filterMap (fun c =>
    let n : W32 := BitVec.ofNat 32 (leAt (8 * (c.tok * d.topk + c.k)) 4 b)
    if n = c.expert then none else some (c, n))

/-- R466, R470: a placed speculation is confirmed: changed choices are cancelled and taken anew, the rest is published by
PUBLISH. [DEDUCED, log 79] -/
def State.confirmDispatch (e : EntryRef) (d : Dispatch) (final : Option Bytes) (rows : MemAns) (s : State) : State :=
  let changed := match final with | some b => d.changes b | none => []
  let isChanged := fun (c : Contribution) => changed.any (fun x => x.1.tok = c.tok && x.1.k = c.k)
  let r := d.cancel (fun c => isChanged c || s.roundPassed d c.expert.toNat)
  let s := s.freeSlots d.tenant r.2
  let d := { r.1 with
    contribs := r.1.contribs.filter (fun c => !isChanged c), confirm := some e, phase := .confirmed, started := true }
  let q := s.takeSlots d e true (changed.map (fun x => (x.1.tok, x.1.k, x.2)))
  let d := { q.2.1 with contribs := q.2.1.contribs ++ q.2.2 }
  let z := q.1.sendRows e d q.2.2 rows
  (z.1.putDispatch z.2).runEntry e

/-- R479, R480: write a stage's publication record, its SEQ raised, and wait for its read-backs. -/
def State.writePub (p : Prefetch) (expert : W32) (next : Nat) (s : State) : State :=
  let k := 64 * p.tenant + p.stage
  let seq := (tgetD s.experts.stageSeq k 0 + 1) % 4294967296
  let b := leBytes 4 expert.toNat ++ leBytes 4 p.length ++ leBytes 4 seq ++ leBytes 4 p.round.toNat
  let s := { s with experts := { s.experts with stageSeq := tput 0 k seq s.experts.stageSeq } }
  let drop := fun (s : State) => { s with experts := { s.experts with prefetches := s.experts.prefetches.filter (fun (q : Prefetch) => q.ref ≠ p.ref) } }
  match s.placeWrite p.tenant p.dst p.pub b with
  | none => (drop s).failEntry p.ref .busError 0
  | some s =>
    let n := readsOf p.dst p.pubCross
    let s := s.emitReads p.dst p.pub n
    { s with localReads := s.localReads ++ [{ ref := p.ref, left := n, next := next }] }

/-- CONFIRM (R465 to R470, R480): `final` is what the read of the final router output returns, `rows` what the reads of
rows for homes on this adapter return. -/
def execConfirm (t ring : Nat) (final rows : MemAns) (s : State) : Outcome :=
  match s.readyEntry t ring 0x32 with
  | none => .next s
  | some (e, w) =>
    let id := dpSpecId w
    let s := s.expireSpec t id
    match s.experts.dispatches.find? (fun d => d.tenant = t && d.spec = some id && d.phase = .open_) with
    | some d =>
      if d.contribs.any (fun c => c.phase = .sent) then .next (s.startSpec t id)
      else if entRemote w = 0 then .next (s.confirmDispatch e d none rows)
      else
        let n := 8 * d.tokens * d.topk
        .next ((s.startSpec t id).withNeeds t e [⟨entKey w, 0, entRemote w, n⟩] (fun rs s =>
          let p := (rs.map Realm.place).getD 0 ⟨1, 0, 0⟩
          match s.placeRead t p (entRemote w) n final with
          | none => (s.readFailed t p (entRemote w) n).failEntry e .busError 0
          | some b => s.confirmDispatch e { d with started := true } (some b) rows))
    | none =>
      match s.experts.prefetches.find? (fun p => p.tenant = t && p.spec = some id && p.confirm.isNone) with
      | some p =>
        if !p.copied then .next (s.startSpec t id)
        else
          let p := { p with confirm := some e, started := true }
          let s := { s with experts := { s.experts with
            prefetches := s.experts.prefetches.map (fun (q : Prefetch) => if q.ref = p.ref then p else q) } }
          .next ((s.runEntry e).writePub p p.expert 0)
      | none =>
        if s.experts.cancelled.contains (t, id) then .next (s.failEntry e .cancelled 0) else .next (s.unknownSpec t e)

/-- CANCEL (R465, R467, R469). -/
def execCancel (t ring : Nat) (s : State) : Outcome :=
  match s.readyEntry t ring 0x33 with
  | none => .next s
  | some (e, w) =>
    let id := dpSpecId w
    let s := s.expireSpec t id
    if s.experts.dispatches.any (fun d => d.tenant = t && d.spec = some id && d.phase = .open_) ||
       s.experts.prefetches.any (fun p => p.tenant = t && p.spec = some id && p.confirm.isNone) then
      .next ((s.cancelSpec t id (some .cancelled)).endEntry e)
    else if s.experts.cancelled.contains (t, id) then .next (s.endEntry e)
    else .next (s.unknownSpec t e)

/-! ### Weight prefetch (R477 to R480) -/

/-- R477: a stage's descriptor. -/
def State.stageDesc (s : State) (t i : Nat) : Bytes := s.parBlob d11_8004 t (32 * i) 32
def wsKey (d : Bytes) : W32 := BitVec.ofNat 32 (leAt 0 4 d)
def wsValid (d : Bytes) : Bool := leAt 4 1 d % 2 = 1
def wsBase (d : Bytes) : Nat := leAt 8 8 d
def wsSize (d : Bytes) : Nat := leAt 16 8 d
def wsPub (d : Bytes) : Nat := leAt 24 8 d

/-- DISPATCH_WEIGHTS (R463, R477 to R480): the record names no expert, then the weights are copied. `ans` is what the read
of weights outside package memory returns. -/
def execDispatchWeights (t ring : Nat) (ans : MemAns) (s : State) : Outcome :=
  match s.readyEntry t ring 0x30 with
  | none => .next s
  | some (e, w) =>
    if dpMode w ≠ 1 then .next s
    else
      let d := s.stageDesc t (dpStage w)
      if !edValid (s.expertDesc t) || !wsValid d || entLength w > wsSize d then .next (s.failEntry e .accessDenied 0)
      else
        .next (s.withNeeds t e [⟨entKey w, 0, entLocal w, entLength w⟩, ⟨wsKey d, 1, wsBase d, entLength w⟩, ⟨wsKey d, 1, wsPub d, 16⟩]
          (fun rs s =>
            match s.specRefused t e w with
            | some why => s.refuseSpec e why
            | none =>
              let s := (s.reuseSpec t w).runEntry e
              let at_ := fun (i : Nat) => (rs.map Realm.place).getD i ⟨1, 0, 0⟩
              let cross := fun (i a n : Nat) => match rs[i]? with | some r => r.crossPath a n | none => false
              let data := if (at_ 0).space = 1 then some [] else s.placeRead t (at_ 0) (entLocal w) (entLength w) ans
              match data with
              | none => s.failEntry e .busError 0
              | some b =>
                let p : Prefetch := {
                  ref := e, tenant := t, stage := dpStage w, expert := dpTokenBase w, length := entLength w, round := dpRound w
                  src := at_ 0, srcAddr := entLocal w, dst := at_ 1, base := wsBase d, size := wsSize d, pub := wsPub d
                  cross := cross 1 (wsBase d) (entLength w), pubCross := cross 2 (wsPub d) 16
                  spec := if entSpec w then some (dpSpecId w) else none, data := b }
                let s := { s with experts := { s.experts with prefetches := s.experts.prefetches ++ [p] } }
                s.writePub p 0xFFFFFFFF 1))

/-- R479: step 3: the weights are copied, and read back. -/
def State.copyWeights (p : Prefetch) (s : State) : State :=
  let drop := fun (s : State) => { s with experts := { s.experts with prefetches := s.experts.prefetches.filter (fun (q : Prefetch) => q.ref ≠ p.ref) } }
  match (if p.src.space = 1 then s.placeRead p.tenant p.src p.srcAddr p.length (.data []) else some p.data) with
  | none => (drop (s.readFailed p.tenant p.src p.srcAddr p.length)).failEntry p.ref .busError 0
  | some b =>
    match s.placeWrite p.tenant p.dst p.base b with
    | none => (drop s).failEntry p.ref .busError 0
    | some s =>
      let n := readsOf p.dst p.cross
      let s := (s.emitReads p.dst (lastWord p.base p.length) n).addBytes p.ref p.length
      { s with localReads := s.localReads ++ [{ ref := p.ref, left := n, next := 2 }] }

/-- R479, R480: step 4: the copy has been read back: it is published, or waits for its CONFIRM. -/
def State.weightsCopied (p : Prefetch) (s : State) : State :=
  let p := { p with copied := true, data := [] }
  let s := { s with experts := { s.experts with prefetches := s.experts.prefetches.map (fun (q : Prefetch) => if q.ref = p.ref then p else q) } }
  if p.spec.isSome then s else s.writePub p p.expert 0

/-- R479, R480: the record names the expert: the prefetch is resolved. -/
def State.endPrefetch (p : Prefetch) (s : State) : State :=
  let s := { s with
    experts := { s.experts with prefetches := s.experts.prefetches.filter (fun (q : Prefetch) => q.ref ≠ p.ref) }
    time := { s.time with triggers := match s.deadlineOf p.ref with | some t => s.time.triggers.erase t | none => s.time.triggers } }
  let s := s.endEntry p.ref
  match p.confirm with | some e => s.endEntry e | none => s

/-- R249 to R253, R435, R479: a read-back that an entry waits for completes, or fails. -/
def State.entryReadDone (e : EntryRef) (ok : Bool) (s : State) : State :=
  if s.ownerOpcode e = 0x40 then
    match s.localReads.find? (fun r => r.ref = e) with
    | none => s
    | some r =>
      let rest := s.localReads.filter (fun r => r.ref ≠ e)
      let s := { s with localReads := if r.left ≤ 1 then rest else { r with left := r.left - 1 } :: rest }
      let s := if ok then s else s.noteFail e .busError 0
      if s.ownerBusy e then s else s.endEntry e
  else
    let pf := s.experts.prefetches.find? (fun p => p.ref = e)
    match s.localReadDone e ok with
    | (s, none) =>
      if ok then s
      else { s with experts := { s.experts with prefetches := s.experts.prefetches.filter (fun (q : Prefetch) => q.ref ≠ e) } }
    | (s, some r) =>
      match pf, r.next with
      | some p, 0 => s.endPrefetch p
      | some p, 1 => s.copyWeights p
      | some p, _ => s.weightsCopied p
      | none, _ => s.endEntry e

/-- READBACK_DONE (R244, R249 to R251): a read-back completes, or fails. -/
def execReadbackDone (target : ReadFor) (ok : Bool) (s : State) : Outcome :=
  match target with
  | .peer c msn => .next (s.peerReadDone c msn ok)
  | .own c msn => .next (s.ownReadDone c msn ok)
  | .entry ring first pos => .next (s.entryReadDone ⟨ring, first, pos⟩ ok)

/-! ### COMBINE (R471 to R476) -/

/-- R471: fields of a COMBINE entry. -/
def cbHandle (w : W512) : Nat := fieldNat 32 12 w
def cbFormat (w : W512) : Nat := entAt 39 0 8 w
def cbFirst (w : W512) : Nat := entAt 40 0 32 w
def cbHidden (w : W512) : Nat := entAt 44 0 32 w

/-- R471, R472: the malformed fields of a COMBINE entry. -/
def combineBad (w : W512) : Option Nat :=
  let f := cbFormat w
  let known := 1 ≤ f && f ≤ 0x0C
  firstBad [
    (1, flagsDirty w || entInline w || entSpec w),
    (4, fieldNat 44 20 w ≠ 0),
    (8, entLocal w ≠ 0),
    (24, known && entLength w ≠ bytesFor f (cbHidden w)),
    (32, entDirty 32 4 w),
    (36, dpTokens w = 0),
    (38, !(1 ≤ dpTopk w && dpTopk w ≤ 16)),
    (39, !known),
    (44, !(1 ≤ cbHidden w && cbHidden w ≤ 1048576) || (known && isMx f && cbHidden w % 32 ≠ 0)),
    (48, entDirty 48 8 w)]

/-- R473: one record entry of a COMBINE: its read is sent, or its row read on this adapter; a failure is the first. -/
def State.combineOne (e : EntryRef) (_d : Dispatch) (w : W512) (router recs : Bytes) (acc : State × Combine × Dispatch × Nat) (i : Nat)
    (rows : MemAns) : State × Combine × Dispatch × Nat :=
  let (s, k, d, used) := acc
  let r := slice (8 * i) 8 recs
  let flags : BitVec 8 := BitVec.ofNat 8 (leAt 3 1 r)
  if flags &&& rfPublished = 0 then (s.bump d11_0106 d.tenant, k, d, used)
  else if flags &&& (rfFull ||| rfInvalid ||| rfCancelled) ≠ 0 then (s, k, d, used)
  else
    let x := leAt 4 4 r
    let share := if flags &&& rfSpilled ≠ 0 then 4 else leAt 2 1 r
    let fail := fun (s : State) (d : Dispatch) (st : Status) => (s, { k with failed := k.failed.or (some (st.code, 0)) }, d, used)
    match s.latch d x with
    | none => fail s d .accessDenied
    | some (d, en) =>
      if share > 4 || (share < 4 && share ≥ deCount en) then fail s d .accessDenied
      else
        let h := homeOf en share
        let a := h.slot d.desc (leAt 0 2 r) + h.out
        let gate : W32 := BitVec.ofNat 32 (leAt (8 * i + 4) 4 router)
        let dest := hdBase k.desc + 64 * (cbFirst w + i / dpTopk w * cbHidden w)
        if s.homeLocal h then
          match s.realmCheck d.tenant (s.tenant d.tenant).inc h.key 0 a (entLength w) true true none with
          | .error why => fail (s.countRemoteRefused h.key d.tenant) d (remoteStatus why)
          | .ok rl =>
            match s.readParts d.tenant rl.place rows [(a, entLength w)] used with
            | none => fail (s.readFailed d.tenant rl.place a (entLength w)) d .busError
            | some b =>
              let hold : AccHold := {
                source := .row e, tower := extentTower (extentOf dest), tenant := d.tenant, addr := dest, fmt := cbFormat w, op := 0
                gens := s.gensOf dest (64 * cbHidden w)
                gate := some gate, payload := b, len := 0 }
              ({ s with cupola := { s.cupola with input := s.cupola.input ++ [hold] } }, { k with rows := k.rows + 1 }, d,
                if rl.place.space = 1 then used else used + entLength w)
        else
          match s.peerConn d.tenant d.desc h.adapter with
          | none => fail s d .accessDenied
          | some n =>
            let m := { homeMsg e .read h a (entLength w) (BitVec.ofNat 32 (cbFormat w)) ⟨1, 0, 0⟩ s.now with addr := dest, gate := some gate }
            match s.connUse d.tenant n, s.conn? n with
            | .fail st, _ => fail s d st
            | _, some c =>
              let msn := c.ctx.delivery.txMsn
              ((s.fetchCtx n).post n { m with chunk := c.ctx.core.payload, packets := 1 }, { k with reads := k.reads ++ [(n, msn)] }, d, used)
            | _, none => fail s d .accessDenied

/-- COMBINE (R441, R471 to R473): `router` and `recs` are what the reads of the router output and the dispatch record
return, `rows` what the reads of rows at homes on this adapter return. -/
def execCombine (t ring : Nat) (router recs rows : MemAns) (s : State) : Outcome :=
  match s.readyEntry t ring 0x31 with
  | none => .next s
  | some (e, w) =>
    match s.handleDesc? t (cbHandle w) with
    | none => .next (s.failEntry e .accessDenied 0)
    | some hd =>
      let count := dpTokens w * cbHidden w
      let n := 8 * dpTokens w * dpTopk w
      if !edValid (s.expertDesc t) || hdOp hd ≠ 0 || cbFirst w + count > hdSegCount hd * hdSegElems hd then
        .next (s.failEntry e .accessDenied 0)
      else
        let ns : List Need := [⟨entKey w, 0, entRemote w, n⟩, ⟨entKey w, 0, dpRecord w, n⟩, ⟨hdKey hd, 1, hdBase hd + 64 * cbFirst w, 64 * count⟩]
        .next (s.withNeeds t e ns (fun rs s =>
          let tower := extentTower (extentOf (hdBase hd))
          if s.domShut (domCupola tower) || s.domShut (domTower tower) then s.failEntry e .poweredDown 0
          else
            let s := s.runEntry e
            let p := (rs.map Realm.place).getD 0 ⟨1, 0, 0⟩
            match s.placeRead t p (entRemote w) n router, s.placeRead t p (dpRecord w) n recs with
            | some g, some b =>
              let k : Combine := { ref := e, tenant := t, handle := cbHandle w, desc := hd, first := cbFirst w, count := count }
              let d : Dispatch := {
                ref := e, tenant := t, desc := s.expertDesc t, round := 0, tokens := dpTokens w, topk := dpTopk w, tokenBase := 0
                length := 0, rows := p, rowAddr := 0, recs := p, recAddr := 0 }
              let r := (upTo (dpTokens w * dpTopk w)).foldl (fun a i => State.combineOne e d w g b a i rows) (s, k, d, 0)
              { r.1 with experts := { r.1.experts with combines := r.1.experts.combines ++ [r.2.1] } }
            | _, _ => ((s.readFailed t p (entRemote w) n).readFailed t p (dpRecord w) n).failEntry e .busError 0))

/-- R408, R473, R474: products of a gate weight and bytes of a row into its accumulators, from byte `off`. Whole units are
added; parts of a unit that two packets share wait in `frags`. -/
def splitUnits (u off : Nat) (b : Bytes) : List (Nat × Nat × Bytes) × Nat × Bytes :=
  let head := if off % u = 0 then 0 else min b.length (u - off % u)
  let body := (b.length - head) / u * u
  let tail := b.length - head - body
  ((if head = 0 then [] else [(off / u, off % u, b.take head)])
    ++ (if tail = 0 then [] else [((off + head + body) / u, 0, b.drop (head + body))]),
   (off + head) / u, (b.drop head).take body)

/-- Parts of one unit that are complete: the unit's bytes. -/
def joinUnit (u j : Nat) (l : List (Nat × Nat × Bytes)) : Option Bytes :=
  let mine := l.filter (fun x => x.1 = j)
  if (mine.foldl (fun n x => n + x.2.2.length) 0) < u then none
  else some (mine.foldl (fun b x => putBytes x.2.1 x.2.2 b) (List.replicate u 0))

/-- Add the products of `n` units from unit `j` of a row whose accumulators begin at `a`. -/
def State.addRow (h : AccHold) (a j : Nat) (b : Bytes) (s : State) : Option State :=
  let n := elemsIn h.fmt b.length
  if n = 0 then some s
  else
    (s.applyAccs h.tower (a + 64 * unitElems h.fmt * j) n (fun as => addProducts h.fmt (h.gate.getD 0) as b)).map
      (·.useLanes h.tower h.tenant (2 * n))

/-- R474: apply a held response of a COMBINE's READ exactly once. -/
def State.applyResponse (h : AccHold) (c : Nat) (psn msn : W32) (index : Nat) (s : State) : State :=
  match s.conn? c with
  | none => s
  | some x =>
    match x.msg? msn false with
    | none => s
    | some m =>
      if x.ctx.core.incarnation ≠ h.inc then s
      else if x.received psn then
        let k := x.ctx.core
        (s.setConn c { x with ctx := { x.ctx with core := { k with duplicates := k.duplicates + 1 } } }).sendAck c psn h.tag h.rxTag
          (h.echo ||| 128)
      else
        let u := unitBytes h.fmt
        let sp := splitUnits u h.off h.payload
        let frags := m.frags ++ sp.1
        let joined := ((sp.1.map (fun f => f.1)).eraseDups).filterMap (fun j => (joinUnit u j frags).map (fun b => (j, b)))
        let frags := frags.filter (fun f => !joined.any (fun x => x.1 = f.1))
        let k := x.ctx.core
        let y := x.markReceived psn
        let y := ({ y with ctx := { y.ctx with core := { y.ctx.core with pktsRx := k.pktsRx + 1 } } } : Conn).touch s.now
        let note := fun (bad : Bool) (m : TxMsg) => { m with
          gotResp := if m.gotResp.contains index then m.gotResp else index :: m.gotResp
          lastResp := if h.off + h.payload.length = m.length then some index else m.lastResp
          frags := frags, failed := m.failed || bad }
        let applied := ((sp.2.1, sp.2.2) :: joined).foldl (fun (o : Option State) p => o.bind (State.addRow h m.addr p.1 p.2)) (some s)
        let bad := applied.isNone
        let s := applied.getD s
        ((s.setConn c (y.modifyMsg msn false (note bad))).ackAccepted c x psn h.tag h.rxTag h.echo).readEnd c msn

/-- R475: a COMBINE whose every read has been applied, or has failed. -/
def State.endCombine (k : Combine) (s : State) : State :=
  let s := { s with experts := { s.experts with combines := s.experts.combines.filter (fun x => x.ref ≠ k.ref) } }
  match k.failed with
  | some f => s.modifyChain k.ref.ring k.ref.first (failEntryIn s.now k.ref.pos f.1 f.2)
  | none => (s.raiseArrived k.handle k.desc k.first k.count).endEntry k.ref

/-- A held response or row of a COMBINE. -/
def AccHold.isCombine (k : Nat) (h : AccHold) : Bool :=
  h.tower = k && (match h.source with | .accum _ _ _ => false | _ => true)

/-- COMBINE_RESPONSE_APPLY (R418, R473 to R475): the oldest held response or row of a tower whose blocks stand in their
bays is applied; when there is none, its blocks are loaded. A COMBINE with nothing left to apply ends. -/
def execCombineResponseApply (tower : Nat) (s : State) : Outcome :=
  let done := s.experts.combines.find? (fun k =>
    extentTower (extentOf (hdBase k.desc)) = tower && k.reads.isEmpty && k.rows = 0)
  match done with
  | some k => .next (s.endCombine k)
  | none =>
    let mine := s.cupola.input.filter (AccHold.isCombine tower)
    match mine.find? s.staleHold with
    | some h => .next ((s.bump d12_0104 tower).loseHold h)
    | none =>
    match mine.find? (fun h => h.blocks.all (s.bayReady tower)) with
    | some h =>
      match h.source with
      | .resp c psn msn index => .next ((s.applyResponse h c psn msn index).dropHold h)
      | .row e =>
        let r := State.addRow h h.addr 0 h.payload s
        let end_ := fun (k : Combine) => if k.ref = e then
            { k with rows := k.rows - 1, failed := if r.isNone then k.failed.or (some (Status.busError.code, 0)) else k.failed }
          else k
        let s := (r.getD s).dropHold h
        let s := if r.isSome then s.addBytes e h.payload.length else s
        .next { s with experts := { s.experts with combines := s.experts.combines.map end_ } }
      | .accum _ _ _ => .next s
    | none =>
      match mine with
      | [] => .next s
      | h :: _ => .next (s.needBlocks tower h.blocks)

end Sys2Proof.Machine
end

