-- ==== Sys2Proof/Machine/Spire.lean ====
section
/-! DEFINITION. SEND slots (R308 to R318, R322): loads, the ready deadline, late, empty and skipped instances, and the
packets that leave in them. -/
namespace Sys2Proof.Machine

/-- The key of a slot entry of a tower. -/
def slotKey (tower entry : Nat) : Nat := 16384 * tower + entry

/-- Two records of one instance: its slot entry and its due time. -/
def SlotInstance.same (a b : SlotInstance) : Bool := a.tower = b.tower && a.entry = b.entry && a.due = b.due

/-- The oldest instance of a slot entry whose load is open. -/
def State.openInstance (s : State) (tower entry : Nat) : Option SlotInstance :=
  s.spire.instances.find? (fun i => i.tower = tower && i.entry = entry && !i.fixed)

/-- The instance of a slot entry that is due at a time. -/
def State.instanceAt (s : State) (tower entry due : Nat) : Option SlotInstance :=
  s.spire.instances.find? (fun i => i.tower = tower && i.entry = entry && i.due = due)

/-- Take an instance out. -/
def State.dropInstance (i : SlotInstance) (s : State) : State :=
  { s with spire := { s.spire with instances := s.spire.instances.filter (fun j => !j.same i) } }

/-- Put an instance back as it now is; a new one goes last. -/
def State.putInstance (i : SlotInstance) (s : State) : State :=
  let l := s.spire.instances
  let l := if l.any (fun j => j.same i) then l.map (fun j => if j.same i then i else j) else l ++ [i]
  { s with spire := { s.spire with instances := l } }

/-- The packets of a connection that stand in loads or were left over. -/
def State.loadedOf (s : State) (c : Nat) : List LoadPkt :=
  (s.spire.instances.filter (fun i => i.conn = c)).flatMap (·.load) ++ tgetD s.spire.leftover c []

/-! ### Loads (R308, R315) -/

/-- R308: a load packet for an owed copy. -/
def loadCopy (x : Conn) (p : TxPkt) (m : TxMsg) : LoadPkt :=
  let n := m.carried p
  { psn := some p.psn, msn := p.msn, resp := p.kind = .resp, index := p.index
    wire := wireLen (if p.void then 7 else m.kind.ptype) n (x.ctx.core.cipherEn = 1)
    staged := if n = 0 then some [] else m.inlineAt p.index }

/-- R308: a load packet for position `i` of a message. -/
def loadFresh (x : Conn) (m : TxMsg) (i : Nat) : LoadPkt :=
  let void := m.voided.isSome
  let n := if void || !m.kind.hasPayload then 0 else m.bytesAt i
  { psn := none, msn := m.msn, resp := m.kind = .resp, index := i
    wire := wireLen (if void then 7 else m.kind.ptype) n (x.ctx.core.cipherEn = 1)
    staged := if n = 0 then some [] else m.inlineAt i }

/-- R308, R315: the retransmissions that the connection owes and no load holds. -/
def Conn.owedLoads (now : Nat) (x : Conn) (have_ : List LoadPkt) : List LoadPkt :=
  (x.flight.filter (fun p => p.owed && !p.acked && p.notBefore ≤ now && !have_.any (fun q => q.psn = some p.psn))).filterMap
    (fun p => (x.msg? p.msn (p.kind = .resp)).map (loadCopy x p))

/-- R308: the packets of the queued messages that no load holds, in order. -/
def Conn.freshQueued (x : Conn) (have_ : List LoadPkt) : List LoadPkt :=
  x.tx.flatMap (fun m =>
    if m.hasNext && x.sends (some m) then
      let first := m.sent + (have_.filter (fun q => q.psn.isNone && q.msn = m.msn && q.resp = (m.kind = .resp))).length
      let stop := if m.voidEnd then m.sent + 1 else m.packets
      (upTo (stop - first)).map (fun i => loadFresh x m (first + i))
    else [])

/-- R270, R308: of these packets, as many as the window allows. -/
def Conn.freshLoads (x : Conn) (have_ : List LoadPkt) : List LoadPkt :=
  let planned := (have_.filter (fun q => q.psn.isNone)).length
  (x.freshQueued have_).take (x.ctx.core.txWindow.toNat - serialDiff x.ctx.core.txNextPsn x.ctx.core.txUna - planned)

/-- R308: the packets of a list that fit, one after the other, into the bytes that are left. -/
def fitting : Nat → List LoadPkt → List LoadPkt
  | _, [] => []
  | room, q :: qs => if q.wire ≤ room then q :: fitting (room - q.wire) qs else []

/-- Bytes of a load on the wire, and in the staging buffer. -/
def loadWire (l : List LoadPkt) : Nat := l.foldl (fun a q => a + q.wire) 0
def loadStaged (l : List LoadPkt) : Nat := l.foldl (fun a q => a + (match q.staged with | some b => b.length | none => 0)) 0

/-- D7.0107: the high-water mark of a tower's staging buffer. [DEDUCED, log 65] -/
def State.markStaging (tower : Nat) (s : State) : State :=
  let n := (s.spire.instances.filter (fun i => i.tower = tower)).foldl (fun a i => a + loadStaged i.load) 0
  if n > s.roVal d7_0107 tower then s.setRo d7_0107 tower n else s

/-- R308, R752: issue the reads of packets that join a load. -/
def State.readLoads (x : Conn) (l : List LoadPkt) (s : State) : State :=
  l.foldl (fun s q =>
    match q.staged, x.msg? q.msn q.resp with
    | none, some m =>
      (match s.readRefused x m q.index with
       | some r => s.stopRead x.ctx.core.conn.toNat x m q.index r
       | none => s.emitParts m.src (m.payloadAt q.index))
    | _, _ => s) s

/-- R308: the home tower adds packets to an open load: what an earlier instance left, retransmissions first, then new
packets in MSN order, while they fit. -/
def State.growLoad (i : SlotInstance) (w : Nat) (s : State) : State :=
  match s.conn? i.conn with
  | none => s
  | some x =>
    let left := fitting (w - loadWire i.load) (tgetD s.spire.leftover i.conn [])
    let rest := (tgetD s.spire.leftover i.conn []).drop left.length
    let load := i.load ++ left
    let have_ := s.loadedOf i.conn
    let owed := fitting (w - loadWire load) (x.owedLoads s.now have_)
    let isCopy := fun (q : LoadPkt) => q.psn.isSome
    let load := load.filter isCopy ++ owed ++ load.filter (fun q => !isCopy q)
    let fresh := if rest.isEmpty then fitting (w - loadWire load) (x.freshLoads have_) else []
    let s := { s with spire := { s.spire with leftover := tput [] i.conn rest s.spire.leftover } }
    let s := s.putInstance { i with load := load ++ fresh }
    (s.readLoads x (owed ++ fresh)).markStaging i.tower

/-- R308: the load of an instance grows while it is open. -/
def State.regrow (s : State) (i : SlotInstance) : State :=
  match s.spire.instances.find? (·.same i), s.slotAt i.tower i.entry with
  | some j, some x => if j.fixed then s else s.growLoad j (s.slotWire x)
  | _, _ => s

/-- R308: every open load grows. [DESIGN CHOICE, log 63] -/
def State.growLoads (s : State) : State := s.spire.instances.foldl State.regrow s

/-- R308, R310: packets that an instance does not send go back to the head of the connection's queue, before those that
stand in loads that are still open; these loads are filled again. -/
def State.requeue (c : Nat) (l : List LoadPkt) (s : State) : State :=
  let later := s.spire.instances.filter (fun i => i.conn = c && !i.fixed)
  let fresh := later.flatMap (fun i => i.load.filter (·.psn.isNone))
  let cut := fun (i : SlotInstance) => if i.conn = c && !i.fixed then { i with load := i.load.filter (·.psn.isSome) } else i
  let s := { s with spire := { s.spire with
    instances := s.spire.instances.map cut
    leftover := tput [] c (l ++ fresh ++ tgetD s.spire.leftover c []) s.spire.leftover } }
  later.foldl State.regrow s

/-- TIME_CLOCK_TICK (R52, R54, R55, R308, R642): one period of the time clock ends: its doorbell notices leave, and open
loads take the packets that are queued. [DEDUCED, log 30; DEDUCED, log 31] -/
def execTimeClockTick (s : State) : Outcome := .next s.flushDoorbells.timeTick.growLoads

/-- A SEND slot in use. -/
def State.sendSlot (s : State) (tower entry : Nat) : Option Slot :=
  match s.slotAt tower entry with
  | some x => if x.kind = .send then some x else none
  | none => none

/-- SLOT_FETCH_OPEN (R308): the fetch lead of an instance is reached. -/
def execSlotFetchOpen (tower entry : Nat) (s : State) : Outcome :=
  match s.sendSlot tower entry with
  | none => .next s
  | some x =>
    match s.instanceDue x.start (s.par d7_0002 tower) with
    | none => .next s
    | some due =>
      let key := slotKey tower entry
      if tgetD s.spire.opened key 0 < due + 1 ∧ s.now ≤ due then
        let i : SlotInstance := { tower := tower, entry := entry, due := due, conn := x.target }
        let s := { s with spire := { s.spire with opened := tset key (due + 1) s.spire.opened } }
        .next ((s.putInstance i).growLoad i (s.slotWire x))
      else .next s

/-! ### The ready deadline (R309, R310, R312, R314) -/

/-- The round number of a due time. -/
def State.roundOf (s : State) (due : Nat) : Nat := due / s.dict.active.round s.pkg.part

/-- The tenant of a connection, 0 when there is none. -/
def State.connTenant (s : State) (c : Nat) : Nat := match s.conn? c with | some x => x.ctx.core.tenant.toNat | none => 0

/-- R312: the connection becomes behind, with the round of the instance. -/
def State.fallBehind (c round : Nat) (s : State) : State :=
  match s.conn? c with
  | none => s
  | some x => s.setConn c { x with behind := x.behind.or (some round), behindLeave := false }

/-- R312: every packet queued on the connection lies in the load, staged. -/
def Conn.allIn (now : Nat) (x : Conn) (load : List LoadPkt) : Bool :=
  (x.owedLoads now load).isEmpty && (x.freshQueued load).isEmpty && load.all (·.staged.isSome)

/-- R309, R310, R312, R314, R315: fix an instance's load: the staged packets up to the first that is not. -/
def State.fixLoad (i : SlotInstance) (expect : Bool) (s : State) : State :=
  match s.conn? i.conn with
  | none => s.putInstance { i with fixed := true, load := [] }
  | some x =>
    let t := x.ctx.core.tenant.toNat
    let round := s.roundOf i.due
    let waiting := i.load.filter (fun q => q.psn.isSome && q.staged.isNone)
    let load := i.load.filter (fun q => !(q.psn.isSome && q.staged.isNone))
    let send := load.takeWhile (·.staged.isSome)
    let rest := load.drop send.length
    let late := !rest.isEmpty
    let leave := x.behind.isSome && !late && x.allIn s.now i.load && (tgetD s.spire.leftover i.conn []).isEmpty
    let s := s.putInstance { i with fixed := true, late := late, load := send }
    let s := if (waiting ++ rest).isEmpty then s else s.requeue i.conn (waiting ++ rest)
    let s := if leave then s.setConn i.conn { x with behindLeave := true } else s
    if late then
      ((((s.fallBehind i.conn round).bump d7_0101 i.tower).setRo d7_0108 i.tower i.due).event t 3 1 i.conn 0 (round % 4294967296))
    else if i.load.isEmpty && expect then (s.bump d7_0102 i.tower).event t 3 2 i.conn 0 (round % 4294967296)
    else s

/-- SLOT_READY_DEADLINE (R309, R310, R314): 40 ticks before the due time. -/
def execSlotReadyDeadline (tower entry : Nat) (s : State) : Outcome :=
  match s.sendSlot tower entry, s.openInstance tower entry with
  | some x, some i => if i.due ≤ s.now + 40 then .next (s.fixLoad i x.expect) else .next s
  | _, _ => .next s

/-! ### The due time (R309, R311 to R313) -/

/-- R309, R313: a packet of a load as it leaves, with its connection, and whether it is a copy; none when its message needs
it no more. -/
def State.loadItem (s : State) (c : Nat) (q : LoadPkt) : Option (Conn × Bool × EgressItem) :=
  let item := fun (x : Conn) (m : TxMsg) (p : TxPkt) =>
    let pkt := s.buildPacket x m p 0 (if m.carried p = 0 then [] else q.staged.getD [])
    ({ pkt := pkt, ready := true, tenant := x.ctx.core.tenant.toNat, owner := some (c, p.psn)
       encap := (s.handle x.ctx.core.handle.toNat).encap.toNat, outer := [], cls := 0
       len := wireLen (hdrType pkt) (m.carried p) (x.ctx.core.cipherEn = 1), entered := s.now, arrived := s.now
       ingress := none } : EgressItem)
  match s.conn? c with
  | none => none
  | some x =>
    match q.psn with
    | some psn =>
      match x.pkt? psn with
      | none => none
      | some p =>
        match x.msg? p.msn (p.kind = .resp) with
        | none => none
        | some m =>
          if p.acked then none
          else
            let y := x.modifyPkt psn (fun p => { p with owed := false })
            let k := { y.ctx.core with retransmits := y.ctx.core.retransmits + 1 }
            let y := { y with ctx := { y.ctx with core := k } }
            some (y, true, item y m p)
    | none =>
      match x.msg? q.msn q.resp with
      | none => none
      | some m =>
        if m.hasNext then
          let r := x.takePsn { m with missRound := m.missRound.or x.behind }
          some (r.1, false, item r.1 r.2.1 r.2.2)
        else none

/-- Send the packets of a load in order, each as the one before it ends, `off` bytes on the line after the due time; the
bytes on the line, and the packets for which the credits lack. -/
def State.sendLoads (port c : Nat) : List LoadPkt → Nat → State → State × Nat × List LoadPkt
  | [], off, s => (s, off, [])
  | q :: qs, off, s =>
    match s.loadItem c q with
    | none => State.sendLoads port c qs off s
    | some (y, copy, i) =>
      if s.hasCredits port 7 i then
        let t := s.now
        let s := s.setConn c y
        let s := if copy then s.bump d7_0106 (connTower c) else s
        let s := ({ s with time := { s.time with now := t + off / max 1 (s.port port).rate } } : State).launch port 7 i
        State.sendLoads port c qs (off + s.lineBytes port i) { s with time := { s.time with now := t } }
      else (s, off, q :: qs)

/-- R311: the connection is in READY and no hold keeps it from sending (R193, R292). -/
def State.slotReady (s : State) (c : Nat) : Bool :=
  match s.conn? c with
  | some x => x.ctx.core.mode = .ready && x.hold.isNone
  | none => false

/-- R312: the connection ceases to be behind when the last packet of the instance has been sent. -/
def State.endBehind (c : Nat) (s : State) : State :=
  match s.conn? c with
  | some x => if x.behindLeave then s.setConn c { x with behind := none, behindLeave := false } else s
  | none => s

/-- R309: the port is busy until the last byte of a load has left. [DEDUCED, log 66] -/
def State.portUntil (port start off : Nat) (s : State) : State :=
  if off = 0 then s
  else s.setPort port { s.port port with busyUntil := start + ceilDiv off (max 1 (s.port port).rate) }

/-- R311, R312: an instance is skipped: its load stays queued, and a load that was not empty puts its connection behind. -/
def State.skipLoad (i : SlotInstance) (s : State) : State :=
  let s := s.dropInstance i
  if i.load.isEmpty then s else (s.requeue i.conn i.load).fallBehind i.conn (s.roundOf i.due)

/-- R311: skipped instances are counted, and the last one's time is kept. [DEDUCED, log 64] -/
def State.countSkipped (tower n due : Nat) (s : State) : State :=
  if n = 0 then s else (s.count d7_0103 tower n).setRo d7_0108 tower due

/-- R309, R311, R312: an instance falls due. [DESIGN CHOICE, log 63] -/
def State.fireSlot (x : Slot) (i : SlotInstance) (s : State) : State :=
  if s.scheduled && s.slotReady i.conn && s.carries x.egress then
    let s := (s.dropInstance i).bump d7_0100 i.tower
    let r := State.sendLoads x.egress i.conn i.load 0 s
    let s := r.1.portUntil x.egress (max (s.port x.egress).busyUntil s.now) r.2.1
    if r.2.2.isEmpty then s.endBehind i.conn else s.requeue i.conn r.2.2
  else (s.skipLoad i).countSkipped i.tower 1 i.due

/-- R322: the instances of a slot entry that a forward step of fabric time has passed over, before one due at `due`: all
that lie after the last one that fell due. [DEDUCED, log 64] -/
def State.passedOver (s : State) (key due : Nat) : Nat :=
  let v := tgetD s.spire.fired key 0
  if v = 0 then 0 else (due - v) / s.dict.active.round s.pkg.part

/-- SLOT_DUE (R309, R311, R312): an instance of a SEND slot falls due; its packets leave, or it is skipped. -/
def execSlotDue (tower entry : Nat) (s : State) : Outcome :=
  match s.sendSlot tower entry with
  | none => .next s
  | some x =>
    match s.instanceDue x.start 0 with
    | none => .next s
    | some due =>
      let key := slotKey tower entry
      if tgetD s.spire.fired key 0 < due + 1 then
        let older := s.spire.instances.filter (fun i => i.tower = tower && i.entry = entry && decide (i.due < due))
        let n := max older.length (s.passedOver key due)
        let s := { s with spire := { s.spire with fired := tset key (due + 1) s.spire.fired } }
        let s := (older.foldl (fun s i => s.skipLoad i) s).countSkipped tower n (due - s.dict.active.round s.pkg.part)
        let i := (s.instanceAt tower entry due).getD { tower := tower, entry := entry, due := due, conn := x.target }
        let s := if i.fixed then s else s.fixLoad i x.expect
        .next (s.fireSlot x ((s.instanceAt tower entry due).getD i))
      else .next s

end Sys2Proof.Machine
end

