-- ==== Sys2Proof/Machine/Movers.lean ====
section
/-! DEFINITION. The movers (R607 to R624). -/
namespace Sys2Proof.Machine

/-! ### Grants and descriptors (R607 to R610) -/

/-- R607: a channel's grant in a set. -/
def ParamSet.chanGrant (ps : ParamSet) (tower c : Nat) : Nat := leNat (ps.blob d16_0001 tower (4 * c) 4)
/-- R607: its fields. -/
def cgTenant (g : Nat) : Nat := natField 0 11 g
def cgValid (g : Nat) : Bool := natField 11 1 g = 1
def cgPriority (g : Nat) : Nat := natField 12 2 g

/-- R610: the channel is VALID and owned by a tenant. -/
def State.ownsChan (s : State) (t tower c : Nat) : Bool :=
  let g := s.dict.active.chanGrant tower c
  tower < s.towers && cgValid g && cgTenant g = t

/-- R609: fields of a MOVE or FILL entry. -/
def mvChan (w : W512) : Nat := fieldNat 32 4 w
def mvTower (w : W512) : Nat := fieldNat 36 3 w
def mvDstKey (w : W512) : W32 := field 256 32 w
def mvTimed (w : W512) : Bool := entAt 36 0 1 w = 1
def mvAfter (w : W512) : Bool := entAt 36 1 1 w = 1
def mvHalf (w : W512) : Bool := entAt 36 2 1 w = 1
def mvFull (w : W512) : Bool := entAt 36 3 1 w = 1
def mvAfterCh (w : W512) : Nat := entAt 37 0 4 w
def mvAfterCount (w : W512) : W32 := field 320 32 w
def mvEvtValue (w : W512) : Nat := entAt 44 0 32 w
def mvEvtAddr (w : W512) : Nat := entAt 48 0 64 w
def mvEvtKey (w : W512) : W32 := field 448 32 w
def mvTrigger (w : W512) : W32 := field 480 32 w
def mvFill (w : W512) : Bool := entOpcode w = 0x11
/-- An event word is written. -/
def mvEvents (w : W512) : Bool := mvHalf w || mvFull w

/-- R319: a MOVE slot of the active table names the channel. -/
def State.boundChan (s : State) (tower c : Nat) : Bool :=
  (s.dict.active.slots s.pkg.part tower).any (fun x => x.kind = .move && x.target = c)

/-- R321, R609, R610: the malformed fields of a MOVE or FILL entry. [DEDUCED, log 50] -/
def State.moveBad (s : State) (w : W512) : Option Nat :=
  let ev := mvEvents w
  firstBad [
    (1, flagsDirty w || entInline w || entSpec w),
    (4, fieldNat 39 25 w ≠ 0),
    (24, entLength w > longestMessage),
    (28, mvFill w && entKey w ≠ 0),
    (36, entAt 36 4 4 w ≠ 0 || (mvTimed w && s.boundChan (mvTower w) (mvChan w))),
    (37, entAt 37 4 4 w ≠ 0 || (!mvAfter w && mvAfterCh w ≠ 0)),
    (38, entDirty 38 2 w),
    (40, !mvAfter w && mvAfterCount w ≠ 0),
    (44, !ev && mvEvtValue w ≠ 0),
    (48, if ev then mvEvtAddr w % 8 ≠ 0 else mvEvtAddr w ≠ 0),
    (56, !ev && mvEvtKey w ≠ 0),
    (60, !mvTimed w && mvTrigger w ≠ 0)]

/-- A channel. -/
def State.chan (s : State) (tower c : Nat) : Channel := tgetD s.movers.chans (16 * tower + c) {}
def State.setChan (tower c : Nat) (x : Channel) (s : State) : State :=
  { s with movers := { s.movers with chans := tput {} (16 * tower + c) x s.movers.chans } }

/-- Change the head of a channel. -/
def State.modifyHead (tower c : Nat) (f : Descriptor → Descriptor) (s : State) : State :=
  let x := s.chan tower c
  match x.queue with
  | d :: q => s.setChan tower c { x with queue := f d :: q }
  | [] => s

/-- R610: the local ranges of a descriptor: source, destination, event word. -/
def moveNeeds (w : W512) : List Need :=
  (if mvFill w then [] else [(⟨entKey w, 0, entLocal w, entLength w⟩ : Need)]) ++ [⟨mvDstKey w, 1, entRemote w, entLength w⟩]
    ++ (if mvEvents w then [⟨mvEvtKey w, 1, mvEvtAddr w, 8⟩] else [])

/-- R610, R612: a MOVE or FILL entry is queued on its channel. -/
def State.queueMove (op t ring : Nat) (s : State) : State :=
  match s.readyEntry t ring op with
  | none => s
  | some (e, w) =>
    let k := mvTower w
    let c := mvChan w
    if !s.ownsChan t k c || (mvAfter w && !s.ownsChan t k (mvAfterCh w)) then s.failEntry e .accessDenied 0
    else if (s.chan k c).queue.length ≥ 32 then s
    else
      s.withNeeds t e (moveNeeds w) (fun rs s =>
        let n := if mvFill w then 0 else 1
        let at_ := fun (i : Nat) => (rs.map Realm.place).getD i ⟨1, 0, 0⟩
        let d : Descriptor := {
          ref := e, tenant := t, word := w, src := at_ 0, dst := at_ n, evt := at_ (n + 1)
          cross := match rs[n]? with | some r => r.crossPath (entRemote w) (entLength w) | none => false
          expired := s.entryExpired e }
        let x := s.chan k c
        (s.runEntry e).setChan k c { x with queue := x.queue ++ [d] })

/-- MOVE (R609 to R612). -/
def execMove (t ring : Nat) (s : State) : Outcome := .next (s.queueMove 0x10 t ring)

/-- FILL (R609 to R612). -/
def execFill (t ring : Nat) (s : State) : Outcome := .next (s.queueMove 0x11 t ring)

/-! ### Starting (R613 to R615) -/

/-- R614, R624: the head of a channel completes: DONE_COUNT rises, and its entry ends by `f`. -/
def State.popHead (tower c : Nat) (f : Descriptor → State → State) (s : State) : State :=
  let x := s.chan tower c
  match x.queue with
  | [] => s
  | d :: q =>
    let s := s.setChan tower c { x with queue := q, done := x.done + 1 }
    f d ((s.bump d16_0101 tower).bump d16_0200 d.tenant)

/-- R60, R613: the trigger of a descriptor has not been released. -/
def State.triggerWaits (s : State) (d : Descriptor) : Bool :=
  s.time.triggers.any (fun t => t.kind = .mover && t.ring = d.ref.ring && t.first = d.ref.first && t.entry = d.ref.pos)

/-- R613: the count that a descriptor awaits is reached. -/
def State.afterReached (s : State) (tower : Nat) (w : W512) : Bool :=
  !mvAfter w || 0 ≤ ((s.chan tower (mvAfterCh w)).done - mvAfterCount w).toInt

/-- R615: the channel's head waits on AFTER. -/
def State.waitsAfter (s : State) (tower c : Nat) : Option Nat :=
  match (s.chan tower c).queue with
  | d :: _ => if d.phase = .queued && d.waited && !s.afterReached tower d.word then some (mvAfterCh d.word) else none
  | [] => none

/-- R615: the walk from channel `c` along the heads that wait on AFTER returns to channel `goal`. [DEDUCED, log 83] -/
def State.afterLoop (s : State) (tower goal : Nat) : Nat → Nat → Bool
  | 0, _ => false
  | n + 1, c =>
    match s.waitsAfter tower c with
    | none => false
    | some a => a = goal || s.afterLoop tower goal n a

/-- DESCRIPTOR_START (R60, R611, R613, R615): the head of a channel starts, waits, or ends at once. [DEDUCED, log 83] -/
def execDescriptorStart (tower chan : Nat) (s : State) : Outcome :=
  match (s.chan tower chan).queue with
  | [] => .next s
  | d :: _ =>
    if d.phase ≠ .queued then .next s
    else if d.expired then .next (s.popHead tower chan (fun d s => s.failEntry d.ref .scheduleMiss 0))
    else if !s.afterReached tower d.word then
      if d.waited then .next s
      else
      let s := s.modifyHead tower chan (fun d => { d with waited := true })
      if s.afterLoop tower chan 16 chan then
        .next (((s.bump d16_0103 tower).bump d4_0102 d.tenant).popHead tower chan (fun d s =>
          s.failEntry d.ref .malformed (d.ref.pos + 256 * 37)))
      else .next s
    else if s.triggerWaits d || (s.boundChan tower chan && !d.slotOk) then .next s
    else if entLength d.word = 0 then .next (s.popHead tower chan (fun d s => s.endEntry d.ref))
    else
      match s.checkNeeds d.tenant (moveNeeds d.word) with
      | .fail r => .next ((s.countLocalRefused d.tenant).popHead tower chan (fun d s => s.failEntry d.ref (localStatus r) (r + 256)))
      | .ok rs =>
        if s.needsShut (moveNeeds d.word) rs || s.domShut (domTower tower) then
          .next (s.popHead tower chan (fun d s => s.failEntry d.ref .poweredDown 0))
        else .next (s.modifyHead tower chan (fun d => { d with phase := .running }))
      | .translate _ _ => .next (s.modifyHead tower chan (fun d => { d with phase := .running }))

/-! ### Bursts (R616 to R620) -/

/-- R616: the length of the burst at an offset of a descriptor. -/
def burstLen (w : W512) (off burst : Nat) : Nat :=
  let d := entRemote w + off
  let n := min (entLength w - off) (burst - d % burst)
  if mvFill w then n else min n (4096 - (entLocal w + off) % 4096)

/-- R617: the channel is busy. -/
def State.chanBusy (s : State) (tower c : Nat) : Bool :=
  match (s.chan tower c).queue with
  | d :: _ => d.phase = .running && d.bursts.length < 8 && d.next < entLength d.word && d.failed.isNone && d.refused.isNone
  | [] => false

/-- R617: the channel that the engine serves next, and the bursts left of its turn after this one. -/
def State.nextTurn (s : State) (tower : Nat) : Option (Nat × Nat) :=
  let (last, left) := tgetD s.movers.last tower (15, 0)
  if left > 0 && s.chanBusy tower last then some (last, left - 1)
  else
    match ((upTo 16).map (fun i => (last + 1 + i) % 16)).find? (s.chanBusy tower) with
    | some c => some (c, 2 ^ cgPriority (s.dict.active.chanGrant tower c) - 1)
    | none => none

/-- R618: the range that a burst reads: whole cells of package and attach memory, exact bytes of host memory. -/
def burstRead (p : Place) (a n : Nat) : Nat × Nat :=
  if p.space = 0 then (a, n) else (a / 64 * 64, ceilDiv (a + n) 64 * 64 - a / 64 * 64)

/-- BURST_ISSUE (R616 to R618): the engine of a tower gives a busy channel its turn. -/
def execBurstIssue (tower : Nat) (s : State) : Outcome :=
  if s.now < tgetD s.movers.busy tower 0 then .next s
  else
    match s.nextTurn tower with
    | none => .next s
    | some (c, left) =>
      match (s.chan tower c).queue with
      | [] => .next s
      | d :: _ =>
        let s := { s with movers := { s.movers with last := tset tower (c, left) s.movers.last } }
        match s.checkNeeds d.tenant (moveNeeds d.word) with
        | .fail r => .next ((s.countLocalRefused d.tenant).modifyHead tower c (fun d =>
            { d with refused := some ((localStatus r).code, r + 256), failed := some d.next }))
        | _ =>
          let host := (s.tenant d.tenant).mode = .resetting && (d.dst.space = 0 || (!mvFill d.word && d.src.space = 0))
          if host then .next ((s.countSquashed d.tenant 1).modifyHead tower c (fun d =>
            { d with refused := some (Status.squashed.code, 0), failed := some d.next }))
          else
          let n := burstLen d.word d.next (s.par d16_0002 tower)
          let s := s.modifyHead tower c (fun d => { d with next := d.next + n, bursts := d.bursts ++ [(d.next, n)] })
          let s := { s with movers := { s.movers with busy := tset tower (s.now + ceilDiv n 400) s.movers.busy } }
          let r := burstRead d.src (entLocal d.word + d.next) n
          .next (if mvFill d.word then s else s.emit (.memRead d.src.space d.src.port d.src.pasid r.1 r.2))

/-- R611: the source and the destination overlap and the destination lies above the source. -/
def Descriptor.overlaps (d : Descriptor) : Bool :=
  !mvFill d.word && d.src = d.dst && entLocal d.word < entRemote d.word && entRemote d.word < entLocal d.word + entLength d.word

/-- R611, R618: the bytes that a burst writes; none when its read fails. [DESIGN CHOICE, log 82] -/
def State.burstData (s : State) (d : Descriptor) (off n : Nat) (ans : MemAns) : Option Bytes :=
  if mvFill d.word then
    (match ans with
     | .data _ => some ((upTo n).map (fun i => BitVec.ofNat 8 (entLocal d.word / 256 ^ ((off + i) % 8))))
     | _ => none)
  else
    let a := entLocal d.word + off
    let r := burstRead d.src a n
    (s.placeRead d.tenant d.src r.1 r.2 ans).map (fun b => slice (a - r.1) n b)

/-- R621: bytes of the first half. -/
def Descriptor.halfLen (d : Descriptor) : Nat := entLength d.word / 128 * 64

/-- R621: every burst that holds a byte below H has completed its write. -/
def Descriptor.halfDone (d : Descriptor) : Bool :=
  let h := d.halfLen
  mvHalf d.word && h ≠ 0 && h ≤ d.next && d.bursts.all (fun b => h ≤ b.1) && (match d.failed with | some f => h ≤ f | none => true)

/-- R621, R622: after a write, the read-backs that have become due are issued. -/
def State.moveReads (tower c : Nat) (s : State) : State :=
  match (s.chan tower c).queue with
  | [] => s
  | d :: _ =>
    let n := readsOf d.dst d.cross
    let due := (d.half = 0 && d.halfDone) || (!d.lastRead && d.bursts.isEmpty && d.next = entLength d.word && d.failed.isNone)
    if due && s.hostBarred d.tenant d.dst then
      (s.countSquashed d.tenant 1).modifyHead tower c (fun d => { d with
        refused := d.refused.or (some (Status.squashed.code, 0)), failed := d.failed.or (some d.next), half := 2 })
    else
    let s := if d.half = 0 && d.halfDone then
        (s.emitReads d.dst (entRemote d.word + d.halfLen - 4) n).modifyHead tower c (fun d => { d with half := 1 })
      else s
    if !d.lastRead && d.bursts.isEmpty && d.next = entLength d.word && d.failed.isNone then
      (s.emitReads d.dst (lastWord (entRemote d.word) (entLength d.word)) n).modifyHead tower c (fun d =>
        { d with lastRead := true })
    else s

/-- R620: a burst of a channel's head fails. [DESIGN CHOICE, log 82] -/
def State.badBurst (tower c off : Nat) (s : State) : State :=
  s.modifyHead tower c (fun d => { d with failed := some (match d.failed with | some f => min f off | none => off) })

/-- BURST_DONE (R611, R616, R618 to R620): the data of the burst at an offset return, and its destination is written; or
it fails. [DESIGN CHOICE, log 82] -/
def execBurstDone (tower chan off : Nat) (ans : MemAns) (s : State) : Outcome :=
  match (s.chan tower chan).queue with
  | [] => .next s
  | d :: _ =>
    match d.bursts.find? (fun b => b.1 = off) with
    | none => .next s
    | some (_, n) =>
      let s := s.modifyHead tower chan (fun d => { d with bursts := d.bursts.filter (fun b => b.1 ≠ off) })
      match s.burstData d off n ans with
      | none =>
        let r := burstRead d.src (entLocal d.word + off) n
        .next (((s.readFailed d.tenant d.src r.1 r.2).badBurst tower chan off).moveReads tower chan)
      | some b =>
        let b := if d.overlaps then freeBytes s.free n else b
        let s := if d.overlaps then { s with free := s.free + n } else s
        match s.placeWrite d.tenant d.dst (entRemote d.word + off) b with
        | none => .next (((s.countStale d.tenant d.dst (entRemote d.word + off) n).badBurst tower chan off).moveReads tower chan)
        | some s => .next ((s.count d16_0104 tower n).moveReads tower chan)

/-! ### Events and the end (R621 to R624) -/

/-- R623: an event word. -/
def eventWord (d : Descriptor) (full : Bool) (count : W32) : Bytes :=
  leBytes 8 (packNat [(32, mvEvtValue d.word), (1, if full then 1 else 0), (15, 0), (16, count.toNat)])

/-- R620, R623: write an event word; a write that fails is a bus error of the entry. -/
def State.writeEvent (tower c : Nat) (d : Descriptor) (full : Bool) (s : State) : State :=
  match s.placeWrite d.tenant d.evt (mvEvtAddr d.word) (eventWord d full ((s.chan tower c).done + 1)) with
  | some s => s
  | none => s.noteFail d.ref (if s.hostBarred d.tenant d.evt then .squashed else .busError) 0

/-- R616, R620: the offset of the burst that holds a byte of a descriptor. [DEDUCED, log 58] -/
def burstStart (w : W512) (off burst : Nat) : Nat :=
  max (off - (entRemote w + off) % burst) (if mvFill w then 0 else off - (entLocal w + off) % 4096)

/-- HALF_EVENT (R621 to R623): the read-back of the first half completes and its event word is written; or it fails. [DESIGN CHOICE, log 82] -/
def execHalfEvent (tower chan : Nat) (ok : Bool) (s : State) : Outcome :=
  match (s.chan tower chan).queue with
  | [] => .next s
  | d :: _ =>
    if d.half ≠ 1 then .next s
    else
      let s := s.modifyHead tower chan (fun d => { d with half := 2 })
      .next (if ok then s.writeEvent tower chan d false else s.badBurst tower chan (burstStart d.word (d.halfLen - 4) (s.par d16_0002 tower)))

/-- R620, R624: a bad descriptor completes. -/
def State.endBad (tower c off : Nat) (s : State) : State :=
  let x := s.chan tower c
  let bad := match x.queue with | d :: _ => d.refused.isNone | [] => false
  let s := if bad then (s.bump d16_0102 tower).setChan tower c { x with bad := x.bad + 1 } else s
  s.popHead tower c (fun d s =>
    let s := s.addBytes d.ref off
    match d.refused with
    | some r => s.modifyChain d.ref.ring d.ref.first (failEntryIn s.now d.ref.pos r.1 r.2)
    | none => s.failEntry d.ref .busError off)

/-- DESCRIPTOR_DONE (R620, R622, R624): the last burst and its read-back complete (or fail), the full event is written, and
the descriptor completes. -/
def execDescriptorDone (tower chan : Nat) (ok : Bool) (s : State) : Outcome :=
  match (s.chan tower chan).queue with
  | [] => .next s
  | d :: _ =>
    if d.phase ≠ .running || !d.bursts.isEmpty || d.half = 1 then .next s
    else
      match d.failed with
      | some off => .next (s.endBad tower chan off)
      | none =>
        if !d.lastRead then .next s
        else if !ok then .next (s.endBad tower chan (burstStart d.word (entLength d.word - min 4 (entLength d.word)) (s.par d16_0002 tower)))
        else
          let s := if mvFull d.word then s.writeEvent tower chan d true else s
          .next (s.popHead tower chan (fun d s => (s.addBytes d.ref (entLength d.word)).endEntry d.ref))

/-! ### REDUCE and MOVE slots (R319 to R321) -/

/-- A MOVE slot, or a REDUCE slot, in use. -/
def State.stepSlot (s : State) (kind : SlotKind) (tower entry : Nat) : Option Slot :=
  match s.slotAt tower entry with
  | some x => if x.kind = kind then some x else none
  | none => none

/-- An accepted entry that has not begun, of a chain whose record is not written, satisfies a test. -/
def State.entryWaits (s : State) (p : W512 → Bool) : Bool :=
  s.rings.any (fun kr => kr.2.chains.any (fun c => c.decided.isNone && c.entries.any (fun e => e.phase = .ready && p e.word)))

/-- R320: note an instance whose entry was not ready; key of lateSteps. -/
def State.noteLate (key due : Nat) (s : State) : State :=
  { s with spire := { s.spire with lateSteps := tset key (tgetD s.spire.lateSteps key [] ++ [due]) s.spire.lateSteps } }

/-- R320: the first late instance is used. -/
def State.useLate (key : Nat) (s : State) : State :=
  { s with spire := { s.spire with lateSteps := tput [] key (tgetD s.spire.lateSteps key []).tail s.spire.lateSteps } }

/-- R314: nothing waits at an instance. -/
def State.emptyStep (tower : Nat) (x : Slot) (due t : Nat) (s : State) : State :=
  if x.expect then (s.bump d7_0102 tower).event t 3 2 x.target 0 (s.roundOf due % 4294967296) else s

/-- R299, R311, R322: an instance of a slot entry falls due, once; those that a forward step passed over are skipped. [DEDUCED, log 64] -/
def State.takeInstance (tower entry : Nat) (x : Slot) (s : State) : Option (Nat × State) :=
  match s.instanceDue x.start 0 with
  | none => none
  | some due =>
    let key := slotKey tower entry
    if tgetD s.spire.fired key 0 < due + 1 then
      let n := s.passedOver key due
      let s := s.countSkipped tower n (due - s.dict.active.round s.pkg.part)
      some (due, { s with spire := { s.spire with fired := tset key (due + 1) s.spire.fired } })
    else none

/-- R319: release the oldest descriptor of a channel that waits for its slot. -/
def Channel.release (x : Channel) : Option Channel :=
  match x.queue.findIdx? (fun d => d.phase = .queued && !d.slotOk) with
  | none => none
  | some i => some { x with queue := x.queue.mapIdx (fun j d => if j = i then { d with slotOk := true } else d) }

/-- The descriptor that a release names. -/
def Channel.waiter (x : Channel) : Option Descriptor := x.queue.find? (fun d => d.phase = .queued && !d.slotOk)

/-- MOVE_SLOT_DUE (R311, R314, R319, R320, R322). -/
def execMoveSlotDue (tower entry : Nat) (s : State) : Outcome :=
  match s.stepSlot .move tower entry with
  | none => .next s
  | some x =>
    match s.takeInstance tower entry x with
    | none => .next s
    | some (due, s) =>
      if !s.scheduled then .next (s.countSkipped tower 1 due)
      else
        let s := s.bump d7_0100 tower
        match (s.chan tower x.target).release with
        | some c => .next (s.setChan tower x.target c)
        | none =>
          if s.entryWaits (fun w => (entOpcode w = 0x10 || entOpcode w = 0x11) && mvTower w = tower && mvChan w = x.target) then
            .next (s.noteLate (1048576 + 16 * tower + x.target) due)
          else .next (s.emptyStep tower x due (cgTenant (s.dict.active.chanGrant tower x.target)))

/-- R432: a step waiting for its instance is ready. -/
def State.stepReady (s : State) (w : AccWork) : Bool := w.action ≠ 3 || s.arrivedEnough w

/-- R434: a step that waited for its instance starts: its handle is latched as it starts. -/
def State.startBound (w : AccWork) (ans : MemAns) (s : State) : State :=
  match s.entry? w.ref with
  | none => s.putWork w.ref none
  | some e =>
    match (s.putWork w.ref none).judgeStep w.ref w.tenant e.word with
    | .error s => s
    | .ok v => ({ s with cupola := { s.cupola with works := s.cupola.works.map (fun u => if u.ref = w.ref then v else u) } } : State).beginStep v ans

/-- The steps that wait for an instance of a handle's slot, oldest first. -/
def State.boundSteps (s : State) (handle : Nat) : List AccWork :=
  s.cupola.works.filter (fun w => w.handle = handle && w.phase = .slot)

/-- The tenant in whose range a collective handle lies. -/
def State.handleTenant (s : State) (h : Nat) : Nat :=
  ((upTo 2048).find? (fun t => (s.handleDesc? t h).isSome)).getD 0

/-- REDUCE_SLOT_DUE (R311, R314, R319, R320, R322): `ans` is what ADD_LOCAL's read of its buffer returns. -/
def execReduceSlotDue (tower entry : Nat) (ans : MemAns) (s : State) : Outcome :=
  match s.stepSlot .reduce tower entry with
  | none => .next s
  | some x =>
    match s.takeInstance tower entry x with
    | none => .next s
    | some (due, s) =>
      if !s.scheduled then .next (s.countSkipped tower 1 due)
      else
        let s := s.bump d7_0100 tower
        match s.boundSteps x.target with
        | w :: _ => if s.stepReady w then .next (s.startBound w ans) else .next (s.noteLate x.target due)
        | [] =>
          if s.entryWaits (fun w => entOpcode w = 0x20 && stHandle w = x.target) then .next (s.noteLate x.target due)
          else .next (s.emptyStep tower x due (s.handleTenant x.target))

/-- STEP_LATE_START (R320): an entry of a schedule-bound handle (or, `move`, of channel 16 × tower + channel) that was not
ready at its instance is ready and starts; it completes with SCHEDULE_MISS. -/
def execStepLateStart (move : Bool) (target : Nat) (ans : MemAns) (s : State) : Outcome :=
  let key := if move then 1048576 + target else target
  match tgetD s.spire.lateSteps key [] with
  | [] => .next s
  | due :: _ =>
    let round := s.roundOf due % 4294967296
    if move then
      let x := s.chan (target / 16) (target % 16)
      match x.release, x.waiter with
      | some c, some d =>
        .next ((((s.useLate key).setChan (target / 16) (target % 16) c).noteFail d.ref .scheduleMiss round).bump d7_0105 (target / 16))
      | _, _ => .next s
    else
      match s.boundSteps target with
      | w :: _ =>
        if s.stepReady w then .next ((((s.useLate key).noteFail w.ref .scheduleMiss round).bump d7_0105 w.tower).startBound w ans)
        else .next s
      | [] => .next s

end Sys2Proof.Machine
end

