-- ==== Sys2Proof/Machine/Rings.lean ====
section
/-! DEFINITION. Work rings and notification rings: the ring control page, doorbells, fetching and stamps, the start and the
end of chains (R131 to R178). -/
namespace Sys2Proof.Machine

/-! ### Writing to a ring's memory (R152, R161, R163, R173, R587) -/

/-- A write to a ring's memory; none when it is not made: to host memory during a reset of the tenant (R587), or where the
memory answers with an error. [DESIGN CHOICE, log 49] -/
def State.ringWrite (k : Nat) (r : Ring) (a : Nat) (b : Bytes) (s : State) : Option State :=
  let t := keyTenant k
  if (s.tenant t).mode = .resetting && r.place.space = 0 then none else s.placeWrite t r.place a b

/-- R163: the done mirror. -/
def Ring.mirror (r : Ring) : Bytes := leBytes 8 (packNat [(32, r.done.toNat), (8, r.mode.code)])

/-- R163, R165, R754: write the mirror, then raise the event that waits for it. [DESIGN CHOICE, log 49] -/
def State.writeMirror (k : Nat) (s : State) : State :=
  match s.ring? k with
  | none => s
  | some r =>
    let s := s.setRing k { r with mirrorSince := none }
    let s := if r.image.notify = 1 then s else (s.ringWrite k r r.image.mirrorAddr.toNat r.mirror).getD s
    if r.eventDue then s.raiseRing k else s

/-! ### The ring control page (R132, R133, R170) -/

/-- Result codes of the ring control page. -/
def rgOk : Nat := 0
def rgNoRing : Nat := 1
def rgBadState : Nat := 2
def rgBadField : Nat := 3
def rgNoContext : Nat := 4
def rgExists : Nat := 5

/-- R133: run a command of the ring control page: discarded with LOST while BUSY. -/
def State.ringCmd (t ring : Nat) (f : State → State) (s : State) : State :=
  if !s.fnLive t then s
  else
    let p := s.fn t
    if p.ring.busy then s.setFn t { p with ring := { p.ring with lost := true } }
    else f (s.setFn t { p with ring := { p.ring with busy := true, target := BitVec.ofNat 32 (ring % 1048576) } })

/-- R132: complete a command. -/
def State.ringResult (t code : Nat) (s : State) : State :=
  let p := s.fn t
  s.setFn t { p with ring := endCmd code p.ring }

/-- R133: SHUTDOWN or ABORT of a ring completes. -/
def State.endRingCmd (k : Nat) (s : State) : State :=
  let p := (s.fn (keyTenant k)).ring
  if p.busy && p.target.toNat = keyRing k then s.ringResult (keyTenant k) rgOk else s

/-- R170: a command on an existing ring. -/
def State.withRing (t ring : Nat) (f : Ring → State → State) (s : State) : State :=
  match s.ring? (ringKey t ring) with
  | none => s.ringResult t rgNoRing
  | some r => f r s

/-- R134: words 0 to 4 of the image in RING_CTX. -/
def RingImage.ofWord (x : W512) : RingImage where
  base := field 0 64 x
  log2Size := field 64 4 x
  space := field 68 2 x
  notify := field 70 1 x
  homeTower := field 72 3 x
  pasidEn := field 75 1 x
  pasid := field 76 20 x
  attachPort := field 96 3 x
  weight := field 99 4 x
  mirrorAddr := field 128 64 x
  msixVector := field 192 16 x
  evtMode := field 208 2 x
  evtCount := field 224 16 x
  evtTime := field 256 32 x

/-- R134: words 0 to 5 as QUERY and a blob show them. -/
def RingImage.rows (m : RingImage) : List (Nat × Nat) :=
  [(64, m.base.toNat), (4, m.log2Size.toNat), (2, m.space.toNat), (1, m.notify.toNat), (1, 0), (3, m.homeTower.toNat),
   (1, m.pasidEn.toNat), (20, m.pasid.toNat), (3, m.attachPort.toNat), (4, m.weight.toNat), (25, 0),
   (64, m.mirrorAddr.toNat), (16, m.msixVector.toNat), (2, m.evtMode.toNat), (14, 0), (16, m.evtCount.toNat), (16, 0),
   (32, m.evtTime.toNat), (32, 0), (64, 0)]

/-- R134, R754: the eight words of a ring. -/
def Ring.rows (r : Ring) : List (Nat × Nat) :=
  r.image.rows ++ [(32, r.tail.toNat), (32, if r.image.notify = 1 then 0 else r.head.toNat), (32, r.done.toNat), (8, r.mode.code), (24, 0)]

/-- R134: the image of a ring. -/
def Ring.word (r : Ring) : W512 := pack 512 r.rows

/-- R134: the reserved bits of words 1, 3, 4 and 5 are zero. -/
def imageReservedZero (x : W512) : Bool :=
  fieldNat 71 1 x = 0 && fieldNat 103 25 x = 0 && fieldNat 210 14 x = 0 && fieldNat 240 16 x = 0 && fieldNat 288 32 x = 0
    && fieldNat 320 64 x = 0

/-- R556: size of a function's MSI-X table. -/
def msixSize (t : Nat) : Nat := if t = 0 ∨ t = 1024 then 2048 else 64

/-- R135, R555, R556: the image is one that CREATE accepts. -/
def State.imageOk (s : State) (t : Nat) (x : W512) : Bool :=
  let m := RingImage.ofWord x
  let n := m.log2Size.toNat
  let sp := m.space.toNat
  let align := if n = 0 then 4096 else min (64 * 2 ^ n) 4096
  !(1 ≤ n && n ≤ 3) && m.base.toNat % align = 0 && m.mirrorAddr.toNat % 8 = 0 && imageReservedZero x
    && decide (m.homeTower.toNat < s.towers) && sp ≠ 3 && !(sp = 2 && m.attachPort.toNat ≥ s.towers)
    && !(sp ≠ 2 && m.attachPort ≠ 0) && !(sp ≠ 0 && (m.pasidEn ≠ 0 || m.pasid ≠ 0)) && !(m.notify = 1 && m.mirrorAddr ≠ 0)
    && m.weight ≠ 0 && !(m.pasidEn = 1 && !(s.host (tenantHost t)).pasid) && decide (m.msixVector.toNat < msixSize t)

/-- D4.0000: ring contexts in use on a tower. -/
def State.ringsOn (s : State) (k : Nat) : Nat := (s.rings.filter (fun e => e.2.image.homeTower.toNat = k)).length
/-- D4.0105: rings held by a tenant. -/
def State.ringsOf (s : State) (t : Nat) : Nat := (s.rings.filter (fun e => keyTenant e.1 = t)).length

/-- RING_CREATE (R134 to R136). [DESIGN CHOICE, log 46] -/
def execRingCreate (t ring : Nat) (s : State) : Outcome :=
  let ring := ring % 1048576
  .next (s.ringCmd t ring (fun s =>
    let x : W512 := (s.fn t).ring.ctx.setWidth 512
    let limit := s.par d4_8000 t
    let m := RingImage.ofWord x
    if !s.imageOk t x || ring ≥ limit then s.ringResult t rgBadField
    else if (s.ring? (ringKey t ring)).isSome then s.ringResult t rgExists
    else if s.ringsOn m.homeTower.toNat ≥ 65536 || s.ringsOf t ≥ limit then s.ringResult t rgNoContext
    else ((s.setRing (ringKey t ring) { image := m }).writeMirror (ringKey t ring)).ringResult t rgOk))

/-- RING_QUERY (R134, R170). -/
def execRingQuery (t ring : Nat) (s : State) : Outcome :=
  let ring := ring % 1048576
  .next (s.ringCmd t ring (fun s => s.withRing t ring (fun r s =>
    let p := s.fn t
    (s.setFn t { p with ring := { p.ring with ctx := r.word.setWidth 1024 } }).ringResult t rgOk)))

/-- RING_CMD_UNKNOWN (R133): an unlisted CMD or nonzero reserved bits. -/
def execRingCmdUnknown (t : Nat) (value : W64) (s : State) : Outcome :=
  if 1 ≤ fieldNat 0 8 value ∧ fieldNat 0 8 value ≤ 6 ∧ fieldNat 28 36 value = 0 then .next s
  else .next (s.ringCmd t (fieldNat 8 20 value) (fun s => s.ringResult t rgBadField))

/-! ### Abandoning work (R171, R278) -/

/-- R171, R591: an entry is abandoned at its engines; its messages are voided. -/
def State.abandonEntry (e : EntryRef) (s : State) : State :=
  let msgs := s.conns.flatMap (fun x => (x.2.tx.filter (fun (m : TxMsg) => m.owner = some e)).map (fun m => (x.1, m)))
  let s := msgs.foldl (fun s x => s.orphan x.1 x.2) s
  let s := s.abandonExpert e
  { s with
    cupola := { s.cupola with
      works := s.cupola.works.filter (fun (w : AccWork) => w.ref ≠ e)
      input := s.cupola.input.filter (fun (h : AccHold) => h.source ≠ .row e) }
    movers := { s.movers with chans := tmap (fun _ (x : Channel) => { x with queue := x.queue.filter (fun d => d.ref ≠ e) }) s.movers.chans }
    localReads := s.localReads.filter (fun (r : LocalRead) => r.ref ≠ e)
    atsWait := s.atsWait.filter (fun (w : AtsWait) => !(w.ring = e.ring && w.first = e.first && w.pos = e.pos))
    time := { s.time with triggers := s.time.triggers.filter (fun (t : Trigger) =>
      !(t.ring = e.ring && t.first = e.first && t.entry = e.pos)) } }

/-- A started chain of a ring is abandoned and completes with a status. -/
def State.abandonChain (k : Nat) (c : Chain) (status : Status) (s : State) : State :=
  let s := (upTo c.entries.length).foldl (fun s i => s.abandonEntry ⟨k, c.first, i⟩) s
  s.modifyChain k c.first (Chain.finish s.now status.code 0)

/-- Chains of a ring that have started and are not decided. -/
def Ring.running (r : Ring) : List Chain := r.chains.filter (fun c => c.started && c.decided.isNone)

/-- The chain whose LAST entry has not been accepted. -/
def Ring.open? (r : Ring) : Option Chain := r.chains.find? (fun c => !c.closed)

/-! ### Reaching STOPPED (R170, R173) -/

/-- R164: done reaches tail while a signalled completion is pending. -/
def Ring.reachTail (r : Ring) : Ring := if r.done = r.tail && r.uncovered ≠ 0 then { r with eventDue := true } else r

/-- R170, R173: ABORTING ends: done reads tail, the mirror is written with the state, and the command completes. -/
def State.stopAbort (k : Nat) (s : State) : State :=
  match s.ring? k with
  | none => s
  | some r =>
    ((s.setRing k (({ r with mode := .stopped, done := r.tail, chains := [], abortAt := none } : Ring).reachTail)).writeMirror k).endRingCmd k

/-- R170: DRAINING ends when done reaches tail. [DESIGN CHOICE, log 46] -/
def State.stopDrain (k : Nat) (s : State) : State :=
  match s.ring? k with
  | none => s
  | some r =>
    if r.mode = .draining && r.done = r.tail then
      ((s.setRing k { r with mode := .stopped }).writeMirror k).endRingCmd k
    else s

/-- R170: in DRAINING every chain that has not started completes with ABORTED; one still open at the tail is among them. -/
def Ring.drain (now : Nat) (r : Ring) : Ring :=
  if r.mode = .draining then
    { r with chains := r.chains.map (fun (c : Chain) =>
        if !c.closed && r.head = r.tail then ({ c with closed := true } : Chain).finish now Status.aborted.code 0
        else if c.closed && !c.started then c.finish now Status.aborted.code 0 else c) }
  else r

/-- R170: SHUTDOWN of an ACTIVE ring. [DESIGN CHOICE, log 46] -/
def State.shutdownRing (k : Nat) (s : State) : State :=
  match s.ring? k with
  | none => s
  | some r => if r.mode = .active then (s.setRing k (({ r with mode := .draining } : Ring).drain s.now)).stopDrain k else s

/-- RING_SHUTDOWN (R170). -/
def execRingShutdown (t ring : Nat) (s : State) : Outcome :=
  let ring := ring % 1048576
  .next (s.ringCmd t ring (fun s => s.withRing t ring (fun r s =>
    if r.mode = .active then s.shutdownRing (ringKey t ring) else s.ringResult t rgBadState)))

/-- R170 to R173: the chains of a ring at ABORT. Chains that are decided keep their outcome. [DESIGN CHOICE, log 46] -/
def Ring.abort (now : Nat) (r : Ring) : Ring :=
  { r with
    mode := .aborting
    abortAt := some now
    fromError := r.mode = .error
    head := match r.open? with | some c => c.first + 1 | none => r.head
    fetches := [], held := [], refetch := none
    chains := r.chains.map (fun (c : Chain) => ({ c with closed := true } : Chain).finish now Status.aborted.code 0) }

/-- RING_ABORT (R170, R171, R173). -/
def execRingAbort (t ring : Nat) (s : State) : Outcome :=
  let k := ringKey t (ring % 1048576)
  .next (s.ringCmd t (ring % 1048576) (fun s => s.withRing t (ring % 1048576) (fun r s =>
    if r.mode = .active || r.mode = .draining || r.mode = .error then
      let s := r.running.foldl (fun s c => s.abandonChain k c .aborted) s
      match s.ring? k with
      | none => s
      | some r =>
        let r := r.abort s.now
        let s := s.setRing k r
        if r.chains.isEmpty then s.stopAbort k else s
    else s.ringResult t rgBadState)))

/-- RING_RESUME (R170). -/
def execRingResume (t ring : Nat) (s : State) : Outcome :=
  let ring := ring % 1048576
  .next (s.ringCmd t ring (fun s => s.withRing t ring (fun r s =>
    if r.mode = .stopped then
      (s.setRing (ringKey t ring) { r with mode := .active, head := r.done, fetchNext := r.done, fromError := false }).ringResult t rgOk
    else s.ringResult t rgBadState)))

/-- R170: a ring's context is freed; whatever still ran for it is abandoned. -/
def State.freeRing (k : Nat) (s : State) : State :=
  match s.ring? k with
  | none => s
  | some r => (r.running.foldl (fun s c => s.abandonChain k c .aborted) s).delRing k

/-- RING_DESTROY (R170). -/
def execRingDestroy (t ring : Nat) (s : State) : Outcome :=
  let ring := ring % 1048576
  .next (s.ringCmd t ring (fun s => s.withRing t ring (fun r s =>
    if r.mode = .stopped || r.mode = .error then (s.freeRing (ringKey t ring)).ringResult t rgOk else s.ringResult t rgBadState)))

/-! ### Doorbells (R142 to R145, R177, R711) -/

/-- R142: fields of a doorbell. -/
def dbIndex (v : W64) : W32 := field 0 32 v
def dbRing (v : W64) : Nat := fieldNat 32 20 v

/-- R143: a doorbell is discarded. [DESIGN CHOICE, log 98] -/
def State.discardDoorbell (t ring : Nat) (s : State) : State :=
  let detail := match s.ring? (ringKey t ring) with
    | some r => (if r.image.notify = 1 then r.tail else r.done).toNat
    | none => 0
  (s.bump d4_0100 t).event t 1 2 ring 0 detail

/-- R177, R164: the consume index of a notification ring moves. -/
def State.consume (t ring : Nat) (r : Ring) (v : W32) (s : State) : State :=
  if serialDiff v r.done ≤ serialDiff r.tail r.done then
    let k := ringKey t ring
    let r := ({ r with done := v } : Ring).reachTail
    let s := s.setRing k r
    if r.eventDue then s.raiseRing k else s
  else s.discardDoorbell t ring

/-- R139, R143, R144: the tail of a work ring moves. -/
def State.moveTail (t ring : Nat) (r : Ring) (v : W32) (s : State) : State :=
  if v = r.tail then s
  else if serialDiff v r.done > r.size || serialDiff v r.tail > r.size then s.discardDoorbell t ring
  else s.setRing (ringKey t ring) { r with tail := v }

/-- R711: the consumed index of a tenant's event ring moves. -/
def State.consumeEvents (t : Nat) (v : W32) (s : State) : State :=
  let x := s.tenant t
  if serialDiff v x.events.consumed ≤ serialDiff x.events.produced x.events.consumed then
    s.setTenant t { x with events := { x.events with consumed := v, notified := false } }
  else s.discardDoorbell t 0xFFFFF

/-- R569, R570, R579: a doorbell by this path reaches the tenant; false where an aperture access is refused. [DESIGN CHOICE, log 98] -/
def State.doorbellGranted (s : State) (t : Nat) : Via → Bool
  | .host _ => true
  | .attach a => s.dict.active.grants.any (fun g => g.valid && !g.peer && g.doorbell && g.owner = t && g.port = a)

/-- R550, R569 to R571, R579: take a doorbell write; `f` is what a whole one does. [DESIGN CHOICE, log 98] -/
def State.takeDoorbell (t : Nat) (value : W64) (width : Nat) (via : Via) (f : State → State) (s : State) : State :=
  if !s.doorbellGranted t via then (match via with | .attach a => s.bump d14_0102 a | .host _ => s)
  else if !s.fnLive t then s
  else if width ≠ 64 || fieldNat 52 12 value ≠ 0 then s.discardDoorbell t (dbRing value)
  else f s

/-- DOORBELL (R142 to R145). -/
def execDoorbell (t : Nat) (value : W64) (width : Nat) (via : Via) (s : State) : Outcome :=
  let ring := dbRing value
  .next (s.takeDoorbell t value width via (fun s =>
    match s.ring? (ringKey t ring) with
    | none => if ring = 0xFFFFF then s else s.discardDoorbell t ring
    | some r =>
      if r.image.notify = 1 then s
      else if r.mode ≠ .active then s.discardDoorbell t ring
      else s.moveTail t ring r (dbIndex value)))

/-- NOTIFY_CONSUME_DOORBELL (R142, R143, R177). -/
def execNotifyConsumeDoorbell (t : Nat) (value : W64) (width : Nat) (via : Via) (s : State) : Outcome :=
  let ring := dbRing value
  match s.ring? (ringKey t ring) with
  | none => .next s
  | some r =>
    if r.image.notify ≠ 1 then .next s
    else
      .next (s.takeDoorbell t value width via (fun s =>
        if r.mode ≠ .active then s.discardDoorbell t ring else s.consume t ring r (dbIndex value)))

/-- EVENT_RING_CONSUME_DOORBELL (R711). -/
def execEventRingConsumeDoorbell (t : Nat) (value : W64) (width : Nat) (via : Via) (s : State) : Outcome :=
  if dbRing value = 0xFFFFF then .next (s.takeDoorbell t value width via (fun s => s.consumeEvents t (dbIndex value)))
  else .next s

/-! ### Accepting entries (R59, R60, R87, R147 to R155) -/

/-- R59: the tag that an entry brings to be extended at its acceptance, and the kind of its trigger. -/
def entryTag (w : W512) : Option (W32 × TriggerKind) :=
  let op := entOpcode w
  if op = 0x20 && stTimed w then some (stTrigger w, .reduce)
  else if (op = 0x10 || op = 0x11) && mvTimed w then some (mvTrigger w, .mover)
  else if op = 0x30 && entSpec w then some (dpDeadline w, .deadline)
  else none

/-- R87: the entry needs a trigger, and its tower has none free. -/
def State.noTrigger (s : State) (r : Ring) (w : W512) : Bool :=
  match entryTag w with
  | some (g, _) => tagState s.now g = .future && s.towerTriggers r.image.homeTower.toNat ≥ 8192
  | none => false

/-- R59, R60, R463: extend the tag of an accepted entry: the trigger it arms, the phase it takes, and whether it is late. -/
def State.takeTag (s : State) (k : Nat) (r : Ring) (first : W32) (pos : Nat) (w : W512) : Option Trigger × EntryPhase × Bool :=
  match entryTag w with
  | none => (none, .ready, false)
  | some (g, kind) =>
    let time := tagTime s.now g
    match tagState s.now g with
    | .future => (some ⟨time, kind, r.image.homeTower.toNat, k, first, pos, false⟩, if kind = .reduce then .armed time else .ready, false)
    | .due => (none, .ready, kind ≠ .deadline)
    | .expired => (none, if kind = .deadline then .ready else .expired, false)

/-- R60, D2.0075, D2.0076: a tag accepted late, or expired, is counted. [DEDUCED, log 19; DEDUCED, log 32] -/
def State.noteTag (late : Bool) (w : W512) (s : State) : State :=
  let s := if late then s.bump d2_0075 0 else s
  match entryTag w with
  | some (g, _) => if tagState s.now g = .expired then s.bump d2_0076 0 else s
  | none => s

/-- R154, R155: a chain takes one more entry. -/
def Chain.take (now : Nat) (w : W512) (phase : EntryPhase) (late re : Bool) (c : Chain) : Chain :=
  let c := { c with
    entries := c.entries ++ [⟨w, phase, 0⟩], slots := c.slots + 1, closed := entLast w
    late := c.late || late, refetched := c.refetched || re }
  if !c.closed && c.entries.length ≥ 64 then ({ c with closed := true } : Chain).finish now Status.chainLimit.code 0 else c

/-- Change the chain that is still open. -/
def Ring.modifyOpen (f : Chain → Chain) (r : Ring) : Ring :=
  { r with chains := r.chains.map (fun (c : Chain) => if c.closed then c else f c) }

/-- R166, R169: a chain is found malformed at an index as its entries are accepted. [DEDUCED, log 50] -/
def State.noteMalformed (k : Nat) (i : W32) (s : State) : State :=
  let s := s.bump d4_0102 (keyTenant k)
  if s.compatHalt then s.halt k i else s

/-- R153 to R155: an entry with a matching stamp is accepted. -/
def State.acceptEntry (k : Nat) (i : W32) (w : W512) (re : Bool) (s : State) : State :=
  match s.ring? k with
  | none => s
  | some r =>
    let s := (s.trace r.image.homeTower.toNat 2 (keyTenant k) (bytesOf 64 w))
    let r := { r with head := i + 1 }
    let inc := (s.tenant (keyTenant k)).inc
    let cut := r.open?.isSome && entFirst w
    let r := r.modifyOpen (fun c =>
      if cut then ({ c with closed := true } : Chain).finish s.now Status.malformed.code (c.entries.length % 256 + 256) else c)
    let s := if cut then s.noteMalformed k i else s
    match r.open? with
    | some c =>
      let g := s.takeTag k r c.first c.entries.length w
      let s := s.noteTag g.2.2 w
      let s := { s with time := { s.time with triggers := s.time.triggers ++ g.1.toList } }
      if s.pkg.halted then s else s.setRing k (r.modifyOpen (Chain.take s.now w g.2.1 g.2.2 re))
    | none =>
      let c : Chain := { first := i, entries := [], slots := 0, inc := inc }
      if s.pkg.halted then s
      else if entFirst w then
        let g := s.takeTag k r i 0 w
        let s := s.noteTag g.2.2 w
        let s := { s with time := { s.time with triggers := s.time.triggers ++ g.1.toList } }
        s.setRing k { r with chains := r.chains ++ [c.take s.now w g.2.1 g.2.2 re] }
      else
        let c := ({ c with entries := [⟨w, .done, 0⟩], slots := 1, closed := true, refetched := re } : Chain).finish s.now Status.malformed.code 256
        (s.setRing k { r with chains := r.chains ++ [c] }).noteMalformed k i

/-- R149: an entry whose stamp never matched completes with STALE_ENTRY, alone or as the last entry of its chain. [DEDUCED, log 48] -/
def State.staleEntry (k : Nat) (i : W32) (w : W512) (s : State) : State :=
  match s.ring? k with
  | none => s
  | some r =>
    let stamp := (entStamp w).toNat
    let r := { r with head := i + 1, refetch := none }
    let s := s.bump d4_0101 (keyTenant k)
    match r.open? with
    | some _ =>
      s.setRing k (r.modifyOpen (fun c =>
        ({ c with entries := c.entries ++ [⟨w, .done, 0⟩], slots := c.slots + 1, closed := true } : Chain).finish s.now
          Status.staleEntry.code stamp))
    | none =>
      s.setRing k { r with chains := r.chains ++ [({
        first := i, entries := [⟨w, .done, 0⟩], slots := 1, closed := true, inc := (s.tenant (keyTenant k)).inc } : Chain).finish s.now
          Status.staleEntry.code stamp] }

/-- The ring accepts entries. -/
def Ring.accepts (r : Ring) : Bool := r.mode = .active || r.mode = .draining

/-- Keep entries that cannot be accepted yet. -/
def State.holdEntries (k : Nat) (l : List (W32 × W512)) (f : Ring → Ring) (s : State) : State :=
  match s.ring? k with
  | none => s
  | some r => s.setRing k (f { r with held := l })

/-- R87, R147, R148, R150: accept the held entries in ring order, as far as their stamps match, from the head on. -/
def State.acceptHeld (k : Nat) : List (W32 × W512) → State → State
  | [], s => s.holdEntries k [] id
  | (i, w) :: rest, s =>
    match s.ring? k with
    | none => s
    | some r =>
      if !r.accepts || i ≠ r.head || r.refetch.isSome || s.noTrigger r w then s.holdEntries k ((i, w) :: rest) id
      else if entStamp w = field 0 16 i then (s.acceptEntry k i w false).acceptHeld k rest
      else if s.par d4_0010 r.image.homeTower.toNat = 0 then (s.staleEntry k i w).acceptHeld k rest
      else s.holdEntries k ((i, w) :: rest) (fun r => { r with
        refetch := some { index := i, since := s.now, stamp := entStamp w } })

/-- R148, R170: go on with what a ring holds; in DRAINING, chains that will not start complete. -/
def State.resumeRing (k : Nat) (s : State) : State :=
  match s.ring? k with
  | none => s
  | some r =>
    let s := s.acceptHeld k r.held
    match s.ring? k with
    | none => s
    | some r => (s.setRing k (r.drain s.now)).stopDrain k

/-! ### Fetching (R141, R146, R148, R152) -/

/-- The tenant's rings fetch: it is neither DISABLED nor RESETTING. -/
def State.tenantFetches (s : State) (t : Nat) : Bool := (s.tenant t).mode = .active || (s.tenant t).mode = .frozen

/-- R146: the ring has entries to fetch. -/
def Ring.pendingFetch (r : Ring) : Bool := r.image.notify = 0 && r.accepts && r.fetchNext ≠ r.tail

/-- R146: entries of the next read: up to 8, not past the last slot. -/
def Ring.fetchCount (r : Ring) : Nat := min (min 8 (serialDiff r.tail r.fetchNext)) (r.size - r.fetchNext.toNat % r.size)

/-- R146: the weighted round: a ring whose reads of the round are used up waits until no ring of its tower that has entries
to fetch has reads left; then every such ring gets WEIGHT reads. -/
def State.fetchRound (k : Nat) (r : Ring) (s : State) : State :=
  let tower := r.image.homeTower
  let want := fun (j : Nat) (q : Ring) => q.image.homeTower = tower && q.pendingFetch && s.tenantFetches (keyTenant j)
  if r.fetchCredit = 0 && !s.rings.any (fun e => want e.1 e.2 && e.2.fetchCredit ≠ 0 && e.1 ≠ k) then
    { s with rings := tmap (fun j (q : Ring) => if want j q then { q with fetchCredit := q.image.weight.toNat } else q) s.rings }
  else s

/-- R152: a fetch fails: the ring enters ERROR. -/
def State.fetchFailed (k : Nat) (s : State) : State :=
  match s.ring? k with
  | none => s
  | some r =>
    if r.accepts then
      (s.setRing k { r with mode := .error, fetches := [], held := [], refetch := none, mirrorSince := none }).event (keyTenant k) 1 3
        (keyRing k) 0 r.done.toNat
    else s

/-- FETCH_ISSUE (R87, R146). -/
def execFetchIssue (t ring : Nat) (s : State) : Outcome :=
  let k := ringKey t ring
  if !s.tenantFetches t || s.pkg.phase ≠ .running then .next s
  else
    let s := s.resumeRing k
    match s.ring? k with
    | none => .next s
    | some r =>
      if !r.pendingFetch then .next s
      else if r.refetch.isNone && (match r.held with | h :: _ => h.1 = r.head | [] => false) then .next s
      else
        let s := s.fetchRound k r
        match s.ring? k with
        | none => .next s
        | some r =>
          if r.fetchCredit = 0 then .next s
          else
            let n := r.fetchCount
            .next ((s.setRing k { r with
              fetchCredit := r.fetchCredit - 1, fetches := r.fetches ++ [(r.fetchNext, n)]
              fetchNext := r.fetchNext + BitVec.ofNat 32 n }).emit
              (.memRead r.place.space r.place.port r.place.pasid (r.slotAddr r.fetchNext) (64 * n)))

/-- Enter entries into a ring's held entries, in ring order from its head. -/
def holdEntry (head : W32) (e : W32 × W512) : List (W32 × W512) → List (W32 × W512)
  | [] => [e]
  | h :: t => if serialDiff e.1 head < serialDiff h.1 head then e :: h :: t else h :: holdEntry head e t

/-- FETCH_RETURN (R147, R152): `index` is the first index of the read. -/
def execFetchReturn (t ring : Nat) (index : W32) (ans : MemAns) (s : State) : Outcome :=
  let k := ringKey t ring
  match s.ring? k with
  | none => .next s
  | some r =>
    match r.fetches.find? (fun f => f.1 = index) with
    | none => .next s
    | some (_, n) =>
      let r := { r with fetches := r.fetches.filter (fun f => f.1 ≠ index) }
      let s := s.setRing k r
      let a := r.slotAddr index
      match s.placeRead t r.place a (64 * n) ans with
      | none => .next ((s.readFailed t r.place a (64 * n)).fetchFailed k)
      | some b =>
        let new := (upTo n).map (fun j => (index + BitVec.ofNat 32 j, w512OfBytes (slice (64 * j) 64 b)))
        .next ((s.setRing k { r with held := new.foldl (fun l e => holdEntry r.head e l) r.held }).resumeRing k)

/-- REFETCH_ISSUE (R148). -/
def execRefetchIssue (t ring : Nat) (s : State) : Outcome :=
  let k := ringKey t ring
  match s.ring? k with
  | none => .next s
  | some r =>
    match r.refetch with
    | none => .next s
    | some f =>
      let tower := r.image.homeTower.toNat
      if s.tenantFetches t && r.accepts && f.issued < s.par d4_0010 tower && f.since + s.par d4_0011 tower * (f.issued + 1) ≤ s.now then
        .next ((s.setRing k { r with refetch := some { f with issued := f.issued + 1 } }).emit
          (.memRead r.place.space r.place.port r.place.pasid (r.slotAddr f.index) 64))
      else .next s

/-- REFETCH_RETURN (R148, R149, R152). -/
def execRefetchReturn (t ring : Nat) (index : W32) (ans : MemAns) (s : State) : Outcome :=
  let k := ringKey t ring
  match s.ring? k with
  | none => .next s
  | some r =>
    match r.refetch with
    | none => .next s
    | some f =>
      if f.index ≠ index || f.returned ≥ f.issued then .next s
      else
        let a := r.slotAddr index
        match s.placeRead t r.place a 64 ans with
        | none => .next ((s.readFailed t r.place a 64).fetchFailed k)
        | some b =>
          let w := w512OfBytes b
          let rest := r.held.tail
          if entStamp w = field 0 16 index then
            let s := (s.setRing k { r with refetch := none, held := rest }).bump d4_0103 t
            .next ((s.acceptEntry k index w true).resumeRing k)
          else if f.returned + 1 ≥ s.par d4_0010 r.image.homeTower.toNat then
            .next (((s.setRing k { r with held := rest }).staleEntry k index w).resumeRing k)
          else .next (s.setRing k { r with refetch := some { f with returned := f.returned + 1, stamp := entStamp w } })

/-! ### Starting chains (R156, R166, R581, R612) -/

/-- R16, R166: the byte offset of an entry's first malformed field. -/
def State.entryBad (s : State) (t : Nat) (w : W512) : Option Nat :=
  match entOpcode w with
  | 0x01 => remoteBad 1 w
  | 0x02 => remoteBad 2 w
  | 0x03 => remoteBad 3 w
  | 0x04 => remoteBad 4 w
  | 0x10 => s.moveBad w
  | 0x11 => s.moveBad w
  | 0x20 => s.stepBad t w
  | 0x21 => quantizeBad w
  | 0x30 => dispatchBad w
  | 0x31 => combineBad w
  | 0x32 => resolveBad true w
  | 0x33 => resolveBad false w
  | 0x40 => bareBad w
  | 0x41 => bareBad w
  | 0x50 => cipherBad w
  | _ => some 0

/-- R160, R166: the first malformed entry of a chain: its position and the offset. -/
def State.chainBad (s : State) (t : Nat) (c : Chain) : Option (Nat × Nat) :=
  (upTo c.entries.length).findSome? (fun i =>
    match c.entries[i]? with
    | some e => (s.entryBad t e.word).map (fun o => (i, o))
    | none => none)

/-- R581: requests of a tenant in the request tracker of a tower. -/
def State.requestsOf (s : State) (t tower : Nat) : Nat :=
  s.conns.foldl (fun n e => if connTower e.1 = tower && e.2.ctx.core.tenant.toNat = t then n + e.2.outstanding else n) 0

/-- A mover entry on a channel that the tenant owns: 16 × tower + channel. -/
def State.moverOf (s : State) (t : Nat) (w : W512) : Option Nat :=
  if (entOpcode w = 0x10 || entOpcode w = 0x11) && s.ownsChan t (mvTower w) (mvChan w) then some (16 * mvTower w + mvChan w) else none

/-- R612: the entries of started chains that are still to be queued on a channel. -/
def State.moversPromised (s : State) (ch : Nat) : Nat :=
  s.rings.foldl (fun n e => e.2.running.foldl (fun n c =>
    n + (c.entries.filter (fun x => (x.phase = .ready || x.phase = .expired) && s.moverOf (keyTenant e.1) x.word = some ch)).length) n) 0

/-- R612: each mover entry of a chain can be queued. [DESIGN CHOICE, log 46] -/
def State.moversFit (s : State) (t : Nat) (c : Chain) : Bool :=
  let chans := c.entries.filterMap (fun x => s.moverOf t x.word)
  chans.all (fun ch => (s.chan (ch / 16) (ch % 16)).queue.length + s.moversPromised ch + (chans.filter (· = ch)).length ≤ 32)

/-- The next chain of a ring to start. -/
def Ring.nextChain (r : Ring) : Option Chain := r.chains.find? (fun c => !c.started && c.decided.isNone)

/-- R156, R579, R595: the ring may start its next chain. -/
def State.chainMayStart (s : State) (t : Nat) (r : Ring) (c : Chain) : Bool :=
  let x := s.tenant t
  r.mode = .active && c.closed && x.mode = .active && x.quiesceAt.isNone && s.pkg.phase = .running && !s.pkg.fatal && !s.pkg.halted
    && c.inc = x.inc && !(entFence c.firstWord && r.chains.head?.map (·.first) ≠ some c.first)

/-- CHAIN_START (R154, R156, R166, R169, R581, R612). -/
def execChainStart (t ring : Nat) (s : State) : Outcome :=
  let k := ringKey t ring
  match s.ring? k with
  | none => .next s
  | some r =>
    match r.nextChain with
    | none => .next s
    | some c =>
      if !s.chainMayStart t r c then .next s
      else
        match s.chainBad t c with
        | some (i, off) =>
          .next ((s.modifyChain k c.first (Chain.finish s.now Status.malformed.code (i % 256 + 256 * off))).noteMalformed k
            (c.first + BitVec.ofNat 32 i))
        | none =>
          if s.requestsOf t r.image.homeTower.toNat ≥ s.par d15_8001 t then
            .next (if c.limited then s else (s.modifyChain k c.first (fun c => { c with limited := true })).bump d15_0103 t)
          else if !s.moversFit t c then .next s
          else .next (s.modifyChain k c.first (fun c => { c with started := true }))

/-! ### Completing chains (R158 to R165, R172, R173) -/

/-- Triggers that a chain armed and that nothing needs any more. -/
def State.dropTriggers (k : Nat) (first : W32) (s : State) : State :=
  { s with time := { s.time with triggers := s.time.triggers.filter (fun (t : Trigger) => !(t.ring = k && t.first = first)) } }

/-- R158, R161, R163, R164, R173: write the record of a ring's oldest chain, which is decided, and advance done. [DEDUCED, log 80] -/
def State.recordChain (k : Nat) (c : Chain) (s : State) : State :=
  match s.ring? k with
  | none => s
  | some r =>
    let rec_ := c.record r.image.evtMode s.now
    let s := (s.dropTriggers k c.first).trace r.image.homeTower.toNat 3 (keyTenant k) rec_
    let w := s.ringWrite k r (r.slotAddr c.first) rec_
    let s := w.getD s
    let s := if c.outcome.1 = Status.poweredDown.code then s.bump d20_0103 0 else s
    let r := { r with chains := r.chains.tail, done := r.done + BitVec.ofNat 32 c.slots, mirrorSince := r.mirrorSince.or (some s.now) }
    let r := if c.signalled && !(r.fromError && w.isNone) then r.signal s.now else r
    s.setRing k r.reachTail

/-- R170, R172: what follows a record: an ABORT, or a DRAINING, may be over. -/
def State.afterRecord (k : Nat) (s : State) : State :=
  match s.ring? k with
  | none => s
  | some r => if r.mode = .aborting && r.chains.isEmpty then s.stopAbort k else s.stopDrain k

/-- COMPLETION_WRITE (R158 to R165, R171, R173, R587, R589). [DESIGN CHOICE, log 49] -/
def execCompletionWrite (t ring : Nat) (s : State) : Outcome :=
  let k := ringKey t ring
  match s.ring? k with
  | none => .next s
  | some r =>
    match r.chains with
    | [] => .next s
    | c :: _ =>
      let modes := r.accepts || r.mode = .aborting
      let held := (s.tenant t).mode = .resetting && r.place.space = 0
      if c.decided.isSome && modes && !held then .next ((s.recordChain k c).afterRecord k) else .next s

/-- ABORT_DEADLINE (R172). -/
def execAbortDeadline (t ring : Nat) (s : State) : Outcome :=
  let k := ringKey t ring
  match s.ring? k with
  | none => .next s
  | some r =>
    match r.abortAt with
    | none => .next s
    | some a =>
      if r.mode = .aborting && a + s.par d4_0012 r.image.homeTower.toNat ≤ s.now then
        .next ((r.chains.foldl (fun s c => s.recordChain k (c.finish s.now Status.aborted.code 0)) s).stopAbort k)
      else .next s

/-- MIRROR_WRITE (R163, R165). [DEDUCED, log 101] -/
def execMirrorWrite (t ring : Nat) (s : State) : Outcome :=
  let k := ringKey t ring
  match s.ring? k with
  | none => .next s
  | some r =>
    match r.mirrorSince with
    | none => .next s
    | some _ => if r.mode = .error || r.mode = .halted then .next s else .next (s.writeMirror k)

/-- RING_EVENT_TIMER (R164): the mirror that covers the completions precedes the event (R165). -/
def execRingEventTimer (t ring : Nat) (s : State) : Outcome :=
  let k := ringKey t ring
  match s.ring? k with
  | none => .next s
  | some r =>
    match r.firstUncovered with
    | none => .next s
    | some a =>
      let n := r.image.evtTime.toNat
      if n ≠ 0 && a + n ≤ s.now && r.image.evtMode ≠ 0 then
        let r := { r with eventDue := true }
        let s := s.setRing k r
        .next (if r.mirrorSince.isSome && r.mode ≠ .error && r.mode ≠ .halted then s.writeMirror k else s.raiseRing k)
      else .next s

/-! ### Realm changes (R229) -/

/-- R229: the realms that a running entry accesses memory under without a further check of them. [DEDUCED, log 53] -/
def State.entryRealms (s : State) (t : Nat) (w : W512) : List Nat :=
  let idx := fun (k : W32) => fieldNat 0 24 k
  match entOpcode w with
  | 0x20 => idx (entKey w) :: (match s.handleDesc? t (stHandle w) with | some d => [idx (hdKey d)] | none => [])
  | 0x21 => [idx (entKey w), idx (qzOutKey w), idx (qzErrKey w)]
  | 0x30 => [idx (entKey w), idx (dpRecKey w), idx (wsKey (s.stageDesc t (dpStage w)))]
  | 0x31 => idx (entKey w) :: idx (dpRecKey w) :: (match s.handleDesc? t (cbHandle w) with | some d => [idx (hdKey d)] | none => [])
  | 0x32 => [idx (entKey w)]
  | 0x50 => [idx (entKey w), idx (ciOutKey w)]
  | _ => []

/-- R229: a packet that passed its check under a key of the realm still has placements under way, or an entry that passed
its check still runs, or a burst is in flight. [DEDUCED, log 53] -/
def State.realmBusy (s : State) (i : Nat) : Bool :=
  s.conns.any (fun e => e.2.rx.any (fun m => fieldNat 0 24 m.key = i && m.placing ≠ 0)) ||
  s.rings.any (fun e => e.2.running.any (fun c => c.entries.any (fun x =>
    x.phase = .running && (s.entryRealms (keyTenant e.1) x.word).contains i))) ||
  s.movers.chans.any (fun e => e.2.queue.any (fun d => !d.bursts.isEmpty && (moveNeeds d.word).any (fun n => fieldNat 0 24 n.key = i)))

/-- REALM_CHANGE_DONE (R229): every access that passed under the old state has finished: VALID again, or FREE. [DEDUCED, log 53] -/
def execRealmChangeDone (realm : Nat) (s : State) : Outcome :=
  match s.realm? realm with
  | none => .next s
  | some r =>
    if r.mode = .changing && !s.realmBusy realm then
      let t := r.tenant.toNat
      let s := if r.destroying then { s with realms := { s.realms with realms := terase realm s.realms.realms } }
        else s.setRealm realm { r with mode := .valid }
      let f := s.fn t
      .next (if f.realm.busy && f.realm.target.toNat = realm then s.realmResult t rcOk (realmKey realm r.tag) else s)
    else .next s

end Sys2Proof.Machine
end

