-- ==== Sys2Proof/Machine/Tenants.lean ====
section
/-! DEFINITION. Tenants: reset, quiesce and what they squash (R577 to R597). -/
namespace Sys2Proof.Machine

/-! ### What a tenant has under way -/

/-- R577: the function of a tenant is enabled. -/
def State.fnEnabled (s : State) (t : Nat) : Bool :=
  s.pkg.phase = .running &&
  (t = 0 || t = 1024 ||
    let h := s.host (tenantHost t)
    h.vfEnable && t % 1024 ≤ h.numVfs)

/-- The connections of a tenant. -/
def State.tenantConns (s : State) (t : Nat) : List (Nat × Conn) := s.conns.filter (fun e => e.2.ctx.core.tenant.toNat = t)

/-- The rings of a tenant. -/
def State.tenantRings (s : State) (t : Nat) : List (Nat × Ring) := s.rings.filter (fun e => keyTenant e.1 = t)

/-- Messages of this side that still run: neither closed nor voided. -/
def Conn.liveMsgs (x : Conn) : List TxMsg := x.tx.filter (fun m => !m.closed && m.voided.isNone)

/-- Entries of a ring's chains that run in an engine other than the packet engine. -/
def Ring.engineEntries (r : Ring) : Nat :=
  r.running.foldl (fun n c => n + (c.entries.filter (fun e =>
    e.phase = .running && !(entOpcode e.word ≤ 4 || entOpcode e.word = 0x40 || entOpcode e.word = 0x41))).length) 0

/-- R584, D15.0003: the outstanding requests of a tenant in every tower's engines. [DEDUCED, log 93] -/
def State.tenantRequests (s : State) (t : Nat) : Nat :=
  (s.tenantConns t).foldl (fun n e => n + e.2.liveMsgs.length) 0 + (s.tenantRings t).foldl (fun n e => n + e.2.engineEntries) 0
    + (s.cupola.input.filter (fun h => h.tenant = t)).length + (s.miss.filter (fun e => e.tenant = t)).length

/-- R595: started work of a tenant remains. -/
def State.startedWork (s : State) (t : Nat) : Bool :=
  (s.tenantRings t).any (fun e => !e.2.running.isEmpty) || (s.tenantConns t).any (fun e => !e.2.liveMsgs.isEmpty)

/-- R588: the message of a peer acts on host memory, so that it goes no further during the reset of its tenant. -/
def State.rxOnHost (s : State) (m : RxMsg) : Bool :=
  match s.realm? (fieldNat 0 24 m.key) with | some r => r.space = 0 | none => false

/-- R590: old requests of a tenant remain under DRAIN: its own, and messages of peers that had begun. [DEDUCED, log 93] -/
def State.drainWork (s : State) (t : Nat) : Bool :=
  s.startedWork t || s.tenantRequests t ≠ 0
    || (s.tenantConns t).any (fun e => e.2.rx.any (fun m => !m.closed && !s.rxOnHost m))

/-! ### Squashing (R588, R591, R596) -/

/-- R596: started chains of a tenant complete with SQUASHED, and its unconfirmed messages are voided. -/
def State.squashWork (t : Nat) (s : State) : State :=
  let s := (s.tenantRings t).foldl (fun s e => e.2.running.foldl (fun s c => s.abandonChain e.1 c .squashed) s) s
  (s.tenantConns t).foldl (fun s e => e.2.liveMsgs.foldl (fun s m => s.voidMsg e.1 m.msn (m.kind = .resp) .squashed 0) s) s

/-- R588: the accumulators that a running step reaches hold undefined values. -/
def State.scrambleStep (w : AccWork) (s : State) : State :=
  let changes := w.action ≠ 3 || w.clearAfter
  if changes && hdOp w.desc ≠ 3 && w.phase = .running && !s.staleWork w then s.scramble (w.addrOf 0) (64 * w.total) else s

/-- R588: what a reset with mode SQUASH abandons. [DEDUCED, log 93] -/
def State.squashTenant (t : Nat) (s : State) : State :=
  let n := s.tenantRequests t
  let s := (s.cupola.works.filter (fun (w : AccWork) => w.tenant = t)).foldl (fun s w => s.scrambleStep w) s
  let s := (s.cupola.input.filter (fun (h : AccHold) => h.tenant = t)).foldl (fun s h => if s.staleHold h then s else s.scramble h.addr h.span) s
  let s := s.squashWork t
  let s := { s with
    cupola := { s.cupola with input := s.cupola.input.filter (fun (h : AccHold) => h.tenant ≠ t) }
    miss := s.miss.filter (fun (e : MissEntry) => e.tenant ≠ t) }
  let s := (s.tenantConns t).foldl (fun s e =>
    match s.conn? e.1 with
    | some x => (s.setConn e.1 { x with rx := [] }).releaseReservations e.1
    | none => s) s
  s.countSquashed t n

/-- R467, R588, R600: every unresolved speculation of a tenant is cancelled. -/
def State.cancelSpecs (t : Nat) (s : State) : State :=
  (s.speculations.filter (fun x => x.1 = t)).foldl (fun s x => s.cancelSpec t x.2 (some .cancelled)) s

/-! ### Reset (R585 to R592) -/

/-- R583 to R588: a reset cause; `squash`: the mode is SQUASH whatever D15.0010 holds. -/
def State.startReset (t cause : Nat) (squash : Bool) (s : State) : State :=
  let x := s.tenant t
  match x.reset with
  | some r => if r.squash then s else (s.setTenant t { x with reset := some { r with squash := true } }).squashTenant t
  | none =>
    if x.mode = .active || x.mode = .frozen then
      let sq := squash || s.par d15_0010 t = 1
      let s := s.setTenant t { x with
        mode := .resetting, inc := x.inc + 1, cause := BitVec.ofNat 8 cause, reset := some { squash := sq, since := s.now }
        mig := { x.mig with mode := .none, rebinds := [], rebindLeft := 0 }
        events := { x.events with mode := .stopped } }
      let s := (s.bump d15_0100 t).cancelSpecs t
      let s := if t = 0 then s.resetMaster 1 else if t = 1024 then s.resetMaster 2 else s
      if sq then s.squashTenant t else s
    else s

/-- TENANT_RESET (R585, cause 4): a write of 1 to D15.8012. -/
def execTenantReset (t : Nat) (s : State) : Outcome := .next (s.startReset t 4 false)

/-- DRAIN_LIMIT_EXPIRE (R591). -/
def execDrainLimitExpire (t : Nat) (s : State) : Outcome :=
  let x := s.tenant t
  match x.reset with
  | some r =>
    if !r.squash && r.since + s.par d15_0011 t ≤ s.now && s.drainWork t then
      .next (((s.setTenant t { x with reset := some { r with squash := true } }).bump d15_0101 t).squashTenant t)
    else .next s
  | none => .next s

/-- R588: the counters of tenant scope that a reset clears. [DEDUCED, log 94] -/
def tenantCounters : List Param :=
  (group4 ++ group5 ++ group6 ++ group7 ++ group8 ++ group9 ++ group10 ++ group11 ++ group12 ++ group13 ++ group14 ++ group15 ++
    group16 ++ group17 ++ group18 ++ group19 ++ group20).filter (fun p =>
      p.scope = .tenant && p.kind = .ro && !(p.group = 15 && (p.item = 1 || p.item = 0x100 || p.item = 0x101 || p.item = 0x102))
        && !(p.group = 18 && p.item = 0x21) && !(p.group = 20 && p.item = 0x31))

/-- R588: clear a tenant's counters. -/
def State.clearCounters (t : Nat) (s : State) : State :=
  { s with ro := tenantCounters.foldl (fun m p => terase (p.key t) m) s.ro }

/-- R589: at completion every fetched chain of a ring outside host memory that has no record gets one with SQUASHED. [DEDUCED, log 93] -/
def State.recordSquashed (k : Nat) (r : Ring) (s : State) : State :=
  if r.place.space = 0 || r.image.notify = 1 || r.mode = .error || r.mode = .halted then s
  else
    (r.chains.foldl (fun s (c : Chain) => s.recordChain k { c with
      fails := [(Status.squashed.code, 0)], decided := some s.now }) s).writeMirror k

/-- R426, R588: ARRIVED of every segment of a tenant's collective handles. -/
def State.clearArrived (t : Nat) (s : State) : State :=
  let r := s.dict.active.handleRange s.pkg.part t
  { s with cupola := { s.cupola with arrived := tfilter (fun k _ => !(r.1 ≤ k / 256 && k / 256 < r.1 + r.2)) s.cupola.arrived } }

/-- R354: a tenant's buckets are full. -/
def State.fillBuckets (t : Nat) (s : State) : State :=
  { s with shapers := tfilter (fun k _ => k / 8 ≠ t) s.shapers, policers := tfilter (fun k _ => k / 8 ≠ t) s.policers }

/-- R195, R588: the connections of a tenant enter QUARANTINE. [DEDUCED, log 94] -/
def State.quarantineAll (t : Nat) (s : State) : State :=
  (s.tenantConns t).foldl (fun s e =>
    if e.2.ctx.core.mode = .quarantine || e.2.ctx.core.mode = .free then s else (s.dropWork e.1 .squashed).quarantine e.1) s

/-- A parameter of kind RW or LV takes a value: in both sets (R104). -/
def State.setLive (p : Param) (i0 v : Nat) (s : State) : State :=
  { s with dict := { s.dict with
      active := s.dict.active.putInt s.pkg.part p i0 v, shadow := s.dict.shadow.putInt s.pkg.part p i0 v } }

/-- R655: every LOADED slot of a tenant's range is erased. [DEDUCED, log 94] -/
def State.eraseSlots (t : Nat) (s : State) : State :=
  (s.cipher.slots.filter (fun e => e.2.loaded && s.ownsSlot t e.1)).foldl (fun s e => s.eraseSlot e.1) s

/-- R588, R589, R597, R655: what a tenant holds at the completion of its reset. [DEDUCED, log 94] -/
def State.freeTenant (t : Nat) (s : State) : State :=
  let s := (s.tenantRings t).foldl (fun s e => (s.recordSquashed e.1 e.2).freeRing e.1) s
  let s := s.quarantineAll t
  let s := { s with
    realms := { s.realms with realms := tfilter (fun _ r => r.tenant.toNat ≠ t) s.realms.realms }
    handles := tfilter (fun _ h => h.tenant.toNat ≠ t) s.handles
    fns := terase t s.fns
    atsWait := s.atsWait.filter (fun (w : AtsWait) => w.fn ≠ t) }
  ((((s.eraseSlots t).clearArrived t).fillBuckets t).clearCounters t).setLive d15_8020 t 0

/-- TENANT_RESET_DONE (R579, R588 to R590, R592, R597). -/
def execTenantResetDone (t : Nat) (s : State) : Outcome :=
  match (s.tenant t).reset with
  | none => .next s
  | some r =>
    if !r.squash && s.drainWork t then .next s
    else
      let s := s.freeTenant t
      let x := s.tenant t
      let n := match x.reset with | some r => r.squashed | none => 0
      let s := s.setTenant t {
        mode := if s.fnEnabled t then .active else .disabled
        inc := x.inc, cause := x.cause, log := x.log, logCount := x.logCount
        events := { mode := .stopped, lost := x.events.lost }, mig := { result := x.mig.result, bytes := x.mig.bytes, lastSave := x.mig.lastSave } }
      let pf := tenantPf t
      .next (if pf = t then s else s.event pf 8 1 t n (x.cause.toNat + (if r.squash then 256 else 0)))

/-! ### Quiesce (R595 to R597) -/

/-- R595: QUIESCE is written to 1. -/
def State.quiesce (t : Nat) (s : State) : State :=
  let x := s.tenant t
  (s.setTenant t { x with quiesceAt := x.quiesceAt.or (some s.now) }).setLive d15_8020 t 1

/-- R595: QUIESCE is written to 0. -/
def State.unquiesce (t : Nat) (s : State) : State :=
  (s.setTenant t { s.tenant t with quiesceAt := none, quiesced := false }).setLive d15_8020 t 0

/-- QUIESCE_SET (R595). -/
def execQuiesceSet (t : Nat) (s : State) : Outcome := .next (s.quiesce t)

/-- QUIESCE_CLEAR (R595). -/
def execQuiesceClear (t : Nat) (s : State) : Outcome := .next (s.unquiesce t)

/-- QUIESCED (R595): no started work of a quiesced tenant remains. -/
def execQuiesced (t : Nat) (s : State) : Outcome :=
  let x := s.tenant t
  if x.quiesceAt.isSome && !s.startedWork t then .next (s.setTenant t { x with quiesced := true }) else .next s

/-- QUIESCE_LIMIT (R596, R600): D15.8022 has passed since QUIESCE was written to 1, or since a FREEZE. -/
def execQuiesceLimit (t : Nat) (s : State) : Outcome :=
  let x := s.tenant t
  let since := if x.mig.mode = .freezing then some x.mig.since else x.quiesceAt
  match since with
  | some a =>
    if x.reset.isNone && a + s.par d15_8022 t ≤ s.now && s.startedWork t then
      if x.mig.mode = .freezing then
        -- R600: engine work; messages in flight stay with their frozen connections.
        let busy := (s.tenantRings t).flatMap (fun e => (e.2.running.filter (fun c => c.entries.any (fun y =>
          y.phase = .running && !(entOpcode y.word ≤ 4 || entOpcode y.word = 0x40)))).map (fun c => (e.1, c)))
        .next (busy.foldl (fun s p => s.abandonChain p.1 p.2 .squashed) s)
      else .next (s.squashWork t)
    else .next s
  | none => .next s

end Sys2Proof.Machine
end

