-- ==== Sys2Proof/Machine/Migration.lean ====
section
/-! DEFINITION. Migration (R599 to R605, R671, R672) and path rebind (R214, R215, R605, R673). -/
namespace Sys2Proof.Machine

/-! ### Path-rebind datagrams (R214, R673) -/

/-- R673: ASCII "ZARICA-REBIND". -/
def rebindName : Bytes := [0x5A, 0x41, 0x52, 0x49, 0x43, 0x41, 0x2D, 0x52, 0x45, 0x42, 0x49, 0x4E, 0x44]

/-- R657, R673: the tag of a rebind body under a slot; none when the slot verifies no tag. -/
def State.rebindTag (s : State) (slot : Nat) (body : Bytes) : Option Bytes :=
  if s.slotUsable slot 0 then
    some (kmac256 (s.deriveKey slot 32 (s.label slot 5 0 0 (slice 4 4 body))) body 16 rebindName)
  else none

/-- R215: a handle rewritten by a rebind. -/
def Handle.rebind (h : Handle) (now : Nat) (b : Bytes) : Handle :=
  { h with
    peerAdapter := BitVec.ofNat 16 (leAt 2 2 b), encap := BitVec.ofNat 8 (leAt 8 1 b), rebound := 1
    peerMac := BitVec.ofNat 48 (leAt 10 6 b), peerIpv6 := BitVec.ofNat 128 (leAt 16 16 b)
    mapOld := BitVec.ofNat 24 (leAt 32 4 b), mapNew := BitVec.ofNat 24 (leAt 36 4 b), mapCount := BitVec.ofNat 32 (leAt 40 4 b)
    rebindSeq := BitVec.ofNat 32 (leAt 44 4 b), rebindTime := BitVec.ofNat 64 now }

/-- R215: the rebind applies to a handle. -/
def State.rebinds (s : State) (h : Handle) (b trailer : Bytes) : Bool :=
  h.valid = 1 && h.peerAdapter.toNat = leAt 0 2 b && h.peerTag.toNat = leAt 4 4 b
    && s.rebindTag (s.par d5_8003 h.tenant.toNat) b = some trailer && serialNewer (BitVec.ofNat 32 (leAt 44 4 b)) h.rebindSeq

/-- R215, R678: a path-rebind datagram for this adapter. -/
def State.takeRebind (p : Packet) (s : State) : State :=
  let h := p.payload.take 16
  let b := p.payload.drop 16
  if leAt 0 2 h ≠ 0x4D5A || leAt 2 1 h ≠ 1 || leAt 12 2 h ≠ b.length || b.length ≠ 48 || p.payload.length < 16 then s.bump d19_0107 0
  else if s.handles.any (fun e => s.rebinds e.2 b p.trailer) then
    { s with handles := tmap (fun _ h => if s.rebinds h b p.trailer then h.rebind s.now b else h) s.handles }
  else s.bump d5_0109 0

/-- PATH_REBIND_RX (R214 to R216, R687). -/
def execPathRebindRx (rx : Rx) (s : State) : Outcome := .next (s.takeDatagram rx (State.takeRebind rx.pkt))

/-- R605: the body of the datagrams that follow a restore. -/
def State.rebindBody (s : State) (t : Nat) : Bytes :=
  let m := (s.tenant t).mig
  let d := s.parBlob d15_8033 t 0 32
  let new := s.par d15_8032 t
  leBytes 2 m.srcAdapter.toNat ++ leBytes 2 (s.par d0_0001 0) ++ slice 0 4 d ++ slice 4 1 d ++ [0] ++ slice 6 6 d ++ slice 16 16 d
    ++ leBytes 4 m.connBase ++ leBytes 4 new ++ leBytes 4 (if m.connBase = new then 0 else m.connSpan) ++ leBytes 4 m.seq.toNat

/-- R605, R688: send the datagram to each distinct peer, once. [DESIGN CHOICE, log 95] -/
def State.sendRebinds (t : Nat) (s : State) : State :=
  let body := s.rebindBody t
  match s.rebindTag (s.par d5_8003 t) body with
  | none => s
  | some tag =>
    (s.tenant t).mig.rebinds.foldl (fun s dst =>
      match s.dict.active.fwdChoice dst 0 with
      | none => s
      | some e =>
        if s.hasId then
          let x := s.datagramItem e.port (s.datagramHdr 0x23 dst 0) (mgmtHeader 0 0 0 48 ++ body)
          (s.enqueue e.port 5 { x with pkt := { x.pkt with trailer := tag } }).bump d15_0104 t
        else s) s

/-- PATH_REBIND_REPEAT (R605). -/
def execPathRebindRepeat (t : Nat) (s : State) : Outcome :=
  let x := s.tenant t
  if x.mig.rebindLeft ≠ 0 && x.mig.rebindAt ≤ s.now then
    .next ((s.setTenant t { x with mig := { x.mig with
      rebindLeft := x.mig.rebindLeft - 1, rebindAt := x.mig.rebindAt + 12500 } }).sendRebinds t)
  else .next s

/-! ### Results (R599) -/

/-- R599: the migration states' codes. -/
def MigMode.code : MigMode → Nat
  | .none => 0 | .freezing => 1 | .frozen => 2 | .saving => 3 | .saved => 4 | .restoring => 5 | .restored => 6

/-- R599: result codes. -/
def mgOk : Nat := 0
def mgBadState : Nat := 1
def mgSpire : Nat := 2
def mgBuffer : Nat := 3
def mgAuth : Nat := 4
def mgFormat : Nat := 5
def mgPeer : Nat := 6
def mgConnBusy : Nat := 7
def mgRealmBusy : Nat := 8
def mgCapacity : Nat := 9

/-- D15.0031: the result of the last command. -/
def State.migResult (t code : Nat) (s : State) : State :=
  let x := s.tenant t
  s.setTenant t { x with mig := { x.mig with result := BitVec.ofNat 8 code } }

/-- Change what migration keeps of a tenant. -/
def State.setMig (t : Nat) (f : Migration → Migration) (s : State) : State :=
  let x := s.tenant t
  s.setTenant t { x with mig := f x.mig }

/-! ### FREEZE (R600) -/

/-- R600: the modified bays of a tenant's handle regions are written back. -/
def State.writeBays (t : Nat) (s : State) : State :=
  let mine := fun (b : Bay) => b.modified && (s.handleAt t b.block 1).isSome
  (upTo s.towers).foldl (fun s k =>
    let bs := s.baysOf k
    let hit := bs.filter mine
    let s := s.setBays k (bs.map (fun (b : Bay) => if mine b then { b with modified := false } else b))
    hit.foldl (fun s b =>
      ({ s with cupola := { s.cupola with writing := s.cupola.writing ++ [(k, b.block)] } } : State).bump d10_0011 k) s) s

/-- R599, R600: the FREEZE command. -/
def State.migFreeze (t : Nat) (s : State) : State :=
  let x := s.tenant t
  if x.mig.mode ≠ .none || x.mode ≠ .active then s.migResult t mgBadState
  else if (s.tenantConns t).any (fun e => e.2.ctx.core.cls = 1 && e.2.ctx.core.mode ≠ .quarantine) then s.migResult t mgSpire
  else
    let s := s.setTenant t { x with mode := .frozen, mig := { x.mig with mode := .freezing, since := s.now, result := 0 } }
    let s := (s.tenantConns t).foldl (fun s e => s.freeze e.1) s
    (s.cancelSpecs t).writeBays t

/-- MIG_FREEZE (R599, R600). -/
def execMigFreeze (t : Nat) (s : State) : Outcome := .next (s.migFreeze t)

/-- R599: all engine work of a freezing tenant is done. -/
def State.engineIdle (s : State) (t : Nat) : Bool := (s.tenantRings t).all (fun e => e.2.engineEntries = 0)

/-- MIG_FROZEN (R599): all engine work is done and every connection is FROZEN. -/
def execMigFrozen (t : Nat) (s : State) : Outcome :=
  let x := s.tenant t
  let settled := (s.tenantConns t).all (fun e =>
    let m := e.2.ctx.core.mode
    (m = .frozen && e.2.freezeAt.isNone) || m = .quarantine || m = .init || m = .error)
  if x.mig.mode = .freezing && s.engineIdle t && settled then .next (s.setMig t (fun m => { m with mode := .frozen, frozenAt := s.now }))
  else .next s

/-! ### The blob (R602, R671) -/

/-- R602: what a record of a started chain carries: the chain, its messages and their packets in flight, by connection. -/
structure SavedChain where
  chain : Chain
  msgs  : List (Nat × TxMsg)
  pkts  : List (Nat × TxPkt)
  deriving DecidableEq, Repr

end Sys2Proof.Machine

/-- R602, TYPE 5: the 128 bytes of a started chain, in a layout that the manual leaves to the adapter. -/
opaque Sys2Proof.Config.chainBody : Sys2Proof.Machine.SavedChain → List (BitVec 8)

/-- R602, TYPE 5: what RESTORE reads from such bytes. -/
opaque Sys2Proof.Config.savedChain : List (BitVec 8) → Option Sys2Proof.Machine.SavedChain

namespace Sys2Proof.Machine

/-- R602: a record: TYPE, ID, the body's length, the body. -/
def migRecord (type id : Nat) (body : Bytes) : Bytes := [BitVec.ofNat 8 type] ++ leBytes 3 id ++ leBytes 4 body.length ++ body

/-- R602: the chains of a ring that were started or are decided and precede its oldest unstarted chain. -/
def Ring.startedChains (r : Ring) : List Chain := r.chains.takeWhile (fun c => c.started || c.decided.isSome)

/-- R602: the index of the oldest unstarted chain. -/
def Ring.savedHead (r : Ring) : W32 := match r.chains.find? (fun c => !(c.started || c.decided.isSome)) with | some c => c.first | none => r.head

/-- R602: a started chain with its messages. -/
def State.savedChain (s : State) (t k : Nat) (c : Chain) : SavedChain :=
  let mine := fun (m : TxMsg) => match m.owner with | some e => e.ring = k && e.first = c.first | none => false
  { chain := c
    msgs := (s.tenantConns t).flatMap (fun e => (e.2.tx.filter mine).map (fun m => (e.1, m)))
    pkts := (s.tenantConns t).flatMap (fun e => (e.2.flight.filter (fun p =>
      p.kind ≠ .resp && e.2.tx.any (fun m => mine m && m.msn = p.msn))).map (fun p => (e.1, p))) }

/-- R602: the connections that are saved. -/
def State.savedConns (s : State) (t : Nat) : List (Nat × Conn) := (s.tenantConns t).filter (fun e => e.2.ctx.core.mode = .frozen)

/-- R602: the records of a tenant, in ascending TYPE and ID, one by one. -/
def State.migRecords (s : State) (t : Nat) : List Bytes :=
  let rings := s.tenantRings t
  rings.map (fun e => migRecord 1 (keyRing e.1) (bytesOf 64 ({ e.2 with head := e.2.savedHead } : Ring).word))
  ++ (s.savedConns t).map (fun e => migRecord 2 e.1 (s.shownCtx e.1 e.2).bytes)
  ++ ((s.realms.realms.filter (fun e => e.2.tenant.toNat = t)).map (fun e => migRecord 3 e.1 (bytesOf 64 e.2.word)))
  ++ ((s.handles.filter (fun e => e.2.valid = 1 && e.2.tenant.toNat = t)).map (fun e => migRecord 4 e.1 (bytesOf 64 e.2.word)))
  ++ rings.flatMap (fun e => e.2.startedChains.map (fun c => migRecord 5 (keyRing e.1) (slice 0 128 (Config.chainBody (s.savedChain t e.1 c)))))
  ++ ((s.cupola.arrived.filter (fun e =>
        let r := s.dict.active.handleRange s.pkg.part t
        r.1 ≤ e.1 / 256 && e.1 / 256 < r.1 + r.2)).map (fun e => migRecord 6 (e.1 / 256 + 4096 * (e.1 % 256)) (leBytes 8 e.2)))

/-- R602: CONN_BASE and CONN_SPAN. -/
def State.connSpan (s : State) (t : Nat) : Nat × Nat :=
  match (s.savedConns t).map (·.1) with
  | [] => (0, 0)
  | c :: cs => (c, (cs.getLast?.getD c) - c + 1)

/-- R602: the blob's header. -/
def State.migHeader (s : State) (t seq records length : Nat) : Bytes :=
  let span := s.connSpan t
  leBytes 2 1 ++ leBytes 1 (d0_0004.dflt) ++ [0] ++ leBytes 2 (d0_0005.dflt) ++ leBytes 2 (s.par d0_0001 0)
    ++ leBytes 2 (s.par d15_8036 t) ++ leBytes 2 t ++ leBytes 4 seq ++ leBytes 4 span.1 ++ leBytes 4 span.2 ++ leBytes 4 records
    ++ leBytes 4 0 ++ leBytes 8 length ++ leBytes 8 (s.tenant t).mig.frozenAt ++ leBytes 16 0

/-- R657, R671: the key of a blob, under the tenant's slot, from its header. -/
def State.migKey (s : State) (t : Nat) (header : Bytes) : Bytes :=
  let n := s.par d15_8031 t
  s.deriveKey n 32 (s.label n 4 0 0 header)

/-- R602, R671: the whole blob. [DESIGN CHOICE, log 95] -/
def State.migBlob (s : State) (t seq : Nat) : Bytes :=
  let rs := s.migRecords t
  let data := rs.flatten
  let h := s.migHeader t seq rs.length (64 + data.length + 16)
  let x := gcmSeal (s.migKey t h) (List.replicate 12 0) h data
  h ++ x.1 ++ x.2

/-- R601: MIG_BUF lies wholly in extents bound to the PF of the tenant's host port. -/
def State.migBufOk (s : State) (t : Nat) : Bool := s.tenantMem (tenantPf t) (s.par d15_8034 t) (s.par d15_8035 t)

/-! ### SAVE (R601, R672) -/

/-- R599, R601, R671, R672: the SAVE command. -/
def State.migSave (t : Nat) (s : State) : State :=
  let x := s.tenant t
  if x.mig.mode ≠ .frozen && x.mig.mode ≠ .saved then s.migResult t mgBadState
  else if !s.slotUsable (s.par d15_8031 t) 3 then s.migResult t mgAuth
  else
    let n := 80 + (s.migRecords t).foldl (fun a r => a + r.length) 0
    if !s.migBufOk t || n > s.par d15_8035 t then (s.setMig t (fun m => { m with bytes := BitVec.ofNat 64 n })).migResult t mgBuffer
    else
      let p := s.now / 65536
      let p := if p + 1 ≤ x.mig.lastSave then x.mig.lastSave else p
      s.setMig t (fun m => { m with mode := .saving, since := s.now, saveAt := p, lastSave := p + 1, result := 0 })

/-- MIG_SAVE (R599, R601, R672). -/
def execMigSave (t : Nat) (s : State) : Outcome := .next (s.migSave t)

/-- MIG_SAVE_DONE (R601, R602, R672): a SAVE that waits for the next period takes its SEQ there. -/
def execMigSaveDone (t : Nat) (s : State) : Outcome :=
  let x := s.tenant t
  if x.mig.mode = .saving && x.mig.saveAt ≤ s.now / 65536 then
    let b := s.migBlob t (x.mig.saveAt % 4294967296)
    let s := s.setMig t (fun m => { m with bytes := BitVec.ofNat 64 b.length })
    match (if b.length ≤ s.par d15_8035 t then s.placeWrite (tenantPf t) ⟨1, 0, 0⟩ (s.par d15_8034 t) b else none) with
    | some s => .next (s.setMig t (fun m => { m with mode := .saved, result := 0 }))
    | none => .next ((s.setMig t (fun m => { m with mode := .frozen })).migResult t mgBuffer)
  else .next s

/-! ### RESTORE (R603) -/

/-- R602: the records of a blob: TYPE, ID, body. -/
def parseRecords : Nat → Bytes → List (Nat × Nat × Bytes)
  | 0, _ => []
  | n + 1, b => if b.length < 8 then [] else
    let len := leAt 4 4 b
    (leAt 0 1 b, leAt 1 3 b, slice 8 len b) :: parseRecords n (b.drop (8 + len))

/-- R603: the tenant holds no ring, realm or address handle, and no connection that is not FREE. -/
def State.tenantEmpty (s : State) (t : Nat) : Bool :=
  (s.tenantRings t).isEmpty && s.realmsHeld t = 0 && s.handlesHeld t = 0 && (s.tenantConns t).isEmpty

/-- R603: the number a saved connection takes. -/
def State.restoredConn (s : State) (t base c : Nat) : Nat := (c + s.par d15_8032 t + 16777216 - base) % 16777216

/-- R603: why a record cannot be placed. -/
def State.recordBlocked (s : State) (t base : Nat) (r : Nat × Nat × Bytes) : Option Nat :=
  match r.1 with
  | 1 =>
    let m := RingImage.ofWord (w512OfBytes r.2.2)
    if r.2.1 ≥ s.par d4_8000 t || (s.ring? (ringKey t r.2.1)).isSome || m.homeTower.toNat ≥ s.towers
        || s.ringsOn m.homeTower.toNat ≥ 65536 || s.ringsOf t ≥ s.par d4_8000 t then some mgCapacity else none
  | 2 =>
    let c := s.restoredConn t base r.2.1
    let i := s.inc c
    let saved := (Ctx.ofBytes r.2.2).core.incarnation
    if !s.ownsConn t c || connTower c ≥ s.towers || (s.conn? c).isSome
        || (i.last = saved && i.quarantineEnd.toNat * 65536 + 1250000000 > s.now) then some mgConnBusy else none
  | 3 => if (s.realm? r.2.1).isSome then some mgRealmBusy else none
  | 4 => if (s.handle r.2.1).valid = 1 || s.handlesHeld t ≥ s.par d5_8001 t then some mgCapacity else none
  | 6 =>
    let g := s.dict.active.handleRange s.pkg.part t
    let h := r.2.1 % 4096
    if g.1 ≤ h && h < g.1 + g.2 then none else some mgCapacity
  | _ => none

/-- R602, R603: a started chain takes its place, with the messages of its connections. -/
def State.placeChain (t base ring : Nat) (body : Bytes) (s : State) : State :=
  match Config.savedChain body with
  | none => s
  | some v =>
    let k := ringKey t ring
    match s.ring? k with
    | none => s
    | some r =>
      let s := s.setRing k { r with chains := r.chains ++ [{ v.chain with inc := (s.tenant t).inc }] }
      let own := fun (m : TxMsg) => { m with owner := m.owner.map (fun e => { e with ring := k }) }
      let s := v.msgs.foldl (fun s e =>
        match s.conn? (s.restoredConn t base e.1) with
        | some x => s.setConn (s.restoredConn t base e.1) { x with tx := x.tx ++ [own e.2] }
        | none => s) s
      v.pkts.foldl (fun s e =>
        match s.conn? (s.restoredConn t base e.1) with
        | some x => s.setConn (s.restoredConn t base e.1) { x with flight := x.flight ++ [e.2] }
        | none => s) s

/-- R603: a record takes its place. -/
def State.placeRecord (t base : Nat) (r : Nat × Nat × Bytes) (s : State) : State :=
  let inc := (s.tenant t).inc
  match r.1 with
  | 1 =>
    let w := w512OfBytes r.2.2
    s.setRing (ringKey t r.2.1) {
      image := .ofWord w, mode := .stopped, tail := field 384 32 w, head := field 416 32 w, done := field 448 32 w
      fetchNext := field 416 32 w }
  | 2 =>
    let c := s.restoredConn t base r.2.1
    let x := s.returnedPaths (Ctx.ofBytes r.2.2)
    let s := s.setInc c { s.inc c with last := x.core.incarnation }
    s.setConn c { ctx := { x with core := { x.core with
        conn := BitVec.ofNat 24 c, tenant := BitVec.ofNat 11 t, tenantInc := inc, mode := .frozen } }, ableSince := s.now }
  | 3 =>
    let x := Realm.ofWord (w512OfBytes r.2.2)
    { s with realms := { s.realms with
        realms := tset r.2.1 { x with tenant := BitVec.ofNat 11 t, tenantInc := inc, mode := .valid } s.realms.realms
        lastTags := tput 0 r.2.1 x.tag s.realms.lastTags } }
  | 4 => s.setHandle r.2.1 { Handle.ofWord (w512OfBytes r.2.2) with tenant := BitVec.ofNat 11 t }
  | 5 => s.placeChain t base r.2.1 r.2.2
  | 6 => { s with cupola := { s.cupola with arrived := tput 0 (256 * (r.2.1 % 4096) + r.2.1 / 4096 % 256) (leAt 0 8 r.2.2) s.cupola.arrived } }
  | _ => s

/-- R603: place records one by one; the first that cannot be placed ends it with its code. [DESIGN CHOICE, log 95] -/
def State.placeRecords (t base : Nat) : List (Nat × Nat × Bytes) → State → Except Nat State
  | [], s => .ok s
  | r :: rs, s =>
    match s.recordBlocked t base r with
    | some e => .error e
    | none => (s.placeRecord t base r).placeRecords t base rs

/-- R603: read, open and check the blob: its header and its records, or the first failure. -/
def State.openBlob (s : State) (t : Nat) : Except Nat (Bytes × List (Nat × Nat × Bytes)) :=
  let a := s.par d15_8034 t
  let size := s.par d15_8035 t
  if !s.migBufOk t || size < 80 then .error mgBuffer
  else
    match s.memRead a 64 with
    | none => .error mgBuffer
    | some h =>
      let len := leAt 32 8 h
      if len < 80 || len > size then .error mgBuffer
      else if !s.slotUsable (s.par d15_8031 t) 3 then .error mgAuth
      else
        match s.memRead (a + 64) (len - 64) with
        | none => .error mgBuffer
        | some b =>
          match gcmOpen (s.migKey t h) (List.replicate 12 0) h (b.take (len - 80)) (b.drop (len - 80)) with
          | none => .error mgAuth
          | some data =>
            if leAt 0 2 h ≠ 1 || leAt 2 1 h ≠ d0_0004.dflt || leAt 4 2 h ≠ d0_0005.dflt then .error mgFormat
            else if leAt 8 2 h ≠ s.par d0_0001 0 || leAt 6 2 h ≠ s.par d15_8036 t then .error mgPeer
            else .ok (h, parseRecords (leAt 24 4 h) data)

/-- R599, R603: the RESTORE command. -/
def State.migRestore (t : Nat) (s : State) : State :=
  let x := s.tenant t
  if x.mig.mode ≠ .none || x.mode ≠ .active || !s.tenantEmpty t then s.migResult t mgBadState
  else
    let start := fun (f : Option Nat) (s : State) =>
      let y := s.tenant t
      s.setTenant t { y with mode := .frozen, mig := { y.mig with mode := .restoring, since := s.now, failure := f } }
    match s.openBlob t with
    | .error e => start (some e) s
    | .ok (h, rs) =>
      match s.placeRecords t (leAt 16 4 h) rs with
      | .error e => start (some e) s
      | .ok s =>
        let s := s.setMig t (fun m => { m with
          srcAdapter := BitVec.ofNat 16 (leAt 6 2 h), connBase := leAt 16 4 h % 16777216, connSpan := leAt 20 4 h
          seq := BitVec.ofNat 32 (leAt 12 4 h) })
        start none s

/-- MIG_RESTORE (R599, R603). -/
def execMigRestore (t : Nat) (s : State) : Outcome := .next (s.migRestore t)

/-- MIG_RESTORE_DONE (R579, R603). -/
def execMigRestoreDone (t : Nat) (s : State) : Outcome :=
  let x := s.tenant t
  if x.mig.mode ≠ .restoring then .next s
  else
    match x.mig.failure with
    | some e => .next (s.setTenant t { x with
        mode := .active, mig := { x.mig with mode := .none, failure := none, result := BitVec.ofNat 8 e } })
    | none => .next (s.setMig t (fun m => { m with mode := .restored, result := 0 }))

/-! ### RESUME and DISCARD (R599, R605) -/

/-- R605: a restored ring is ACTIVE. -/
def Ring.resumed (r : Ring) : Ring := { r with mode := .active }

/-- R605: the distinct peers of a tenant's handles. -/
def State.rebindPeers (s : State) (t : Nat) : List Nat :=
  (s.handles.filter (fun e => e.2.valid = 1 && e.2.tenant.toNat = t)).foldl (fun l e =>
    if l.contains e.2.peerAdapter.toNat then l else l ++ [e.2.peerAdapter.toNat]) []

/-- R599, R605: the RESUME command. [DESIGN CHOICE, log 95] -/
def State.migResume (t : Nat) (s : State) : State :=
  let x := s.tenant t
  let m := x.mig.mode
  if m ≠ .frozen && m ≠ .saved && m ≠ .restored then s.migResult t mgBadState
  else
    let s := s.setTenant t { x with mode := .active, mig := { x.mig with mode := .none, result := 0 } }
    let s := (s.tenantConns t).foldl (fun s e => s.thaw e.1) s
    if m = .restored then
      let s := { s with rings := tmap (fun k r => if keyTenant k = t then r.resumed else r) s.rings }
      (s.setMig t (fun g => { g with rebinds := s.rebindPeers t, rebindLeft := 2, rebindAt := s.now + 12500 })).sendRebinds t
    else s

/-- MIG_RESUME (R599, R605). -/
def execMigResume (t : Nat) (s : State) : Outcome := .next (s.migResume t)

/-- R599: the DISCARD command. -/
def State.migDiscard (t : Nat) (s : State) : State :=
  if (s.tenant t).mig.mode = .none then s.migResult t mgBadState else (s.migResult t mgOk).startReset t 5 true

/-- MIG_DISCARD (R585, R599). -/
def execMigDiscard (t : Nat) (s : State) : Outcome := .next (s.migDiscard t)

end Sys2Proof.Machine
end

