-- ==== Sys2Proof/Machine/HostPorts.lean ====
section
/-! DEFINITION. Host ports and their functions, translation of host memory, registered regions, attach ports and their
aperture (R545 to R574, R577, R578, R744). -/
namespace Sys2Proof.Machine

/-! ### Host links and functions (R545 to R547, R553, R577, R578, R744) -/

/-- The PF of a host port. -/
def hostPf (h : Nat) : Nat := 1024 * h

/-- R578: the enabled VF tenants of a host port. -/
def State.vfTenants (s : State) (h : Nat) : List Nat :=
  let p := s.host h
  if p.vfEnable then (upTo p.numVfs).map (fun i => 1024 * h + 1 + i) else []

/-- R577, R578: VF Enable of a host port is cleared. -/
def State.clearVfs (h : Nat) (s : State) : State := s.setHost h { s.host h with vfEnable := false, numVfs := 0 }

/-- PCIe: a function's MSI-X table returns to its reset values. [PRESUMED, log 73] -/
def State.resetMsix (t : Nat) (s : State) : State := { s with msix := tfilter (fun k _ => k / 4096 ≠ t) s.msix }

/-- R547: every enabled function of a host port is reset. -/
def State.resetHost (h : Nat) (s : State) : State :=
  let vfs := s.vfTenants h
  let s := (s.clearVfs h).startReset (hostPf h) 3 false
  let s := vfs.foldl (fun s t => s.startReset t 3 true) s
  (hostPf h :: vfs).foldl (fun s t => s.resetMsix t) s

/-- R547: the link of a host port goes down, or a hot reset arrives. -/
def State.hostDown (h : Nat) (s : State) : State :=
  let s := s.resetHost h
  s.setHost h { perst := (s.host h).perst }

/-- HOST_LINK_TRAINED (R545, R546): `rate` 1 to 5 for 2.5 to 32 GT/s. -/
def execHostLinkTrained (host rate width : Nat) (s : State) : Outcome :=
  let p := s.host host
  if host < 2 && !p.perst && !p.linkUp && 1 ≤ rate && rate ≤ 5 && [1, 2, 4, 8, 16].contains width
      && s.timeRuns && !s.pkg.pins.test then
    let low := rate < 3 || width < 4
    let s := s.setHost host { p with
      linkUp := true, rate := BitVec.ofNat 8 rate, width := BitVec.ofNat 8 (width + (if low then 128 else 0)) }
    .next (if low then s.event (hostPf host) 5 2 host 0 rate else s)
  else .next s

/-- HOST_LINK_DOWN (R547). -/
def execHostLinkDown (host : Nat) (s : State) : Outcome :=
  if host < 2 && (s.host host).linkUp then .next (s.hostDown host) else .next s

/-- PERST_ASSERT (R744): as link loss on its functions, and the link is held down. -/
def execPerstAssert (host : Nat) (s : State) : Outcome :=
  if host < 2 && !(s.host host).perst then
    let s := if (s.host host).linkUp then s.hostDown host else s
    .next (s.setHost host { s.host host with perst := true })
  else .next s

/-- PERST_DEASSERT (R744): the port starts training. -/
def execPerstDeassert (host : Nat) (s : State) : Outcome :=
  if host < 2 then .next (s.setHost host { s.host host with perst := false }) else .next s

/-- R169: a function-level reset of the PF of H0 ends the halt: every ring of both PFs is UNUSED. -/
def State.endHalt (s : State) : State :=
  if s.pkg.halted then
    let s := { s with pkg := { s.pkg with halted := false, pins := { s.pkg.pins with faultN := s.pkg.fatal } } }
    let s := if s.pkg.fatal then s else s.emit (.pin pinFault true)
    let s := (s.rings.filter (fun e => pfRing e.1)).foldl (fun s e => s.freeRing e.1) s
    s.settlePorts
  else s

/-- FLR (R169, R578, R585): cause 1; a PF's also clears VF Enable, whose tenants record cause 2. [PRESUMED, log 73] -/
def execFlr (t : Nat) (s : State) : Outcome :=
  if (s.tenant t).mode = .disabled then .next s
  else
    let h := tenantHost t
    let s := if t = 0 then s.endHalt else s
    let s := (s.startReset t 1 false).resetMsix t
    if t = hostPf h then
      let vfs := s.vfTenants h
      let s := vfs.foldl (fun s v => (s.startReset v 2 true).resetMsix v) (s.clearVfs h)
      .next (s.setHost h { s.host h with pasid := false, timeout := 20000000 })
    else .next s

/-- R577: a tenant whose function is enabled is ACTIVE. -/
def State.enableTenant (t : Nat) (s : State) : State :=
  if (s.tenant t).mode = .disabled && s.fnEnabled t then s.setTenant t { s.tenant t with mode := .active } else s

/-- VF_ENABLE_SET (R168, R577). -/
def execVfEnableSet (host numVfs : Nat) (s : State) : Outcome :=
  let p := s.host host
  if host < 2 && p.linkUp && s.pkg.phase = .running && !p.vfEnable && numVfs ≤ 1023 then
    let s := s.setHost host { p with vfEnable := true, numVfs := numVfs }
    let s := if s.compatHalt then (s.setLive d4_8001 0 0).logFault .package .config 0 none 0 0 0 else s
    .next ((s.vfTenants host).foldl (fun s t => s.enableTenant t) s)
  else .next s

/-- VF_ENABLE_CLEAR (R578). -/
def execVfEnableClear (host : Nat) (s : State) : Outcome :=
  if host < 2 then .next ((s.vfTenants host).foldl (fun s t => s.startReset t 2 true) (s.clearVfs host)) else .next s

/-- D3HOT_ENTRY (R553): the function's rings go to STOPPED as by SHUTDOWN. -/
def execD3hotEntry (t : Nat) (s : State) : Outcome :=
  .next ((s.tenantRings t).foldl (fun s e => s.shutdownRing e.1) s)

/-! ### Address translation (R558 to R560) -/

/-- Waits for one page of a function. -/
def State.pageWaits (s : State) (t pasid page : Nat) : List AtsWait :=
  s.atsWait.filter (fun w => w.fn = t && w.pasid = pasid && w.page = page)

/-- Change the waits for one page. -/
def State.modifyWaits (t pasid page : Nat) (f : AtsWait → AtsWait) (s : State) : State :=
  { s with atsWait := s.atsWait.map (fun (w : AtsWait) => if w.fn = t && w.pasid = pasid && w.page = page then f w else w) }

/-- Remove a wait. -/
def State.dropWait (w : AtsWait) (s : State) : State := { s with atsWait := s.atsWait.erase w }

/-- The entry that a wait names. -/
def AtsWait.ref (w : AtsWait) : EntryRef := ⟨w.ring, w.first, w.pos⟩

/-- R558: the entry of a wait goes on: it is executed again. -/
def State.wakeEntry (w : AtsWait) (s : State) : State :=
  (s.dropWait w).modifyChain w.ring w.first (fun c =>
    if c.decided.isSome then c else c.modifyEntry w.pos (fun e => { e with phase := if w.expired then .expired else .ready }))

/-- R553: page requests outstanding on the PF of a host port. [PRESUMED, log 74] -/
def State.pageRequests (s : State) (h : Nat) : Nat := (s.atsWait.filter (fun w => tenantHost w.fn = h && w.pri.isSome)).length

/-- R558: a page that grants less than an access needs is requested through PRI. [PRESUMED, log 74] -/
def State.requestPage (w : AtsWait) (s : State) : State :=
  if s.pageRequests (tenantHost w.fn) ≥ 512 then s
  else
    ((s.modifyWaits w.fn w.pasid w.page (fun x => if x = w then { x with pri := some s.now } else x)).emit (.ats w.fn 1 w.page)).bump
      d14_0104 (tenantHost w.fn)

/-- ATS_TRANSLATION_RESPONSE (R558): the host grants reading, and perhaps writing. `pasid` is plus one. -/
def execAtsTranslationResponse (t pasid page : Nat) (read write : Bool) (s : State) : Outcome :=
  let ws := (s.pageWaits t pasid page).filter (fun w => w.pri.isNone)
  if ws.isEmpty then .next s
  else
    let s := if read then { s with ats := s.ats.filter (fun (x : Translation) => !(x.fn = t && x.pasid = pasid && x.page = page))
        ++ [⟨t, pasid, page, write⟩] } else s
    .next (ws.foldl (fun s w => if read && (write || !w.write) then s.wakeEntry w else s.requestPage w) s)

/-- R559: a page request fails: its chain ends with TRANSLATION_FAULT. -/
def State.pageFailed (w : AtsWait) (s : State) : State :=
  ((s.dropWait w).bump d14_0105 (tenantHost w.fn)).failLocal w.fn w.ref rsTranslation

/-- PRI_RESPONSE (R559): Success, or Response Failure or Invalid Request. After Success the translation is requested again. -/
def execPriResponse (t pasid page : Nat) (ok : Bool) (s : State) : Outcome :=
  let ws := (s.pageWaits t pasid page).filter (fun w => w.pri.isSome)
  .next (ws.foldl (fun s w =>
    if ok then (s.modifyWaits t pasid page (fun x => if x = w then { x with pri := none } else x)).emit (.ats t 0 page)
    else s.pageFailed w) s)

/-- PRI_TIMEOUT (R559). [PRESUMED, log 74] -/
def execPriTimeout (t pasid page : Nat) (s : State) : Outcome :=
  let ws := (s.pageWaits t pasid page).filter (fun w => match w.pri with | some a => a + s.par d14_0050 0 ≤ s.now | none => false)
  .next (ws.foldl (fun s w => s.pageFailed w) s)

/-- R560: an access of the function that uses a translation of the page is under way. -/
def State.pageInUse (s : State) (t pasid page : Nat) : Bool :=
  let hits := fun (p : Place) (a len : Nat) => p.space = 0 && p.pasid = pasid && len ≠ 0 && a / 4096 ≤ page && page ≤ (a + len - 1) / 4096
  s.movers.chans.any (fun e => e.2.queue.any (fun d => d.tenant = t && d.bursts.any (fun b =>
    hits d.src (entLocal d.word + b.1) b.2 || hits d.dst (entRemote d.word + b.1) b.2)))
  || (s.tenantConns t).any (fun e => e.2.rx.any (fun m => m.placing ≠ 0 && hits m.place m.addr.toNat m.length))

/-- ATS_INVALIDATE (R560): `pages` pages from `first` on; completed once every access that used them has finished. -/
def execAtsInvalidate (t pasid first pages : Nat) (s : State) : Outcome :=
  let hit := fun (x : Translation) => x.fn = t && x.pasid = pasid && first ≤ x.page && x.page < first + pages
  if s.ats.any (fun x => hit x && s.pageInUse t pasid x.page) then .next s
  else .next ((({ s with ats := s.ats.filter (fun x => !hit x) } : State).emit (.ats t 2 first)).bump d14_0103 (tenantHost t))

/-! ### Registered regions (R562 to R566) -/

/-- R562: the fields of a region. -/
structure Region where
  valid : Bool
  host  : Nat
  write : Bool
  read  : Bool
  cross : Bool
  space : Nat
  port  : Nat
  tenant : Nat
  page  : Nat
  pages : Nat
  target : Nat
  reqId : Nat
  reqMask : Nat
  deriving DecidableEq, Repr

/-- R562: a region from its 32 bytes. -/
def regionOf (b : Bytes) : Region :=
  let f := leAt 0 1 b
  ⟨natField 0 1 f = 1, natField 1 1 f, natField 2 1 f = 1, natField 3 1 f = 1, natField 4 1 f = 1, leAt 1 1 b, leAt 2 1 b % 8,
    leAt 4 2 b % 2048, leAt 8 4 b, leAt 12 4 b, leAt 16 8 b, leAt 24 2 b, leAt 26 2 b⟩

/-- R562: entry `r` of a set's region table. -/
def ParamSet.region (ps : ParamSet) (r : Nat) : Region := regionOf (ps.blob d14_0020 0 (32 * r) 32)

/-- R564: the region that allows a request to BAR2. [DEDUCED, log 71] -/
def State.regionFor (s : State) (host reqId offset len : Nat) (write : Bool) : Option Region :=
  ((upTo 4096).map s.dict.active.region).find? (fun r =>
    r.valid && r.host = host && 4096 * r.page ≤ offset && offset + len ≤ 4096 * (r.page + r.pages)
      && Nat.land reqId r.reqMask = Nat.land r.reqId r.reqMask && (if write then r.write else r.read))

/-- R562: the memory a region opens. -/
def Region.place (r : Region) : Place := ⟨r.space, if r.space = 2 then r.port else 0, 0⟩
def Region.addr (r : Region) (offset : Nat) : Nat := r.target + (offset - 4096 * r.page)

/-- WINDOW_WRITE (R564, R565). [DEDUCED, log 72] -/
def execWindowWrite (host reqId offset : Nat) (data : Bytes) (s : State) : Outcome :=
  if !(s.host host).linkUp || s.pkg.phase ≠ .running then .next s
  else
    match s.regionFor host reqId offset data.length true with
    | none => .next (s.bump d14_0100 host)
    | some r =>
      let a := r.addr offset
      if !s.placeOk r.tenant r.place a data.length true then .next (s.bump d14_0100 host)
      else
        match s.placeWrite r.tenant r.place a data with
        | none => .next s
        | some s =>
          let p := s.host host
          if r.space = 2 then
            .next (s.setHost host { p with
              winAttach := tset r.port (a + (data.length - min 4 data.length)) p.winAttach
              winCross := if r.cross && !p.winCross.contains r.port then p.winCross ++ [r.port] else p.winCross })
          else .next s

/-- R566: the read-backs of a flushing read of a region at `a`. On the attach port that it reads itself, its own read is
the read-back, and a read on the other path takes the same bytes. [DEDUCED, log 72] -/
def State.flushWindow (host : Nat) (r : Region) (a : Nat) (s : State) : State :=
  let p := s.host host
  let s := p.winAttach.foldl (fun s e =>
    let cross := if p.winCross.contains e.1 then 1 else 0
    if r.space = 2 && r.port = e.1 then s.emitReads ⟨2, e.1, 0⟩ a cross else s.emitReads ⟨2, e.1, 0⟩ e.2 (1 + cross)) s
  s.setHost host { s.host host with winAttach := [], winCross := [] }

/-- Who a read of the window is answered: the PF. -/
def windowReader (host : Nat) : Nat := hostPf host

/-- WINDOW_READ (R561, R564, R566): `ok` says whether its read-backs complete, `ans` what attach memory answers. [DEDUCED, log 72] -/
def execWindowRead (host reqId offset len : Nat) (ok : Bool) (ans : MemAns) (s : State) : Outcome :=
  if !(s.host host).linkUp || s.pkg.phase ≠ .running then .next s
  else
    let refused := ((s.bump d14_0101 host).aer (hostPf host) .windowRead).emit (.readData (windowReader host) [] true)
    match s.regionFor host reqId offset len false with
    | none => .next refused
    | some r =>
      let a := r.addr offset
      if !s.placeOk r.tenant r.place a len false then .next refused
      else
        let any := !(s.host host).winAttach.isEmpty
        let s := s.flushWindow host r a
        if any && !ok then .next (s.emit (.readData (windowReader host) [] true))
        else
          let s := if r.space = 2 then s.emit (.memRead 2 r.port 0 a len) else s
          match s.placeRead r.tenant r.place a len ans with
          | some b => .next (s.emit (.readData (windowReader host) b false))
          | none => .next ((s.readFailed r.tenant r.place a len).emit (.readData (windowReader host) [] true))

/-! ### Attach ports (R567, R568) -/

/-- R567: the codes of the attach states. -/
def AttachMode.code : AttachMode → Nat
  | .down => 0 | .training => 1 | .nativeUp => 2 | .cxlUp => 3 | .fault => 4

/-- R567, R714: an attach port changes its state. -/
def State.attachTo (a : Nat) (m : AttachMode) (width bytes : Nat) (s : State) : State :=
  (s.setAttach a { mode := m, width := BitVec.ofNat 8 width, bytes := BitVec.ofNat 64 bytes, since := s.now }).packageEvent 5 4 a 0 m.code

/-- An attach port may train: the package runs, its tower is present and its domains are OPEN. -/
def State.attachEnabled (s : State) (a : Nat) : Bool :=
  s.pkg.phase = .running && a < s.towers && (s.domain (domAttach a)).mode = .open_ && (s.domain (domTower a)).mode = .open_

/-- R567: an attach port starts to train. [DEDUCED, log 75] -/
def State.startAttach (a : Nat) (s : State) : State :=
  if s.attachEnabled a && ((s.attachPort a).mode = .down || (s.attachPort a).mode = .fault) then s.attachTo a .training 0 0 else s

/-- ATTACH_TRAIN (R567): the partner answers native training, trains CXL; the width and the bytes it then has. [DEDUCED, log 75] -/
def execAttachTrain (port : Nat) (native cxl : Bool) (width bytes : Nat) (s : State) : Outcome :=
  if (s.attachPort port).mode ≠ .training then .next s
  else
    let policy := s.par d14_0040 port
    let bytes := min bytes 1099511627776
    if policy ≠ 2 && native then .next (s.attachTo port .nativeUp width bytes)
    else if policy ≠ 1 && cxl then .next (s.attachTo port .cxlUp width bytes)
    else .next (s.attachTo port .fault 0 0)

/-- ATTACH_FAULT_RETRY (R567, R568). -/
def execAttachFaultRetry (port : Nat) (s : State) : Outcome :=
  let x := s.attachPort port
  if x.mode = .fault && x.since + s.par d14_0045 port ≤ s.now && s.attachEnabled port then
    .next ((s.startAttach port).bump d14_0107 port)
  else .next s

/-- ATTACH_LINK_LOSS (R567, R568): the port is down, and trains again. -/
def execAttachLinkLoss (port : Nat) (s : State) : Outcome :=
  if s.attachUp port then .next (((s.attachTo port .down 0 0).startAttach port).bump d14_0107 port) else .next s

/-! ### The aperture (R491, R569 to R571) -/

/-- R491: the accelerator on a port may access a range of package memory. -/
def State.accelMem (s : State) (port a len : Nat) (write : Bool) : Bool :=
  a + len ≤ 2199023255552 && (extentsOf a len).all (fun x =>
    let e := s.extentEntry x
    !extentAbsent s.towers x && !extentReserved x && (bindOf e = 2 || bindOf e = 3) && bindPort e = port
      && !(write && fieldNat 16 1 e = 1))

/-- R569, R572: a KIND 1 grant from one attach port to another covers a range. -/
def State.peerGrant (s : State) (owner port a len : Nat) (write : Bool) : Bool :=
  s.dict.active.grants.any (fun g => g.valid && g.peer && g.owner % 8 = owner && g.port = port && g.base ≤ a
    && a + len ≤ g.base + g.size && !(write && g.readOnly))

/-- Who an accelerator's read is answered. -/
def accelReader (port : Nat) : Nat := 4096 + port

/-- R142, R177, R711: a doorbell write, of whichever ring it names. -/
def State.ringDoorbell (t : Nat) (v : W64) (width : Nat) (via : Via) (s : State) : State :=
  s.takeDoorbell t v width via (fun s =>
    let ring := dbRing v
    if ring = 0xFFFFF then s.consumeEvents t (dbIndex v)
    else
      match s.ring? (ringKey t ring) with
      | none => s.discardDoorbell t ring
      | some r =>
        if r.mode ≠ .active then s.discardDoorbell t ring
        else if r.image.notify = 1 then s.consume t ring r (dbIndex v)
        else s.moveTail t ring r (dbIndex v))

/-- R570: an accelerator's access that is not performed: an error answers a read, and on the native link a write. -/
def State.accelError (port : Nat) (write : Bool) (s : State) : State :=
  if write && (s.attachPort port).mode ≠ .nativeUp then s else s.emit (.readData (accelReader port) [] true)

/-- R570: an aperture access is refused. -/
def State.refuseAperture (port : Nat) (write : Bool) (s : State) : State := (s.bump d14_0102 port).accelError port write

/-- The answer to an accelerator's access. -/
def State.answerAccel (port : Nat) (write : Bool) (r : Option State) (b : Option Bytes) (s : State) : State :=
  if write then
    match r with
    | some s => s
    | none => s.accelError port write
  else
    match b with
    | some b => s.emit (.readData (accelReader port) b false)
    | none => s.accelError port write

/-- R569, R570: an accelerator's access to package memory. -/
def State.accessPackage (port a : Nat) (write : Bool) (len : Nat) (data : Bytes) (s : State) : State :=
  if !s.accelMem port a len write then s.refuseAperture port write
  else if s.placeClosed ⟨1, 0, 0⟩ a len then s.accelError port write
  else
    let b := s.memRead a len
    let s := if write || b.isSome then s else s.countPoison ⟨1, 0, 0⟩ a len
    s.answerAccel port write (s.memWrite a data) b

/-- R569, R571: an accelerator's access to the attach memory of another port. -/
def State.accessPeer (port u a : Nat) (write : Bool) (len : Nat) (data : Bytes) (ans : MemAns) (s : State) : State :=
  if !s.peerGrant port u a len write then s.refuseAperture port write
  else if !s.attachUp u || s.placeClosed ⟨2, u, 0⟩ a len then s.accelError port write
  else if write then s.emit (.attachWrite u a data)
  else
    let s := s.emit (.memRead 2 u 0 a len)
    s.answerAccel port false none (match ans with | .data b => some (slice 0 len b) | _ => none)

/-- APERTURE_ACCESS (R569 to R571): a write of `data`, or a read of `len` bytes; `ans` is what another port's attach memory
answers. -/
def execApertureAccess (port addr : Nat) (write : Bool) (len : Nat) (data : Bytes) (ans : MemAns) (s : State) : Outcome :=
  let n := if write then data.length else len
  if !s.attachUp port || n = 0 then .next s
  else if addr + n ≤ 0x20000000000 then .next (s.accessPackage port addr write n data)
  else if 0x20000000000 ≤ addr && addr + n ≤ 0xA0000000000 && addr / 0x10000000000 = (addr + n - 1) / 0x10000000000 then
    .next (s.accessPeer port (addr / 0x10000000000 - 2) (addr % 0x10000000000) write n data ans)
  else if 0xA0000000000 ≤ addr && addr + n ≤ 0xA0000000000 + 4096 * 2048 && addr / 4096 = (addr + n - 1) / 4096 then
    let t := (addr - 0xA0000000000) / 4096
    if !s.doorbellGranted t (.attach port) then .next (s.refuseAperture port write)
    else if write then .next (s.ringDoorbell t (BitVec.ofNat 64 (leNat data)) (if addr % 8 = 0 then 8 * n else 0) (.attach port))
    else .next (s.emit (.readData (accelReader port) (List.replicate n 0) false))
  else .next (s.refuseAperture port write)

end Sys2Proof.Machine
end

