-- ==== Sys2Proof/Machine/Memory.lean ====
section
/-! DEFINITION. Package memory's own work: zeroing (R497, R498), requests that fail by time (R495, R751), uncorrectable
errors (R503, R504), refresh and patrol (R505, R506). -/
namespace Sys2Proof.Machine

/-! ### Zeroing -/

/-- R498: the engine passes clean blocks; `n` bounds how many there are. -/
def skipClean (clean : List Nat) : Nat → Nat → Nat
  | 0, b => b
  | n + 1, b => if clean.contains b then skipClean clean n (b + 1) else b

/-- R498: who owns an extent: the tenant of BIND 1 and 3, otherwise tenant 0. -/
def State.extentOwner (s : State) (x : Nat) : Nat :=
  let e := s.extentEntry x
  if bindOf e = 1 || bindOf e = 3 then bindTenant e else 0

/-- R503: the extent holds a poisoned cell. -/
def State.extentPoison (s : State) (x : Nat) : Bool := s.memory.poison.any (fun c => extentOf (c * 64) = x)

/-- R498: the last block of an extent is clean. -/
def State.endZeroing (x : Nat) (s : State) : State :=
  let e := s.extent x
  (s.setExtent x { e with zeroing := false, zeroNext := 0, clean := [], poisoned := s.extentPoison x }).event
    (s.extentOwner x) 0x04 0x01 x 0 0

/-- R498: write a block of an extent with zeros. -/
def State.zeroBlock (x b : Nat) (s : State) : State :=
  let lo := x * 1073741824 + b * 16384
  { s with memory := { s.memory with
    mem := memErase lo (lo + 16384) s.memory.mem
    poison := s.memory.poison.filter (fun c => !(lo ≤ c * 64 && c * 64 < lo + 16384)) } }

/-- R498: the zeroing engine moves on to block `b`, or has finished. -/
def State.zeroTo (x b : Nat) (s : State) : State :=
  let e := s.extent x
  let b := skipClean e.clean e.clean.length b
  if b ≥ 65536 then s.endZeroing x else s.setExtent x { e with zeroNext := b }

/-- ZERO_BLOCK (R498): the home tower's engine writes the next pending block of an extent with zeros. -/
def execZeroBlock (extent : Nat) (s : State) : Outcome :=
  let e := s.extent extent
  if e.zeroing && !(extentDomains extent).any (fun d => (s.domain d).mode = .closed) then
    let b := skipClean e.clean e.clean.length e.zeroNext
    if b ≥ 65536 then .next (s.endZeroing extent)
    else .next ((s.zeroBlock extent b).zeroTo extent (b + 1))
  else .next s

/-! ### Requests that fail by time -/

/-- The place of an entry's local range, by its key. -/
def State.keyPlace (s : State) (key : W32) : Place := ((s.realm? (fieldNat 0 24 key)).map Realm.place).getD ⟨1, 0, 0⟩

/-- A ring's next ready entry. -/
def State.nextEntry (s : State) (t ring : Nat) : Option W512 :=
  match s.ring? (ringKey t ring) with
  | none => none
  | some r =>
    match s.nextReady t r with
    | some (c, p) => (c.entries[p]?).map (·.word)
    | none => none

/-- The opcodes whose commands read a local range before their work is accepted. -/
def readsLocal (op : Nat) : Bool := op = 0x20 || op = 0x21 || op = 0x30 || op = 0x31 || op = 0x32 || op = 0x50

/-- R466, R471: the opcodes and the mode of DISPATCH whose rows stand at REMOTE_ADDR. -/
def rowsAtRemote (w : W512) : Bool :=
  entOpcode w = 0x31 || entOpcode w = 0x32 || (entOpcode w = 0x30 && entAt 39 0 8 w = 0)

/-- R249: where a read-back reads, while it is outstanding. -/
def State.readbackPlace (s : State) : ReadFor → Option (Nat × Place × Nat)
  | .peer c msn =>
    match s.conn? c with
    | none => none
    | some x =>
      match x.rx? msn with
      | none => none
      | some m => if (m.readbacks.getD 0) = 0 then none else some (x.ctx.core.tenant.toNat, m.place, m.lastAddr)
  | .own c msn =>
    match s.conn? c with
    | none => none
    | some x =>
      match x.ownReadbacks.find? (fun e => e.1 = msn), x.msg? msn false with
      | some (_, some _), some m => some (x.ctx.core.tenant.toNat, m.src, m.addr)
      | _, _ => none
  | .entry ring first pos =>
    if s.localReads.any (fun r => r.ref = ⟨ring, first, pos⟩) then
      match s.entry? ⟨ring, first, pos⟩ with
      | some e => some (keyTenant ring, s.keyPlace (entKey e.word), entLocal e.word)
      | none => none
    else none

/-- A queued packet or a staged one waits for the payload of a message position. -/
def State.payloadDue (s : State) (c : Nat) (msn : W32) (resp : Bool) (index : Nat) : Bool :=
  let waits := fun (q : LoadPkt) => q.msn = msn && q.index = index && q.resp = resp && q.staged.isNone
  s.ports.any (fun e => e.2.vc7.any (fun i => i.waitsFor c msn resp index) ||
    e.2.dome.any (fun q => q.2.any (fun i => i.waitsFor c msn resp index))) ||
  s.spire.instances.any (fun (i : SlotInstance) => i.conn = c && i.load.any waits) ||
  ((tget c s.spire.leftover).getD []).any waits

/-- R495, R751: an outstanding request's tenant, its place, and the address it names; none when no such request is
outstanding. -/
def State.requestPlace (s : State) : ReadOf → Option (Nat × Place × Nat)
  | .fetch t ring index =>
    match s.ring? (ringKey t ring) with
    | none => none
    | some r => if r.fetches.any (fun f => f.1 = index) then some (t, r.place, r.slotAddr index) else none
  | .refetch t ring index =>
    match s.ring? (ringKey t ring) with
    | none => none
    | some r =>
      match r.refetch with
      | some f => if f.index = index && f.returned < f.issued then some (t, r.place, r.slotAddr index) else none
      | none => none
  | .payload c msn resp index =>
    if s.payloadDue c msn resp index then
      match s.conn? c with
      | none => none
      | some x => (x.msg? msn resp).map (fun m => (x.ctx.core.tenant.toNat, m.src, ((m.payloadAt index).map Prod.fst).headD 0))
    else none
  | .placement c msn own addr =>
    match s.conn? c with
    | none => none
    | some x =>
      if own then (x.msg? msn false).map (fun m => (x.ctx.core.tenant.toNat, m.src, addr.toNat))
      else (x.rx? msn).map (fun m => (x.ctx.core.tenant.toNat, m.place, addr.toNat))
  | .context c =>
    match s.conn? c with
    | none => none
    | some x =>
      if x.cache = .fetching then (s.backing c x.ctx.core.tenant.toNat).map (fun b => (x.ctx.core.tenant.toNat, b.1, b.2)) else none
  | .writeback c =>
    match s.conn? c with
    | none => none
    | some x =>
      match x.cache with
      | .evicting _ => (s.backing c x.ctx.core.tenant.toNat).map (fun b => (x.ctx.core.tenant.toNat, b.1, b.2))
      | _ => none
  | .bayLoad k block =>
    if (s.baysOf k).any (fun b => b.block = block && b.phase = .loading) then some (s.extentOwner (extentOf block), ⟨1, 0, 0⟩, block) else none
  | .bayWrite k block => if s.cupola.writing.contains (k, block) then some (s.extentOwner (extentOf block), ⟨1, 0, 0⟩, block) else none
  | .burst k chan off =>
    match (s.chan k chan).queue with
    | [] => none
    | d :: _ => if d.bursts.any (fun b => b.1 = off) then some (d.tenant, d.src, entLocal d.word + off) else none
  | .readback target => s.readbackPlace target
  | .entry t ring =>
    match s.nextEntry t ring with
    | some w =>
      if readsLocal (entOpcode w) then some (t, s.keyPlace (entKey w), if rowsAtRemote w then entRemote w else entLocal w)
      else none
    | none => none

/-- The state that an outcome goes on with. -/
def Outcome.orElse (o : Outcome) (s : State) : State := match o with | .next t => t | _ => s

/-- The local reads of a ring's next ready entry are not answered. -/
def failEntryRead (t ring op : Nat) (w : W512) (s : State) : Outcome :=
  if op = 0x20 then execCollectiveAddLocal t ring .timeout s
  else if op = 0x21 then execQuantize t ring .timeout s
  else if op = 0x30 then
    (if entAt 39 0 8 w = 1 then execDispatchWeights t ring .timeout s else execDispatchTokens t ring .timeout .timeout s)
  else if op = 0x31 then execCombine t ring .timeout .timeout .timeout s
  else if op = 0x32 then execConfirm t ring .timeout .timeout s
  else
    match entAt 32 0 8 w with
    | 0 => execCipherGcmEnc t ring .timeout s
    | 1 => execCipherGcmDec t ring .timeout s
    | 2 => execCipherXtsEnc t ring .timeout s
    | _ => execCipherXtsDec t ring .timeout s

/-- R494, R751: a request ends as one answered with an error: its requester acts by its own rule. -/
def failRequest (r : ReadOf) (s : State) : Outcome :=
  match r with
  | .fetch t ring index => execFetchReturn t ring index .timeout s
  | .refetch t ring index => execRefetchReturn t ring index .timeout s
  | .payload c msn resp index => execPayloadReadReturn c msn resp index .timeout s
  | .placement c msn own addr => execPlacementWriteFail c msn own addr s
  | .context c => execContextInstall c .timeout s
  | .writeback c => execBackingWritebackError c false s
  | .bayLoad k block => execBayLoadDone k block false s
  | .bayWrite k block => execBayWritebackDone k block false s
  | .burst k chan off => execBurstDone k chan off .timeout s
  | .readback target => execReadbackDone target false s
  | .entry t ring =>
    match s.nextEntry t ring with
    | some w => failEntryRead t ring (entOpcode w) w s
    | none => .next s

/-- COMPLETION_TIMEOUT (R557, R561, R751): an outstanding request has no answer within the completion timeout of its path.
Timeouts of host memory are counted and reported through AER. -/
def execCompletionTimeout (request : ReadOf) (s : State) : Outcome :=
  match s.requestPlace request with
  | none => .next s
  | some (t, p, _) =>
    let s := if p.space = 0 then (s.bump d14_0106 (tenantHost t)).aer t .completionTimeout else s
    failRequest request s

/-- STALE_REQUEST_DISCARD (R495): a request to package memory has not reached it within 2,500,000 ticks of its extent
check. -/
def execStaleRequestDiscard (request : ReadOf) (s : State) : Outcome :=
  match s.requestPlace request with
  | none => .next s
  | some (_, p, a) => if p.space = 1 then failRequest request (s.bump d12_0104 (extentTower (extentOf a))) else .next s

/-! ### Uncorrectable errors -/

/-- Enter a number into a rising list without repeats. -/
def insertRising (n : Nat) : List Nat → List Nat
  | [] => [n]
  | m :: l => if n < m then n :: m :: l else if n = m then m :: l else m :: insertRising n l

/-- R182, R504: the connection whose context stands in a slot of a tower's context store. -/
def State.storeConn (s : State) (tower slot : Nat) : Option Nat :=
  match s.conn? (tower * 2097152 + slot) with
  | some x =>
    (match s.dict.active.rangeOf x.ctx.core.tenant.toNat (tower * 2097152 + slot) with
     | some r => if r.backing = 0 then some (tower * 2097152 + slot) else none
     | none => none)
  | none => none

/-- R360, R500, R504: the record of a Lantern buffer that an offset of the reserved extent holds. [DESIGN CHOICE, log 10; DESIGN CHOICE, log 96] -/
def lanternSpot (tower off : Nat) : Option (Nat × Nat) :=
  if 0x25400000 ≤ off ∧ off < 0x2D400000 then
    some (8 * tower + (off - 0x25400000) / 16777216, (off - 0x25400000) % 16777216 / 16)
  else none

/-- R504: the four records of a 64-byte cell are lost. [DESIGN CHOICE, log 96] -/
def State.loseRecords (port pos : Nat) (s : State) : State :=
  let p := s.port port
  s.setPort port { p with lantern := tfilter (fun k _ => k / 4 ≠ pos / 4) p.lantern }

/-- R504: an uncorrectable error in a reserved extent. [DESIGN CHOICE, log 10] -/
def State.reservedError (a : Nat) (s : State) : State :=
  let tower := extentTower (extentOf a)
  let off := a % 1073741824
  if off < 0x20000000 then
    match s.storeConn tower (off / 2048) with
    | some c => s.backingFailure c .busError
    | none => s
  else
    match lanternSpot tower off with
    | some (n, pos) => s.loseRecords n pos
    | none => s.fatalFault .memory (cellLocation a) 0 a 0

/-- R503: the entry of an uncorrectable error in the fault log, and its event. -/
def State.reportPoison (a : Nat) (s : State) : State :=
  let x := extentOf a
  let e := s.extentEntry x
  let bound := bindOf e = 1 || bindOf e = 3
  let s := s.logFault (if bound then .tenant else .package) .memory (cellLocation a) (if bound then some (bindTenant e) else none) 0 a 0
  s.event (s.extentOwner x) 0x04 0x02 x a 0

/-- UNCORRECTABLE_ERROR (R503, R504): a read of the cell of an address finds an error that its code does not correct. A
pending block makes no memory access (R497), and a poisoned cell is found only once. [DESIGN CHOICE, log 92] -/
def execUncorrectableError (addr : Nat) (s : State) : Outcome :=
  let x := extentOf addr
  let a := addr / 64 * 64
  let cell := addr / 64
  if addr ≥ 2199023255552 || extentAbsent s.towers x || s.blockPending a || s.memory.poison.contains cell then .next s
  else
    let s := s.bump (if x < 1024 then d12_0101 else d12_0103) (extentTower x)
    if extentReserved x then .next (s.reservedError a)
    else
      let s := { s with memory := { s.memory with poison := insertRising cell s.memory.poison } }
      .next ((s.setExtent x { s.extent x with poisoned := true }).reportPoison a)

/-! ### Refresh and patrol -/

/-- R505: the refresh interval of a tower's banks, in ticks: 32 ms, halved above 85 °C of the stack. [DESIGN CHOICE, log 92] -/
def State.refreshInterval (s : State) (tower : Nat) : Nat :=
  if (tgetD s.power.thermal tower {}).stack > 680 then 20000000 else 40000000

/-- REFRESH (R505): the interval of a bank of tier-1 has expired, and it is refreshed. -/
def execRefresh (tower slice bank : Nat) (s : State) : Outcome :=
  let k := (location 3 0 tower 0 slice bank 0 0).toNat
  if tower < s.towers && slice < 8 && bank < 32 && (s.domain (domTower tower)).mode ≠ .closed &&
      tgetD s.memory.refreshed k 0 + s.refreshInterval tower ≤ s.now then
    .next { s with memory := { s.memory with refreshed := tput 0 k s.now s.memory.refreshed } }
  else .next s

/-- R506: the last multiple of the pass time, counted from package reset. [DESIGN CHOICE, log 92] -/
def State.patrolMultiple (s : State) (tower : Nat) : Nat := s.now / s.par d12_0010 tower * s.par d12_0010 tower

/-- PATROL_START (R506): a multiple of the pass time that no pass has served is reached or passed, and no pass runs. -/
def execPatrolStart (tower : Nat) (s : State) : Outcome :=
  let p : Patrol := tgetD s.memory.patrol tower {}
  if tower < s.towers && s.par d12_0010 tower ≠ 0 && !p.running && p.nextDue < s.patrolMultiple tower then
    .next { s with memory := { s.memory with
      patrol := tput {} tower { running := true, started := s.now, nextDue := s.patrolMultiple tower } s.memory.patrol } }
  else .next s

/-- R502: the location code of the bank that holds a cell. -/
def bankOf (a : Nat) : Nat :=
  let l := cellLocation a
  (location 3 (fieldNat 3 2 l) (fieldNat 5 3 l) (fieldNat 8 2 l) (fieldNat 16 4 l) (fieldNat 20 8 l) 0 0).toNat

/-- R502: log a corrected error and remember when its bank did. -/
def State.logBank (a : Nat) (s : State) : State :=
  let s := { s with memory := { s.memory with bankLog := tset (bankOf a) s.now s.memory.bankLog } }
  s.logFault .corrected .memory (cellLocation a) none 0 a 0

/-- R502: a correctable error in the cell of an address: it is counted at the home tower, and logged unless its bank has
logged one within D12.0013 ticks. -/
def State.correctedError (s : State) (a : Nat) : State :=
  let x := extentOf a
  let tower := extentTower x
  if a ≥ 2199023255552 || extentAbsent s.towers x || s.blockPending a then s
  else
    let s := s.bump (if x < 1024 then d12_0100 else d12_0102) tower
    match tget (bankOf a) s.memory.bankLog with
    | some at_ => if s.now < at_ + s.par d12_0013 tower then s else s.logBank a
    | none => s.logBank a

/-- PATROL_DONE (R502, R506): a pass finishes and is counted. `corrected`: the addresses at which the pass found
correctable errors. [DESIGN CHOICE, log 92] -/
def execPatrolDone (tower : Nat) (corrected : List Nat) (s : State) : Outcome :=
  let p : Patrol := tgetD s.memory.patrol tower {}
  if p.running then
    let mine := corrected.filter (fun a => extentTower (extentOf a) = tower)
    .next (mine.foldl State.correctedError
      (({ s with memory := { s.memory with patrol := tput {} tower { p with running := false } s.memory.patrol } } : State).bump
        d12_0106 tower))
  else .next s

end Sys2Proof.Machine
end

