-- ==== Sys2Proof/Machine/Power.lean ====
section
/-! DEFINITION. Power domains (R720 to R726), the power cap and the thermal levels (R727 to R729). -/
namespace Sys2Proof.Machine

/-! ### Domains by location code (R720) -/

/-- R720: the domains of a part, by number and location code. -/
def domainsOf (towers : Nat) : List (Nat × W64) :=
  (upTo towers).flatMap (fun k =>
    [(domLanes k, location 4 0 k 0 8 0 0 0), (domAttach k, location 4 0 k 0 9 0 0 0), (domCupola k, location 4 0 k 0 11 0 0 0)]) ++
  ((upTo towers).filter (2 ≤ ·)).map (fun k => (domTower k, location 5 0 k 0 0 0 0 0)) ++
  (upTo (towers / 2)).map (fun p => (domPair p, location 6 1 0 p 0 0 0 0))

/-- R721: the domain that a location code names. -/
def State.domainOf (s : State) (code : W64) : Option Nat := ((domainsOf s.towers).find? (fun d => d.2 = code)).map Prod.fst

/-- The location code of a domain. [DEDUCED, log 81] -/
def State.domainCode (s : State) (d : Nat) : W64 := (((domainsOf s.towers).find? (fun e => e.1 = d)).map Prod.snd).getD 0

/-- R720: the open time of a domain. -/
def openTime (d : Nat) : Nat := if d < 24 then 12500 else if d < 32 then 1250000 else 250000

/-- R720: the tower whose slice or whose whole a domain is; a pair's domain has none. -/
def domainTower (d : Nat) : Option Nat := if d < 24 then some (d / 3) else if d < 32 then some (d - 24) else none

/-- The domain contains a tower's lane block, attach port, or Cupola cores. -/
def holdsLanes (d k : Nat) : Bool := d = domLanes k || d = domTower k
def holdsAttach (d k : Nat) : Bool := d = domAttach k || d = domTower k
def holdsCupola (d k : Nat) : Bool := d = domCupola k || d = domTower k

/-- R726: a domain changes its state, with its event of class POWER. -/
def State.setDomain (d : Nat) (x : Domain) (reason : Nat) (s : State) : State :=
  ({ s with power := { s.power with domains := tput {} d x s.power.domains } } : State).packageEvent
    0x0B reason d (s.domainCode d).toNat 0

/-- R721: the result of a command. -/
def State.powerResult (r : Nat) (s : State) : State := { s with power := { s.power with result := BitVec.ofNat 8 r } }

/-! ### What runs in a domain (R723, R724) -/

/-- A range of a place lies in a domain. -/
def placeIn (d : Nat) (p : Place) (a len : Nat) : Bool :=
  if p.space = 1 then (extentsOf a len).any (fun x => (extentDomains x).contains d)
  else if p.space = 2 then holdsAttach d p.port
  else false

/-- A message's local buffer lies in a domain. -/
def TxMsg.inDomain (d : Nat) (m : TxMsg) : Bool :=
  placeIn d m.src m.addr m.length || m.rows.any (fun a => placeIn d m.src a m.rowLen)

/-- A step uses a domain. -/
def AccWork.inDomain (d : Nat) (w : AccWork) : Bool := holdsCupola d w.tower || placeIn d w.place w.addr (bytesFor w.fmt w.total)

/-- A descriptor of a tower's channel uses a domain. -/
def Descriptor.inDomain (d tower : Nat) (x : Descriptor) : Bool :=
  d = domTower tower || placeIn d x.dst (entRemote x.word) (entLength x.word) ||
  (!mvFill x.word && placeIn d x.src (entLocal x.word) (entLength x.word)) ||
  ((mvHalf x.word || mvFull x.word) && placeIn d x.evt (mvEvtAddr x.word) 16)

/-- A running entry uses a domain, at whichever engine works for it. -/
def State.entryInDomain (s : State) (d : Nat) (e : EntryRef) : Bool :=
  s.conns.any (fun x => x.2.tx.any (fun (m : TxMsg) => m.owner = some e && !m.closed && m.voided.isNone && m.inDomain d)) ||
  s.cupola.works.any (fun (w : AccWork) => w.ref = e && w.phase ≠ .slot && w.inDomain d) ||
  s.cupola.input.any (fun (h : AccHold) => h.source = .row e && holdsCupola d h.tower) ||
  s.movers.chans.any (fun c => c.2.queue.any (fun x => x.ref = e && x.phase = .running && x.inDomain d (c.1 / 16))) ||
  s.experts.dispatches.any (fun x => x.ref = e &&
    (placeIn d x.rows x.rowAddr (x.tokens * x.length) || placeIn d x.recs x.recAddr (8 * x.tokens * x.topk))) ||
  s.experts.prefetches.any (fun x => x.ref = e && (placeIn d x.src x.srcAddr x.length || placeIn d x.dst x.base x.size)) ||
  s.experts.combines.any (fun x => x.ref = e && holdsCupola d (extentTower (extentOf (hdBase x.desc)))) ||
  s.localReads.any (fun r => r.ref = e && (match s.entry? e with
    | some x => placeIn d (s.keyPlace (entKey x.word)) (entLocal x.word) (entLength x.word)
    | none => false))

/-- The running entries of a ring's chains, by reference. -/
def ringRunning (k : Nat) (r : Ring) : List EntryRef :=
  r.running.flatMap (fun c => (c.entries.zipIdx.filter (fun e => e.1.phase = .running)).map (fun e => ⟨k, c.first, e.2⟩))

/-- R724: the entries that run in a domain. -/
def State.domainEntries (s : State) (d : Nat) : List EntryRef :=
  (s.rings.flatMap (fun kr => ringRunning kr.1 kr.2)).filter (s.entryInDomain d)

/-- R724: READ responses whose data stand in a domain: connection and MSN. -/
def State.domainResponses (s : State) (d : Nat) : List (Nat × W32) :=
  s.conns.flatMap (fun e => (e.2.tx.filter (fun (m : TxMsg) =>
    m.kind = .resp && !m.closed && m.voided.isNone && m.inDomain d)).map (fun m => (e.1, m.msn)))

/-- R724: a started operation remains in a domain: an entry, a read for a peer, a held ACCUM packet, a bay's transfer, a
read-back of a peer's message, a ring fetch, a context's transfer, or a packet queued at a port. -/
def State.domainBusy (s : State) (d : Nat) : Bool :=
  !(s.domainEntries d).isEmpty || !(s.domainResponses d).isEmpty ||
  s.cupola.input.any (fun h => holdsCupola d h.tower) ||
  s.cupola.bays.any (fun e => e.2.any (fun b => b.phase ≠ .resident && (holdsCupola d e.1 || placeIn d ⟨1, 0, 0⟩ b.block 16384))) ||
  s.cupola.writing.any (fun e => holdsCupola d e.1 || placeIn d ⟨1, 0, 0⟩ e.2 16384) ||
  s.conns.any (fun e => e.2.rx.any (fun m => (m.readbacks.getD 0) ≠ 0 && placeIn d m.place m.lastAddr m.lastLen) ||
    ((e.2.cache = .fetching || e.2.cache = .evicting false || e.2.cache = .evicting true) &&
      (match s.backing e.1 e.2.ctx.core.tenant.toNat with | some b => placeIn d b.1 b.2 2048 | none => false))) ||
  s.rings.any (fun e => e.2.fetches.any (fun f => placeIn d e.2.place (e.2.slotAddr f.1) (64 * f.2))) ||
  (upTo s.nports).any (fun n => holdsLanes d (portTower n) && (!(s.port n).allItems.isEmpty || s.now < (s.port n).busyUntil))

/-! ### Commands (R721 to R723, R726) -/

/-- R721: fields of POWER_CMD. -/
def pcCode (cmd : Bytes) : W64 := BitVec.ofNat 64 (leAt 0 8 cmd)
def pcOp (cmd : Bytes) : Nat := leAt 8 1 cmd
def pcDeadline (cmd : Bytes) : Nat := leAt 12 4 cmd

/-- R722: a window of the active spire tables lies on a port that the domain contains. -/
def State.domainSpire (s : State) (d : Nat) : Bool := (upTo s.nports).any (fun n => holdsLanes d (portTower n) && s.hasWindow n)

/-- R722: a tower holds a ring context in use, or a connection that is not FREE or QUARANTINE. -/
def State.towerInUse (s : State) (k : Nat) : Bool :=
  s.rings.any (fun e => e.2.image.homeTower.toNat = k) ||
  s.conns.any (fun e => connTower e.1 = k && e.2.ctx.core.mode ≠ .quarantine)

/-- R721 to R723: a CLOSE. -/
def State.powerClose (cmd : Bytes) (s : State) : State :=
  match s.domainOf (pcCode cmd) with
  | none => s.powerResult 1
  | some d =>
    if (s.domain d).mode ≠ .open_ then s.powerResult 2
    else if s.domainSpire d then s.powerResult 4
    else if 24 ≤ d && d < 32 && s.towerInUse (d - 24) then s.powerResult 3
    else
      let limit := if pcDeadline cmd = 0 then s.par d20_0063 0 else pcDeadline cmd
      (s.setDomain d { mode := .closing, since := s.now, deadline := limit } 1).powerResult 0

/-- R567, R720, R726: a domain is OPEN again: its attach port trains, and its ports leave DISABLED. -/
def State.wakeDomain (d : Nat) (s : State) : State :=
  match domainTower d with
  | some k => (if holdsAttach d k then s.startAttach k else s).settlePorts
  | none => s

/-- R721, R726: an OPEN. A change to OPENING has no reason of its own in R714: its event carries a free one. -/
def State.powerOpen (cmd : Bytes) (s : State) : State :=
  match s.domainOf (pcCode cmd) with
  | none => s.powerResult 1
  | some d =>
    match (s.domain d).mode with
    | .closing => (s.setDomain d {} 3).powerResult 0
    | .closed =>
      let r := s.takeFree
      (r.2.setDomain d { mode := .opening, since := s.now } (Sys2Proof.Config.freeByte r.1).toNat).powerResult 0
    | _ => s.powerResult 2

/-- POWER_CLOSE (R721 to R723): POWER_CMD with OP CLOSE; `cmd` is its 16 bytes. -/
def execPowerClose (cmd : Bytes) (s : State) : Outcome := if pcOp cmd = 1 then .next (s.powerClose cmd) else .next s

/-- POWER_OPEN (R721, R726): POWER_CMD with OP OPEN. [DEDUCED, log 81] -/
def execPowerOpen (cmd : Bytes) (s : State) : Outcome := if pcOp cmd = 2 then .next (s.powerOpen cmd) else .next s

/-! ### Closing (R724) -/

/-- R724: what a tower loses with its Cupola cores: its bays are written back. -/
def State.dropBays (k : Nat) (s : State) : State :=
  { s.setBays k [] with cupola := { (s.setBays k []).cupola with writing := s.cupola.writing.filter (fun e => e.1 ≠ k) } }

/-- R724: a domain closes: bays are written back, links go down, and the event and the count follow. -/
def State.closeDomain (d : Nat) (s : State) : State :=
  let s := (s.setDomain d { mode := .closed, since := s.now } 2).bump d20_0102 0
  match domainTower d with
  | none => s
  | some k =>
    let s := if holdsCupola d k then s.dropBays k else s
    let s := if holdsAttach d k && (s.attachPort k).mode ≠ .down then s.attachTo k .down 0 0 else s
    if holdsLanes d k then s.settlePorts else s

/-- DOMAIN_CLOSED (R724): no started operation remains in a closing domain. -/
def execDomainClosed (domain : Nat) (s : State) : Outcome :=
  if (s.domain domain).mode = .closing && !s.domainBusy domain then .next (s.closeDomain domain) else .next s

/-- R724: bytes below the first burst of a descriptor that was not written. -/
def Descriptor.writtenBytes (x : Descriptor) : Nat := (x.bursts.map Prod.fst).foldl min (x.failed.elim x.next (min x.next))

/-- R249, R724: the read-back of the last completed write of an abandoned descriptor, and the bytes it had written. -/
def State.settleMove (e : EntryRef) (s : State) : State :=
  let mine := s.movers.chans.flatMap (fun c => c.2.queue.filter (fun (x : Descriptor) => x.ref = e))
  mine.foldl (fun s x =>
    let n := x.writtenBytes
    if n = 0 then s
    else (s.emitReads x.dst (lastWord (entRemote x.word) n) (readsOf x.dst x.cross)).addBytes e n) s

/-- R724: an entry that still runs is abandoned at the deadline. -/
def State.powerDown (s : State) (e : EntryRef) : State := ((s.settleMove e).abandonEntry e).failEntry e .poweredDown 0

/-- R724: a packet that waits for a closing tower's cores is given up unapplied: its next copy is refused. -/
def State.giveUpHold (s : State) (h : AccHold) : State :=
  let s := s.dropHold h
  match h.source with
  | .accum c _ msn =>
    match s.conn? c with
    | some x => s.setConn c (x.modifyRx msn (fun m => { m with placing := m.placing - 1 }))
    | none => s
  | _ => s

/-- R724: everything that still runs in a domain is abandoned. [DEDUCED, log 81] -/
def State.abandonDomain (d : Nat) (s : State) : State :=
  let s := (s.domainEntries d).foldl State.powerDown s
  let s := (s.domainResponses d).foldl (fun s e => s.voidMsg e.1 e.2 true .poweredDown 0) s
  (s.cupola.input.filter (fun h => holdsCupola d h.tower)).foldl State.giveUpHold s

/-- DOMAIN_CLOSE_DEADLINE (R724): the deadline of a closing domain passes. -/
def execDomainCloseDeadline (domain : Nat) (s : State) : Outcome :=
  let x := s.domain domain
  if x.mode = .closing && x.since + x.deadline ≤ s.now then
    .next (((s.abandonDomain domain).closeDomain domain).logFault .package .power (s.domainCode domain) none 0 0 0)
  else .next s

/-- DOMAIN_OPENED (R726): the open time of an OPENING domain has elapsed. -/
def execDomainOpened (domain : Nat) (s : State) : Outcome :=
  let x := s.domain domain
  if x.mode = .opening && x.since + openTime domain ≤ s.now then .next ((s.setDomain domain {} 3).wakeDomain domain) else .next s

/-! ### The control period (R727) and the thermal trip (R729) -/

/-- R727: one rule for every level: it rises above the limit, and falls below the limit less the hysteresis. -/
def stepLevel (level : Nat) (measure limit hyst : Int) : Nat :=
  if limit < measure then min 7 (level + 1) else if measure < limit - hyst then level - 1 else level

/-- R727: the thermal level of a tower follows both its temperatures: it rises when one exceeds its limit, and falls when
both lie below their limits less 3 °C. [DEDUCED, log 80] -/
def stepThermal (level : Nat) (logic stack limL limS : Int) : Nat :=
  if limL < logic || limS < stack then min 7 (level + 1)
  else if logic < limL - 24 && stack < limS - 24 then level - 1 else level

/-- R727: the measures of one tower. [DEDUCED, log 80] -/
def State.measureTower (k : Nat) (logic stack : Int) (s : State) : State :=
  let x : Thermal := tgetD s.power.thermal k {}
  let level := stepThermal x.level logic stack (8 * (s.par d20_0073 0 : Int)) (8 * (s.par d20_0074 0 : Int))
  let y : Thermal := { level := level, logic := logic, stack := stack }
  let s := { s with power := { s.power with thermal := tput {} k y s.power.thermal } }
  if x.level = 0 && level > 0 then
    s.logFault .package .thermal (location 5 0 k 0 0 0 0 0) none 0 0 (ofSigned 32 (max logic stack))
  else s

/-- R727: each change of a tower's throttle level writes an event. -/
def State.throttleEvents (old : List Nat) (s : State) : State :=
  old.zipIdx.foldl (fun s e => if s.throttle e.2 = e.1 then s
    else s.packageEvent 0x0B 0x04 (domTower e.2) (location 5 0 e.2 0 0 0 0 0).toNat (s.throttle e.2)) s

/-- POWER_CONTROL (R727): the control period has passed: the package's power in 0.1 W, and by tower the logic and the stack
temperature in 1/8 °C, are measured, and the levels follow. [DEDUCED, log 80] -/
def execPowerControl (power : Nat) (temps : List (Int × Int)) (s : State) : Outcome :=
  if s.timeRuns && s.power.lastControl + s.par d20_0071 0 ≤ s.now then
    let old := (upTo s.towers).map s.throttle
    let level := stepLevel s.power.level power (s.par d20_0070 0) (s.par d20_0072 0)
    let s := { s with power := { s.power with level := level, power := power % 65536, lastControl := s.now } }
    let s := if level > 0 then s.bump d20_0100 0 else s
    let s := (temps.take s.towers).zipIdx.foldl (fun s e => s.measureTower e.2 e.1.1 e.1.2) s
    .next (s.throttleEvents old)
  else .next s

/-- THERMAL_TRIP (R729): a tower's logic reaches 115 °C or its stack 105 °C. `temp` is in 1/8 °C. -/
def execThermalTrip (tower : Nat) (stack : Bool) (temp : Int) (s : State) : Outcome :=
  if tower < s.towers && (if stack then 840 else 920) ≤ temp && s.timeRuns then
    let s := s.fatalFault .thermal (if stack then sliceLocation tower 0 else location 5 0 tower 0 0 0 0 0) 0 0 (ofSigned 32 temp)
    if s.pkg.pins.thermTrip then .next s
    else .next (({ s with pkg := { s.pkg with pins := { s.pkg.pins with thermTrip := true } } } : State).emit (.pin pinThermTrip false))
  else .next s

end Sys2Proof.Machine
end

