-- ==== Sys2Proof/Machine/Segment.lean ====
section
/-! DEFINITION. Frames of the management segment (R682, R683): IPv6, neighbour discovery, echo and UDP as their standards lay
them out, in network order. -/
namespace Sys2Proof.Machine

/-- R683: the link-local address of a MAC address: the modified EUI-64 is its interface identifier. -/
def linkLocal (mac : Nat) : Nat :=
  let m := beBytes 6 mac
  beNat ([0xFE, 0x80, 0, 0, 0, 0, 0, 0] ++ [BitVec.ofNat 8 (leAt 0 1 m) ^^^ 2] ++ slice 1 2 m ++ [0xFF, 0xFE] ++ slice 3 3 m)

/-- The address is link-local (fe80::/10). -/
def isLinkLocal (a : Nat) : Bool := a / 2 ^ 118 = 0x3FA

/-- The solicited-node multicast address of an address. -/
def solicitedNode (a : Nat) : Nat := 0xFF0200000000000000000001FF000000 + a % 16777216

/-- All nodes of the link. -/
def allNodes : Nat := 0xFF020000000000000000000000000001

/-- An Ethernet frame of the segment, padded to its least length, without its FCS. -/
def segEther (dst src : Nat) (v6 : Bytes) : Bytes :=
  let f := beBytes 6 dst ++ beBytes 6 src ++ [0x86, 0xDD] ++ v6
  f ++ List.replicate (60 - f.length) 0

/-- An ICMPv6 message with its checksum in bytes 2 and 3. -/
def icmp6 (src dst : Nat) (m : Bytes) : Bytes := putBytes 2 (beBytes 2 (inetSum (pseudoHeader src dst m.length 58 ++ m))) m

/-- R683: a neighbour solicitation for an address; from the unspecified address it detects duplicates. -/
def solicitation (mac target : Nat) : Bytes :=
  let dst := solicitedNode target
  segEther (multicastMac dst) mac (ipv6 58 255 0 dst (icmp6 0 dst ([135, 0, 0, 0, 0, 0, 0, 0] ++ beBytes 16 target)))

/-- R682: the MAC address of the segment port. -/
def State.segMac (s : State) : Nat := s.pkg.fuses.segMac.toNat

/-- R683: its link-local address. -/
def State.segAddr (s : State) : Nat := linkLocal s.segMac

/-- R683, R684: the port may send: it is enabled, and its pair is not SHORT. -/
def State.segSends (s : State) : Bool := s.parFlag d19_0010 0 && s.mgmt.line ≠ 2

/-- R682: send a frame on the segment that meets so many collisions: under CSMA/CD each is counted, and 16 drop it. -/
def State.segSend (collisions : Nat) (frame : Bytes) (s : State) : State :=
  if !s.segSends then s
  else if s.mgmt.plca then s.emit (.segFrame frame)
  else
    let s := s.count d19_0100 0 (min 16 collisions)
    if collisions ≥ 16 then s.bump d19_0101 0 else s.emit (.segFrame frame)

/-- R682, R683: the port is enabled: PLCA stands by D19.0013, and duplicate address detection is performed once. -/
def State.segStart (s : State) : State :=
  if s.parFlag d19_0010 0 then
    let s := { s with mgmt := { s.mgmt with plca := s.parFlag d19_0013 0 } }
    s.segSend 0 (solicitation s.segMac s.segAddr)
  else s

end Sys2Proof.Machine
end

