-- ==== Sys2Proof/Machine/Package.lean ====
section
/-! DEFINITION. The package: reset, supplies, straps, the ROM's boot, the enabling of functions, bridge faults (R30 to R32,
R691 to R701, R733 to R738, R743, R745, R746). -/
namespace Sys2Proof.Machine

/-! ### Flash and images (R691 to R693) -/

/-- R691: bytes of the boot flash. [DESIGN CHOICE, log 6] -/
def State.flashAt (s : State) (off n : Nat) : Bytes := (upTo n).map (fun k => tgetD s.mgmt.flash (off + k) 0xFF)

/-- Write bytes of the boot flash. [DESIGN CHOICE, log 6] -/
def flashStore : Nat → Bytes → Tbl Byte → Tbl Byte
  | _, [], f => f
  | a, b :: bs, f => flashStore (a + 1) bs (tput 0xFF a b f)

/-- R691: where a slot starts: slot A, slot B. -/
def slotBase (b : Bool) : Nat := if b then 0x01010000 else 0x00010000

/-- R691: bytes of a slot. -/
def slotSize : Nat := 16777216

/-- R691: boot control prefers slot B. -/
def State.prefersB (s : State) : Bool :=
  let c := s.flashAt 0 2
  leAt 0 1 c = 1 && leAt 1 1 c = 254

/-- R692: fields of an image header. -/
def imVersion (h : Bytes) : Nat := leAt 4 4 h
def imSvn (h : Bytes) : Nat := leAt 8 2 h
def imKey (h : Bytes) : Nat := leAt 10 1 h
def imLen (h : Bytes) : Nat := leAt 12 4 h
def imDigest (h : Bytes) : Bytes := slice 16 64 h
def imPublic (h : Bytes) : Bytes := slice 80 1952 h
def imSignature (h : Bytes) : Bytes := slice 2032 3309 h

/-- R693, check 1. -/
def imFields (h : Bytes) : Bool :=
  leAt 0 4 h = 0x5A465731 && imSvn h ≤ 64 && imKey h ≤ 3 && leAt 11 1 h = 0 && 1 ≤ imLen h && imLen h ≤ 16769024 &&
  allZero (slice 5341 2851 h)

/-- R693, check 2. -/
def State.imKeyOk (s : State) (h : Bytes) : Bool :=
  natField (imKey h) 1 s.pkg.fuses.revoked.toNat = 0 && shake256 (imPublic h) 32 = s.pkg.fuses.keyHashes.getD (imKey h) []

/-- R693, R696: check a slot: the outcome of FW_STATUS, 2 when every check passes. [DESIGN CHOICE, log 21] -/
def State.checkSlot (s : State) (b : Bool) : Nat :=
  let h := s.flashAt (slotBase b) 8192
  if !imFields h then 3
  else if !s.imKeyOk h then 4
  else if imSvn h < s.pkg.fuses.counter then 5
  else if !Sys2Proof.Config.mldsaVerify (imPublic h) (shake256 (h.take 2032) 64) (imSignature h) then 6
  else if shake256 (s.flashAt (slotBase b + 8192) (imLen h)) 64 ≠ imDigest h then 7
  else 2

/-! ### Boot (R693, R694, R699, R700) -/

/-- R700: an entry of the measurement log. -/
def logEntry (kind slot version : Nat) (digest : Bytes) : Bytes :=
  leBytes 1 kind ++ leBytes 1 slot ++ [0, 0] ++ leBytes 4 version ++ List.replicate 8 0 ++ digest

/-- R700: the measurement log that the start of a slot writes. [DESIGN CHOICE, log 89] -/
def State.bootLog (s : State) (b : Bool) (status : Nat) : Bytes :=
  let h := s.flashAt (slotBase b) 8192
  let f := s.pkg.fuses
  logEntry 1 0 f.romVersion.toNat f.romDigest ++
  logEntry 2 0 f.counter (shake256 (f.keyHashes.flatMap id ++ Sys2Proof.Config.fuseBytes f.revoked f.counter) 64) ++
  logEntry 3 (if b then 1 else 0) (imVersion h) (shake256 (h.take 2032) 64) ++
  logEntry 4 0 status (shake256 (s.flashAt 0 4096) 64)

/-- R693: the image of a slot runs. -/
def State.runSlot (b : Bool) (status : Nat) (s : State) : State :=
  let h := s.flashAt (slotBase b) 8192
  { s with
    pkg := { s.pkg with phase := .booting }
    mgmt := { s.mgmt with
      slotB := b, bootStatus := status, version := BitVec.ofNat 32 (imVersion h), svn := imSvn h, keyIndex := imKey h
      log := s.bootLog b status } }

/-- R693, R694: the ROM tries the preferred slot, then the other one. [DESIGN CHOICE, log 89] -/
def State.boot (s : State) : State :=
  let p := s.prefersB
  if s.checkSlot p = 2 then s.runSlot p 0
  else if s.checkSlot (!p) = 2 then s.runSlot (!p) 1
  else { s with pkg := { s.pkg with phase := .recovery }, mgmt := { s.mgmt with bootStatus := 2 } }

/-- R699: the seed of the identity key: the fused seed, then "ZARICA-ID". -/
def State.identitySeed (s : State) : Bytes :=
  shake256 (slice 0 32 s.pkg.fuses.idSeed ++ [0x5A, 0x41, 0x52, 0x49, 0x43, 0x41, 0x2D, 0x49, 0x44]) 32

/-- R699: the identity public key. [DESIGN CHOICE, log 21] -/
def State.identityKey (s : State) : Bytes := Sys2Proof.Config.mldsaPublicKey s.identitySeed

/-! ### Reset, straps and supplies (R733, R735, R737, R738, R743 to R746) -/

/-- R680: BOOT_ID: a fresh value that is never 0. [DESIGN CHOICE, log 13] -/
def bootIdOf (w : BitVec 32) : BitVec 32 := if w = 0 then 1 else w

/-- R745, R746: the outputs that a package reset releases or drives. [DESIGN CHOICE, log 89] -/
def State.releasePins (s : State) : State :=
  let s := if s.time.ppsOut then s.emit (.pin pinPpsOut false) else s
  let s := if s.pkg.pins.thermTrip then s.emit (.pin pinThermTrip true) else s
  if s.pkg.pins.faultN then s.emit (.pin pinFault true) else s

/-- R108, R394, R717, R738: every register at its reset value. The part, its fuses, its flash, the kept FATAL entry, the
JTAG port and the levels of PERST_N stay. [DESIGN CHOICE, log 5; DEDUCED, log 12; DESIGN CHOICE, log 13] -/
def State.packageReset (phase : Phase) (s : State) : State :=
  let s := s.releasePins
  let fresh : State := {}
  { fresh with
    pkg := { part := s.pkg.part, fuses := s.pkg.fuses, phase := phase, pins := { jtagReset := s.pkg.pins.jtagReset } }
    hosts := s.hosts.filterMap (fun e => if e.2.perst then none else some (e.1, { perst := false }))
    mgmt := { flash := s.mgmt.flash }
    faults := { lastFatal := s.faults.lastFatal }
    out := s.out
    free := s.free
    pending := s.pending }

/-- R53, R680, R737, R743: PKG_RST_N is released: the straps are latched, BOOT_ID is drawn, and the ROM boots; under
STRAP_TEST it does not run. `straps`: STRAP_CLK_H0, STRAP_CLK_H1, STRAP_SSC_OFF, STRAP_TEST, lowest bit first. -/
def State.release (straps : BitVec 4) (s : State) : State :=
  let r := s.takeFree
  let s := r.2
  let s := { s with
    pkg := { s.pkg with
      phase := .booting
      pins := { s.pkg.pins with clkH0 := flag 0 straps, clkH1 := flag 1 straps, sscOff := flag 2 straps, test := flag 3 straps } }
    mgmt := { s.mgmt with bootId := bootIdOf (Sys2Proof.Config.freeWord32 r.1) } }
  if flag 3 straps then s else s.boot

/-- PACKAGE_RESET (R108, R738, R746): PKG_RST_N goes low. -/
def execPackageReset (s : State) : Outcome := .next (s.packageReset .held)

/-- PACKAGE_RESET_RELEASE (R53, R693, R737, R743). -/
def execPackageResetRelease (straps : BitVec 4) (s : State) : Outcome :=
  if s.pkg.phase = .held then .next (s.release straps) else .next s

/-- R717: what D20.0003 holds once its always-powered storage has lost its supply. -/
def State.lostFatal (s : State) : State :=
  let n := s.free
  { s with
    free := n + 8
    faults := { s.faults with lastFatal := pack 512 ((upTo 8).map (fun i => (64, (Sys2Proof.Config.freeWord64 (n + i)).toNat))) } }

/-- SUPPLY_FAULT (R717, R735): a supply has been out of range for more than 2 µs. `io`: VDD_IO stayed in range, and a FATAL
entry is kept. [DEDUCED, log 81] -/
def execSupplyFault (io : Bool) (s : State) : Outcome :=
  if s.timeRuns then
    let e := faultEntry s.now (location 7 3 0 0 0 0 0 0) .fatal .power none 0 0 0
    let s := if io then { s with faults := { s.faults with lastFatal := e } } else s.lostFatal
    .next (s.packageReset .supplyHold)
  else .next s

/-- SUPPLY_RESTORED (R735): every supply has been back in range for 1 ms. -/
def execSupplyRestored (straps : BitVec 4) (s : State) : Outcome :=
  if s.pkg.phase = .supplyHold then .next (s.release straps) else .next s

/-- JTAG_TRST (R733): TRST_N goes low. -/
def execJtagTrst (s : State) : Outcome := .next { s with pkg := { s.pkg with pins := { s.pkg.pins with jtagReset := true } } }

/-! ### Bridges and the enabling of functions (R24, R30 to R32, R577, R698) -/

/-- R24: the bridges of a part, by number. -/
def Part.bridges : Part → List Nat
  | .zf2 => [0]
  | .zf4 => [0, 1, 4, 7]
  | .zf8 => [0, 1, 2, 3, 4, 5, 6, 7, 8, 9]

/-- The location code of a bridge. -/
def bridgeLocation (b : Nat) : W64 := location 4 2 0 0 b 0 0 0

/-- R30: D1.0020: the present bridges that have trained. -/
def State.bridgesUp (trained : BitVec 10) (s : State) : State :=
  s.setRo d1_0020 0 ((s.pkg.part.bridges.filter (fun b => flag b trained)).foldl (fun a b => a + 2 ^ b) 0)

/-- R577, R683, R698: the functions of both host ports are enabled, the enabled ports enter DETECT, and the segment is served. -/
def State.enableAll (s : State) : State :=
  let s := { s with pkg := { s.pkg with phase := .running } }
  let s := ((s.enableTenant 0).enableTenant 1024).settlePorts
  ((upTo s.towers).foldl (fun s a => s.startAttach a) s).segStart

/-- FUNCTIONS_ENABLE (R30, R31, R697, R698): firmware has checked the bridges. `trained`: the bridges that have. -/
def execFunctionsEnable (trained : BitVec 10) (s : State) : Outcome :=
  if s.pkg.phase = .booting && !s.pkg.pins.test then
    let s := s.bridgesUp trained
    if s.pkg.part.bridges.all (fun b => flag b trained) then .next s.enableAll
    else .next { s with pkg := { s.pkg with phase := .bridgeFail } }
  else if s.pkg.phase = .recovery then .next (s.bridgesUp trained)
  else .next s

/-- BRIDGE_FATAL (R32): a bridge reports an error that retry cannot correct. [DEDUCED, log 70] -/
def execBridgeFatal (bridge : Nat) (s : State) : Outcome :=
  if s.pkg.phase = .running && s.pkg.part.bridges.contains bridge then .next (s.fatalFault .bridge (bridgeLocation bridge) bridge 0 0)
  else .next s

/-- BRIDGE_RETRAINING (R706): a bridge retrains. [DEDUCED, log 70] -/
def execBridgeRetraining (bridge : Nat) (s : State) : Outcome :=
  if s.pkg.phase = .running && s.pkg.part.bridges.contains bridge then
    .next (s.logFault .package .bridge (bridgeLocation bridge) none bridge 0 0)
  else .next s

end Sys2Proof.Machine
end

