-- ==== Sys2Proof/Machine/DictCore.lean ====
section
/-! DEFINITION. The dictionary's parameters (R94 to R98), their present values (R102, R718), the two sets compared, and the
digest of the active set (R128). -/
namespace Sys2Proof.Machine

/-! ### Parameters and instances (R94 to R96, R98) -/

/-- The parameters of revision A1, by group. -/
def groups : List (List Param) :=
  [group0, group1, group2, group3, group4, group5, group6, group7, group8, group9, group10, group11, group12, group13, group14,
    group15, group16, group17, group18, group19, group20]

/-- R95: the parameter that a group and an item name. -/
def findParam (group item : Nat) : Option Param := (groups.getD group []).find? (fun p => p.item = item)

/-- Every parameter, in ascending order of GROUP and ITEM. -/
def allParams : List Param := groups.flatMap id

/-- R96: how many instances a parameter has on a part with so many towers. -/
def Param.instances (p : Param) (towers : Nat) : Nat :=
  match p.scope with
  | .package => 1 | .tower => towers | .port => 8 * towers | .tenant => 2048

/-- R508: a lane assignment whose reserved bits are zero. -/
def laneOk (v : Nat) : Bool := natField 5 2 v = 0

/-- R98: a value lies in a parameter's range. Lane assignments are judged by R509. -/
def Param.inRange (p : Param) (part : Part) (v : Nat) : Bool :=
  match p.range with
  | .any => true
  | .nat lo hi => lo ≤ v && v ≤ hi
  | .int lo hi => lo ≤ toSigned 32 v && toSigned 32 v ≤ hi
  | .oneOf l => l.contains v
  | .zeroOr lo hi => v = 0 || (lo ≤ v && v ≤ hi)
  | .rangePair => natField 12 4 v = 0 && natField 16 13 v ≤ 4096 && v / 536870912 = 0
  | .classWeights => (upTo 5).all (fun i => natField (8 * i) 8 v ≠ 0) && v / 1099511627776 = 0
  | .laneAssign => true
  | .powerCap => 300 ≤ v && v ≤ 10 * part.tdp

/-! ### Computed values -/

/-- A bool as it reads. -/
def b2n (b : Bool) : Nat := if b then 1 else 0

/-- R579: the codes of tenant states. -/
def TenantMode.code : TenantMode → Nat
  | .disabled => 0 | .active => 1 | .resetting => 2 | .frozen => 3

/-- R521: the codes of port states. -/
def PortMode.code : PortMode → Nat
  | .disabled => 0 | .detect => 1 | .negotiate => 2 | .train => 3 | .up => 4 | .fault => 5

/-- R709: the codes of event ring states. -/
def EventRingMode.code : EventRingMode → Nat
  | .stopped => 0 | .running => 1 | .error => 2

/-- R721: the codes of domain states. -/
def DomainMode.code : DomainMode → Nat
  | .open_ => 0 | .closing => 1 | .closed => 2 | .opening => 3

/-- R129: the instances whose shadow value differs from the active value, by key. -/
def ParamSet.differing (a b : ParamSet) : List Nat :=
  let ints := (a.ints ++ b.ints).filterMap (fun e => if tget e.1 a.ints = tget e.1 b.ints then none else some e.1)
  let blobs := (a.blobs ++ b.blobs).filterMap (fun e =>
    if tget e.1 a.blobs = tget e.1 b.blobs then none else some (e.1 / 16777216))
  (ints ++ blobs).eraseDups

/-- R129: the shadow state. -/
def State.shadowState (s : State) : Nat :=
  if s.dict.armed.isSome then 2 else if s.dict.copying.isSome then 3 else b2n (s.dict.shadow ≠ s.dict.active)

/-- The connections of a tower that are behind. -/
def State.behindCount (s : State) (k : Nat) : Nat := (s.conns.filter (fun e => connTower e.1 = k && e.2.behind.isSome)).length

/-- Groups 0 to 3. -/
def State.computedA (s : State) (p : Param) (i0 : Nat) : Option Nat :=
  let t := s.time
  match p.group, p.item with
  | 0, 0x03 => some (match s.pkg.part with | .zf2 => 2 | .zf4 => 4 | .zf8 => 8)
  | 0, 0x04 => some p.dflt
  | 0, 0x05 => some p.dflt
  | 0, 0x10 => some s.pkg.fuses.macBase.toNat
  | 1, 0x02 => some (2 ^ s.towers - 1)
  | 2, 0x00 => some t.now
  | 2, 0x01 => some t.mode.code
  | 2, 0x02 => some (ofSigned 32 t.lastOffset)
  | 2, 0x03 => some s.errorEstimate
  | 2, 0x05 => some t.ref.code
  | 2, 0x06 => some t.gm.identity.toNat
  | 2, 0x07 => some t.gm.stepsRemoved.toNat
  | 2, 0x08 => some s.pkg.fuses.eui64.toNat
  | 2, 0x41 => some (ofSigned 32 ((s.timePort i0).mean.getD 0))
  | 2, 0x42 => some (ofSigned 32 (s.timePort i0).offset)
  | 2, 0x53 => some t.ppsLast
  | 2, 0x60 => some (ofSigned 32 t.gm.utcOffset.toInt)
  | 3, 0x00 => some s.dict.generation.toNat
  | 3, 0x01 => some s.shadowState
  | 3, 0x02 => some ((s.dict.armed.map (·.tick)).getD 0)
  | 3, 0x05 => some s.dict.lastTick
  | 3, 0x06 => some s.dict.lastFlags.toNat
  | 3, 0x07 => some s.dict.lastReason.toNat
  | 3, 0x08 => some s.dict.lastDetail.toNat
  | 3, 0x09 => some s.dict.lastSwapId.toNat
  | 3, 0x11 => some (s.dict.active.differing s.dict.shadow).length
  | _, _ => none

/-- Groups 4 to 12. -/
def State.computedB (s : State) (p : Param) (i0 : Nat) : Option Nat :=
  match p.group, p.item with
  | 4, 0x000 => some (s.rings.filter (fun e => e.2.image.homeTower.toNat = i0)).length
  | 4, 0x002 => some (b2n s.pkg.halted)
  | 4, 0x105 => some (s.tenantRings i0).length
  | 5, 0x000 => some (s.cachedCount i0)
  | 5, 0x001 => some (s.pinnedCount i0)
  | 5, 0x106 => some (s.miss.filter (fun e => connTower e.conn = i0)).length
  | 5, 0x200 => some (s.tenantConns i0).length
  | 5, 0x201 => some (s.handles.filter (fun e => e.2.valid = 1 && e.2.tenant.toNat = i0)).length
  | 7, 0x109 => some (s.behindCount i0)
  | 9, 0x007 => some s.fwd.lastChange
  | 9, 0x116 => some s.fwd.pathDown.length
  | 10, 0x000 => some p.dflt
  | 10, 0x001 => some ((s.baysOf i0).filter (fun b => b.phase = .resident)).length
  | 11, 0x001 => some s.speculations.length
  | 11, 0x108 => some (s.tenantSpecs i0)
  | 12, 0x000 => some p.dflt
  | 12, 0x108 => some (s.memory.extents.filter (fun e => e.2.zeroing && extentTower e.1 = i0)).length
  | 12, 0x200 => some ((upTo 2048).filter (fun x => boundTo (s.extentEntry x) i0)).length
  | _, _ => none

/-- Groups 13 to 15. -/
def State.computedC (s : State) (p : Param) (i0 : Nat) : Option Nat :=
  let n := s.port i0
  let x := s.tenant i0
  match p.group, p.item with
  | 13, 0x10 => some n.mode.code
  | 13, 0x11 => some n.modeCode.toNat
  | 13, 0x12 => some n.active.toNat
  | 13, 0x13 => some n.laneFaults.toNat
  | 13, 0x14 => some n.inverted.toNat
  | 13, 0x15 => some n.partner.toNat
  | 13, 0x16 => some n.cause.toNat
  | 13, 0x17 => some n.trained.toNat
  | 14, 0x01 => some (if i0 < 2 then (s.host i0).rate.toNat else 0)
  | 14, 0x02 => some (if i0 < 2 then (s.host i0).width.toNat else 0)
  | 14, 0x03 => some (if i0 < 2 && (s.host i0).vfEnable then (s.host i0).numVfs else 0)
  | 14, 0x41 => some (s.attachPort i0).mode.code
  | 14, 0x42 => some (s.attachPort i0).width.toNat
  | 14, 0x43 => some (s.attachPort i0).bytes.toNat
  | 15, 0x00 => some x.mode.code
  | 15, 0x01 => some x.inc.toNat
  | 15, 0x02 => some x.cause.toNat
  | 15, 0x03 => some (s.tenantRequests i0)
  | 15, 0x21 => some (b2n x.quiesced)
  | 15, 0x30 => some x.mig.mode.code
  | 15, 0x31 => some x.mig.result.toNat
  | 15, 0x32 => some x.mig.bytes.toNat
  | _, _ => none

/-- Groups 18 to 20. -/
def State.computedD (s : State) (p : Param) (i0 : Nat) : Option Nat :=
  let m := s.mgmt
  match p.group, p.item with
  | 18, 0x01 => some (s.cipher.slots.filter (fun e => e.2.loaded)).length
  | 19, 0x01 => some (b2n m.slotB)
  | 19, 0x02 => some m.version.toNat
  | 19, 0x03 => some m.svn
  | 19, 0x04 => some s.pkg.fuses.counter
  | 19, 0x05 => some m.bootStatus
  | 19, 0x06 => some s.pkg.fuses.romVersion.toNat
  | 19, 0x07 => some m.bootId.toNat
  | 19, 0x0A => some s.pkg.fuses.revoked.toNat
  | 19, 0x11 => some s.pkg.fuses.segMac.toNat
  | 19, 0x16 => some (m.line + 4 * b2n m.inverted + 8 * b2n m.plca)
  | 19, 0x20 => some m.i3cAddress.toNat
  | 19, 0x21 => some m.eid.toNat
  | 19, 0x32 => some (b2n m.segKey.isSome + 2 * b2n m.fabKey.isSome)
  | 19, 0x42 => some m.fwStatus
  | 20, 0x02 => some s.faults.count.toNat
  | 20, 0x21 => some (s.tenant i0).events.mode.code
  | 20, 0x22 => some (s.tenant i0).events.produced.toNat
  | 20, 0x31 => some (s.tenant i0).logCount.toNat
  | 20, 0x61 => some s.power.result.toNat
  | 20, 0x80 => some s.power.power
  | 20, 0x81 => some (s.throttle i0)
  | 20, 0x82 => some (ofSigned 32 (tgetD s.power.thermal i0 {}).logic)
  | 20, 0x83 => some (ofSigned 32 (tgetD s.power.thermal i0 {}).stack)
  | _, _ => none

/-- A value of kind RO that stands elsewhere in the state, by group and item. -/
def State.computed (s : State) (p : Param) (i0 : Nat) : Option Nat :=
  if p.group < 4 then s.computedA p i0
  else if p.group < 13 then s.computedB p i0
  else if p.group < 16 then s.computedC p i0
  else s.computedD p i0

/-! ### Blobs and strings of kind RO -/

/-- R716: a circular log of `n` entries whose newest stand first, as a blob. -/
def logBytes (n : Nat) (count : BitVec 32) (log : List W512) : Bytes :=
  (upTo n).flatMap (fun pos =>
    match (log.zipIdx).find? (fun e => (count.toNat + 4294967296 - 1 - e.2) % n = pos) with
    | some e => bytesOf 64 e.1
    | none => List.replicate 64 0)

/-- D12.0002: the state of an extent. -/
def State.extentState (s : State) (x : Nat) : Nat :=
  let e := s.extent x
  packNat [(8, e.bindGen.toNat), (1, b2n e.zeroing), (1, b2n e.poisoned), (1, b2n (extentReserved x)), (1, b2n (extentAbsent s.towers x))]

/-- D16.0100: CSTATE of a channel. -/
def State.chanState (s : State) (k c : Nat) : Nat :=
  match (s.chan k c).queue with
  | [] => if cgValid (s.dict.active.chanGrant k c) then 0 else 5
  | d :: _ =>
    if d.phase = .running then 1
    else if !s.afterReached k d.word then 3
    else if s.triggerWaits d then 2
    else if s.boundChan k c && !d.slotOk then 4
    else 0

/-- D16.0100: the status of a channel, with its DONE_COUNT and BAD_COUNT given. -/
def State.chanStatus (s : State) (k c : Nat) (counts : BitVec 32 × BitVec 32) : Bytes :=
  let x := s.chan k c
  let issued := match x.queue with | d :: _ => if d.phase = .running then d.next else 0 | [] => 0
  bytesOf 4 counts.1 ++ leBytes 2 x.queue.length ++ leBytes 1 (s.chanState k c) ++ [0] ++ leBytes 4 issued ++ bytesOf 4 counts.2

/-- D18.0030: the slots of a tenant's range. -/
def State.slotStates (s : State) (t : Nat) : Bytes :=
  let r := s.slotRange t
  (upTo 4096).flatMap (fun i =>
    if i < r.2 then
      let k := s.slot (r.1 + i)
      leBytes 1 (b2n k.loaded) ++ bytesOf 1 k.usage ++ bytesOf 1 k.gen ++ [0] ++ bytesOf 4 k.domain
    else List.replicate 8 0)

/-- D3.0003, D19.0008 and the like: the length of a blob as it stands. -/
def State.blobLength (s : State) (p : Param) (i0 : Nat) : Nat :=
  if p.group = 0 && p.item = 2 then s.pkg.fuses.serial.length
  else if p.group = 8 && p.item = 0x55 then 16 * 2 ^ s.par d8_0053 i0
  else p.ty.maxLen

/-- R718: the counters that read as they stood. -/
def counterRanges : List (Nat × Nat × Nat) :=
  [(2, 0x70, 0x76), (3, 0x12, 0x15), (4, 0x100, 0x105), (5, 0x100, 0x109), (6, 0x100, 0x110), (6, 0x200, 0x200), (7, 0x100, 0x109),
    (8, 0x54, 0x202), (9, 0x100, 0x116), (10, 0x10, 0x16), (11, 0x100, 0x108), (12, 0x100, 0x108), (13, 0x100, 0x114),
    (14, 0x100, 0x107), (15, 0x100, 0x104), (16, 0x100, 0x200), (17, 0x100, 0x105), (18, 0x100, 0x104), (19, 0x100, 0x108),
    (20, 0x100, 0x200)]

/-- R718: a parameter is one of the counters. -/
def Param.isCounter (p : Param) : Bool :=
  p.kind = .ro && !(p.group = 8 && p.item = 0x55) && counterRanges.any (fun r => r.1 = p.group && r.2.1 ≤ p.item && p.item ≤ r.2.2)

/-- The counts of a channel, present or frozen. -/
def State.chanCounts (s : State) (k c : Nat) : BitVec 32 × BitVec 32 :=
  match s.dict.frozen with
  | some f => tgetD f.descs (16 * k + c) (0, 0)
  | none => ((s.chan k c).done, (s.chan k c).bad)

/-- D11.0107: SEQ of a tenant's stages, present or frozen. -/
def State.seqOf (s : State) (t i : Nat) : Nat :=
  match s.dict.frozen with
  | some f => tgetD f.stageSeq (64 * t + i) 0
  | none => tgetD s.experts.stageSeq (64 * t + i) 0

/-- R718: the counters as they stand now. -/
def State.counterSnapshot (s : State) : FrozenCounters :=
  let towers := upTo s.towers
  let tenants := (s.rings.map (fun e => keyTenant e.1) ++ s.speculations.map Prod.fst).eraseDups
  let at_ := fun (p : Param) (l : List Nat) => l.map (fun i => (p.key i, ((s.computed p i).getD 0) % p.modulus))
  let vals := at_ d5_0106 towers ++ at_ d7_0109 towers ++ at_ d9_0116 [0] ++ at_ d12_0108 towers ++ at_ d4_0105 tenants ++
    at_ d11_0108 tenants
  { ro := s.ro
    values := vals.foldl (fun t e => tput 0 e.1 e.2 t) []
    stageSeq := s.experts.stageSeq
    descs := s.movers.chans.foldl (fun t e => tput (0, 0) e.1 (e.2.done, e.2.bad) t) [] }

/-- R128: the bytes of a parameter in a set. -/
def ParamSet.bytes (ps : ParamSet) (part : Part) (p : Param) (i0 off n : Nat) : Bytes :=
  match p.ty.width with
  | some w => slice off n (leBytes w (ps.int part p i0))
  | none => ps.blob p i0 off n

/-- R128: the digest of a set: every SH parameter in ascending order of address, each as its address and its value; a blob is
preceded by its length. -/
def ParamSet.digest (ps : ParamSet) (part : Part) : Bytes :=
  let one := fun (p : Param) (i : Nat) =>
    leBytes 8 (keyAddress (p.key i)) ++ (if p.ty.width.isSome then [] else leBytes 4 p.ty.maxLen) ++ ps.bytes part p i 0 p.ty.maxLen
  shake256 ((allParams.filter (fun p => p.kind = .sh)).flatMap (fun p => (upTo (p.instances part.towers)).flatMap (one p))) 32

/-- A blob or a string of kind RO. -/
def State.roBlob (s : State) (p : Param) (i0 : Nat) : Bytes :=
  match p.group, p.item with
  | 0, 0x02 => s.pkg.fuses.serial
  | 3, 0x03 => s.dict.active.digest s.pkg.part
  | 8, 0x55 => (upTo (2 ^ s.par d8_0053 i0)).flatMap (fun j => bytesOf 16 (tgetD (s.port i0).lantern j 0))
  | 11, 0x107 => (upTo 64).flatMap (fun i => leBytes 4 (s.seqOf i0 i))
  | 12, 0x02 => (upTo 2048).flatMap (fun x => leBytes 2 (s.extentState x))
  | 16, 0x100 => (upTo 16).flatMap (fun c => s.chanStatus i0 c (s.chanCounts i0 c))
  | 18, 0x30 => s.slotStates i0
  | 19, 0x08 => shake256 s.identityKey 64
  | 19, 0x09 => slice 0 320 s.mgmt.log
  | 19, 0x51 => slice 0 1024 s.mgmt.linkResp
  | 20, 0x01 => logBytes 1024 s.faults.count s.faults.log
  | 20, 0x03 => bytesOf 64 s.faults.lastFatal
  | 20, 0x30 => logBytes 64 (s.tenant i0).logCount (s.tenant i0).log
  | 20, 0x62 => (upTo 64).map (fun d => BitVec.ofNat 8 (s.domain d).mode.code)
  | _, _ => []

/-- R718: a value of kind RO as it reads. -/
def State.roInt (s : State) (p : Param) (i0 : Nat) : Nat :=
  let v := match s.dict.frozen with
    | some f => if p.isCounter then (if (s.computed p i0).isSome then tgetD f.values (p.key i0) 0 else tgetD f.ro (p.key i0) 0)
      else (s.computed p i0).getD (s.roVal p i0)
    | none => (s.computed p i0).getD (s.roVal p i0)
  v % p.modulus

/-- R102, R110: the bytes of a parameter as READ and READ_SHADOW return them: of a set, or the present state. -/
def State.readBytes (s : State) (ps : ParamSet) (p : Param) (i0 off : Nat) : Bytes :=
  match p.ty.width with
  | some w => leBytes w (if p.kind.inSets then ps.int s.pkg.part p i0 else s.roInt p i0)
  | none =>
    let n := min 1024 (s.blobLength p i0 - off)
    if p.kind.inSets then ps.blob p i0 off n else slice off n (s.roBlob p i0)

end Sys2Proof.Machine
end

