-- ==== Sys2Proof/Machine/Requests.lean ====
section
/-! DEFINITION. Requests to the dictionary and their answers (R109, R111 to R114, R551, R552, R675 to R690): the queues, the
mailbox, MCTP, the segment and fabric datagrams. -/
namespace Sys2Proof.Machine

/-! ### Records (R109, R111, R112, R118) -/

/-- R118: the reason codes. -/
inductive Reason where
  | ok | unknownParameter | instanceRange | access | kind | length | valueRange | shadowLocked | busy | notArmed | late
  | generation | malformedRequest | alreadyArmed | crossField | reference | capacity | schedule | route | state
  deriving DecidableEq, Repr

/-- R118: their values. -/
def Reason.code : Reason → Nat
  | .ok => 0 | .unknownParameter => 1 | .instanceRange => 2 | .access => 3 | .kind => 4 | .length => 5 | .valueRange => 6
  | .shadowLocked => 7 | .busy => 8 | .notArmed => 9 | .late => 10 | .generation => 11 | .malformedRequest => 12
  | .alreadyArmed => 13 | .crossField => 0x20 | .reference => 0x21 | .capacity => 0x22 | .schedule => 0x23 | .route => 0x24
  | .state => 0x25

/-- R109: fields of a request. -/
def rqOp (b : Bytes) : Nat := leAt 0 1 b
def rqFlags (b : Bytes) : Nat := leAt 1 1 b
def rqId (b : Bytes) : Nat := leAt 2 2 b
def rqAddress (b : Bytes) : Nat := leAt 4 8 b
def rqOffset (b : Bytes) : Nat := leAt 12 4 b
def rqLength (b : Bytes) : Nat := leAt 16 2 b
def rqValue (b : Bytes) : Bytes := slice 20 (rqLength b) b

/-- R112: what makes a request malformed. [PRESUMED, log 90] -/
def requestBad (b : Bytes) : Bool :=
  let op := rqOp b
  op = 0 || op > 9 || rqFlags b > 1 || (rqFlags b = 1 && op ≠ 7) || leAt 18 2 b ≠ 0 || rqLength b > 1024 || b.length < 20 + rqLength b ||
  rqAddress b / 16777216 % 256 ≠ 0 || (op ≥ 6 && rqAddress b ≠ 0)

/-- R111: a response; DETAIL is an address, or fabric time at execution. -/
def State.responseTo (s : State) (req : Bytes) (r : Reason) (detail : Option Nat) (value : Bytes) : Bytes :=
  leBytes 1 (rqOp req) ++ leBytes 1 r.code ++ leBytes 2 (rqId req) ++ bytesOf 4 s.dict.generation ++ leBytes 8 (detail.getD s.now) ++
    leBytes 2 value.length ++ [0, 0] ++ value

/-! ### Answers by path (R552, R678, R686, R687, R689) -/

/-- R681, R677: the segment's key; one that is not loaded is taken as zeros. -/
def State.segKeyBytes (s : State) : Bytes := s.mgmt.segKey.getD (List.replicate 32 0)

/-- ASCII "ZARICA-SEG". -/
def segName : Bytes := [0x5A, 0x41, 0x52, 0x49, 0x43, 0x41, 0x2D, 0x53, 0x45, 0x47]

/-- R677: the tag of a management header and body on the segment. -/
def segTag (key payload : Bytes) : Bytes := kmac256 key payload 16 segName

/-- R676: a response's management header and body. -/
def State.mgmtAnswer (s : State) (mstatus : Nat) (seq : W32) (body : Bytes) : Bytes :=
  mgmtHeader mstatus seq s.mgmt.bootId body.length ++ body

/-- R678, R683: a response on the segment: from the port's link-local address and UDP port, with hop limit 255. -/
def State.segAnswer (mac : BitVec 48) (ip : BitVec 128) (port : BitVec 16) (payload : Bytes) (collisions : Nat) (s : State) : State :=
  let body := payload ++ segTag s.segKeyBytes payload
  s.segSend collisions (segEther mac.toNat s.segMac (ipv6 17 255 s.segAddr ip.toNat (udp s.segAddr ip.toNat (s.par d19_0012 0) port.toNat body)))

/-- R689: a link-scoped response leaves by the port on which its request arrived, with HOPS 0. -/
def State.linkAnswer (port dst : Nat) (payload : Bytes) (s : State) : State :=
  let hdr := mkHdr 0x21 5 (s.par d9_0001 0) 0 dst 0xFFFF 0 0 0 0 0 0
  if s.fabricUp port then s.enqueue port 5 (s.datagramItem port hdr payload) else s

/-- Send the answer of a route: MSTATUS, SEQ and body on the two authenticated paths. -/
def State.mgmtReply (r : Route) (mstatus : Nat) (seq : W32) (body : Bytes) (collisions : Nat) (s : State) : State :=
  let payload := s.mgmtAnswer mstatus seq body
  match r with
  | .segment mac ip port _ => s.segAnswer mac ip port payload collisions
  | .fabric src path _ => (s.sendDatagram 0x21 src path payload).1
  | .link port src _ => s.linkAnswer port src payload
  | _ => s

/-- R675: a response returns by the path of its request. -/
def State.answer (r : Route) (resp : Bytes) (s : State) : State :=
  match r with
  | .mailbox fn =>
    let p := s.fn fn
    s.setFn fn { p with mbox := { p.mbox with answer := some resp } }
  | .mctp => s.emit (.mctp ([0xC6, 0x1E, 1] ++ resp))
  | .segment _ _ _ seq => s.mgmtReply r 0 seq resp 0
  | .fabric _ _ seq => s.mgmtReply r 0 seq resp 0
  | .link _ _ seq => s.mgmtReply r 0 seq resp 0
  | .firmware => s.emit (.response 6 0 resp)

/-! ### The queues (R113, R114) -/

/-- R114, R552: the queue of a route: 0 and 1 the host ports, 2 MCTP, 3 the segment, 4 the fabric, 5 firmware. -/
def Route.path : Route → Nat
  | .mailbox fn => fn / 1024
  | .mctp => 2
  | .segment _ _ _ _ => 3
  | .fabric _ _ _ => 4
  | .link _ _ _ => 4
  | .firmware => 5

/-- R99: the class of a route. -/
def Route.cls : Route → ReqClass
  | .mailbox fn => if fn = 0 then .pf0 else if fn = 1024 then .pf1 else .vf fn
  | .mctp => .bmc
  | .segment _ _ _ _ => .seg
  | .fabric _ _ _ => .fm
  | .link _ _ _ => .fm
  | .firmware => .fw

/-- R112, R114: a request arrives on a path: it is queued, refused with BUSY, or refused as malformed. [DESIGN CHOICE, log 35] -/
def State.queueRequest (r : Route) (b : Bytes) (s : State) : State :=
  if (s.dict.queue.filter (fun q => q.route.path = r.path)).length ≥ 64 then
    let s := s.bump d3_0015 0
    s.answer r (s.responseTo b .busy none [])
  else if requestBad b then s.answer r (s.responseTo b .malformedRequest none [])
  else { s with dict := { s.dict with queue := s.dict.queue ++ [{ route := r, bytes := b }] } }

/-- R31, R694, R697: the mailbox of a function is served. -/
def State.mailboxServed (s : State) (fn : Nat) : Bool :=
  ((s.pkg.phase = .recovery || s.pkg.phase = .bridgeFail) && (fn = 0 || fn = 1024)) || s.fnLive fn

/-- R698: the management agent serves a path. [DESIGN CHOICE, log 35] -/
def State.pathServed (s : State) (r : Route) : Bool :=
  match r with
  | .mailbox fn => s.mailboxServed fn
  | .firmware => s.timeRuns
  | _ => s.pkg.phase = .running || s.pkg.phase = .bridgeFail

/-- DICT_REQUEST_QUEUE (R112 to R114): a request arrives on a path. -/
def execDictRequestQueue (route : Route) (record : Bytes) (s : State) : Outcome :=
  if s.pathServed route then .next (s.queueRequest route record) else .next s

/-! ### The mailbox (R551, R552) -/

/-- MB_GO (R551, R552): GO is written to a function's MB_CMD. -/
def execMbGo (t : Nat) (s : State) : Outcome :=
  if s.mailboxServed t then
    let p := s.fn t
    if p.mbox.busy then .next (s.setFn t { p with mbox := { p.mbox with lost := true } })
    else .next ((s.setFn t { p with mbox := { p.mbox with busy := true } }).queueRequest (.mailbox t) (slice 0 1536 p.mbox.req))
  else .next s

/-- MB_RESPONSE_DONE (R551, R552, R556): the response is written to MB_RESP; BUSY clears and DONE is set. -/
def execMbResponseDone (t : Nat) (s : State) : Outcome :=
  let p := s.fn t
  match p.mbox.answer with
  | none => .next s
  | some b =>
    let s := s.setFn t { p with mbox := { p.mbox with resp := slice 0 1536 b, answer := none, busy := false, done := true } }
    .next (if p.mbox.intr then s.raiseMsix t 0 else s)

/-! ### The checks of a request (R678, R679) -/

/-- R678, R679: a request's management header and body, checked against a path's key and sources. `key`: the path's key,
`tagOk` its TAG, `last` the SEQ by source, `source` the source. -/
inductive MgmtCheck where
  | bad
  | noKey
  | tagFail
  | full
  | stale (last : W32)
  | accept
  deriving DecidableEq, Repr

/-- R676: the header and the length of a request are right. [PRESUMED, log 90] -/
def mgmtShape (h body : Bytes) : Bool :=
  leAt 0 2 h = 0x4D5A && leAt 2 1 h = 1 && leAt 12 2 h = body.length && body.length ≤ 1044

/-- R678: judge a request. [PRESUMED, log 90] -/
def State.mgmtJudge (s : State) (h body : Bytes) (key : Option Bytes) (tagOk : Bool) (sources : Tbl (BitVec 32)) (source : Nat) : MgmtCheck :=
  let seq : W32 := BitVec.ofNat 32 (leAt 4 4 h)
  if !mgmtShape h body then .bad
  else if key.isNone then .noKey
  else if !tagOk then .tagFail
  else
    match tget source sources with
    | none =>
      if sources.length ≥ 64 then .full
      else if leAt 8 4 h ≠ s.mgmt.bootId.toNat then .stale 0
      else .accept
    | some last => if leAt 8 4 h ≠ s.mgmt.bootId.toNat || !serialNewer seq last then .stale last else .accept

/-! ### The segment (R678, R683) -/

/-- R683: fields of an IPv6 frame. -/
def sgDst (f : Bytes) : Nat := beNat (slice 0 6 f)
def sgSrc (f : Bytes) : Nat := beNat (slice 6 6 f)
def sgType (f : Bytes) : Nat := beNat (slice 12 2 f)
def sgLen (f : Bytes) : Nat := beNat (slice 18 2 f)
def sgNext (f : Bytes) : Nat := leAt 20 1 f
def sgHop (f : Bytes) : Nat := leAt 21 1 f
def sgFrom (f : Bytes) : Nat := beNat (slice 22 16 f)
def sgTo (f : Bytes) : Nat := beNat (slice 38 16 f)
def sgBody (f : Bytes) : Bytes := slice 54 (sgLen f) f

/-- R683: an IPv6 frame for the port, whole. -/
def State.segMine (s : State) (f : Bytes) : Bool :=
  sgType f = 0x86DD && leAt 14 1 f / 16 = 6 && f.length ≥ 54 + sgLen f &&
  ((sgDst f = s.segMac && sgTo f = s.segAddr) || (sgTo f = solicitedNode s.segAddr && sgDst f = multicastMac (sgTo f)))

/-- R683: the frame is a management datagram to the port. -/
def State.segRequest (s : State) (f : Bytes) : Bool :=
  let b := sgBody f
  s.segMine f && sgTo f = s.segAddr && sgNext f = 17 && beNat (slice 2 2 b) = s.par d19_0012 0 && isLinkLocal (sgFrom f) && sgHop f = 255 &&
  beNat (slice 4 2 b) = b.length && b.length ≥ 8 && checksumOk (pseudoHeader (sgFrom f) (sgTo f) b.length 17 ++ b)

/-- R678: a management datagram on the segment. -/
def State.takeSegment (f : Bytes) (collisions : Nat) (s : State) : State :=
  let b := (sgBody f).drop 8
  let h := b.take 16
  let body := slice 16 (b.length - 32) b
  let tag := b.drop (b.length - 16)
  let seq : W32 := BitVec.ofNat 32 (leAt 4 4 h)
  let r : Route := .segment (BitVec.ofNat 48 (sgSrc f)) (BitVec.ofNat 128 (sgFrom f)) (BitVec.ofNat 16 (beNat (slice 0 2 (sgBody f)))) seq
  if b.length < 32 then s.bump d19_0107 0
  else
    match s.mgmtJudge h body s.mgmt.segKey (tag = segTag s.segKeyBytes (h ++ body)) s.mgmt.segSources (sgFrom f) with
    | .bad => s.bump d19_0107 0
    | .noKey => s.mgmtReply r 2 seq [] collisions
    | .tagFail => s.bump d19_0102 0
    | .full => s.bump d19_0108 0
    | .stale last => (s.bump d19_0104 0).mgmtReply r 1 last [] collisions
    | .accept =>
      ({ s with mgmt := { s.mgmt with segSources := tset (sgFrom f) seq s.mgmt.segSources } } : State).queueRequest r body

/-- SEG_REQUEST_RX (R678, R683): a management request arrives on the segment. `collisions`: those that an immediate answer
meets. -/
def execSegRequestRx (frame : Bytes) (collisions : Nat) (s : State) : Outcome :=
  if s.pathServed (.segment 0 0 0 0) && s.parFlag d19_0010 0 && s.segRequest frame then .next (s.takeSegment frame collisions)
  else .next s

/-- R683: the answer to a neighbour solicitation for the port's address, or to an echo request. [PRESUMED, log 90] -/
def State.segIcmp (s : State) (f : Bytes) : Option Bytes :=
  let b := sgBody f
  let me := s.segAddr
  if !s.segMine f || sgNext f ≠ 58 || !checksumOk (pseudoHeader (sgFrom f) (sgTo f) b.length 58 ++ b) then none
  else if leAt 0 1 b = 135 && leAt 1 1 b = 0 && sgHop f = 255 && b.length ≥ 24 && beNat (slice 8 16 b) = me then
    let asked := sgFrom f ≠ 0
    let dst := if asked then sgFrom f else allNodes
    let mac := if asked then sgSrc f else multicastMac allNodes
    some (segEther mac s.segMac (ipv6 58 255 me dst (icmp6 me dst
      ([136, 0, 0, 0, if asked then 0x60 else 0x20, 0, 0, 0] ++ beBytes 16 me ++ [2, 1] ++ beBytes 6 s.segMac))))
  else if leAt 0 1 b = 128 && leAt 1 1 b = 0 && b.length ≥ 8 && sgTo f = me then
    some (segEther (sgSrc f) s.segMac (ipv6 58 64 me (sgFrom f) (icmp6 me (sgFrom f) ([129, 0, 0, 0] ++ b.drop 4))))
  else none

/-- SEG_FRAME_RX (R683): a frame on the segment is answered as a neighbour solicitation or an echo request, taken as a
management datagram, or discarded. -/
def execSegFrameRx (frame : Bytes) (collisions : Nat) (s : State) : Outcome :=
  if s.pathServed (.segment 0 0 0 0) && s.parFlag d19_0010 0 then
    if s.segRequest frame then .next (s.takeSegment frame collisions)
    else
      match s.segIcmp frame with
      | some f => .next (s.segSend collisions f)
      | none => .next (s.bump d19_0107 0)
  else .next s

/-- SEG_LINE_CHECK (R684): the line monitor has checked the pair: 0 OK, 1 OPEN, 2 SHORT, and whether it is received inverted. -/
def execSegLineCheck (line : Nat) (inverted : Bool) (s : State) : Outcome :=
  if s.pathServed (.segment 0 0 0 0) && s.parFlag d19_0010 0 && line < 3 then
    let changed := line ≠ s.mgmt.line
    let s := { s with mgmt := { s.mgmt with line := line, inverted := inverted } }
    .next (if changed then (s.packageEvent 0x05 0x03 0 0 line).bump d19_0106 0 else s)
  else .next s

/-- PLCA_BEACON_TIMEOUT (R682): no BEACON has been seen for 4 × node count × TO, and the PHY falls back to CSMA/CD; or a
BEACON has returned. The coordinator needs none. -/
def execPlcaBeaconTimeout (beacon : Bool) (s : State) : Outcome :=
  if s.parFlag d19_0010 0 && s.parFlag d19_0013 0 && s.par d19_0014 0 ≠ 0 then
    .next { s with mgmt := { s.mgmt with plca := beacon } }
  else .next s

/-! ### MCTP over I3C (R685, R686) -/

/-- MCTP_MESSAGE_RX (R685, R686): a message of an MCTP type, from the byte after its type. [PRESUMED, log 90] -/
def execMctpMessageRx (type : Nat) (body : Bytes) (s : State) : Outcome :=
  if s.pathServed .mctp && type = 0x7E then
    if leAt 0 2 body = 0x1EC6 && leAt 2 1 body = 1 && body.length ≤ 4223 then .next (s.queueRequest .mctp (body.drop 3))
    else .next (s.bump d19_0107 0)
  else .next s

/-- I3C_ADDRESS_ASSIGNMENT (R685): 0 ENTDAA, 1 SETDASA from the static address D19.0022, 2 Set Endpoint ID. -/
def execI3cAddressAssignment (kind target value : Nat) (s : State) : Outcome :=
  if s.pathServed .mctp then
    match kind with
    | 0 => .next { s with mgmt := { s.mgmt with i3cAddress := BitVec.ofNat 8 (value % 128) } }
    | 1 => if target = s.par d19_0022 0 then .next { s with mgmt := { s.mgmt with i3cAddress := BitVec.ofNat 8 (value % 128) } } else .next s
    | 2 => .next { s with mgmt := { s.mgmt with eid := BitVec.ofNat 8 value } }
    | _ => .next s
  else .next s

/-! ### Fabric datagrams (R687 to R690) -/

/-- R678, R679: a DICT_REQUEST, from adapter `src`, by a route. -/
def State.takeDictRequest (p : Packet) (r : W32 → Route) (s : State) : State :=
  let h := p.payload.take 16
  let body := p.payload.drop 16
  let src := (hdrSrcAdapter p)
  let seq : W32 := BitVec.ofNat 32 (leAt 4 4 h)
  if src = 0xFFFF || p.payload.length < 16 then s.bump d19_0107 0
  else
    match s.mgmtJudge h body s.mgmt.fabKey (p.trailer = datagramTag s.fabricKey p.hdr p.payload) s.mgmt.fabSources src with
    | .bad => s.bump d19_0107 0
    | .noKey => s.mgmtReply (r seq) 2 seq [] 0
    | .tagFail => s.bump d19_0103 0
    | .full => s.bump d19_0108 0
    | .stale last => (s.bump d19_0104 0).mgmtReply (r seq) 1 last [] 0
    | .accept =>
      ({ s with mgmt := { s.mgmt with fabSources := tset src seq s.mgmt.fabSources } } : State).queueRequest (r seq) body

/-- DICT_REQUEST_RX (R678, R679, R687, R688): a datagram on VC5 with PTYPE 0x20; one whose PTYPE is not in the table is
discarded. [PRESUMED, log 90] -/
def execDictRequestRx (rx : Rx) (s : State) : Outcome :=
  let type := hdrType rx.pkt
  if hdrVc rx.pkt ≠ 5 || hdrDstAdapter rx.pkt = 0xFFFF || (0x21 ≤ type && type ≤ 0x23) then .next s
  else if type ≠ 0x20 then .next ((s.bump d19_0107 0).freeIngress rx.port 5 0 rx.pkt.len)
  else .next (s.takeDatagram rx (State.takeDictRequest rx.pkt (fun q => .fabric (hdrSrcAdapter rx.pkt) (hdrPath rx.pkt) q)))

/-- LINK_SCOPED_REQUEST_RX (R688, R689): a datagram with DST_ADAPTER 0xFFFF. -/
def execLinkScopedRequestRx (rx : Rx) (s : State) : Outcome :=
  let p := rx.pkt
  if hdrVc p ≠ 5 || hdrDstAdapter p ≠ 0xFFFF then .next s
  else
    let s := s.freeIngress rx.port 5 0 p.len
    if s.tagExpired p || hdrType p ≠ 0x20 || s.hasId || hdrHops p ≠ 0 || !s.fabricUp rx.port then .next (s.bump d19_0107 0)
    else .next (s.takeDictRequest p (fun q => .link rx.port (hdrSrcAdapter p) q))

/-- R690: a response of an unconfigured partner is kept. -/
def State.takeDictResponse (port : Nat) (p : Packet) (s : State) : State :=
  if hdrSrcAdapter p ≠ 0xFFFF then s
  else
    match s.openDatagram p with
    | .error s => s
    | .ok (h, body) =>
      ({ s with mgmt := { s.mgmt with
        linkResp := slice 0 1024 (leBytes 1 port ++ [1, 0, 0] ++ h ++ body.take 1004) } } : State).bump d19_0052 0

/-- DICT_RESPONSE_RX (R687, R688, R690). -/
def execDictResponseRx (rx : Rx) (s : State) : Outcome :=
  if hdrVc rx.pkt = 5 && hdrType rx.pkt = 0x21 && hdrDstAdapter rx.pkt ≠ 0xFFFF then
    .next (s.takeDatagram rx (State.takeDictResponse rx.port rx.pkt))
  else .next s

/-- R690: a write of LINK_MGMT_SEND: the datagram it sends; none when it is refused. -/
def State.linkMgmtSend (b : Bytes) (s : State) : Option State :=
  let port := leAt 0 1 b
  let payload := b.drop 4
  if b.length < 20 || port ≥ 64 || leAt 1 3 b ≠ 0 || !s.fabricUp port || leAt 16 2 b ≠ b.length - 20 || b.length > 1024 then none
  else
    let hdr := mkHdr 0x20 5 (s.par d9_0001 0) 0 0xFFFF (s.par d0_0001 0) 0 0 0 0 0 0
    some (s.enqueue port 5 (s.datagramItem port hdr payload))

/-- LINK_MGMT_SEND (R690): a write of D19.0050. [PRESUMED, log 90] -/
def execLinkMgmtSend (value : Bytes) (s : State) : Outcome := .next ((s.linkMgmtSend value).getD s)

end Sys2Proof.Machine
end

