-- ==== Sys2Proof/Machine/Firmware.lean ====
section
/-! DEFINITION. Firmware updates (R695, R696) and attestation (R699 to R704): flash commands, SPDM messages, quotes. -/
namespace Sys2Proof.Machine

/-! ### Firmware updates (R695, R696) -/

/-- R694, R698: firmware serves group 19. -/
def State.firmwareServes (s : State) : Bool := s.pkg.phase = .running || s.pkg.phase = .bridgeFail || s.pkg.phase = .recovery

/-- R696: a command begins: FW_STATUS is BUSY until the command's outcome is reported. [DESIGN CHOICE, log 87] -/
def State.fwStart (outcome : Nat) (s : State) : State := { s with mgmt := { s.mgmt with fwStatus := 1, fwResult := outcome } }

/-- R696: firmware takes a flash command. -/
def State.fwReady (s : State) : Bool := s.firmwareServes && s.mgmt.fwStatus ≠ 1

/-- R691: the slot that is not running is slot B. [DESIGN CHOICE, log 87] -/
def State.inactiveB (s : State) : Bool := !s.mgmt.slotB

/-- R696, ERASE: every byte of the inactive slot reads 0xFF. [DESIGN CHOICE, log 87] -/
def State.fwErase (s : State) : State :=
  let lo := slotBase s.inactiveB
  { s.fwStart 2 with
    mgmt := { (s.fwStart 2).mgmt with flash := s.mgmt.flash.filter (fun e => !(lo ≤ e.1 && e.1 < lo + slotSize)) } }

/-- R696, VERIFY: the checks of R693. [DESIGN CHOICE, log 87] -/
def State.fwVerify (s : State) : State :=
  let r := s.checkSlot s.inactiveB
  { s.fwStart r with mgmt := { (s.fwStart r).mgmt with verified := s.mgmt.verified || r = 2 } }

/-- R691, R696, PREFER: boot control prefers the inactive slot. -/
def State.fwPrefer (s : State) : State :=
  if !s.mgmt.verified then s.fwStart 8
  else
    let c : Bytes := if s.inactiveB then [1, 254] else [0, 255]
    { s.fwStart 2 with mgmt := { (s.fwStart 2).mgmt with flash := flashStore 0 c s.mgmt.flash } }

/-- R695, R696, COMMIT_SVN: the counter rises to the SVN of the running image; it never falls. -/
def State.fwCommit (s : State) : State :=
  if s.mgmt.bootStatus ≠ 0 then s.fwStart 8
  else
    let s := s.fwStart 2
    { s with pkg := { s.pkg with fuses := { s.pkg.fuses with counter := max s.pkg.fuses.counter s.mgmt.svn } } }

/-- R696: a key is revoked in the fuses. -/
def State.fwRevoke (key : Nat) (s : State) : State :=
  if key = s.mgmt.keyIndex then s.fwStart 8
  else
    let s := s.fwStart 2
    { s with pkg := { s.pkg with fuses := { s.pkg.fuses with revoked := s.pkg.fuses.revoked ||| BitVec.ofNat 4 (2 ^ key) } } }

/-- FW_ERASE (R696). -/
def execFwErase (s : State) : Outcome := if s.fwReady then .next s.fwErase else .next s
/-- FW_VERIFY (R693, R696). -/
def execFwVerify (s : State) : Outcome := if s.fwReady then .next s.fwVerify else .next s
/-- FW_PREFER (R696). -/
def execFwPrefer (s : State) : Outcome := if s.fwReady then .next s.fwPrefer else .next s
/-- FW_COMMIT_SVN (R695, R696). -/
def execFwCommitSvn (s : State) : Outcome := if s.fwReady then .next s.fwCommit else .next s
/-- FW_REVOKE_KEY (R696): FW_CMD 0x10 to 0x13. -/
def execFwRevokeKey (key : Nat) (s : State) : Outcome := if s.fwReady && key < 4 then .next (s.fwRevoke key) else .next s

/-- R696: a write of FW_CMD. -/
def State.fwCommand (v : Nat) (s : State) : Except Reason State :=
  if s.mgmt.fwStatus = 1 then .error .access
  else
    match v with
    | 1 => .ok s.fwErase
    | 2 => .ok s.fwVerify
    | 3 => .ok s.fwPrefer
    | 4 => .ok s.fwCommit
    | 0x10 => .ok (s.fwRevoke 0)
    | 0x11 => .ok (s.fwRevoke 1)
    | 0x12 => .ok (s.fwRevoke 2)
    | 0x13 => .ok (s.fwRevoke 3)
    | _ => .error .valueRange

/-- R696: a write of FW_CHUNK: an offset in the inactive slot, then 1 to 1,016 bytes of data. [DESIGN CHOICE, log 87] -/
def State.fwChunk (b : Bytes) (s : State) : Except Reason State :=
  let off := leAt 0 8 b
  let data := b.drop 8
  if s.mgmt.fwStatus = 1 then .error .access
  else if data.isEmpty || data.length > 1016 then .error .length
  else if off + data.length > slotSize then .error .valueRange
  else .ok { s with mgmt := { s.mgmt with flash := flashStore (slotBase s.inactiveB + off) data s.mgmt.flash, verified := false } }

/-- FW_CHUNK (R696). -/
def execFwChunk (value : Bytes) (s : State) : Outcome :=
  if s.firmwareServes then
    match s.fwChunk value with
    | .ok s' => .next s'
    | .error _ => .next s
  else .next s

/-- FW_COMMAND_DONE (R696): the command's outcome is reported. [DESIGN CHOICE, log 87] -/
def execFwCommandDone (s : State) : Outcome :=
  if s.firmwareServes && s.mgmt.fwStatus = 1 then .next { s with mgmt := { s.mgmt with fwStatus := s.mgmt.fwResult } } else .next s

/-! ### SPDM (R702) -/

/-- R702: the SPDM messages that arrive. -/
inductive SpdmKind where
  | version | capabilities | chunk | quote | log | identity | other
  deriving DecidableEq, Repr

/-- R703: a vendor-defined request of the PCI-SIG registry with VendorID 0x1EC6. [PRESUMED, log 88] -/
def spdmVendor (b : Bytes) : Bool := leAt 4 2 b = 3 && leAt 6 1 b = 2 && leAt 7 2 b = 0x1EC6 && b.length ≥ 11 + leAt 9 2 b

/-- R703: its payload. -/
def spdmPayload (b : Bytes) : Bytes := slice 11 (leAt 9 2 b) b

/-- R702, R703: what a message asks; a vendor-defined request whose payload is none of the three is another request. -/
def spdmKind (b : Bytes) : SpdmKind :=
  let code := leAt 1 1 b
  let p := spdmPayload b
  if code = 0x84 then .version
  else if leAt 0 1 b ≠ 0x13 then .other
  else if code = 0xE1 then .capabilities
  else if code = 0x85 || code = 0x86 then .chunk
  else if code = 0xFE && spdmVendor b then
    match leAt 0 1 p with
    | 1 => if p.length = 33 then .quote else .other
    | 2 => if p.length = 1 then .log else .other
    | 3 => if p.length = 1 then .identity else .other
    | _ => .other
  else .other

/-- SPDM 1.3: an ERROR message. [PRESUMED, log 88] -/
def spdmError (code data : Nat) : Bytes := [0x13, 0x7F, BitVec.ofNat 8 code, BitVec.ofNat 8 data]

/-- R703: a vendor-defined response. [PRESUMED, log 88] -/
def spdmVendorResponse (payload : Bytes) : Bytes :=
  [0x13, 0x7E, 0, 0, 3, 0, 2, 0xC6, 0x1E] ++ leBytes 2 payload.length ++ payload

/-- R702: the path is served: 0 the DOE mailbox of H0's PF, 1 that of H1's, 2 MCTP. -/
def State.spdmServed (s : State) (path : Nat) : Bool :=
  if path = 0 then s.fnLive 0 else if path = 1 then s.fnLive 1024 else path = 2 && s.pathServed .mctp

/-- SPDM 1.3: bytes of the largest message of a path; the standard's least is 42. -/
def spdmSize (path : Nat) : Nat := max 42 (Sys2Proof.Config.spdmTransfer path)

/-- R702: the chunks of a path. [PRESUMED, log 88] -/
def State.spdmOf (s : State) (path : Nat) : SpdmChunks := tgetD s.mgmt.spdm path {}
def State.setSpdm (path : Nat) (c : SpdmChunks) (s : State) : State :=
  { s with mgmt := { s.mgmt with spdm := tput {} path c s.mgmt.spdm } }

/-- R702: a message that one piece does not hold is announced by ERROR LargeResponse, and fetched in chunks. -/
def State.spdmWrap (path : Nat) (b : Bytes) (s : State) : Bytes × State :=
  if b.length ≤ spdmSize path then (b, s)
  else
    let c := s.spdmOf path
    let h := c.handle + 1
    (spdmError 0x0F 0 ++ bytesOf 1 h, s.setSpdm path { c with response := b, handle := h, seq := 0 })

/-! ### Quotes (R701, R703, R704) -/

/-- R701: the log digest. -/
def logDigest (log : Bytes) : Bytes :=
  (upTo 4).foldl (fun h i => shake256 (h ++ slice (80 * i) 80 log) 64) (List.replicate 64 0)

/-- R703: bytes 0 to 207 of a quote. [DESIGN CHOICE, log 21] -/
def State.quoteBody (s : State) (nonce : Bytes) : Bytes :=
  [1, 0] ++ leBytes 2 (s.par d0_0001 0) ++ bytesOf 4 s.dict.generation ++ leBytes 8 s.now ++ slice 0 32 nonce ++
    logDigest (slice 0 320 s.mgmt.log) ++ s.dict.active.digest s.pkg.part ++ shake256 s.identityKey 64

/-- R703: a quote, signed. -/
def State.quote (s : State) (nonce : Bytes) : Bytes :=
  let b := s.quoteBody nonce
  b ++ Sys2Proof.Config.mldsaSign s.identitySeed (shake256 b 64)

/-- R702, R703: the answer to a message other than a chunk. [PRESUMED, log 88] -/
def State.spdmAnswer (path : Nat) (b : Bytes) (s : State) : Bytes × State :=
  match spdmKind b with
  | .version => ([0x10, 0x04, 0, 0, 0, 1, 0x00, 0x13], s)
  | .capabilities => ([0x13, 0x61, 0, 0] ++ slice 0 16 (Sys2Proof.Config.spdmCapabilities path), s)
  | .quote => (spdmVendorResponse (s.quote ((spdmPayload b).drop 1)), s.bump d19_0105 0)
  | .log => (spdmVendorResponse (slice 0 320 s.mgmt.log), s)
  | .identity => (spdmVendorResponse (slice 0 1952 s.identityKey), s)
  | .chunk => (spdmError 0x07 (leAt 1 1 b), s)
  | .other => (spdmError 0x07 (leAt 1 1 b), s)

/-- R702: answer a message on its path. -/
def State.spdmReply (path : Nat) (r : Bytes × State) : State :=
  let w := r.2.spdmWrap path r.1
  w.2.emit (.spdm path w.1)

/-- Answer a message of one kind on a path that is served. -/
def State.spdmTake (path : Nat) (req : Bytes) (kind : SpdmKind) (s : State) : State :=
  if s.spdmServed path && spdmKind req = kind then State.spdmReply path (s.spdmAnswer path req) else s

/-- SPDM_GET_VERSION (R702): version 1.3 only. -/
def execSpdmGetVersion (path : Nat) (req : Bytes) (s : State) : Outcome := .next (s.spdmTake path req .version)
/-- SPDM_GET_CAPABILITIES (R702). -/
def execSpdmGetCapabilities (path : Nat) (req : Bytes) (s : State) : Outcome := .next (s.spdmTake path req .capabilities)
/-- SPDM_UNSUPPORTED (R702): every other request is answered with ERROR UnsupportedRequest. -/
def execSpdmUnsupported (path : Nat) (req : Bytes) (s : State) : Outcome := .next (s.spdmTake path req .other)
/-- GET_LOG (R703). -/
def execGetLog (path : Nat) (req : Bytes) (s : State) : Outcome := .next (s.spdmTake path req .log)
/-- GET_IDENTITY (R703). -/
def execGetIdentity (path : Nat) (req : Bytes) (s : State) : Outcome := .next (s.spdmTake path req .identity)

/-- QUOTE (R703, R704): `waiting`: the quote requests of its transport that wait when it arrives; behind four it is answered
with ERROR Busy. -/
def execQuote (path : Nat) (req : Bytes) (waiting : Nat) (s : State) : Outcome :=
  if waiting < 4 then .next (s.spdmTake path req .quote)
  else if s.spdmServed path && spdmKind req = .quote then .next (s.emit (.spdm path (spdmError 0x03 0)))
  else .next s

/-! ### Chunks (R702; SPDM 1.3, CHUNK_GET and CHUNK_SEND) -/

/-- The bytes that a chunk with a sequence number carries at most: a message's header takes 12 bytes, the first 16. -/
def chunkRoom (path seq : Nat) : Nat := spdmSize path - (if seq = 0 then 16 else 12)

/-- CHUNK_GET: the next chunk of a large response. -/
def State.spdmChunkGet (path : Nat) (b : Bytes) (s : State) : State :=
  let c := s.spdmOf path
  let seq := leAt 4 2 b
  let total := c.response.length
  let start := if seq = 0 then 0 else chunkRoom path 0 + (seq - 1) * chunkRoom path 1
  let n := min (chunkRoom path seq) (total - start)
  if c.response.isEmpty || leAt 3 1 b ≠ c.handle.toNat || seq ≠ c.seq.toNat || b.length < 6 then s.emit (.spdm path (spdmError 0x01 0))
  else
    let last := start + n = total
    let m : Bytes := [0x13, 0x06, if last then 1 else 0] ++ bytesOf 1 c.handle ++ leBytes 2 seq ++ [0, 0] ++ leBytes 4 n ++
      (if seq = 0 then leBytes 4 total else []) ++ slice start n c.response
    (s.setSpdm path (if last then { c with response := [], seq := 0 } else { c with seq := c.seq + 1 })).emit (.spdm path m)

/-- CHUNK_SEND: a chunk of a large request; the last one is acknowledged with the answer to the request. -/
def State.spdmChunkSend (path : Nat) (b : Bytes) (s : State) : State :=
  let c := s.spdmOf path
  let seq := leAt 4 2 b
  let n := leAt 8 4 b
  let off := if seq = 0 then 16 else 12
  let size := if seq = 0 then leAt 12 4 b else c.reqSize
  let got := (if seq = 0 then [] else c.request) ++ slice off n b
  let last := leAt 2 1 b % 2 = 1
  let ack : Bytes := [0x13, 0x05, 0] ++ slice 3 1 b ++ leBytes 2 seq
  if b.length < off + n || got.length > size || (last && got.length ≠ size) ||
      (seq ≠ 0 && (seq ≠ c.reqSeq.toNat || leAt 3 1 b ≠ c.reqHandle.toNat)) then
    (s.setSpdm path { c with request := [], reqSeq := 0, reqSize := 0 }).emit (.spdm path (spdmError 0x01 0))
  else if last then
    let s := s.setSpdm path { c with request := [], reqSeq := 0, reqSize := 0 }
    let r := s.spdmAnswer path got
    let w := r.2.spdmWrap path r.1
    w.2.emit (.spdm path (ack ++ w.1))
  else
    (s.setSpdm path { c with
      request := got, reqSeq := BitVec.ofNat 16 (seq + 1), reqSize := size, reqHandle := BitVec.ofNat 8 (leAt 3 1 b) }).emit (.spdm path ack)

/-- SPDM_CHUNKING (R702): a chunking message. -/
def execSpdmChunking (path : Nat) (req : Bytes) (s : State) : Outcome :=
  if s.spdmServed path && spdmKind req = .chunk then
    .next (if leAt 1 1 req = 0x86 then s.spdmChunkGet path req else s.spdmChunkSend path req)
  else .next s

end Sys2Proof.Machine
end

