-- ==== Sys2Proof/Machine/Validate.lean ====
section
/-! DEFINITION. Validation of the shadow set (R116, R117) and the checks repeated at the swap tick (R122). Each rule is the list of
the parameter keys at which it is found to fail; the first offending parameter is the lowest of them. -/
namespace Sys2Proof.Machine

/-! ### What a set holds beside its defaults -/

/-- Neighbours that are equal, once. -/
def dedup [DecidableEq α] : List α → List α
  | [] => []
  | [x] => [x]
  | x :: y :: t => if x = y then dedup (y :: t) else x :: dedup (y :: t)

/-- The key of a parameter and an instance, as one number without INDEX1. -/
def Param.base (p : Param) : Nat := (p.group * 65536 + p.item) * 65536

/-- The instances of a fixed-width parameter whose value in a set is not its default. -/
def ParamSet.setInstances (ps : ParamSet) (p : Param) : List Nat :=
  ps.ints.filterMap (fun e => let k := e.1 / 65536; if k / 65536 * 65536 = p.base then some (k % 65536) else none)

/-- The units of `size` bytes of a blob that are not zero throughout, as (instance, unit). -/
def ParamSet.blobUnits (ps : ParamSet) (p : Param) (size : Nat) : List (Nat × Nat) :=
  dedup (ps.blobs.filterMap (fun e =>
    let k := e.1 / 16777216 / 65536
    if k / 65536 * 65536 = p.base then some (k % 65536, e.1 % 16777216 / size) else none))

/-- The instances of a blob that are not zero throughout. -/
def ParamSet.blobInstances (ps : ParamSet) (p : Param) : List Nat := dedup ((ps.blobUnits p 16777216).map Prod.fst)

/-- The lowest of a list of keys. -/
def lowest : List Nat → Option Nat
  | [] => none
  | k :: t => match lowest t with | none => some k | some j => some (min k j)

/-- R116: for two entries that clash, the key of the later. -/
def clashes (p : α → α → Bool) : List (Nat × α) → List Nat
  | [] => []
  | (_, x) :: t => (t.filter (fun e => p x e.2)).map Prod.fst ++ clashes p t

/-- R116: the key at which a running sum first passes its limit. -/
def passes (limit : Nat) : Nat → List (Nat × Nat) → List Nat
  | _, [] => []
  | sum, (k, v) :: t => if sum + v > limit then [k] else passes limit (sum + v) t

/-- Ranges of numbers, first and count, that share one. [DEDUCED, log 43] -/
def rangesMeet (a b : Nat × Nat) : Bool := a.2 ≠ 0 && b.2 ≠ 0 && a.1 < b.1 + b.2 && b.1 < a.1 + a.2

/-- Keys where a condition holds. -/
def keysIf (c : Bool) (k : Nat) : List Nat := if c then [k] else []

/-! ### VALUE_RANGE -/

/-- R116, check 1: SH values outside their ranges. -/
def ParamSet.rangeFails (ps : ParamSet) (part : Part) : List Nat :=
  (ps.ints.filter (fun e =>
    match findParam (e.1 / 281474976710656) (e.1 / 4294967296 % 65536) with
    | some p => p.kind = .sh && !p.inRange part e.2
    | none => false)).map Prod.fst

/-! ### Group 5 (R181, R218) -/

/-- R180: the descriptors of a set that are not zero: tenant, position and descriptor bytes. -/
def ParamSet.rangeDescs (ps : ParamSet) : List (Nat × Nat × Bytes) :=
  (ps.blobUnits d5_8000 32).map (fun e => (e.1, e.2, ps.blob d5_8000 e.1 (32 * e.2) 32))

/-- R181: the reserved fields of a descriptor. -/
def rangeDirty (b : Bytes) : Bool :=
  leAt 3 1 b ≠ 0 || leAt 9 1 b ≥ 2 || leAt 10 2 b ≠ 0 || natField 21 11 (leAt 12 4 b) ≠ 0 || !allZero (slice 24 8 b)

/-- R181: CROSS_FIELD. -/
def ParamSet.connCross (ps : ParamSet) : List Nat :=
  let ds := ps.rangeDescs
  let live := ds.filter (fun e => (connRangeOf e.2.2).valid)
  let own := ds.flatMap (fun e =>
    let r := connRangeOf e.2.2
    keysIf (rangeDirty e.2.2 || (r.valid && (r.first % 2097152 + r.count > 2097152 ||
      (r.backing = 0 && r.first % 2097152 + r.count > 262144)))) (d5_8000.key e.1))
  own ++ clashes rangesMeet (live.map (fun e => (d5_8000.key e.1, (connRangeOf e.2.2).first, (connRangeOf e.2.2).count)))

/-- R181: REFERENCE. -/
def State.connReference (s : State) (ps : ParamSet) : List Nat :=
  ps.rangeDescs.flatMap (fun e =>
    let r := connRangeOf e.2.2
    keysIf (r.valid && (connTower r.first ≥ s.towers ||
      (r.backing = 1 && !ps.rangeBound s.towers e.1 r.spill (2048 * r.count)))) (d5_8000.key e.1))

/-- R218: the handle limits of all tenants sum above 65,536. Where the whole sum does not, no running sum does. -/
def ParamSet.connCapacity (ps : ParamSet) (part : Part) : List Nat :=
  let set_ := ps.setInstances d5_8001
  let total := (2048 - set_.length) * d5_8001.dflt + set_.foldl (fun a t => a + ps.int part d5_8001 t) 0
  if total ≤ 65536 then []
  else passes 65536 0 ((upTo 2048).map (fun t => (d5_8001.key t, ps.int part d5_8001 t)))

/-- R181: a range is made invalid or changed while it holds a connection that is not FREE or in QUARANTINE. [DEDUCED, log 43] -/
def State.connState (s : State) (ps : ParamSet) : List Nat :=
  let old := s.dict.active
  old.rangeDescs.flatMap (fun e =>
    let r := connRangeOf e.2.2
    keysIf (r.valid && ps.blob d5_8000 e.1 (32 * e.2.1) 32 ≠ e.2.2 &&
      s.conns.any (fun c => r.first ≤ c.1 && c.1 < r.first + r.count && c.2.ctx.core.mode ≠ .quarantine)) (d5_8000.key e.1))

/-! ### Spire tables (R304, R307, R531) -/

/-- R307: the slot entries of every tower: key of the table, tower and entry. -/
def State.allSlots (s : State) (ps : ParamSet) : List (Nat × Nat × Slot) :=
  (upTo s.towers).flatMap (fun k => (ps.slots s.pkg.part k).map (fun x => (d7_0011.key k, k, x)))

/-- R307: CROSS_FIELD. -/
def State.spireCross (s : State) (ps : ParamSet) : List Nat :=
  (s.allSlots ps).flatMap (fun e => keysIf (e.2.2.kind = .send && connTower e.2.2.target ≠ e.2.1) e.1)

/-- R426: a handle is defined in a set. -/
def ParamSet.handleDefined (ps : ParamSet) (part : Part) (h : Nat) : Bool :=
  (ps.setInstances d10_8001).any (fun t =>
    let r := ps.handleRange part t
    r.1 ≤ h && h < r.1 + r.2 && hdValid (ps.handleDesc t (h - r.1)))

/-- R307: REFERENCE. [DEDUCED, log 43] -/
def State.spireReference (s : State) (ps : ParamSet) : List Nat :=
  (s.allSlots ps).flatMap (fun e =>
    let x := e.2.2
    let class1 := match s.conn? x.target with | some c => c.ctx.core.cls = 1 | none => false
    let inRange := ps.rangeDescs.any (fun d =>
      let r := connRangeOf d.2.2
      r.valid && r.first ≤ x.target && x.target < r.first + r.count)
    let bad := match x.kind with
      | .send => !class1 || !inRange || portTower x.egress ≠ e.2.1
      | .transit => portTower x.egress ≠ e.2.1 || x.route ≥ s.nports
      | .reduce => !ps.handleDefined s.pkg.part x.target
      | .move => false
      | .reserved => false
    keysIf bad e.1)

/-- R307: how often a slot's interval, from START less the fetch lead, of length `n`, covers a point of the round. -/
def covers (round start lead n p : Nat) : Nat :=
  let d := (p + lead + round - start % round) % round
  if d < n then (n - 1 - d) / round + 1 else 0

/-- R307: CAPACITY: the wire capacity staged at the start of some interval passes 2 MiB. [DEDUCED, log 43] -/
def State.spireCapacity (s : State) (ps : ParamSet) : List Nat :=
  let round := ps.round s.pkg.part
  (upTo s.towers).flatMap (fun k =>
    let lead := ps.int s.pkg.part d7_0002 k
    let l := ((ps.slots s.pkg.part k).filter (fun x => x.kind = .send)).map (fun x =>
      (x.start, lead + s.slotTicks ps x, s.slotWire x))
    let at_ := fun (p : Nat) => l.foldl (fun a x => a + x.2.2 * covers round x.1 lead x.2.1 p) 0
    keysIf (l.any (fun x => at_ ((x.1 + (lead / round + 1) * round - lead) % round) > 2097152)) (d7_0011.key k))

/-- R300: an entry's own fields. -/
def slotFields (round : Nat) (x : Slot) : Bool :=
  !x.dirty && x.start < round && !(x.kind = .transit && x.expect) &&
  (match x.kind with
   | .send => 1 ≤ x.size && x.size ≤ 1048576
   | .transit => 1 ≤ x.size && x.size ≤ round
   | _ => true)

/-- R302: entries stand in ascending order of START. -/
def ascending : List Slot → Bool
  | [] => true
  | [_] => true
  | x :: y :: t => x.start ≤ y.start && ascending (y :: t)

/-- R304: the windows of a port, START and D, keep their guard bands and end in the round. -/
def windowsOk (round guard : Nat) : List (Nat × Nat) → Bool
  | [] => true
  | [(a, d)] => a + d + guard ≤ round
  | (a, d) :: (b, e) :: t => a + d + guard ≤ b && windowsOk round guard ((b, e) :: t)

/-- R303, R307, R531: a SEND slot holds one full packet, and its SOP blocks stay within a quarter of the guard band. -/
def State.sendFits (s : State) (ps : ParamSet) (x : Slot) : Bool :=
  let c := s.slotConn x.target
  s.slotWire x ≥ c.1 + c.2 && 32 * s.slotPackets x ≤ ps.int s.pkg.part d7_0001 0 * ps.rateOf s.pkg.part x.egress

/-- R307, R531: SCHEDULE. -/
def State.spireSchedule (s : State) (ps : ParamSet) : List Nat :=
  let round := ps.round s.pkg.part
  (upTo s.towers).flatMap (fun k =>
    let l := ps.slots s.pkg.part k
    keysIf (!(l.all (slotFields round) && ascending l &&
      (upTo 8).all (fun i => windowsOk round (ps.int s.pkg.part d7_0001 0) (s.windowsIn ps (8 * k + i))) &&
      l.all (fun x => x.kind ≠ .send || s.sendFits ps x))) (d7_0011.key k))

/-- R307: ROUTE: path 0 of a slot's spray set. A set that is not in use or not valid is found at the spray sets, a path that does not
fit at the port list. -/
def State.spireRoute (s : State) (ps : ParamSet) : List Nat :=
  (s.allSlots ps).flatMap (fun e =>
    let x := e.2.2
    if x.kind ≠ .send then []
    else
      match ps.spraySet s.pkg.part x.route with
      | none => [d9_0011.key 0]
      | some y =>
        if !y.valid || y.count = 0 then [d9_0011.key 0]
        else
          let p := ps.portEntry y.list
          keysIf (p.port ≠ x.egress || p.hops > 8 || p.hops ≠ x.hops) (d9_0013.key 0))

/-- R536: a port with a window runs below the rate of its configuration. -/
def State.spireRate (s : State) (ps : ParamSet) : List Nat :=
  (upTo s.nports).flatMap (fun n =>
    keysIf ((s.hasWindow n || !(s.windowsIn ps n).isEmpty) && (s.port n).rate < ps.rateOf s.pkg.part n) (d13_0001.key n))

/-! ### Group 8 (R362) -/

/-- R362. -/
def ParamSet.rateCross (ps : ParamSet) (part : Part) : List Nat :=
  let low := ps.int part d8_0003 0
  let burst := fun (rate size : Param) =>
    (ps.setInstances rate).flatMap (fun t => keysIf (ps.int part rate t ≠ 0 && ps.int part size t < 16384) (size.key t))
  keysIf (low > ps.int part d8_0002 0) (d8_0003.key 0) ++ keysIf (ps.int part d8_0002 0 > 40960) (d8_0002.key 0) ++
  ((if d8_8006.dflt < low then upTo 2048 else ps.setInstances d8_8006).flatMap (fun t =>
    keysIf (ps.int part d8_8006 t < low) (d8_8006.key t))) ++
  burst d8_8002 d8_8003 ++ burst d8_8004 d8_8005

/-! ### Forwarding (R371, R372) -/

/-- R365: the spray sets in use that are not zero, with their bytes. -/
def ParamSet.sprays (ps : ParamSet) (part : Part) : List Bytes :=
  ((ps.blobUnits d9_0011 8).filter (fun e => e.2 < ps.int part d9_0010 0)).map (fun e => ps.blob d9_0011 0 (8 * e.2) 8)

/-- R371: a spray set in use breaks a rule. A set of zeros names adapter 0. [DEDUCED, log 41] -/
def ParamSet.sprayBad (ps : ParamSet) (part : Part) : Bool :=
  let me := ps.int part d0_0001 0
  (ps.sprays part).any (fun b =>
    let x := spraySetOf b
    leAt 3 1 b ≥ 2 || leAt 6 2 b ≠ 0 || x.dst = me || (x.valid && (x.count = 0 || x.count > 64 || x.list + x.count > 65536))) ||
  (me = 0 && (ps.sprays part).length < ps.int part d9_0010 0)

/-- R366: the forwarding entries that are not zero: adapter and bytes. -/
def ParamSet.fwdEntries (ps : ParamSet) : List (Nat × Bytes) :=
  (ps.blobUnits d9_0012 8).map (fun e => (e.2, ps.blob d9_0012 0 (8 * e.2) 8))

/-- R371: a forwarding entry breaks a rule. [DEDUCED, log 41] -/
def ParamSet.fwdBad (ps : ParamSet) (part : Part) : Bool :=
  let me := ps.int part d0_0001 0
  ps.fwdEntries.any (fun e =>
    let b := e.2
    leAt 0 1 b > 64 || leAt 2 2 b + leAt 0 1 b > 65536 || leAt 1 1 b ≥ 2 || leAt 4 4 b ≠ 0 ||
    (leAt 1 1 b % 2 = 1 && e.1 ≠ me) || (e.1 = me && leAt 0 1 b ≠ 0)) ||
  (me ≠ 0xFFFF && leAt 1 1 (ps.blob d9_0012 0 (8 * me) 8) % 2 = 0)

/-- R371: a port-list entry breaks a rule. [DEDUCED, log 41] -/
def State.portListBad (s : State) (ps : ParamSet) : Bool :=
  let sets := ((ps.sprays s.pkg.part).map spraySetOf).filter (fun x => x.valid && x.count ≤ 64)
  let named := sets.flatMap (fun x => (upTo x.count).map (fun p => ps.portEntry (x.list + p)))
  let fwd := (ps.fwdEntries.filter (fun e => leAt 0 1 e.2 ≤ 64)).flatMap (fun e =>
    (upTo (leAt 0 1 e.2)).map (fun p => ps.portEntry (leAt 2 2 e.2 + p)))
  (named ++ fwd).any (fun e => e.port ≥ s.nports) ||
  named.any (fun e => e.hops = 0 || e.hops > ps.int s.pkg.part d9_0003 0 + 1) || fwd.any (fun e => e.hops ≠ 0) ||
  (ps.blobUnits d9_0013 2).any (fun e => leAt 1 1 (ps.blob d9_0013 0 (2 * e.2) 2) ≥ 16)

/-- R372: two sets differ in a route table. -/
def routeChange (part : Part) (a b : ParamSet) : Bool :=
  a.int part d9_0010 0 ≠ b.int part d9_0010 0 ||
  (a.differing b).any (fun k => k / 65536 = d9_0011.base || k / 65536 = d9_0012.base || k / 65536 = d9_0013.base)

/-- R372: the shadow set's ROUTE_GEN is not the one its route tables ask for. [DEDUCED, log 41] -/
def State.routeGenBad (s : State) (ps : ParamSet) : Bool :=
  let g := s.par d9_0001 0
  ps.int s.pkg.part d9_0001 0 ≠ (if routeChange s.pkg.part s.dict.active ps then (g + 1) % 16 else g)

/-- R371: D9.0020 or D9.0021 changes on a port that is up in fabric link mode. -/
def State.creditsChange (s : State) (ps : ParamSet) : List Nat :=
  (upTo s.nports).flatMap (fun n =>
    if (s.port n).mode = .up && (s.port n).modeCode = 0x10 then
      [d9_0020, d9_0021].flatMap (fun p => keysIf (s.par p n ≠ ps.int s.pkg.part p n) (p.key n))
    else [])

/-- R371, R372: ROUTE. [DEDUCED, log 41] -/
def State.fwdRoute (s : State) (ps : ParamSet) : List Nat :=
  keysIf (s.routeGenBad ps) (d9_0001.key 0) ++ keysIf (ps.sprayBad s.pkg.part) (d9_0011.key 0) ++
  keysIf (ps.fwdBad s.pkg.part) (d9_0012.key 0) ++ keysIf (s.portListBad ps) (d9_0013.key 0) ++ s.creditsChange ps

/-- R371: CROSS_FIELD. -/
def State.fwdCross (s : State) (ps : ParamSet) : List Nat :=
  let v := fun (p : Param) (n : Nat) => ps.int s.pkg.part p n
  keysIf (16 * v d9_0002 0 ≤ (v d9_0003 0 + 1) * v d9_0004 0 + 125000) (d9_0004.key 0) ++
  (upTo s.nports).flatMap (fun n =>
    let u := fun (vc : Nat) => natField (8 * vc) 8 (v d9_0021 n)
    keysIf ((upTo 5).any (fun vc => u vc < 3 * v d9_0020 n) || u 5 < 1 || u 6 < 1 || u 7 < 6) (d9_0021.key n))

/-- R371: CAPACITY. -/
def State.fwdCapacity (s : State) (ps : ParamSet) : List Nat :=
  (upTo s.towers).flatMap (fun k => passes 1024 0 ((upTo 8).map (fun i =>
    let n := 8 * k + i
    (d9_0021.key n, (upTo 8).foldl (fun a vc => a + natField (8 * vc) 8 (ps.int s.pkg.part d9_0021 n)) 0))))

/-! ### Handles, experts, stages (R427, R442, R477) -/

/-- R427: the tenants with a range of handles, and their ranges. -/
def ParamSet.handleRanges (ps : ParamSet) (part : Part) : List (Nat × Nat × Nat) :=
  (ps.setInstances d10_8001).map (fun t => (t, ps.handleRange part t))

/-- R427: the valid descriptors: tenant and bytes. -/
def ParamSet.handleDescs (ps : ParamSet) (part : Part) : List (Nat × Bytes) :=
  ((ps.blobUnits d10_0100 64).filter (fun e => e.2 < (ps.handleRange part e.1).2)).filterMap (fun e =>
    let d := ps.handleDesc e.1 e.2
    if hdValid d then some (e.1, d) else none)

/-- R426, R427: a valid descriptor's fields are in range and fit its OP. -/
def handleFields (d : Bytes) : Bool :=
  hdOp d ≤ 3 && leAt 1 1 d < 2 && fmtKnown (hdInFormat d) && fmtKnown (hdOutFormat d) && hdRound d ≤ 2 && hdRange d ≤ 1 &&
  1 ≤ hdSegCount d && hdSegCount d ≤ 256 && hdSegElems d % 256 = 0 && 256 ≤ hdSegElems d && hdSegElems d ≤ 1048576 &&
  hdBase d % 16384 = 0 && decide (hdOp d = 3) == decide (hdSlots d ≠ 0) && allZero (slice 41 23 d) &&
  !((hdOp d = 1 || hdOp d = 2) && (hdInFormat d = fmtAcc || hdInFormat d = fmtFp64)) && !(hdOp d ≤ 2 && hdOutFormat d = fmtFp64) &&
  !(hdOp d = 3 && hdOutFormat d ≠ fmtFp64 && hdOutFormat d ≠ 1)

/-- R427: CROSS_FIELD. -/
def ParamSet.handleCross (ps : ParamSet) (part : Part) : List Nat :=
  let rs := ps.handleRanges part
  rs.flatMap (fun e => keysIf (e.2.1 + e.2.2 > 4096) (d10_8001.key e.1)) ++
  clashes rangesMeet (rs.map (fun e => (d10_8001.key e.1, e.2))) ++
  (ps.handleDescs part).flatMap (fun e => keysIf (!handleFields e.2) (d10_0100.key e.1))

/-- R427, R442, R477: the VALID realm of a tenant that a key names, of a SPACE. [DEDUCED, log 43] -/
def State.ownRealm (s : State) (t space : Nat) (key : W32) : Option Realm :=
  match s.liveRealm (fieldNat 0 24 key) with
  | none => none
  | some r =>
    if r.mode = .valid && r.tag = field 24 8 key && r.tenant.toNat = t && r.tenantInc = (s.tenant t).inc && r.space.toNat = space then
      some r
    else none

/-- R427: REFERENCE. [DEDUCED, log 43] -/
def State.handleReference (s : State) (ps : ParamSet) : List Nat :=
  (ps.handleDescs s.pkg.part).flatMap (fun e =>
    let a := hdBase e.2
    let n := hdRegion e.2
    keysIf ((s.ownRealm e.1 1 (hdKey e.2)).isNone || !ps.rangeBound s.towers e.1 a n ||
      (extentsOf a n).any (fun x => extentTower x ≠ extentTower (extentOf a))) (d10_0100.key e.1))

/-- R441, R442: the valid directory descriptors: tenant and bytes. -/
def ParamSet.expertDescs (ps : ParamSet) : List (Nat × Bytes) :=
  (ps.blobInstances d11_8000).filterMap (fun t =>
    let d := ps.blob d11_8000 t 0 64
    if edValid d then some (t, d) else none)

/-- R442: CROSS_FIELD. -/
def ParamSet.expertCross (ps : ParamSet) : List Nat :=
  ps.expertDescs.flatMap (fun e =>
    let d := e.2
    keysIf (leAt 36 1 d ≥ 2 || !allZero (slice 37 27 d) || edDir d % 4096 ≠ 0 || edPeers d % 4096 ≠ 0 || edShares d % 4096 ≠ 0 ||
      edEntries d = 0 || edEntries d > 1048576 || edRank d ≥ edSources d) (d11_8000.key e.1))

/-- R442: REFERENCE. -/
def State.expertReference (s : State) (ps : ParamSet) : List Nat :=
  ps.expertDescs.flatMap (fun e =>
    let d := e.2
    let inside := fun (a n : Nat) => ps.rangeBound s.towers e.1 a n
    keysIf ((s.ownRealm e.1 1 (BitVec.ofNat 32 (leAt 0 4 d))).isNone || !inside (edDir d) (128 * edEntries d) ||
      !inside (edPeers d) 262144 || !inside (edShares d) (64 * edEntries d)) (d11_8000.key e.1))

/-- R477: the VALID stages: tenant and bytes. -/
def ParamSet.stageDescs (ps : ParamSet) : List (Nat × Bytes) :=
  (ps.blobUnits d11_8004 32).filterMap (fun e =>
    let d := ps.blob d11_8004 e.1 (32 * e.2) 32
    if wsValid d then some (e.1, d) else none)

/-- R477: CROSS_FIELD. -/
def ParamSet.stageCross (ps : ParamSet) : List Nat :=
  ps.stageDescs.flatMap (fun e =>
    let d := e.2
    keysIf (wsPub d % 16 ≠ 0 || (wsBase d ≤ wsPub d && wsPub d < wsBase d + wsSize d)) (d11_8004.key e.1))

/-- R477: REFERENCE. -/
def State.stageReference (s : State) (ps : ParamSet) : List Nat :=
  ps.stageDescs.flatMap (fun e =>
    let d := e.2
    let ok := match s.ownRealm e.1 2 (wsKey d) with
      | none => false
      | some r => r.perms.getLsbD 1 && ps.attachWindow e.1 r.attachPort.toNat (wsBase d) (wsSize d) true &&
          ps.attachWindow e.1 r.attachPort.toNat (wsPub d) 16 true
    keysIf (!ok) (d11_8004.key e.1))

/-! ### Memory (R492, R506) -/

/-- The extents whose entry is not zero in a set. -/
def ParamSet.extentsSet (ps : ParamSet) : List Nat := (ps.blobUnits d12_0001 8).map Prod.snd

/-- R492: CROSS_FIELD of an entry. -/
def extentDirty (e : W64) : Bool :=
  fieldNat 18 46 e ≠ 0 || (bindOf e = 0 && e ≠ 0) || (bindOf e = 1 && (bindPort e ≠ 0 || flag 16 e)) || (bindOf e = 2 && bindTenant e ≠ 0)

/-- R493: the binding of an extent differs between two entries. -/
def bindingChange (a b : W64) : Bool := bindOf a ≠ bindOf b || bindTenant a ≠ bindTenant b || bindPort a ≠ bindPort b

/-- R493: the extents whose binding a swap to the set changes. -/
def State.bindingChanges (s : State) (ps : ParamSet) : List Nat :=
  ((s.dict.active.extentsSet ++ ps.extentsSet).eraseDups).filter (fun x => bindingChange (s.extentEntry x) (ps.extentEntry x))

/-- R497: the extents in which a swap to the set starts zeroing. -/
def State.zeroStarts (s : State) (ps : ParamSet) : List Nat := (s.bindingChanges ps).filter (fun x => flag 17 (ps.extentEntry x))

/-- R492, R506: CROSS_FIELD. -/
def State.memCross (s : State) (ps : ParamSet) : List Nat :=
  keysIf (ps.extentsSet.any (fun x => extentDirty (ps.extentEntry x))) (d12_0001.key 0) ++
  (upTo s.towers).flatMap (fun k =>
    let every := ps.int s.pkg.part d12_0010 k
    keysIf (every ≠ 0 && every < ceilDiv 171798691840 (ps.int s.pkg.part d12_0011 k)) (d12_0011.key k))

/-- R492: REFERENCE. -/
def State.memReference (s : State) (ps : ParamSet) : List Nat :=
  keysIf (ps.extentsSet.any (fun x => extentAbsent s.towers x || extentReserved x ||
    (2 ≤ bindOf (ps.extentEntry x) && bindPort (ps.extentEntry x) ≥ s.towers))) (d12_0001.key 0)

/-- How many extents of a list are a tower's. -/
def extentsOn (k : Nat) (l : List Nat) : Nat := (l.filter (fun x => extentTower x = k)).length

/-- R492: CAPACITY. -/
def State.memCapacity (s : State) (ps : ParamSet) : List Nat :=
  let l := s.zeroStarts ps
  keysIf ((upTo s.towers).any (fun k => extentsOn k l > 16)) (d12_0001.key 0)

/-- R492, R495: STATE, at the tick. -/
def State.memTick (s : State) (ps : ParamSet) : List Nat :=
  let l := (s.zeroStarts ps ++ (s.memory.extents.filter (fun e => e.2.zeroing)).map Prod.fst).eraseDups
  keysIf ((upTo s.towers).any (fun k => extentsOn k l > 16) ||
    (s.bindingChanges ps).any (fun x => match (s.extent x).changed with | some t => decide (s.now < t + 2500000) | none => false))
    (d12_0001.key 0)

/-! ### Ports (R509, R540, R544) -/

/-- R508: the lanes of a port: first and width. -/
def portLanes (v : Nat) : Nat × Nat := (natField 0 3 v, laneWidth v)

/-- R509, R540, R544: CROSS_FIELD. -/
def State.portCross (s : State) (ps : ParamSet) : List Nat :=
  let v := fun (p : Param) (n : Nat) => ps.int s.pkg.part p n
  let lane := fun (n : Nat) => v d13_0001 n
  (upTo s.nports).flatMap (fun n =>
    keysIf (!laneOk (lane n) || (laneEnable (lane n) &&
      ((portLanes (lane n)).1 % (portLanes (lane n)).2 ≠ 0 || (portLanes (lane n)).1 + (portLanes (lane n)).2 > 8))) (d13_0001.key n) ++
    keysIf (v d13_0021 n < 2 * v d13_0020 n) (d13_0021.key n) ++
    keysIf (v d13_0041 n ≥ v d13_0042 n) (d13_0042.key n)) ++
  (upTo s.towers).flatMap (fun k =>
    clashes rangesMeet ((((upTo 8).map (· + 8 * k)).filter (fun n => laneEnable (lane n))).map (fun n => (d13_0001.key n, portLanes (lane n)))))

/-! ### Window regions and grants (R563, R573) -/

/-- R562: the entries of a set's region table that are not zero. -/
def ParamSet.regions (ps : ParamSet) : List Bytes := (ps.blobUnits d14_0020 32).map (fun e => ps.blob d14_0020 0 (32 * e.2) 32)

/-- R563: CROSS_FIELD of one entry. Codes and bounds are those of a valid entry. [DEDUCED, log 42] -/
def regionDirty (b : Bytes) : Bool :=
  leAt 0 1 b ≥ 32 || leAt 2 1 b ≥ 8 || leAt 3 1 b ≠ 0 || leAt 4 2 b ≥ 2048 || leAt 6 2 b ≠ 0 || leAt 28 4 b ≠ 0 ||
  (leAt 0 1 b % 2 = 1 && ((leAt 1 1 b ≠ 1 && leAt 1 1 b ≠ 2) || leAt 8 4 b + leAt 12 4 b > 67108864))

/-- R563: CROSS_FIELD. [DEDUCED, log 42] -/
def ParamSet.regionCross (ps : ParamSet) : List Nat :=
  let valid := ps.regions.filter (fun b => leAt 0 1 b % 2 = 1)
  let meet := fun (a b : Bytes) => leAt 0 1 a / 2 % 2 = leAt 0 1 b / 2 % 2 && rangesMeet (leAt 8 4 a, leAt 12 4 a) (leAt 8 4 b, leAt 12 4 b)
  keysIf (ps.regions.any regionDirty || !(clashes meet (valid.map (fun b => (0, b)))).isEmpty) (d14_0020.key 0)

/-- R563: REFERENCE. -/
def State.regionReference (s : State) (ps : ParamSet) : List Nat :=
  keysIf ((ps.regions.filter (fun b => leAt 0 1 b % 2 = 1)).any (fun b =>
    let t := leAt 4 2 b
    let a := leAt 16 8 b
    let n := 4096 * leAt 12 4 b
    !s.fnEnabled t || tenantHost t ≠ leAt 0 1 b / 2 % 2 ||
    (if leAt 1 1 b = 1 then !ps.rangeBound s.towers t a n else !ps.attachWindow t (leAt 2 1 b % 8) a n false))) (d14_0020.key 0)

/-- R572: the entries of a set's grant table that are not zero. -/
def ParamSet.grantsSet (ps : ParamSet) : List Bytes := (ps.blobUnits d14_0030 32).map (fun e => ps.grant e.2)

/-- R573: CROSS_FIELD of one entry. [DEDUCED, log 42] -/
def grantDirty (b : Bytes) : Bool :=
  let g := grantOf b
  leAt 0 2 b ≥ (if g.peer then 8 else 2048) || leAt 2 1 b ≥ 8 || leAt 3 1 b ≥ 16 || leAt 4 4 b ≠ 0 || !allZero (slice 24 8 b) ||
  g.base + g.size > 1099511627776 || (g.peer && (g.owner = g.port || g.doorbell))

/-- R573: CROSS_FIELD. -/
def ParamSet.grantCross (ps : ParamSet) : List Nat :=
  let windows := (ps.grantsSet.map grantOf).filter (fun g => g.valid && !g.peer)
  let meet := fun (a b : Grant) => a.owner ≠ b.owner && a.port = b.port && rangesMeet (a.base, a.size) (b.base, b.size)
  keysIf (ps.grantsSet.any grantDirty || !(clashes meet (windows.map (fun g => (0, g)))).isEmpty) (d14_0030.key 0)

/-- R573: REFERENCE. -/
def State.grantReference (s : State) (ps : ParamSet) : List Nat :=
  keysIf ((ps.grantsSet.map grantOf).any (fun g => g.valid && (g.port ≥ s.towers || (g.peer && g.owner ≥ s.towers)))) (d14_0030.key 0)

/-! ### Channels, mailboxes, root key slots (R608, R631, R648) -/

/-- R608: CROSS_FIELD. -/
def ParamSet.chanCross (ps : ParamSet) : List Nat :=
  (ps.blobUnits d16_0001 4).flatMap (fun e => keysIf (natField 14 18 (ps.chanGrant e.1 e.2) ≠ 0) (d16_0001.key e.1))

/-- R608: STATE, at the tick. -/
def State.chanTick (s : State) (ps : ParamSet) : List Nat :=
  s.movers.chans.flatMap (fun e =>
    let old := s.dict.active.chanGrant (e.1 / 16) (e.1 % 16)
    let new := ps.chanGrant (e.1 / 16) (e.1 % 16)
    keysIf (!e.2.queue.isEmpty && (cgTenant old ≠ cgTenant new || cgValid old ≠ cgValid new)) (d16_0001.key (e.1 / 16)))

/-- R631: CROSS_FIELD. -/
def ParamSet.boxCross (ps : ParamSet) : List Nat :=
  (ps.blobUnits d17_0001 2).flatMap (fun e =>
    let v := leNat (ps.blob d17_0001 e.1 (2 * e.2) 2)
    let rx := natField 0 3 v
    keysIf (rx > 4 || natField 3 1 v ≠ 0 || natField 10 6 v ≠ 0 || (rx ≠ 0 && (natField (3 + rx) 1 v = 1 || natField 4 4 v = 0)))
      (d17_0001.key e.1))

/-- R648: CROSS_FIELD. [DEDUCED, log 42] -/
def ParamSet.slotCross (ps : ParamSet) (part : Part) : List Nat :=
  let rs := (ps.setInstances d18_8000).map (fun t =>
    let v := ps.int part d18_8000 t
    (d18_8000.key t, natField 0 12 v, natField 16 13 v))
  rs.flatMap (fun e => keysIf (e.2.1 + e.2.2 > 4096) e.1) ++ clashes rangesMeet rs

/-! ### The six checks (R116) -/

/-- R297: D6.0031 is not below D6.0030. -/
def State.rtoCross (s : State) (ps : ParamSet) : List Nat :=
  (upTo s.towers).flatMap (fun k => keysIf (ps.int s.pkg.part d6_0031 k < ps.int s.pkg.part d6_0030 k) (d6_0031.key k))

/-- R116, check 2. [DESIGN CHOICE, log 40] -/
def State.crossFails (s : State) (ps : ParamSet) : List Nat :=
  let part := s.pkg.part
  ps.connCross ++ s.rtoCross ps ++ s.spireCross ps ++ ps.rateCross part ++ s.fwdCross ps ++ ps.handleCross part ++ ps.expertCross ++
  ps.stageCross ++ s.memCross ps ++ s.portCross ps ++ ps.regionCross ++ ps.grantCross ++ ps.chanCross ++ ps.boxCross ++ ps.slotCross part

/-- R116, check 3. [DESIGN CHOICE, log 40] -/
def State.referenceFails (s : State) (ps : ParamSet) : List Nat :=
  s.connReference ps ++ s.spireReference ps ++ s.handleReference ps ++ s.expertReference ps ++ s.stageReference ps ++
  s.memReference ps ++ s.regionReference ps ++ s.grantReference ps

/-- R116, check 4. -/
def State.capacityFails (s : State) (ps : ParamSet) : List Nat :=
  ps.connCapacity s.pkg.part ++ s.spireCapacity ps ++ s.fwdCapacity ps ++ s.memCapacity ps

/-- R116, check 5. -/
def State.scheduleFails (s : State) (ps : ParamSet) : List Nat := s.spireSchedule ps

/-- R116, check 6. -/
def State.routeFails (s : State) (ps : ParamSet) : List Nat := s.spireRoute ps ++ s.fwdRoute ps

/-- R181, R492, R536, R608: the checks of the tick alone. [DESIGN CHOICE, log 40] -/
def State.stateFails (s : State) (ps : ParamSet) : List Nat := s.connState ps ++ s.memTick ps ++ s.spireRate ps ++ s.chanTick ps

/-- R116: the first check of a list that fails, and the address of its first offending parameter. [DESIGN CHOICE, log 40] -/
def firstFail : List (Reason × List Nat) → Option (Reason × Nat)
  | [] => none
  | (r, l) :: t => match lowest l with | some k => some (r, keyAddress k) | none => firstFail t

/-- R116: validation of the shadow set. [DESIGN CHOICE, log 39; DESIGN CHOICE, log 40] -/
def State.validate (s : State) : Option (Reason × Nat) :=
  let ps := s.dict.shadow
  firstFail [(.valueRange, ps.rangeFails s.pkg.part), (.crossField, s.crossFails ps), (.reference, s.referenceFails ps),
    (.capacity, s.capacityFails ps), (.schedule, s.scheduleFails ps), (.route, s.routeFails ps)]

/-- R122: the checks repeated at the tick: the address of the first offending parameter. [DESIGN CHOICE, log 39] -/
def State.tickFails (s : State) : Option Nat :=
  let ps := s.dict.shadow
  (firstFail [(.reference, s.referenceFails ps), (.capacity, s.capacityFails ps), (.schedule, s.scheduleFails ps),
    (.route, s.routeFails ps), (.state, s.stateFails ps)]).map Prod.snd

end Sys2Proof.Machine
end

