-- ==== Sys2Proof/Machine/Swap.lean ====
section
/-! DEFINITION. The parameter-set swap (R122 to R126) and what the chapters tie to it: routes, spire tables, buckets, handles,
stages, channels, extents, mailboxes, ports. -/
namespace Sys2Proof.Machine

/-! ### Routes (R331, R372, R374, R391) -/

/-- R365, R369: the spray set that a handle may use in a set. -/
def ParamSet.sprayFor (ps : ParamSet) (part : Part) (h : Handle) : Option SpraySet :=
  match ps.spraySet part h.spraySet.toNat with
  | some x => if x.valid && x.dst = h.peerAdapter.toNat then some x else none
  | none => none

/-- R368: the route of path `p` of a handle in a set. -/
def ParamSet.routeOf (ps : ParamSet) (part : Part) (h : Handle) (p : Nat) : Option PortEntry :=
  match ps.sprayFor part h with
  | some x => if p < x.count then some (ps.portEntry (x.list + p)) else none
  | none => none

/-- R331: the path records of a dome connection after a change of the route tables. -/
def State.routedPaths (s : State) (old : ParamSet) (x : Conn) : Conn :=
  let h := s.handle x.ctx.core.handle.toNat
  let route := fun (ps : ParamSet) (p : Nat) => ps.routeOf s.pkg.part h p
  if x.ctx.core.cls = 1 then x
  else { x with ctx := { x.ctx with paths := x.ctx.paths.mapIdx (fun p r =>
    match route s.dict.active p with
    | none => unusedPath
    | some e => if route old p = some e then r else s.freshPath) } }

/-- R374: the bytes of the route tables of a set. -/
def ParamSet.routeBlobs (ps : ParamSet) : Tbl Byte :=
  ps.blobs.filter (fun e =>
    let b := e.1 / 16777216 / 65536
    b = d9_0011.base || b = d9_0012.base || b = d9_0013.base)

/-- R331, R372, R374, R391: a route change: the tables it replaced are kept, and the path-down table empties. [DESIGN CHOICE, log 44] -/
def State.swapRoutes (old : ParamSet) (s : State) : State :=
  if routeChange s.pkg.part old s.dict.active then
    let downs := s.fwd.pathDown
    let s := { s with fwd := { s.fwd with
      previous := some (old.int s.pkg.part d9_0010 0, old.routeBlobs), prevGen := old.int s.pkg.part d9_0001 0
      lastChange := s.now, changed := true, pathDown := [] } }
    let s := { s with conns := tmap (fun _ x => s.routedPaths old x) s.conns }
    downs.foldl (fun s e => s.resetPath (e.1 / 64) (e.1 % 64)) s
  else s

/-! ### Spire tables (R324, R325) -/

/-- The slot tables or the round of two sets differ. -/
def tablesDiffer (part : Part) (a b : ParamSet) : Bool :=
  (a.differing b).any (fun k => k / 65536 / 65536 * 65536 = d7_0011.base || k / 65536 / 65536 * 65536 = d7_0010.base) ||
  a.round part ≠ b.round part

/-- R324: packets of open instances stay at the head of their connections' next loads, and only instances due from now on
fall due. [DESIGN CHOICE, log 44] -/
def State.swapSlots (old : ParamSet) (s : State) : State :=
  if tablesDiffer s.pkg.part old s.dict.active then
    let s := s.closeLoads
    let keys := (upTo s.towers).flatMap (fun k => (upTo (s.par d7_0010 k)).map (slotKey k))
    { s with spire := { s.spire with fired := keys.foldl (fun t k => tput 0 k (max s.now (tgetD s.spire.fired k 0)) t) [] } }
  else s

/-- R325: a step that waited for an instance of a slot its handle no longer has starts as an ordinary entry. -/
def State.freeStep (w : AccWork) (s : State) : State :=
  (s.putWork w.ref none).modifyChain w.ref.ring w.ref.first (·.modifyEntry w.ref.pos (fun x => { x with phase := .ready }))

/-- R319, R325: a late instance's key still names a handle or a channel that is schedule-bound. [DESIGN CHOICE, log 44] -/
def State.lateBound (s : State) (key : Nat) : Bool :=
  if key < 1048576 then s.boundHandle key else s.boundChan ((key - 1048576) / 16) (key % 16)

/-- R325: handles and channels that the new table no longer names. [DESIGN CHOICE, log 44] -/
def State.swapSteps (s : State) : State :=
  let s := { s with spire := { s.spire with lateSteps := tfilter (fun k _ => s.lateBound k) s.spire.lateSteps } }
  (s.cupola.works.filter (fun w => w.phase = .slot && !s.boundHandle w.handle)).foldl (fun s w => s.freeStep w) s

/-! ### Buckets, ARRIVED, SEQ, DONE_COUNT (R354, R355, R428, R478, R608) -/

/-- The instances of some parameters that differ between two sets. -/
def changedOf (ps : List Param) (a b : ParamSet) : List Nat :=
  ((a.differing b).filter (fun k => ps.any (fun p => k / 65536 / 65536 * 65536 = p.base))).map (fun k => k / 65536 % 65536)

/-- R354, R355: the buckets of tenants whose rate or burst changes are full. -/
def State.swapBuckets (old : ParamSet) (s : State) : State :=
  let sh := changedOf [d8_8002, d8_8003] old s.dict.active
  let po := changedOf [d8_8004, d8_8005] old s.dict.active
  { s with
    shapers := tfilter (fun k _ => !sh.contains (k / 8)) s.shapers
    policers := tfilter (fun k _ => !po.contains (k / 8)) s.policers }

/-- R426, R428: what ARRIVED depends on of a handle in a set: OP, ACC_BASE, SEG_COUNT and SEG_ELEMS; none when it is not defined. -/
def ParamSet.arrivedShape (ps : ParamSet) (part : Part) (h : Nat) : Option (Nat × Nat × Nat × Nat) :=
  (ps.setInstances d10_8001).findSome? (fun t =>
    let r := ps.handleRange part t
    let d := ps.handleDesc t (h - r.1)
    if r.1 ≤ h && h < r.1 + r.2 && hdValid d then some (hdOp d, hdBase d, hdSegCount d, hdSegElems d) else none)

/-- R428: ARRIVED of a handle whose shape the swap changes starts at 0. -/
def State.swapArrived (old : ParamSet) (s : State) : State :=
  let same := fun (h : Nat) => old.arrivedShape s.pkg.part h = s.dict.active.arrivedShape s.pkg.part h
  { s with cupola := { s.cupola with arrived := tfilter (fun k _ => same (k / 256)) s.cupola.arrived } }

/-- R478: SEQ of a stage whose descriptor the swap changes is 0. -/
def State.swapStages (old : ParamSet) (s : State) : State :=
  let desc := fun (ps : ParamSet) (k : Nat) => ps.blob d11_8004 (k / 64) (32 * (k % 64)) 32
  { s with experts := { s.experts with
    stageSeq := tfilter (fun k _ => desc old k = desc s.dict.active k) s.experts.stageSeq } }

/-- R608: a channel whose owner the swap changes counts from 0. -/
def State.swapChans (old : ParamSet) (s : State) : State :=
  let owner := fun (ps : ParamSet) (k : Nat) => (cgValid (ps.chanGrant (k / 16) (k % 16)), cgTenant (ps.chanGrant (k / 16) (k % 16)))
  { s with movers := { s.movers with chans := s.movers.chans.foldl (fun t e =>
    tput {} e.1 (if owner old e.1 = owner s.dict.active e.1 then e.2 else { e.2 with done := 0 }) t) [] } }

/-! ### Extents (R493 to R497) -/

/-- R496: the bays of an extent's blocks are emptied, and loads that waited for their write-backs begin. -/
def State.emptyBays (x : Nat) (s : State) : State :=
  let k := extentTower x
  let inside := fun (block : Nat) => extentOf block = x
  let s := s.setBays k ((s.baysOf k).filter (fun b => !inside b.block || b.phase = .loading))
  let s := { s with cupola := { s.cupola with writing := s.cupola.writing.filter (fun e => !(e.1 = k && inside e.2)) } }
  let freed := (s.baysOf k).filter (fun b => match b.phase with | .waiting v => inside v | _ => false)
  (freed.foldl (fun s b => s.loadBay k b.block) s).resumeWorks k

/-- R493, R495 to R497: a binding change of an extent; `zero` when the new entry has ZERO set. -/
def State.rebind (x : Nat) (s : State) : State :=
  let e := s.extent x
  let zero := flag 17 (s.extentEntry x)
  let e := { e with bindGen := e.bindGen + 1, changed := some s.now }
  let e := if zero then { e with zeroing := true, zeroNext := 0, clean := [] } else e
  (s.setExtent x e).emptyBays x

/-- R493: every binding change of the swap. `changes` are the extents whose binding differs. -/
def State.swapExtents (changes : List Nat) (s : State) : State := changes.foldl (fun s x => s.rebind x) s

/-! ### Mailboxes (R640) -/

/-- R640: mailboxes whose RECEIVER the swap changes, or that it disables. -/
def State.swapBoxes (old : ParamSet) (s : State) : State :=
  (upTo s.towers).foldl (fun s k => (upTo 16).foldl (fun s m =>
    let was := boxReceiver (old.boxConfig k m)
    if was ≠ 0 && was ≠ boxReceiver (s.boxConfig k m) then s.resetReceiver k m else s) s) s

/-! ### Ports and the segment (R306, R379, R393, R682) -/

/-- R521, R528: ports follow their lanes, policies, rates and media, and say at once what a STATUS block says anew. -/
def State.swapPorts (old : ParamSet) (s : State) : State :=
  let s := s.portsAfterSwap old
  (upTo s.nports).foldl (fun s n => if s.fabricUp n then s.statusChange n else s) s

/-- R682, R683: the segment's port follows its enable and PLCA. -/
def State.swapSegment (old : ParamSet) (s : State) : State :=
  if old.int s.pkg.part d19_0010 0 ≠ s.par d19_0010 0 || old.int s.pkg.part d19_0013 0 ≠ s.par d19_0013 0 then s.segStart else s

/-! ### The swap (R122 to R126) -/

/-- R719: the trace record of a swap in every tower's buffer; what its 16 bytes hold is not stated. [DESIGN CHOICE, log 45] -/
def State.traceSwap (s : State) : State :=
  if s.par d20_0050 0 = 1 then
    (upTo s.towers).foldl (fun s k =>
      State.trace k 4 0 (freeBytes s.free 16) { s with free := s.free + 16 }) s
  else s

/-- R124: the new set is active: the swap is recorded. -/
def State.activate (a : ArmedSwap) (s : State) : State :=
  let s := { s with dict := { s.dict with
    active := s.dict.shadow, generation := s.dict.generation + 1, armed := none, copying := some s.now, lastTick := a.tick
    lastFlags := if a.late then 1 else 0, lastSwapId := a.swapId } }
  let s := if a.late then s.bump d3_0012 0 else s
  s.packageEvent 7 (if a.late then 2 else 1) a.swapId.toNat 0 s.dict.generation.toNat

/-- R123: a swap is performed: what the chapters tie to it happens in the same period, under the new set. [DESIGN CHOICE, log 44] -/
def State.performSwap (a : ArmedSwap) (s : State) : State :=
  let old := s.dict.active
  let changes := s.bindingChanges s.dict.shadow
  let s := ((s.activate a).traceSwap.swapRoutes old).swapSlots old
  let s := (((s.swapSteps.swapBuckets old).swapArrived old).swapStages old).swapChans old
  (((s.swapExtents changes).swapBoxes old).swapPorts old).swapSegment old

/-- R122: a swap is refused at its tick. -/
def State.refuseSwap (a : ArmedSwap) (key : Nat) (s : State) : State :=
  let s := { s with dict := { s.dict with
    armed := none, lastFlags := if a.late then 3 else 2, lastReason := BitVec.ofNat 8 Reason.state.code, lastDetail := BitVec.ofNat 64 key } }
  (s.bump d3_0013 0).packageEvent 7 3 a.swapId.toNat 0 s.dict.generation.toNat

/-- SWAP (R122 to R126): the armed tick arrives. -/
def execSwap (s : State) : Outcome :=
  match s.dict.armed with
  | none => .next s
  | some a =>
    if s.now < a.tick then .next s
    else
      match s.tickFails with
      | some k => .next (s.refuseSwap a k)
      | none => .next (s.performSwap a)

/-- SHADOW_COPY_DONE (R126): the shadow set is a copy of the active set again. -/
def execShadowCopyDone (s : State) : Outcome :=
  if s.dict.copying.isSome then .next { s with dict := { s.dict with shadow := s.dict.active, copying := none } } else .next s

end Sys2Proof.Machine
end

