-- ==== Sys2Proof/Machine/Dict.lean ====
section
/-! DEFINITION. The operations of the dictionary (R94 to R121), and the writes whose effect is elsewhere. -/
namespace Sys2Proof.Machine

/-! ### Access (R96, R99 to R101, R167, R681, R694) -/

/-- R99: the requester is an administrator. -/
def State.isAdmin (s : State) (c : ReqClass) : Bool :=
  let bit := fun (i : Nat) => natField i 1 (s.par d3_0010 0) = 1
  match c with
  | .fw => true | .pf0 => bit 0 | .pf1 => bit 1 | .bmc => bit 2 | .seg => bit 3 | .fm => bit 4 | .vf _ => false

/-- R101: the tenant itself, or the PF of its host port. -/
def ReqClass.isTenant (c : ReqClass) (t : Nat) : Bool :=
  match c with
  | .vf v => v = t | .pf0 => t = 0 | .pf1 => t = 1024 | _ => false
def ReqClass.isPfOf (c : ReqClass) (t : Nat) : Bool :=
  match c with
  | .pf0 => t < 1024 | .pf1 => 1024 ≤ t | _ => false

/-- R694: RECOVERY serves groups 0 and 19 only. -/
def State.groupServed (s : State) (group : Nat) : Bool := s.pkg.phase ≠ .recovery || group = 0 || group = 19

/-- R101: who may read or describe an instance. -/
def State.mayRead (s : State) (c : ReqClass) (p : Param) (i0 : Nat) : Bool :=
  s.groupServed p.group &&
  (if p.scope = .tenant then c.isTenant i0 || c.isPfOf i0 || s.isAdmin c
   else match c with | .vf _ => p.group = 0 || p.group = 2 || p.group = 3 | _ => true)

/-- R167: no VF is enabled on either host port. -/
def State.noVf (s : State) : Bool := (upTo 2).all (fun h => !(s.host h).vfEnable)

/-- R100, R101, R167, R681: who may write an instance. [DESIGN CHOICE, log 34] -/
def State.mayWrite (s : State) (c : ReqClass) (p : Param) (i0 : Nat) : Bool :=
  s.groupServed p.group &&
  (if p = d3_0010 then c = .pf0 || c = .bmc || c = .fw
   else if p = d4_8001 then c = .pf0 && i0 = 0 && s.noVf
   else if p = d19_0030 || p = d19_0031 then c = .pf0 || c = .pf1 || c = .bmc || c = .fw
   else if p.scope = .tenant then c.isPfOf i0 || s.isAdmin c || (p.item < 0x8000 && c.isTenant i0)
   else s.isAdmin c)

/-! ### Requests (R95, R96, R107, R110) -/

/-- R94: the fields of the address of a request. -/
def rqGroup (b : Bytes) : Nat := rqAddress b / 65536 % 256
def rqItem (b : Bytes) : Nat := rqAddress b % 65536
def rqIndex (b : Bytes) : Nat := rqAddress b / 4294967296 % 65536
def rqIndex1 (b : Bytes) : Nat := rqAddress b / 281474976710656 % 65536

/-- R95, R96: the instance that a request names, or why it is refused. -/
def State.named (s : State) (b : Bytes) : Except Reason (Param × Nat) :=
  match findParam (rqGroup b) (rqItem b) with
  | none => .error .unknownParameter
  | some p => if rqIndex1 b = 0 ∧ rqIndex b < p.instances s.towers then .ok (p, rqIndex b) else .error .instanceRange

/-- What an operation gives: its reason, DETAIL where it is not the time, VALUE, and the state. -/
structure DictResult where
  reason : Reason
  detail : Option Nat := none
  value  : Bytes := []
  next   : State

/-- The result of an operation that is refused and changes nothing. -/
def State.turnAway (s : State) (r : Reason) : DictResult := { reason := r, next := s }

/-! ### Reading (R102, R105, R107, R110, R217, R297) -/

/-- D5.0107, D7.0107: a high-water mark that is read starts again at what stands now. [DESIGN CHOICE, log 36] -/
def State.readClears (p : Param) (i0 : Nat) (s : State) : State :=
  if p = d5_0107 then s.setRo p i0 (s.miss.filter (fun e => connTower e.conn = i0)).length
  else if p = d7_0107 then (s.setRo p i0 0).markStaging i0
  else s

/-- R110: READ of a set. -/
def State.dictRead (c : ReqClass) (b : Bytes) (ps : ParamSet) (s : State) : DictResult :=
  match s.named b with
  | .error r => s.turnAway r
  | .ok (p, i) =>
    if !s.mayRead c p i then s.turnAway .access
    else if p.kind = .wo then s.turnAway .kind
    else if (if p.ty.width.isSome then rqOffset b ≠ 0 else rqOffset b > s.blobLength p i) then s.turnAway .length
    else { reason := .ok, value := s.readBytes ps p i (rqOffset b), next := s.readClears p i }

/-! ### DESCRIBE and ENUMERATE (R13, R110) -/

/-- R13: the place of a type, a kind and a scope in the tables of R13. -/
def PType.index : PType → Nat
  | .u8 => 0 | .u16 => 1 | .u32 => 2 | .u64 => 3 | .i32 => 4 | .bool => 5 | .enum => 6 | .ticks => 7 | .string _ => 8 | .blob _ => 9
def PKind.index : PKind → Nat
  | .ro => 0 | .rw => 1 | .wo => 2 | .rw1c => 3 | .sh => 4 | .lv => 5
def PScope.index : PScope → Nat
  | .package => 0 | .tower => 1 | .port => 2 | .tenant => 3

/-- R98: the least and the greatest value of a parameter. -/
def Param.bounds (p : Param) (part : Part) : Nat × Nat :=
  match p.range with
  | .any => (0, if p.ty = .bool then 1 else if p.ty.width.isSome then p.modulus - 1 else 0)
  | .nat lo hi => (lo, hi)
  | .int lo hi => (ofSigned 64 lo, ofSigned 64 hi)
  | .oneOf l => (l.foldl min (l.headD 0), l.foldl max 0)
  | .zeroOr _ hi => (0, hi)
  | .rangePair => (0, 0x10000FFF)
  | .classWeights => (0x0101010101, 0xFFFFFFFFFF)
  | .laneAssign => (0, 0xFF)
  | .powerCap => (300, 10 * part.tdp)

/-- R110: the result of DESCRIBE: type, kind, scope, maximum length, default, minimum, maximum. [DESIGN CHOICE, log 33] -/
def State.description (s : State) (p : Param) (i0 : Nat) : Bytes :=
  let r := p.bounds s.pkg.part
  [Sys2Proof.Config.describeType p.ty.index, Sys2Proof.Config.describeKind p.kind.index, Sys2Proof.Config.describeScope p.scope.index] ++
    leBytes 4 p.ty.maxLen ++ leBytes 8 (defaultOf s.pkg.part p i0) ++ leBytes 8 r.1 ++ leBytes 8 r.2

/-- R110: DESCRIBE. -/
def State.dictDescribe (c : ReqClass) (b : Bytes) (s : State) : DictResult :=
  match s.named b with
  | .error r => s.turnAway r
  | .ok (p, i) => if s.mayRead c p i then { reason := .ok, value := s.description p i, next := s } else s.turnAway .access

/-- R110: the first instance of a parameter after a key that the requester may read. [DESIGN CHOICE, log 36] -/
def State.nextInstance (s : State) (c : ReqClass) (k : Nat) (p : Param) : Option Nat :=
  let first := if k < p.base * 65536 then 0 else if k / 65536 / 65536 * 65536 = p.base then k / 65536 % 65536 + 1 else 65536
  (((upTo (p.instances s.towers - first)).map (· + first)).find? (s.mayRead c p)).map p.key

/-- R110: ENUMERATE: the address that follows, or all ones. [DESIGN CHOICE, log 36] -/
def State.dictEnumerate (c : ReqClass) (b : Bytes) (s : State) : DictResult :=
  let v := match allParams.findSome? (s.nextInstance c (addressKey (rqAddress b))) with
    | some k => keyAddress k
    | none => 0xFFFFFFFFFFFFFFFF
  { reason := .ok, value := leBytes 8 v, next := s }

/-! ### Writes whose effect is elsewhere -/

/-- R104: a blob of kind RW takes a value, in both sets. -/
def State.setLiveBlob (p : Param) (i0 : Nat) (b : Bytes) (s : State) : State :=
  { s with dict := { s.dict with active := s.dict.active.putBlob p i0 0 b, shadow := s.dict.shadow.putBlob p i0 0 b } }

/-- R708, R709: the descriptor may start the ring. -/
def State.eventDescOk (s : State) (t : Nat) (b : Bytes) : Bool :=
  let d := eventDescOf b
  leAt 9 1 b < 32 && leAt 10 1 b < 4 && leAt 11 1 b = 0 && natField 21 11 (leAt 12 4 b) = 0 && allZero (slice 16 16 b) &&
  6 ≤ d.log2 && d.log2 ≤ 16 && d.space ≠ 3 && d.base % 4096 = 0 &&
  (if d.space = 2 then d.port < s.towers && s.dict.active.portGranted t d.port else d.port = 0)

/-- R709: a write of D20.0020[t] stops the tenant's event ring; a good one takes effect, and with ENABLE starts it. [DESIGN CHOICE, log 38] -/
def State.eventRingSetup (t : Nat) (b : Bytes) (s : State) : State × Bool :=
  let x := s.tenant t
  let ok := s.eventDescOk t b
  let s := s.setTenant t { x with events := { x.events with mode := .stopped } }
  if ok then
    let s := s.setLiveBlob d20_0020 t b
    let x := s.tenant t
    (if (eventDescOf b).enable then
      s.setTenant t { x with events := { x.events with mode := .running, produced := 0, consumed := 0, notified := false } }
     else s, true)
  else (s, false)

/-- EVENT_RING_SETUP (R708, R709, R712): a write of D20.0020. [DESIGN CHOICE, log 38] -/
def execEventRingSetup (t : Nat) (desc : Bytes) (s : State) : Outcome :=
  if s.fnLive t then .next (s.eventRingSetup t (slice 0 32 desc)).1 else .next s

/-- R681: a management key, none for 32 bytes of zeros. -/
def keyOf (b : Bytes) : Option Bytes := if allZero b then none else some b

/-- R599: the migration commands. -/
def State.migCommand (t v : Nat) (s : State) : State :=
  match v with
  | 1 => s.migFreeze t
  | 2 => s.migSave t
  | 3 => s.migRestore t
  | 4 => s.migResume t
  | _ => s.migDiscard t

/-- R718: COUNTER_FREEZE is written. -/
def State.freezeCounters (v : Nat) (s : State) : State :=
  let f := if v = 1 then some (s.dict.frozen.getD s.counterSnapshot) else none
  ({ s with dict := { s.dict with frozen := f } } : State).setLive d20_0040 0 v

/-- The state that a result goes on with, and OK; or the refusal. -/
def DictResult.ofExcept (s : State) : Except Reason State → DictResult
  | .ok t => { reason := .ok, next := t }
  | .error r => s.turnAway r

/-- R599, R650, R681, R690, R696, R721: a value of kind WO. -/
def State.writeOnly (p : Param) (i0 v : Nat) (b : Bytes) (s : State) : DictResult :=
  let done := fun (t : State) => ({ reason := .ok, next := t } : DictResult)
  match p.group, p.item with
  | 15, 0x8012 => done (s.startReset i0 4 false)
  | 15, 0x8030 => done (s.migCommand i0 v)
  | 18, 0x20 => if b.length = 96 then done (s.keyLoad i0 b) else s.turnAway .length
  | 19, 0x30 => if b.length = 32 then done { s with mgmt := { s.mgmt with segKey := keyOf b } } else s.turnAway .length
  | 19, 0x31 => if b.length = 32 then done { s with mgmt := { s.mgmt with fabKey := keyOf b } } else s.turnAway .length
  | 19, 0x40 => .ofExcept s (s.fwChunk b)
  | 19, 0x41 => .ofExcept s (s.fwCommand v)
  | 19, 0x50 => .ofExcept s (match s.linkMgmtSend b with | some t => .ok t | none => .error .valueRange)
  | 20, 0x60 =>
    if b.length ≠ 16 then s.turnAway .length
    else if leAt 9 3 b ≠ 0 || !(pcOp b = 1 || pcOp b = 2) then s.turnAway .valueRange
    else done (if pcOp b = 1 then s.powerClose b else s.powerOpen b)
  | _, _ => done s

/-- R99: the reserved bits of ADMIN_MASK read zero. [DESIGN CHOICE, log 36] -/
def storedValue (p : Param) (v : Nat) : Nat := if p = d3_0010 then v % 32 else v

/-- R104, R595, R709, R718: a value of kind RW or LV. -/
def State.writeLive (p : Param) (i0 v : Nat) (b : Bytes) (s : State) : DictResult :=
  let done := fun (t : State) => ({ reason := .ok, next := t } : DictResult)
  if p = d20_0020 then
    let r := s.eventRingSetup i0 b
    { reason := if r.2 then .ok else .valueRange, next := r.1 }
  else if p = d15_8020 then done (if v = 1 then s.quiesce i0 else s.unquiesce i0)
  else if p = d20_0040 then done (s.freezeCounters v)
  else if p.ty.width.isSome then done (s.setLive p i0 (storedValue p v))
  else done (s.setLiveBlob p i0 b)

/-! ### WRITE (R97, R98, R103 to R107, R120) -/

/-- R97, R107: the length and the offset of a write suit the parameter. -/
def writeLengthOk (p : Param) (off len : Nat) : Bool :=
  match p.ty.width with
  | some w => off = 0 && len = w
  | none =>
    match p.kind with
    | .sh => off + len ≤ p.ty.maxLen
    | .wo => off = 0 && len ≤ p.ty.maxLen
    | _ => off = 0 && len = p.ty.maxLen

/-- R98: a bool is 0 or 1, and a fixed-width value lies in its range. -/
def State.writeValueOk (s : State) (p : Param) (v : Nat) : Bool :=
  p.ty.width.isNone || ((p.ty ≠ .bool || v ≤ 1) && p.inRange s.pkg.part v)

/-- R103: a value of kind SH goes to the shadow set. -/
def State.writeShadow (p : Param) (i0 v off : Nat) (b : Bytes) (s : State) : State :=
  { s with dict := { s.dict with shadow :=
    if p.ty.width.isSome then s.dict.shadow.putInt s.pkg.part p i0 v else s.dict.shadow.putBlob p i0 off b } }

/-- R110: WRITE. [DESIGN CHOICE, log 34] -/
def State.dictWrite (c : ReqClass) (b : Bytes) (s : State) : DictResult :=
  match s.named b with
  | .error r => s.turnAway r
  | .ok (p, i) =>
    let bytes := rqValue b
    let v := leNat bytes
    if !s.mayWrite c p i then s.turnAway .access
    else if p.kind = .ro then s.turnAway .kind
    else if !writeLengthOk p (rqOffset b) bytes.length then s.turnAway .length
    else if !s.writeValueOk p v then s.turnAway .valueRange
    else
      match p.kind with
      | .wo => s.writeOnly p i v bytes
      | .sh =>
        if s.dict.armed.isSome then s.turnAway .shadowLocked
        else { reason := .ok, next := s.writeShadow p i v (rqOffset b) bytes }
      | _ => s.writeLive p i v bytes

/-! ### Operations on the sets (R116, R119 to R121) -/

/-- D3.0007, D3.0008: a refused ARM_SWAP or VALIDATE is recorded. [DESIGN CHOICE, log 36] -/
def State.recordRefusal (r : Reason) (detail : Option Nat) (s : State) : DictResult :=
  { reason := r, detail := detail
    next := { s with dict := { s.dict with
      lastReason := BitVec.ofNat 8 r.code, lastDetail := BitVec.ofNat 64 (detail.getD s.now) } } }

/-- R110: VALIDATE. -/
def State.dictValidate (c : ReqClass) (s : State) : DictResult :=
  if !s.isAdmin c then s.recordRefusal .access none
  else
    match s.validate with
    | some (r, a) => s.recordRefusal r (some a)
    | none => { reason := .ok, next := s }

/-- R119: group 7 values of the two sets differ. -/
def State.spireDiffers (s : State) : Bool := (s.dict.active.differing s.dict.shadow).any (fun k => k / 281474976710656 = 7)

/-- R119, step 6: the round boundary at which a late swap is armed. -/
def State.lateBoundary (s : State) (e : Nat) : Nat :=
  let a := s.dict.active.round s.pkg.part
  let r := if s.spireDiffers then max a (s.dict.shadow.round s.pkg.part) else a
  ceilDiv e r * r

/-- R119, steps 7 to 9. -/
def State.armAt (tick : Nat) (swapId : W32) (late : Bool) (s : State) : DictResult :=
  let a := s.dict.active.round s.pkg.part
  let b := s.dict.shadow.round s.pkg.part
  if s.spireDiffers && (tick % a ≠ 0 || tick % b ≠ 0) then s.recordRefusal .schedule (some (keyAddress (d7_0000.key 0)))
  else if routeChange s.pkg.part s.dict.active s.dict.shadow && s.fwd.changed && tick < s.fwd.lastChange + s.par d9_0002 0 then
    s.recordRefusal .route none
  else { reason := .ok, next := { s with dict := { s.dict with armed := some { tick := tick, swapId := swapId, late := late } } } }

/-- R119: ARM_SWAP. -/
def State.dictArm (c : ReqClass) (b : Bytes) (s : State) : DictResult :=
  let v := rqValue b
  let tick := leAt 0 8 v
  let e := s.now + s.par d3_0004 0
  if !s.isAdmin c then s.recordRefusal .access none
  else if v.length ≠ 16 then s.recordRefusal .length none
  else if s.dict.armed.isSome then s.recordRefusal .alreadyArmed none
  else if rqFlags b = 1 && leAt 12 4 v ≠ s.dict.generation.toNat then s.recordRefusal .generation none
  else
    match s.validate with
    | some (r, a) => s.recordRefusal r (some a)
    | none =>
      let id : W32 := BitVec.ofNat 32 (leAt 8 4 v)
      if tick ≥ e then s.armAt tick id false
      else if s.par d3_0014 0 = 0 then s.recordRefusal .late none
      else s.armAt (s.lateBoundary e) id true

/-- R121: CANCEL_SWAP. [DESIGN CHOICE, log 37] -/
def State.dictCancel (c : ReqClass) (s : State) : DictResult :=
  if !s.isAdmin c then s.turnAway .access
  else
    match s.dict.armed with
    | none => s.turnAway .notArmed
    | some a => if a.tick ≤ s.now then s.turnAway .notArmed else { reason := .ok, next := { s with dict := { s.dict with armed := none } } }

/-- R110, R120: DISCARD_SHADOW. -/
def State.dictDiscard (c : ReqClass) (s : State) : DictResult :=
  if !s.isAdmin c then s.turnAway .access
  else if s.dict.armed.isSome then s.turnAway .shadowLocked
  else { reason := .ok, next := { s with dict := { s.dict with shadow := s.dict.active } } }

/-! ### The commands (R110, R113, R126, R675) -/

/-- R126: the request at the head would read or change the shadow set, which is being rebuilt. [DESIGN CHOICE, log 35] -/
def State.mustWait (s : State) (b : Bytes) : Bool :=
  s.dict.copying.isSome &&
  (match rqOp b with
   | 1 => false
   | 2 => match s.named b with | .ok (p, _) => p.kind.inSets | .error _ => false
   | 3 => match s.named b with | .ok (p, _) => p.kind.inSets | .error _ => false
   | 4 => false
   | 5 => false
   | 8 => false
   | _ => true)

/-- R113, R675: the request at the head of the queue executes when it names the operation, and is answered by the path by
which it came. [DESIGN CHOICE, log 34] -/
def State.serve (op : Nat) (f : ReqClass → Bytes → State → DictResult) (s : State) : State :=
  match s.dict.queue with
  | [] => s
  | q :: rest =>
    if rqOp q.bytes ≠ op || s.mustWait q.bytes then s
    else
      let r := f q.route.cls q.bytes { s with dict := { s.dict with queue := rest } }
      r.next.answer q.route (r.next.responseTo q.bytes r.reason r.detail r.value)

/-- DICT_READ (R95, R96, R101, R102, R105, R110). -/
def execDictRead (s : State) : Outcome := .next (s.serve 1 (fun c b s => s.dictRead c b s.dict.active))

/-- DICT_READ_SHADOW (R102, R105, R110). -/
def execDictReadShadow (s : State) : Outcome := .next (s.serve 2 (fun c b s => s.dictRead c b s.dict.shadow))

/-- DICT_WRITE (R97 to R101, R103 to R107, R120). -/
def execDictWrite (s : State) : Outcome := .next (s.serve 3 (fun c b s => s.dictWrite c b))

/-- DICT_DESCRIBE (R110). -/
def execDictDescribe (s : State) : Outcome := .next (s.serve 4 (fun c b s => s.dictDescribe c b))

/-- DICT_ENUMERATE (R110). -/
def execDictEnumerate (s : State) : Outcome := .next (s.serve 5 (fun c b s => s.dictEnumerate c b))

/-- DICT_VALIDATE (R116, R117). [DESIGN CHOICE, log 39] -/
def execDictValidate (s : State) : Outcome := .next (s.serve 6 (fun c _ s => s.dictValidate c))

/-- DICT_ARM_SWAP (R119). -/
def execDictArmSwap (s : State) : Outcome := .next (s.serve 7 (fun c b s => s.dictArm c b))

/-- DICT_CANCEL_SWAP (R121). -/
def execDictCancelSwap (s : State) : Outcome := .next (s.serve 8 (fun c _ s => s.dictCancel c))

/-- DICT_DISCARD_SHADOW (R110, R120). -/
def execDictDiscardShadow (s : State) : Outcome := .next (s.serve 9 (fun c _ s => s.dictDiscard c))

end Sys2Proof.Machine
end

