-- ==== Sys2Proof/Machine/Frames.lean ====
section
/-! DEFINITION. Ethernet frames received in a standard mode (R256 to R258, R537, R538). -/
namespace Sys2Proof.Machine

/-- R537: a frame is longer than 8,448 bytes, its FCS of 4 bytes included. -/
def frameTooLong (f : Bytes) : Bool := f.length + 4 > 8448

/-- R537: bytes before the EtherType: with a single 802.1Q tag of VID 0, or without a tag. -/
def frameHead (f : Bytes) : Nat := if beNat (slice 12 2 f) = 0x8100 && beNat (slice 14 2 f) % 4096 = 0 then 16 else 12

/-- The EtherType of a frame. -/
def frameType (f : Bytes) : Nat := beNat (slice (frameHead f) 2 f)

/-- What the frame carries. -/
def frameBody (f : Bytes) : Bytes := f.drop (frameHead f + 2)

/-- IPv6 without extension headers: the UDP datagram of a frame, whole; none where it is no such frame. [PRESUMED, log 29] -/
def frameUdp (b : Bytes) : Option Bytes :=
  let n := beNat (slice 4 2 b)
  let u := slice 40 n b
  if leAt 0 1 b / 16 = 6 && leAt 6 1 b = 17 && 8 ≤ n && b.length ≥ 40 + n && beNat (slice 4 2 u) = n then some u else none

/-- R257: the UDP checksum is zero, or right. [DEDUCED, log 68] -/
def frameUdpOk (b u : Bytes) : Bool :=
  beNat (slice 6 2 u) = 0 || checksumOk (pseudoHeader (beNat (slice 8 16 b)) (beNat (slice 24 16 b)) u.length 17 ++ u)

/-- R259 to R266: the Silus packet that bytes spell; none where they are too few. -/
def silusOf (b : Bytes) : Option Packet :=
  let type := leAt 0 1 b
  let x := extLen type
  let t := if natField 7 1 (leAt 1 1 b) = 1 || type ≥ 0x20 then 16 else 8
  if b.length < 24 + x + t then none
  else some {
    hdr := BitVec.ofNat 192 (leNat (b.take 24)), ext := BitVec.ofNat 448 (leNat (slice 24 x b))
    payload := (b.drop (24 + x)).take (b.length - 24 - x - t), trailer := b.drop (b.length - t), badEnd := false }

/-- R260, R687, R688: a Silus packet that has arrived on a port: a datagram of fabric management, or any other packet. [DEDUCED, log 68] -/
def State.takeSilus (rx : Rx) (s : State) : State :=
  let p := rx.pkt
  if hdrVc p ≠ 5 then s.receive rx
  else if hdrDstAdapter p = 0xFFFF then (s.freeIngress rx.port 5 0 p.len).bump d19_0107 0
  else
    match hdrType p with
    | 0x20 => s.takeDatagram rx (State.takeDictRequest p (fun q => .fabric (hdrSrcAdapter p) (hdrPath p) q))
    | 0x21 => s.takeDatagram rx (State.takeDictResponse rx.port p)
    | 0x22 => s.takeDatagram rx (State.takeNotice p)
    | 0x23 => s.takeDatagram rx (State.takeRebind p)
    | _ => if takesPsn (hdrType p) then s.receive rx else (s.bump d19_0107 0).freeIngress rx.port 5 0 p.len

/-- The Silus packet of an accepted frame. -/
def State.frameSilus (port : Nat) (outer b : Bytes) (translates : Bool) (s : State) : State :=
  match silusOf b with
  | none => s.bump d6_0109 (portTower port)
  | some p => s.takeSilus ⟨port, 0, outer, p, translates⟩

/-- R537: a frame that is not too long and whose FCS is right. [DEDUCED, log 68] -/
def State.takeFrame (port : Nat) (f : Bytes) (frac : Nat) (translates : Bool) (s : State) : State :=
  let dst := beNat (slice 0 6 f)
  let type := frameType f
  let b := frameBody f
  let h := f.take 12 ++ (if frameHead f = 12 then [0x81, 0, 0, 0] else slice 12 4 f) ++ slice (frameHead f) 2 f
  let unsupported := s.bump d13_0105 port
  if dst = s.portMac port && type = s.par d6_0001 0 then s.frameSilus port h b translates
  else if type = 0x88F7 && (dst = 0x011B19000000 || dst = 0x0180C200000E) then
    (if s.par d2_0023 0 = 0 then s.takePtp port b frac else s)
  else if type = 0x8808 && dst = 0x0180C2000001 then
    match beNat (slice 0 2 b) with
    | 0x0001 => s.takePause port (beNat (slice 2 2 b))
    | 0x0101 => s.takePfc port (BitVec.ofNat 8 (beNat (slice 2 2 b))) ((upTo 8).map (fun i => beNat (slice (4 + 2 * i) 2 b)))
    | _ => unsupported
  else if type = 0x86DD then
    match frameUdp b with
    | none => unsupported
    | some u =>
      let dport := beNat (slice 2 2 u)
      if !(dport = s.par d6_0002 0 || dport = 319 || dport = 320) then unsupported
      else if !frameUdpOk b u then s.bump d6_0100 (portTower port)
      else if dport = s.par d6_0002 0 then s.frameSilus port (h ++ b.take 40 ++ u.take 8) (u.drop 8) translates
      else if s.par d2_0023 0 = 1 then s.takePtp port (u.drop 8) frac
      else s
  else unsupported

/-- ETH_FRAME_RX (R537): a frame without its FCS, whether its FCS is right, the quarter ticks of its receive time, and whether
the host translates the range of a packet that it carries. [DEDUCED, log 68] -/
def execEthFrameRx (port : Nat) (frame : Bytes) (fcs : Bool) (frac : Nat) (translates : Bool) (s : State) : Outcome :=
  if s.etherUp port then
    if !fcs then .next (s.bump d13_0104 port)
    else if frameTooLong frame then .next (s.bump d13_0106 port)
    else .next (s.takeFrame port frame frac translates)
  else .next s

end Sys2Proof.Machine
end

