-- ==== Sys2Proof/Machine/Registers.lean ====
section
/-! DEFINITION. Writes of registers that have no behaviour of their own (R12, R13, R132, R187, R226, R549 to R552, R556). -/
namespace Sys2Proof.Machine

/-- R12, R132, R187, R226: a write into a control page: the context words of `size` bytes, the command register after them, and
the status register. `off` is within the page, `width` in bits. [DESIGN CHOICE, log 91] -/
def CtrlPage.write (size off width : Nat) (value : W64) (p : CtrlPage) : CtrlPage :=
  let whole := (width = 32 || width = 64) && off % (width / 8) = 0
  if off < size then (if whole then { p with ctx := putField (8 * off) width value.toNat p.ctx } else p)
  else if off < size + 8 then (if width < 64 then { p with lost := true } else p)
  else if off = size + 8 then (if whole && flag 1 value then { p with lost := false } else p)
  else p

/-- R551, R552: a write into the mailbox page. [DESIGN CHOICE, log 91] -/
def Mailbox.write (off width : Nat) (value : W64) (p : Mailbox) : Mailbox :=
  if !((width = 32 || width = 64) && off % (width / 8) = 0) then p
  else if off < 0x600 then
    (if p.busy then p else { p with req := putBytes off (bytesOf (width / 8) value) (slice 0 1536 p.req) })
  else if off = 0xC08 then { p with done := p.done && !flag 1 value, lost := p.lost && !flag 2 value }
  else if off = 0xC10 then { p with intr := flag 0 value }
  else p

/-- R553: a function's MSI-X vectors. -/
def msixVectors (t : Nat) : Nat := if t % 1024 = 0 then 2048 else 64

/-- PCIe: one 32-bit word of a vector's table entry is written; unmasking a pending vector sends its message. -/
def State.msixWord (t v word : Nat) (value : W32) (s : State) : State :=
  let x := tgetD s.msix (msixKey t v) {}
  let put := fun (s : State) (y : MsixVector) => { s with msix := tput {} (msixKey t v) y s.msix }
  match word with
  | 0 => put s { x with addr := putField 0 32 value.toNat x.addr }
  | 1 => put s { x with addr := putField 32 32 value.toNat x.addr }
  | 2 => put s { x with data := value }
  | _ =>
    let mask := flag 0 value
    if x.pending && !mask then (put s { x with masked := false, pending := false }).emit (.msix t v)
    else put s { x with masked := mask }

/-- R556, PCIe: a write into the MSI-X table. [PRESUMED, log 73] -/
def State.msixWrite (t off width : Nat) (value : W64) (s : State) : State :=
  let v := off / 16
  if !((width = 32 || width = 64) && off % (width / 8) = 0) || v ≥ msixVectors t then s
  else
    let s := s.msixWord t v (off % 16 / 4) (field 0 32 value)
    if width = 64 then s.msixWord t v (off % 16 / 4 + 1) (field 32 32 value) else s

/-- REGISTER_WRITE (R12, R549, R550): a write of `width` bits at an offset of a function's BAR0. A register with a behaviour of
its own has a command of its own. [DESIGN CHOICE, log 91] -/
def execRegisterWrite (fn offset width : Nat) (value : W64) (s : State) : Outcome :=
  let page := offset / 4096
  let off := offset % 4096
  let p := s.fn fn
  if page = 0 then (if s.mailboxServed fn then .next (s.setFn fn { p with mbox := p.mbox.write off width value }) else .next s)
  else if !s.fnLive fn then .next s
  else if page = 1 then .next (s.setFn fn { p with ring := p.ring.write 0x40 off width value })
  else if page = 2 then .next (s.setFn fn { p with conn := p.conn.write 0x80 off width value })
  else if page = 3 then .next (s.setFn fn { p with realm := p.realm.write 0x40 off width value })
  else if 16 ≤ page && page < 24 then .next (s.msixWrite fn (offset - 0x10000) width value)
  else .next s

end Sys2Proof.Machine
end

