-- ==== Sys2Proof/Machine/Dispatch.lean ====
section
/-! DEFINITION. One arm per command: a direct call of its meaning. -/
namespace Sys2Proof.Machine

def exec (i : Instr) (s : State) : Host.Outcome State Fault Refusal :=
  match i with
  | .packageReset => Sys2Proof.Machine.execPackageReset s
  | .packageResetRelease straps => Sys2Proof.Machine.execPackageResetRelease straps s
  | .supplyFault io => Sys2Proof.Machine.execSupplyFault io s
  | .supplyRestored straps => Sys2Proof.Machine.execSupplyRestored straps s
  | .functionsEnable trained => Sys2Proof.Machine.execFunctionsEnable trained s
  | .bridgeFatal bridge => Sys2Proof.Machine.execBridgeFatal bridge s
  | .thermalTrip tower stack temp => Sys2Proof.Machine.execThermalTrip tower stack temp s
  | .jtagTrst => Sys2Proof.Machine.execJtagTrst s
  | .perstAssert host => Sys2Proof.Machine.execPerstAssert host s
  | .perstDeassert host => Sys2Proof.Machine.execPerstDeassert host s
  | .hostLinkTrained host rate width => Sys2Proof.Machine.execHostLinkTrained host rate width s
  | .hostLinkDown host => Sys2Proof.Machine.execHostLinkDown host s
  | .flr t => Sys2Proof.Machine.execFlr t s
  | .vfEnableSet host numVfs => Sys2Proof.Machine.execVfEnableSet host numVfs s
  | .vfEnableClear host => Sys2Proof.Machine.execVfEnableClear host s
  | .d3hotEntry t => Sys2Proof.Machine.execD3hotEntry t s
  | .timeClockTick => Sys2Proof.Machine.execTimeClockTick s
  | .syncSend port frac => Sys2Proof.Machine.execSyncSend port frac s
  | .syncRx port sym frac turn => Sys2Proof.Machine.execSyncRx port sym frac turn s
  | .echoRx port sym frac => Sys2Proof.Machine.execEchoRx port sym frac s
  | .syncAbandon port seq => Sys2Proof.Machine.execSyncAbandon port seq s
  | .announceRx port sym => Sys2Proof.Machine.execAnnounceRx port sym s
  | .announceWithdraw port => Sys2Proof.Machine.execAnnounceWithdraw port s
  | .ptpMessageRx port msg frac => Sys2Proof.Machine.execPtpMessageRx port msg frac s
  | .ptpSyncSend port frac => Sys2Proof.Machine.execPtpSyncSend port frac s
  | .referenceLost => Sys2Proof.Machine.execReferenceLost s
  | .holdoverExpire => Sys2Proof.Machine.execHoldoverExpire s
  | .ppsOutEdge => Sys2Proof.Machine.execPpsOutEdge s
  | .ppsOutFall => Sys2Proof.Machine.execPpsOutFall s
  | .ppsInEdge => Sys2Proof.Machine.execPpsInEdge s
  | .ppsReferenceLost => Sys2Proof.Machine.execPpsReferenceLost s
  | .triggerFire => Sys2Proof.Machine.execTriggerFire s
  | .dictRequestQueue route record => Sys2Proof.Machine.execDictRequestQueue route record s
  | .dictRead => Sys2Proof.Machine.execDictRead s
  | .dictReadShadow => Sys2Proof.Machine.execDictReadShadow s
  | .dictWrite => Sys2Proof.Machine.execDictWrite s
  | .dictDescribe => Sys2Proof.Machine.execDictDescribe s
  | .dictEnumerate => Sys2Proof.Machine.execDictEnumerate s
  | .dictValidate => Sys2Proof.Machine.execDictValidate s
  | .dictArmSwap => Sys2Proof.Machine.execDictArmSwap s
  | .dictCancelSwap => Sys2Proof.Machine.execDictCancelSwap s
  | .dictDiscardShadow => Sys2Proof.Machine.execDictDiscardShadow s
  | .swap => Sys2Proof.Machine.execSwap s
  | .shadowCopyDone => Sys2Proof.Machine.execShadowCopyDone s
  | .ringCreate t ring => Sys2Proof.Machine.execRingCreate t ring s
  | .ringShutdown t ring => Sys2Proof.Machine.execRingShutdown t ring s
  | .ringAbort t ring => Sys2Proof.Machine.execRingAbort t ring s
  | .ringResume t ring => Sys2Proof.Machine.execRingResume t ring s
  | .ringDestroy t ring => Sys2Proof.Machine.execRingDestroy t ring s
  | .ringQuery t ring => Sys2Proof.Machine.execRingQuery t ring s
  | .ringCmdUnknown t value => Sys2Proof.Machine.execRingCmdUnknown t value s
  | .abortDeadline t ring => Sys2Proof.Machine.execAbortDeadline t ring s
  | .doorbell t value width via => Sys2Proof.Machine.execDoorbell t value width via s
  | .notifyConsumeDoorbell t value width via => Sys2Proof.Machine.execNotifyConsumeDoorbell t value width via s
  | .eventRingConsumeDoorbell t value width via => Sys2Proof.Machine.execEventRingConsumeDoorbell t value width via s
  | .fetchIssue t ring => Sys2Proof.Machine.execFetchIssue t ring s
  | .fetchReturn t ring index ans => Sys2Proof.Machine.execFetchReturn t ring index ans s
  | .refetchIssue t ring => Sys2Proof.Machine.execRefetchIssue t ring s
  | .refetchReturn t ring index ans => Sys2Proof.Machine.execRefetchReturn t ring index ans s
  | .chainStart t ring => Sys2Proof.Machine.execChainStart t ring s
  | .completionWrite t ring => Sys2Proof.Machine.execCompletionWrite t ring s
  | .mirrorWrite t ring => Sys2Proof.Machine.execMirrorWrite t ring s
  | .ringEventTimer t ring => Sys2Proof.Machine.execRingEventTimer t ring s
  | .nop t ring => Sys2Proof.Machine.execNop t ring s
  | .write t ring => Sys2Proof.Machine.execWrite t ring s
  | .writeImm t ring => Sys2Proof.Machine.execWriteImm t ring s
  | .read t ring => Sys2Proof.Machine.execRead t ring s
  | .accum t ring => Sys2Proof.Machine.execAccum t ring s
  | .fenceFlush t ring => Sys2Proof.Machine.execFenceFlush t ring s
  | .connCreate t conn => Sys2Proof.Machine.execConnCreate t conn s
  | .connBind t conn => Sys2Proof.Machine.execConnBind t conn s
  | .connModify t conn => Sys2Proof.Machine.execConnModify t conn s
  | .connFreeze t conn => Sys2Proof.Machine.execConnFreeze t conn s
  | .freezeComplete conn => Sys2Proof.Machine.execFreezeComplete conn s
  | .connThaw t conn => Sys2Proof.Machine.execConnThaw t conn s
  | .connDestroy t conn => Sys2Proof.Machine.execConnDestroy t conn s
  | .drainExit conn => Sys2Proof.Machine.execDrainExit conn s
  | .quarantineEnd conn => Sys2Proof.Machine.execQuarantineEnd conn s
  | .connQuery t conn => Sys2Proof.Machine.execConnQuery t conn s
  | .handleWrite t handle => Sys2Proof.Machine.execHandleWrite t handle s
  | .handleRead t handle => Sys2Proof.Machine.execHandleRead t handle s
  | .connFlush t conn => Sys2Proof.Machine.execConnFlush t conn s
  | .connCmdUnknown t value => Sys2Proof.Machine.execConnCmdUnknown t value s
  | .evictionStart tower => Sys2Proof.Machine.execEvictionStart tower s
  | .evictionRelease conn => Sys2Proof.Machine.execEvictionRelease conn s
  | .contextInstall conn ans => Sys2Proof.Machine.execContextInstall conn ans s
  | .pathRebindRx rx => Sys2Proof.Machine.execPathRebindRx rx s
  | .realmCreate t => Sys2Proof.Machine.execRealmCreate t s
  | .realmModify t realm => Sys2Proof.Machine.execRealmModify t realm s
  | .realmRevoke t realm => Sys2Proof.Machine.execRealmRevoke t realm s
  | .realmDestroy t realm => Sys2Proof.Machine.execRealmDestroy t realm s
  | .realmQuery t realm => Sys2Proof.Machine.execRealmQuery t realm s
  | .realmCmdUnknown t value => Sys2Proof.Machine.execRealmCmdUnknown t value s
  | .realmChangeDone realm => Sys2Proof.Machine.execRealmChangeDone realm s
  | .pktWriteRx rx => Sys2Proof.Machine.execPktWriteRx rx s
  | .pktWriteImmRx rx => Sys2Proof.Machine.execPktWriteImmRx rx s
  | .pktReadReqRx rx => Sys2Proof.Machine.execPktReadReqRx rx s
  | .pktReadRespRx rx => Sys2Proof.Machine.execPktReadRespRx rx s
  | .pktAccumRx rx => Sys2Proof.Machine.execPktAccumRx rx s
  | .pktFlushReqRx rx => Sys2Proof.Machine.execPktFlushReqRx rx s
  | .pktVoidRx rx => Sys2Proof.Machine.execPktVoidRx rx s
  | .ackRx rx => Sys2Proof.Machine.execAckRx rx s
  | .nakRx rx => Sys2Proof.Machine.execNakRx rx s
  | .msgConfirmRx rx => Sys2Proof.Machine.execMsgConfirmRx rx s
  | .confirmQueryRx rx => Sys2Proof.Machine.execConfirmQueryRx rx s
  | .accumApply tower => Sys2Proof.Machine.execAccumApply tower s
  | .readStart conn => Sys2Proof.Machine.execReadStart conn s
  | .targetReadFail conn msn addr => Sys2Proof.Machine.execTargetReadFail conn msn addr s
  | .placementWriteFail conn msn own addr => Sys2Proof.Machine.execPlacementWriteFail conn msn own addr s
  | .readbackIssue conn msn own => Sys2Proof.Machine.execReadbackIssue conn msn own s
  | .readbackDone target ok => Sys2Proof.Machine.execReadbackDone target ok s
  | .notifyReservationExpire t ring conn msn => Sys2Proof.Machine.execNotifyReservationExpire t ring conn msn s
  | .ackTimer conn => Sys2Proof.Machine.execAckTimer conn s
  | .lossDetect conn psn => Sys2Proof.Machine.execLossDetect conn psn s
  | .rtoExpire conn => Sys2Proof.Machine.execRtoExpire conn s
  | .busyHoldEnd conn => Sys2Proof.Machine.execBusyHoldEnd conn s
  | .rnrResend conn psn => Sys2Proof.Machine.execRnrResend conn psn s
  | .confirmQueryTimer conn => Sys2Proof.Machine.execConfirmQueryTimer conn s
  | .packetCommit tower => Sys2Proof.Machine.execPacketCommit tower s
  | .egressStart port => Sys2Proof.Machine.execEgressStart port s
  | .slotFetchOpen tower entry => Sys2Proof.Machine.execSlotFetchOpen tower entry s
  | .slotReadyDeadline tower entry => Sys2Proof.Machine.execSlotReadyDeadline tower entry s
  | .slotDue tower entry => Sys2Proof.Machine.execSlotDue tower entry s
  | .reduceSlotDue tower entry ans => Sys2Proof.Machine.execReduceSlotDue tower entry ans s
  | .moveSlotDue tower entry => Sys2Proof.Machine.execMoveSlotDue tower entry s
  | .stepLateStart move target ans => Sys2Proof.Machine.execStepLateStart move target ans s
  | .lanternSample => Sys2Proof.Machine.execLanternSample s
  | .transitRx rx check => Sys2Proof.Machine.execTransitRx rx check s
  | .transitResidenceExpire port vc => Sys2Proof.Machine.execTransitResidenceExpire port vc s
  | .creditBlockSend port => Sys2Proof.Machine.execCreditBlockSend port s
  | .creditRx port block => Sys2Proof.Machine.execCreditRx port block s
  | .advertRx port block => Sys2Proof.Machine.execAdvertRx port block s
  | .routeDownRx rx => Sys2Proof.Machine.execRouteDownRx rx s
  | .pathDownExpire dst path => Sys2Proof.Machine.execPathDownExpire dst path s
  | .drainEnd => Sys2Proof.Machine.execDrainEnd s
  | .collectiveClear t ring => Sys2Proof.Machine.execCollectiveClear t ring s
  | .collectiveAddLocal t ring ans => Sys2Proof.Machine.execCollectiveAddLocal t ring ans s
  | .collectiveReadout t ring => Sys2Proof.Machine.execCollectiveReadout t ring s
  | .readoutReady tower => Sys2Proof.Machine.execReadoutReady tower s
  | .quantize t ring ans => Sys2Proof.Machine.execQuantize t ring ans s
  | .bayLoadDone tower block ok => Sys2Proof.Machine.execBayLoadDone tower block ok s
  | .bayWritebackDone tower block ok => Sys2Proof.Machine.execBayWritebackDone tower block ok s
  | .dispatchTokens t ring router rows => Sys2Proof.Machine.execDispatchTokens t ring router rows s
  | .dispatchWeights t ring ans => Sys2Proof.Machine.execDispatchWeights t ring ans s
  | .publish ring first pos => Sys2Proof.Machine.execPublish ring first pos s
  | .confirm t ring final rows => Sys2Proof.Machine.execConfirm t ring final rows s
  | .cancel t ring => Sys2Proof.Machine.execCancel t ring s
  | .specDeadline t id => Sys2Proof.Machine.execSpecDeadline t id s
  | .slotRelease t expert share => Sys2Proof.Machine.execSlotRelease t expert share s
  | .combine t ring router recs rows => Sys2Proof.Machine.execCombine t ring router recs rows s
  | .combineResponseApply tower => Sys2Proof.Machine.execCombineResponseApply tower s
  | .zeroBlock extent => Sys2Proof.Machine.execZeroBlock extent s
  | .staleRequestDiscard request => Sys2Proof.Machine.execStaleRequestDiscard request s
  | .uncorrectableError addr => Sys2Proof.Machine.execUncorrectableError addr s
  | .refresh tower slice bank => Sys2Proof.Machine.execRefresh tower slice bank s
  | .patrolStart tower => Sys2Proof.Machine.execPatrolStart tower s
  | .patrolDone tower corrected => Sys2Proof.Machine.execPatrolDone tower corrected s
  | .lineCheckDone port faults => Sys2Proof.Machine.execLineCheckDone port faults s
  | .anComplete port fabric width modes => Sys2Proof.Machine.execAnComplete port fabric width modes s
  | .negotiateTimeout port => Sys2Proof.Machine.execNegotiateTimeout port s
  | .trainDone port farFaults inverted reversed => Sys2Proof.Machine.execTrainDone port farFaults inverted reversed s
  | .trainTimeout port => Sys2Proof.Machine.execTrainTimeout port s
  | .linkLoss port silent => Sys2Proof.Machine.execLinkLoss port silent s
  | .faultRetry port => Sys2Proof.Machine.execFaultRetry port s
  | .statusSend port => Sys2Proof.Machine.execStatusSend port s
  | .statusRx port block => Sys2Proof.Machine.execStatusRx port block s
  | .timeSymbolRx port sym frac turn => Sys2Proof.Machine.execTimeSymbolRx port sym frac turn s
  | .codewordDecodeFail port => Sys2Proof.Machine.execCodewordDecodeFail port s
  | .shedPeriodEnd port => Sys2Proof.Machine.execShedPeriodEnd port s
  | .shedReqRx port block => Sys2Proof.Machine.execShedReqRx port block s
  | .widthSwitch port => Sys2Proof.Machine.execWidthSwitch port s
  | .restoreReq port => Sys2Proof.Machine.execRestoreReq port s
  | .restoreReqRx port block => Sys2Proof.Machine.execRestoreReqRx port block s
  | .lanesReady port => Sys2Proof.Machine.execLanesReady port s
  | .ethFrameRx port frame fcs frac translates => Sys2Proof.Machine.execEthFrameRx port frame fcs frac translates s
  | .pauseRx port quanta => Sys2Proof.Machine.execPauseRx port quanta s
  | .pfcRx port enable quanta => Sys2Proof.Machine.execPfcRx port enable quanta s
  | .pauseExpire port => Sys2Proof.Machine.execPauseExpire port s
  | .flowXoffSend port vc => Sys2Proof.Machine.execFlowXoffSend port vc s
  | .flowRepeat port vc => Sys2Proof.Machine.execFlowRepeat port vc s
  | .flowXonSend port vc => Sys2Proof.Machine.execFlowXonSend port vc s
  | .mbGo t => Sys2Proof.Machine.execMbGo t s
  | .mbResponseDone t => Sys2Proof.Machine.execMbResponseDone t s
  | .atsInvalidate t pasid first pages => Sys2Proof.Machine.execAtsInvalidate t pasid first pages s
  | .priResponse t pasid page ok => Sys2Proof.Machine.execPriResponse t pasid page ok s
  | .priTimeout t pasid page => Sys2Proof.Machine.execPriTimeout t pasid page s
  | .completionTimeout request => Sys2Proof.Machine.execCompletionTimeout request s
  | .windowWrite host reqId offset data => Sys2Proof.Machine.execWindowWrite host reqId offset data s
  | .windowRead host reqId offset len ok ans => Sys2Proof.Machine.execWindowRead host reqId offset len ok ans s
  | .attachTrain port native cxl width bytes => Sys2Proof.Machine.execAttachTrain port native cxl width bytes s
  | .attachFaultRetry port => Sys2Proof.Machine.execAttachFaultRetry port s
  | .apertureAccess port addr write len data ans => Sys2Proof.Machine.execApertureAccess port addr write len data ans s
  | .tenantReset t => Sys2Proof.Machine.execTenantReset t s
  | .tenantResetDone t => Sys2Proof.Machine.execTenantResetDone t s
  | .drainLimitExpire t => Sys2Proof.Machine.execDrainLimitExpire t s
  | .quiesceSet t => Sys2Proof.Machine.execQuiesceSet t s
  | .quiesceClear t => Sys2Proof.Machine.execQuiesceClear t s
  | .quiesced t => Sys2Proof.Machine.execQuiesced t s
  | .quiesceLimit t => Sys2Proof.Machine.execQuiesceLimit t s
  | .migFreeze t => Sys2Proof.Machine.execMigFreeze t s
  | .migFrozen t => Sys2Proof.Machine.execMigFrozen t s
  | .migSave t => Sys2Proof.Machine.execMigSave t s
  | .migSaveDone t => Sys2Proof.Machine.execMigSaveDone t s
  | .migRestore t => Sys2Proof.Machine.execMigRestore t s
  | .migRestoreDone t => Sys2Proof.Machine.execMigRestoreDone t s
  | .migResume t => Sys2Proof.Machine.execMigResume t s
  | .migDiscard t => Sys2Proof.Machine.execMigDiscard t s
  | .pathRebindRepeat t => Sys2Proof.Machine.execPathRebindRepeat t s
  | .move t ring => Sys2Proof.Machine.execMove t ring s
  | .fill t ring => Sys2Proof.Machine.execFill t ring s
  | .descriptorStart tower chan => Sys2Proof.Machine.execDescriptorStart tower chan s
  | .burstIssue tower => Sys2Proof.Machine.execBurstIssue tower s
  | .burstDone tower chan off ans => Sys2Proof.Machine.execBurstDone tower chan off ans s
  | .halfEvent tower chan ok => Sys2Proof.Machine.execHalfEvent tower chan ok s
  | .descriptorDone tower chan ok => Sys2Proof.Machine.execDescriptorDone tower chan ok s
  | .mbDataWrite tower master box whole data => Sys2Proof.Machine.execMbDataWrite tower master box whole data s
  | .mbDataRead tower master box whole => Sys2Proof.Machine.execMbDataRead tower master box whole s
  | .mbAckCodeWrite tower master box whole value => Sys2Proof.Machine.execMbAckCodeWrite tower master box whole value s
  | .dbSetWrite tower master whole value => Sys2Proof.Machine.execDbSetWrite tower master whole value s
  | .dbPendWrite tower master value => Sys2Proof.Machine.execDbPendWrite tower master value s
  | .dbMaskWrite tower master value => Sys2Proof.Machine.execDbMaskWrite tower master value s
  | .semRead tower master sem whole => Sys2Proof.Machine.execSemRead tower master sem whole s
  | .semWrite tower master sem whole value => Sys2Proof.Machine.execSemWrite tower master sem whole value s
  | .keyLoadLoad t record => Sys2Proof.Machine.execKeyLoadLoad t record s
  | .keyLoadErase t record => Sys2Proof.Machine.execKeyLoadErase t record s
  | .keyDerived tower => Sys2Proof.Machine.execKeyDerived tower s
  | .keyPrederive tower => Sys2Proof.Machine.execKeyPrederive tower s
  | .cipherGcmEnc t ring ans => Sys2Proof.Machine.execCipherGcmEnc t ring ans s
  | .cipherGcmDec t ring ans => Sys2Proof.Machine.execCipherGcmDec t ring ans s
  | .cipherXtsEnc t ring ans => Sys2Proof.Machine.execCipherXtsEnc t ring ans s
  | .cipherXtsDec t ring ans => Sys2Proof.Machine.execCipherXtsDec t ring ans s
  | .segRequestRx frame collisions => Sys2Proof.Machine.execSegRequestRx frame collisions s
  | .segFrameRx frame collisions => Sys2Proof.Machine.execSegFrameRx frame collisions s
  | .segLineCheck line inverted => Sys2Proof.Machine.execSegLineCheck line inverted s
  | .dictRequestRx rx => Sys2Proof.Machine.execDictRequestRx rx s
  | .linkScopedRequestRx rx => Sys2Proof.Machine.execLinkScopedRequestRx rx s
  | .dictResponseRx rx => Sys2Proof.Machine.execDictResponseRx rx s
  | .linkMgmtSend value => Sys2Proof.Machine.execLinkMgmtSend value s
  | .mctpMessageRx type body => Sys2Proof.Machine.execMctpMessageRx type body s
  | .spdmGetVersion path req => Sys2Proof.Machine.execSpdmGetVersion path req s
  | .spdmGetCapabilities path req => Sys2Proof.Machine.execSpdmGetCapabilities path req s
  | .spdmUnsupported path req => Sys2Proof.Machine.execSpdmUnsupported path req s
  | .quote path req waiting => Sys2Proof.Machine.execQuote path req waiting s
  | .getLog path req => Sys2Proof.Machine.execGetLog path req s
  | .getIdentity path req => Sys2Proof.Machine.execGetIdentity path req s
  | .fwErase => Sys2Proof.Machine.execFwErase s
  | .fwVerify => Sys2Proof.Machine.execFwVerify s
  | .fwPrefer => Sys2Proof.Machine.execFwPrefer s
  | .fwCommitSvn => Sys2Proof.Machine.execFwCommitSvn s
  | .fwRevokeKey key => Sys2Proof.Machine.execFwRevokeKey key s
  | .fwChunk value => Sys2Proof.Machine.execFwChunk value s
  | .eventRingSetup t desc => Sys2Proof.Machine.execEventRingSetup t desc s
  | .powerClose cmd => Sys2Proof.Machine.execPowerClose cmd s
  | .powerOpen cmd => Sys2Proof.Machine.execPowerOpen cmd s
  | .domainClosed domain => Sys2Proof.Machine.execDomainClosed domain s
  | .domainCloseDeadline domain => Sys2Proof.Machine.execDomainCloseDeadline domain s
  | .domainOpened domain => Sys2Proof.Machine.execDomainOpened domain s
  | .powerControl power temps => Sys2Proof.Machine.execPowerControl power temps s
  | .registerWrite fn offset width value => Sys2Proof.Machine.execRegisterWrite fn offset width value s
  | .attachLinkLoss port => Sys2Proof.Machine.execAttachLinkLoss port s
  | .firmwareRestart => Sys2Proof.Machine.execFirmwareRestart s
  | .managementAgentReset => Sys2Proof.Machine.execManagementAgentReset s
  | .fwCommandDone => Sys2Proof.Machine.execFwCommandDone s
  | .i3cAddressAssignment kind target value => Sys2Proof.Machine.execI3cAddressAssignment kind target value s
  | .spdmChunking path req => Sys2Proof.Machine.execSpdmChunking path req s
  | .atsTranslationResponse t pasid page read write => Sys2Proof.Machine.execAtsTranslationResponse t pasid page read write s
  | .payloadReadReturn conn msn resp index ans => Sys2Proof.Machine.execPayloadReadReturn conn msn resp index ans s
  | .backingWritebackError conn translation => Sys2Proof.Machine.execBackingWritebackError conn translation s
  | .plcaBeaconTimeout beacon => Sys2Proof.Machine.execPlcaBeaconTimeout beacon s
  | .bridgeRetraining bridge => Sys2Proof.Machine.execBridgeRetraining bridge s

end Sys2Proof.Machine
end

