-- ==== Sys2Proof/WellFormed.lean ====
section
/-! DEFINITION. Well-formed commands: the numbers they carry name things that some part of the family can have (R1, R6, R34). -/
namespace Sys2Proof

open Machine

/-- R6, R378: a packet arrives on a port of the family, in one of the four hop classes. -/
def Machine.Rx.wf (rx : Rx) : Bool := rx.port < 64 && rx.cls < 4

/-- A tenant and the number of one of its rings. -/
def ringWf (t ring : Nat) : Bool := t < 2048 && ring < 1048576

/-- A read-back belongs to a connection or to a ring. -/
def ReadFor.wf : ReadFor → Bool
  | .peer conn _ => conn < 16777216
  | .own conn _ => conn < 16777216
  | .entry ring _ pos => ring < 2147483648 && pos < 64

/-- A request to a memory names a ring, a connection, a block or a channel. -/
def ReadOf.wf : ReadOf → Bool
  | .fetch t ring _ => ringWf t ring
  | .refetch t ring _ => ringWf t ring
  | .payload conn _ _ _ => conn < 16777216
  | .placement conn _ _ _ => conn < 16777216
  | .context conn => conn < 16777216
  | .writeback conn => conn < 16777216
  | .bayLoad tower _ => tower < 8
  | .bayWrite tower _ => tower < 8
  | .burst tower chan _ => tower < 8 && chan < 16
  | .readback target => target.wf
  | .entry t ring => ringWf t ring

/-- R675: a path of requests names a function, a port or an adapter. -/
def Machine.Route.wf : Route → Bool
  | .mailbox fn => fn < 2048
  | .mctp => true
  | .segment _ _ _ _ => true
  | .fabric src path _ => src < 65536 && path < 64
  | .link port src _ => port < 64 && src < 65536
  | .firmware => true

/-- The numbers of a command are in range. -/
def Instr.wf : Instr → Bool
  | .packageReset => true
  | .packageResetRelease _ => true
  | .supplyFault _ => true
  | .supplyRestored _ => true
  | .functionsEnable _ => true
  | .bridgeFatal bridge => bridge < 10
  | .thermalTrip tower _ _ => tower < 8
  | .jtagTrst => true
  | .perstAssert host => host < 2
  | .perstDeassert host => host < 2
  | .hostLinkTrained host rate width => host < 2 && 1 ≤ rate && rate ≤ 5 && width ≤ 16
  | .hostLinkDown host => host < 2
  | .flr t => t < 2048
  | .vfEnableSet host numVfs => host < 2 && numVfs ≤ 1023
  | .vfEnableClear host => host < 2
  | .d3hotEntry t => t < 2048
  | .timeClockTick => true
  | .syncSend port frac => port < 64 && frac < 4
  | .syncRx port _ frac _ => port < 64 && frac < 4
  | .echoRx port _ frac => port < 64 && frac < 4
  | .syncAbandon port _ => port < 64
  | .announceRx port _ => port < 64
  | .announceWithdraw port => port < 64
  | .ptpMessageRx port _ frac => port < 64 && frac < 4
  | .ptpSyncSend port frac => port < 64 && frac < 4
  | .referenceLost => true
  | .holdoverExpire => true
  | .ppsOutEdge => true
  | .ppsOutFall => true
  | .ppsInEdge => true
  | .ppsReferenceLost => true
  | .triggerFire => true
  | .dictRequestQueue route _ => route.wf
  | .dictRead => true
  | .dictReadShadow => true
  | .dictWrite => true
  | .dictDescribe => true
  | .dictEnumerate => true
  | .dictValidate => true
  | .dictArmSwap => true
  | .dictCancelSwap => true
  | .dictDiscardShadow => true
  | .swap => true
  | .shadowCopyDone => true
  | .ringCreate t ring => t < 2048 && ring < 1048576
  | .ringShutdown t ring => t < 2048 && ring < 1048576
  | .ringAbort t ring => t < 2048 && ring < 1048576
  | .ringResume t ring => t < 2048 && ring < 1048576
  | .ringDestroy t ring => t < 2048 && ring < 1048576
  | .ringQuery t ring => t < 2048 && ring < 1048576
  | .ringCmdUnknown t _ => t < 2048
  | .abortDeadline t ring => t < 2048 && ring < 1048576
  | .doorbell t _ width _ => t < 2048 && width ≤ 8
  | .notifyConsumeDoorbell t _ width _ => t < 2048 && width ≤ 8
  | .eventRingConsumeDoorbell t _ width _ => t < 2048 && width ≤ 8
  | .fetchIssue t ring => t < 2048 && ring < 1048576
  | .fetchReturn t ring _ _ => t < 2048 && ring < 1048576
  | .refetchIssue t ring => t < 2048 && ring < 1048576
  | .refetchReturn t ring _ _ => t < 2048 && ring < 1048576
  | .chainStart t ring => t < 2048 && ring < 1048576
  | .completionWrite t ring => t < 2048 && ring < 1048576
  | .mirrorWrite t ring => t < 2048 && ring < 1048576
  | .ringEventTimer t ring => t < 2048 && ring < 1048576
  | .nop t ring => t < 2048 && ring < 1048576
  | .write t ring => t < 2048 && ring < 1048576
  | .writeImm t ring => t < 2048 && ring < 1048576
  | .read t ring => t < 2048 && ring < 1048576
  | .accum t ring => t < 2048 && ring < 1048576
  | .fenceFlush t ring => t < 2048 && ring < 1048576
  | .connCreate t conn => t < 2048 && conn < 16777216
  | .connBind t conn => t < 2048 && conn < 16777216
  | .connModify t conn => t < 2048 && conn < 16777216
  | .connFreeze t conn => t < 2048 && conn < 16777216
  | .freezeComplete conn => conn < 16777216
  | .connThaw t conn => t < 2048 && conn < 16777216
  | .connDestroy t conn => t < 2048 && conn < 16777216
  | .drainExit conn => conn < 16777216
  | .quarantineEnd conn => conn < 16777216
  | .connQuery t conn => t < 2048 && conn < 16777216
  | .handleWrite t handle => t < 2048 && handle < 65536
  | .handleRead t handle => t < 2048 && handle < 65536
  | .connFlush t conn => t < 2048 && conn < 16777216
  | .connCmdUnknown t _ => t < 2048
  | .evictionStart tower => tower < 8
  | .evictionRelease conn => conn < 16777216
  | .contextInstall conn _ => conn < 16777216
  | .pathRebindRx rx => rx.wf
  | .realmCreate t => t < 2048
  | .realmModify t realm => t < 2048 && realm < 1048576
  | .realmRevoke t realm => t < 2048 && realm < 1048576
  | .realmDestroy t realm => t < 2048 && realm < 1048576
  | .realmQuery t realm => t < 2048 && realm < 1048576
  | .realmCmdUnknown t _ => t < 2048
  | .realmChangeDone realm => realm < 1048576
  | .pktWriteRx rx => rx.wf
  | .pktWriteImmRx rx => rx.wf
  | .pktReadReqRx rx => rx.wf
  | .pktReadRespRx rx => rx.wf
  | .pktAccumRx rx => rx.wf
  | .pktFlushReqRx rx => rx.wf
  | .pktVoidRx rx => rx.wf
  | .ackRx rx => rx.wf
  | .nakRx rx => rx.wf
  | .msgConfirmRx rx => rx.wf
  | .confirmQueryRx rx => rx.wf
  | .accumApply tower => tower < 8
  | .readStart conn => conn < 16777216
  | .targetReadFail conn _ _ => conn < 16777216
  | .placementWriteFail conn _ _ _ => conn < 16777216
  | .readbackIssue conn _ _ => conn < 16777216
  | .readbackDone target _ => target.wf
  | .notifyReservationExpire t ring conn _ => t < 2048 && ring < 1048576 && conn < 16777216
  | .ackTimer conn => conn < 16777216
  | .lossDetect conn _ => conn < 16777216
  | .rtoExpire conn => conn < 16777216
  | .busyHoldEnd conn => conn < 16777216
  | .rnrResend conn _ => conn < 16777216
  | .confirmQueryTimer conn => conn < 16777216
  | .packetCommit tower => tower < 8
  | .egressStart port => port < 64
  | .slotFetchOpen tower entry => tower < 8 && entry < 16384
  | .slotReadyDeadline tower entry => tower < 8 && entry < 16384
  | .slotDue tower entry => tower < 8 && entry < 16384
  | .reduceSlotDue tower entry _ => tower < 8 && entry < 16384
  | .moveSlotDue tower entry => tower < 8 && entry < 16384
  | .stepLateStart _ target _ => target < 4096
  | .lanternSample => true
  | .transitRx rx check => rx.wf && check < 3
  | .transitResidenceExpire port vc => port < 64 && vc < 8
  | .creditBlockSend port => port < 64
  | .creditRx port _ => port < 64
  | .advertRx port _ => port < 64
  | .routeDownRx rx => rx.wf
  | .pathDownExpire dst path => dst < 65536 && path < 64
  | .drainEnd => true
  | .collectiveClear t ring => t < 2048 && ring < 1048576
  | .collectiveAddLocal t ring _ => t < 2048 && ring < 1048576
  | .collectiveReadout t ring => t < 2048 && ring < 1048576
  | .readoutReady tower => tower < 8
  | .quantize t ring _ => t < 2048 && ring < 1048576
  | .bayLoadDone tower _ _ => tower < 8
  | .bayWritebackDone tower _ _ => tower < 8
  | .dispatchTokens t ring _ _ => t < 2048 && ring < 1048576
  | .dispatchWeights t ring _ => t < 2048 && ring < 1048576
  | .publish ring _ _ => ring < 1048576
  | .confirm t ring _ _ => t < 2048 && ring < 1048576
  | .cancel t ring => t < 2048 && ring < 1048576
  | .specDeadline t _ => t < 2048
  | .slotRelease t expert share => t < 2048 && expert < 1048576 && share ≤ 4
  | .combine t ring _ _ _ => t < 2048 && ring < 1048576
  | .combineResponseApply tower => tower < 8
  | .zeroBlock extent => extent < 2048
  | .staleRequestDiscard request => request.wf
  | .uncorrectableError _ => true
  | .refresh tower slice bank => tower < 8 && slice < 16 && bank < 256
  | .patrolStart tower => tower < 8
  | .patrolDone tower _ => tower < 8
  | .lineCheckDone port _ => port < 64
  | .anComplete port _ _ _ => port < 64
  | .negotiateTimeout port => port < 64
  | .trainDone port _ _ _ => port < 64
  | .trainTimeout port => port < 64
  | .linkLoss port _ => port < 64
  | .faultRetry port => port < 64
  | .statusSend port => port < 64
  | .statusRx port _ => port < 64
  | .timeSymbolRx port _ frac _ => port < 64 && frac < 4
  | .codewordDecodeFail port => port < 64
  | .shedPeriodEnd port => port < 64
  | .shedReqRx port _ => port < 64
  | .widthSwitch port => port < 64
  | .restoreReq port => port < 64
  | .restoreReqRx port _ => port < 64
  | .lanesReady port => port < 64
  | .ethFrameRx port _ _ frac _ => port < 64 && frac < 4
  | .pauseRx port _ => port < 64
  | .pfcRx port _ quanta => port < 64 && quanta.length = 8
  | .pauseExpire port => port < 64
  | .flowXoffSend port vc => port < 64 && vc < 8
  | .flowRepeat port vc => port < 64 && vc < 8
  | .flowXonSend port vc => port < 64 && vc < 8
  | .mbGo t => t < 2048
  | .mbResponseDone t => t < 2048
  | .atsInvalidate t pasid _ _ => t < 2048 && pasid ≤ 1048576
  | .priResponse t pasid _ _ => t < 2048 && pasid ≤ 1048576
  | .priTimeout t pasid _ => t < 2048 && pasid ≤ 1048576
  | .completionTimeout request => request.wf
  | .windowWrite host reqId offset _ => host < 2 && reqId < 65536 && offset < 274877906944
  | .windowRead host reqId offset _ _ _ => host < 2 && reqId < 65536 && offset < 274877906944
  | .attachTrain port _ _ _ _ => port < 8
  | .attachFaultRetry port => port < 8
  | .apertureAccess port _ _ _ _ _ => port < 8
  | .tenantReset t => t < 2048
  | .tenantResetDone t => t < 2048
  | .drainLimitExpire t => t < 2048
  | .quiesceSet t => t < 2048
  | .quiesceClear t => t < 2048
  | .quiesced t => t < 2048
  | .quiesceLimit t => t < 2048
  | .migFreeze t => t < 2048
  | .migFrozen t => t < 2048
  | .migSave t => t < 2048
  | .migSaveDone t => t < 2048
  | .migRestore t => t < 2048
  | .migRestoreDone t => t < 2048
  | .migResume t => t < 2048
  | .migDiscard t => t < 2048
  | .pathRebindRepeat t => t < 2048
  | .move t ring => t < 2048 && ring < 1048576
  | .fill t ring => t < 2048 && ring < 1048576
  | .descriptorStart tower chan => tower < 8 && chan < 16
  | .burstIssue tower => tower < 8
  | .burstDone tower chan _ _ => tower < 8 && chan < 16
  | .halfEvent tower chan _ => tower < 8 && chan < 16
  | .descriptorDone tower chan _ => tower < 8 && chan < 16
  | .mbDataWrite tower master box _ _ => tower < 8 && 1 ≤ master && master ≤ 4 && box < 16
  | .mbDataRead tower master box _ => tower < 8 && 1 ≤ master && master ≤ 4 && box < 16
  | .mbAckCodeWrite tower master box _ _ => tower < 8 && 1 ≤ master && master ≤ 4 && box < 16
  | .dbSetWrite tower master _ _ => tower < 8 && 1 ≤ master && master ≤ 4
  | .dbPendWrite tower master _ => tower < 8 && 1 ≤ master && master ≤ 4
  | .dbMaskWrite tower master _ => tower < 8 && 1 ≤ master && master ≤ 4
  | .semRead tower master sem _ => tower < 8 && 1 ≤ master && master ≤ 4 && sem < 32
  | .semWrite tower master sem _ _ => tower < 8 && 1 ≤ master && master ≤ 4 && sem < 32
  | .keyLoadLoad t _ => t < 2048
  | .keyLoadErase t _ => t < 2048
  | .keyDerived tower => tower < 8
  | .keyPrederive tower => tower < 8
  | .cipherGcmEnc t ring _ => t < 2048 && ring < 1048576
  | .cipherGcmDec t ring _ => t < 2048 && ring < 1048576
  | .cipherXtsEnc t ring _ => t < 2048 && ring < 1048576
  | .cipherXtsDec t ring _ => t < 2048 && ring < 1048576
  | .segRequestRx _ collisions => collisions ≤ 16
  | .segFrameRx _ collisions => collisions ≤ 16
  | .segLineCheck line _ => line < 3
  | .dictRequestRx rx => rx.wf
  | .linkScopedRequestRx rx => rx.wf
  | .dictResponseRx rx => rx.wf
  | .linkMgmtSend _ => true
  | .mctpMessageRx _ _ => true
  | .spdmGetVersion path _ => path < 3
  | .spdmGetCapabilities path _ => path < 3
  | .spdmUnsupported path _ => path < 3
  | .quote path _ _ => path < 3
  | .getLog path _ => path < 3
  | .getIdentity path _ => path < 3
  | .fwErase => true
  | .fwVerify => true
  | .fwPrefer => true
  | .fwCommitSvn => true
  | .fwRevokeKey key => key < 4
  | .fwChunk _ => true
  | .eventRingSetup t _ => t < 2048
  | .powerClose _ => true
  | .powerOpen _ => true
  | .domainClosed domain => domain < 36
  | .domainCloseDeadline domain => domain < 36
  | .domainOpened domain => domain < 36
  | .powerControl _ _ => true
  | .registerWrite fn _ width _ => fn < 2048 && width ≤ 64
  | .attachLinkLoss port => port < 8
  | .firmwareRestart => true
  | .managementAgentReset => true
  | .fwCommandDone => true
  | .i3cAddressAssignment kind target _ => kind < 3 && target < 128
  | .spdmChunking path _ => path < 3
  | .atsTranslationResponse t pasid _ _ _ => t < 2048 && pasid ≤ 1048576
  | .payloadReadReturn conn _ _ _ _ => conn < 16777216
  | .backingWritebackError conn _ => conn < 16777216
  | .plcaBeaconTimeout _ => true
  | .bridgeRetraining bridge => bridge < 10

end Sys2Proof
end

