-- ==== Sys2Proof/Safety.lean ====
section
/-! DEFINITION. What counts as a safe run: every step answers a next state, and no fatal fault holds (R32, R504, R729); and the
canonical form of the tables that the state is made of. -/
namespace Sys2Proof.Machine

/-- The package is not held by a fatal fault. -/
def State.sound (s : State) : Bool := !s.pkg.fatal

/-- A run: the states from `s` on that the step answers, at most `n` of them. -/
def runFrom : Nat → State → List State
  | 0, _ => []
  | n + 1, s =>
    match step s with
    | .next t => t :: runFrom n t
    | .fault _ => []
    | .refused _ => []

/-- A run of `n` steps is safe: no step faults or is refused, and every state it passes is sound. -/
def safeRun (n : Nat) (s : State) : Bool := (runFrom n s).length = n && (runFrom n s).all State.sound

/-- The tables of the state that hold one value per key stand in canonical form: package memory, the counters, both parameter
sets, the address handles and the extents. -/
def State.canonical (s : State) : Bool :=
  Memory.wf s.memory.mem && twfD 0 s.ro && risingFrom 0 s.dict.active.ints && twfD 0 s.dict.active.blobs &&
  risingFrom 0 s.dict.shadow.ints && twfD 0 s.dict.shadow.blobs && twfD {} s.handles && twfD {} s.memory.extents

/-! ### What no command changes -/

/-- What of the fuses may be blown later: a fuse counter rises and never falls, a revoked key stays revoked, and nothing else of
the fuses changes (R695, R696). -/
def Fuses.upTo (f g : Fuses) : Prop :=
  f.counter ≤ g.counter ∧ f.revoked &&& g.revoked = f.revoked ∧ g = { f with counter := g.counter, revoked := g.revoked }

/-- What every command keeps, from state `a` to state `s`: the part stays, fuses are only blown, the queue of waiting commands
stays, and tables in canonical form stay so. [DESIGN CHOICE, log 4] -/
structure State.Kept (a s : State) : Prop where
  part : s.pkg.part = a.pkg.part
  fuses : a.pkg.fuses.upTo s.pkg.fuses
  pending : s.pending = a.pending
  canon : a.canonical = true → s.canonical = true

/-! ### A packet on its way to its connection (R273) -/

/-- A packet is traced, and its route generation is looked up: the state then, and the table. -/
def State.routed (rx : Rx) (s : State) : State × Option ParamSet :=
  State.routeTables (portTower rx.port) (hdrGen rx.pkt) (s.trace (portTower rx.port) 0 2048 (bytesOf 24 rx.pkt.hdr))

/-- Steps 1 to 3 of R273 let a packet pass to its home tower: it is not expired, its route generation is known, it is for this
adapter, and its form is good. `d` is the state in which it arrives there, its ingress place free again. -/
abbrev PacketArrives (rx : Rx) (s d : State) : Prop :=
  (s.trace (portTower rx.port) 0 2048 (bytesOf 24 rx.pkt.hdr)).tagExpired rx.pkt = false ∧ (s.routed rx).2 ≠ none ∧
  (s.routed rx).1.isMine rx.pkt = true ∧ (s.routed rx).1.hasId = true ∧
  (takesPsn (hdrType rx.pkt) = true ∨ isControl (hdrType rx.pkt) = true) ∧ reservedOk rx.pkt = true ∧ shapeOk rx.pkt = true ∧
  d = (s.routed rx).1.freeIngress rx.port (hdrVc rx.pkt) rx.cls rx.pkt.len

/-- Step 4 of R273 lets a packet pass: its connection is cached and READY, of the incarnation and the peer the packet names, and
its tenant is neither under reset nor quiescing. -/
abbrev AtConnection (rx : Rx) (d : State) (x : Conn) : Prop :=
  d.conn? (hdrDst rx.pkt) = some x ∧ x.cache = .cached ∧ x.ctx.core.mode = .ready ∧ hdrDstInc rx.pkt = x.ctx.core.incarnation ∧
  hdrSrcAdapter rx.pkt = (d.handle x.ctx.core.handle.toNat).peerAdapter.toNat ∧
  (d.tenant x.ctx.core.tenant.toNat).reset = none ∧ (d.tenant x.ctx.core.tenant.toNat).quiesceAt = none

end Sys2Proof.Machine
end

