-- ==== Sys2Proof/Certificates/Slice0/Obligations.lean ====
section
/-! DEFINITION. The statements for the provers. -/
section
open Sys2Proof Sys2Proof.Machine

/-- Where the queue of waiting commands is c followed by rest, the step is exec of c on the state with rest as its
queue; where the queue is empty the step answers the state as it is. The queue and the idling are the model's choice
(log entry 1). A command list that decodes from no word leaves withFetchWord's state as it is: the table gives no
bits. -/
def Obligations.StepTakesTheFront : Prop :=
  (∀ (c : Instr) (rest : List Instr) (s : State), s.pending = c :: rest → step s = exec c { s with pending := rest }) ∧
  (∀ s : State, s.pending = [] → step s = .next s) ∧
  (∀ (s : State) (n w : Nat), s.withFetchWord n w = s)

/-- No command ends in a fault or a refusal: for every command, operands and state, exec answers a next state; and
every step answers one. Where a command's condition does not hold, that next state is the state as it was (the model's
choice, log entry 2). -/
def Obligations.EveryCommandCompletes : Prop :=
  (∀ (c : Instr) (s : State), ∃ t, exec c s = .next t) ∧
  (∀ s : State, ∃ t, step s = .next t)

/-- For every command in every state, where exec answers a next state: the part is the same; the fused counter has not
fallen, no revoked key is trusted again and no other fuse has changed (R695, R696), a package reset included; and the
queue of waiting commands is as it was (the queue is the model's, log entry 1). -/
def Obligations.CommandsKeepPartFusesAndQueue : Prop :=
  ∀ (c : Instr) (s t : State), exec c s = .next t →
    t.pkg.part = s.pkg.part ∧ s.pkg.fuses.counter ≤ t.pkg.fuses.counter ∧
    s.pkg.fuses.revoked &&& t.pkg.fuses.revoked = s.pkg.fuses.revoked ∧
    t.pkg.fuses = { s.pkg.fuses with counter := t.pkg.fuses.counter, revoked := t.pkg.fuses.revoked } ∧ t.pending = s.pending

/-- For every state in which package memory, the counters, both parameter sets, the address handles and the extents
stand in canonical form (keys strictly rising, no entry equal to what an absent key reads as; in the parameter sets'
integers keys strictly rising), the step answers a next state in which they do; the part is the same, the fuses are
only blown, and the queue is shorter by the command that the step took. The tables are the model's representation (log
entry 4). -/
def Obligations.EveryStepKeepsTheTables : Prop :=
  ∀ s : State, s.canonical = true → ∃ t, step s = .next t ∧ t.canonical = true ∧ t.pkg.part = s.pkg.part ∧
    s.pkg.fuses.upTo t.pkg.fuses ∧ t.pending = s.pending.tail

/-- State.reset is canonical (the model's tables, log entry 4); every integer parameter of either set reads its
default there, every blob byte zero, the set generation is 0 and no swap is armed; no byte of package memory is
listed. -/
def Obligations.ResetTables : Prop :=
  (State.reset.canonical = true ∧ State.reset.memory.mem = [] ∧ State.reset.dict.generation = 0 ∧ State.reset.dict.armed = none) ∧
  (∀ (part : Part) (p : Param) (i off n : Nat), State.reset.dict.active.int part p i = defaultOf part p i ∧
     State.reset.dict.shadow.int part p i = defaultOf part p i ∧
     State.reset.dict.active.blob p i off n = List.replicate n 0 ∧ State.reset.dict.shadow.blob p i off n = List.replicate n 0)

/-- In State.reset, and in the state after PACKAGE_RESET from every state, fabric time is 0 and the time state is
FREE_RUN. -/
def Obligations.TimeAtPackageReset : Prop :=
  (State.reset.time.now = 0 ∧ State.reset.time.mode = .freeRun) ∧
  (∀ s : State, ∃ t, exec .packageReset s = .next t ∧ t.time.now = 0 ∧ t.time.mode = .freeRun)

/-- Of two set generations, the first counts as newer exactly when their difference modulo 2^32 lies in 1 to 2^31 − 1.
For every tag g and time now, the distance d is (g − now mod 2^32) mod 2^32 read as an i32, so it lies in −2^31 to
2^31 − 1; the tag names now + d where that is no negative number; it is future when d > 0, due when −1,250,000,000 ≤ d
≤ 0, and expired when d < −1,250,000,000; and a tag of a time t at most 2^31 − 1 ticks ahead of now names t. -/
def Obligations.SerialOrderAndTags : Prop :=
  (∀ a b : W32, serialNewer a b = true ↔ 1 ≤ (a.toNat + (2 ^ 32 - b.toNat)) % 2 ^ 32 ∧ (a.toNat + (2 ^ 32 - b.toNat)) % 2 ^ 32 ≤ 2 ^ 31 - 1) ∧
  (∀ (now : Nat) (g : W32), (tagDistance now g = if (g.toNat + 2 ^ 32 - now % 2 ^ 32) % 2 ^ 32 < 2 ^ 31
         then (((g.toNat + 2 ^ 32 - now % 2 ^ 32) % 2 ^ 32 : Nat) : Int)
         else (((g.toNat + 2 ^ 32 - now % 2 ^ 32) % 2 ^ 32 : Nat) : Int) - 2 ^ 32) ∧
     -2 ^ 31 ≤ tagDistance now g ∧ tagDistance now g ≤ 2 ^ 31 - 1 ∧
     ((0 : Int) ≤ now + tagDistance now g → (tagTime now g : Int) = now + tagDistance now g)) ∧
  (∀ (now : Nat) (g : W32), (tagState now g = .future ↔ tagDistance now g > 0) ∧
     (tagState now g = .due ↔ -1250000000 ≤ tagDistance now g ∧ tagDistance now g ≤ 0) ∧
     (tagState now g = .expired ↔ tagDistance now g < -1250000000)) ∧
  (∀ now ahead : Nat, ahead ≤ 2 ^ 31 - 1 → tagTime now (BitVec.ofNat 32 (now + ahead)) = now + ahead)

/-- Reading back the image that the manual lays out gives the record again, with every field at every value: a context
of 2,048 bytes with its 64 path records (R184, R185, R296, R329, R330), an address handle (R210), what REALM_CTX shows
of a realm (R225), the words of a ring's image (R134), and an accumulator (R403); a context's image is 2,048 bytes
long. No two records share an image. -/
def Obligations.RecordEncodings : Prop :=
  (∀ c : Ctx, c.paths.length = 64 → Ctx.ofBytes c.bytes = c ∧ c.bytes.length = 2048) ∧
  (∀ h : Handle, Handle.ofWord h.word = h) ∧
  (∀ r : Realm, Realm.ofWord r.word = { r with destroying := false, changeAt := 0 }) ∧
  (∀ m : RingImage, RingImage.ofWord (pack 512 m.rows) = m) ∧
  (∀ a : Acc, Acc.ofWord a.word = a)

/-- Where the tables of package memory are canonical: a write that is not answered with an error makes the bytes it
writes read as written, and every other byte of memory read as it did, also where the write first zeroes pending
blocks (R497); it clears the poison of the cells it writes whole and of no other (R503); a read of the range then
returns those bytes; and besides memory and the counters nothing changes. A write is answered with an error exactly
when it writes part of a cell that is poisoned and not pending. -/
def Obligations.PackageMemory : Prop :=
  (∀ (s t : State) (a : Nat) (bytes : Bytes), Memory.wf s.memory.mem = true → twfD {} s.memory.extents = true → s.memWrite a bytes = some t →
     (∀ x, t.memByte x = if a ≤ x ∧ x < a + bytes.length then bytes.getD (x - a) 0 else s.memByte x) ∧
     (∀ c, t.cellPoisoned c = (s.cellPoisoned c && !(a ≤ c * 64 && c * 64 + 64 ≤ a + bytes.length))) ∧
     t.memRead a bytes.length = some bytes ∧ t = { s with memory := t.memory, ro := t.ro }) ∧
  (∀ (s : State) (a : Nat) (bytes : Bytes), Memory.wf s.memory.mem = true → twfD {} s.memory.extents = true →
     (s.memWrite a bytes = none ↔ ∃ c ∈ cellsOf a bytes.length, s.cellPoisoned c = true ∧ ¬(a ≤ c * 64 ∧ c * 64 + 64 ≤ a + bytes.length)))

/-- A counter that rises by n reads its old value plus n modulo its width, and no other counter changes. An event
whose ring is not running, or full, sets the pending LOST and raises D20.0200 of the tenant; otherwise its 32 bytes
(R713) are written at BASE + 32 × (n mod 2^LOG2_SIZE), n rises, LOST is cleared, and vector 0 is raised where the
descriptor asks for it and no notice is outstanding; where the write fails, the ring is in ERROR and the fault stands
in the tenant's log. An entry of the package log is the newest of at most 1,024, with the count one more, and a FATAL
one is kept; one of a tenant's log is the newest of 64. -/
def Obligations.CountersEventsAndFaults : Prop :=
  (∀ (s : State) (p : Param) (i n : Nat), twfD 0 s.ro = true →
     (s.count p i n).roVal p i = (s.roVal p i + n) % 256 ^ p.ty.maxLen ∧
     (∀ q j, q.key j ≠ p.key i → (s.count p i n).roVal q j = s.roVal q j) ∧ s.count p i n = { s with ro := (s.count p i n).ro }) ∧
  (∀ (s : State) (t cls reason object loc detail : Nat), (s.tenant t).events.mode ≠ .running ∨
       serialDiff (s.tenant t).events.produced (s.tenant t).events.consumed ≥ 2 ^ (s.eventDesc t).log2 →
     s.event t cls reason object loc detail = { s with
       tenants := tput {} t { s.tenant t with events := { (s.tenant t).events with lost := true } } s.tenants
       ro := tput 0 (d20_0200.key t) ((s.roVal d20_0200 t + 1) % 4294967296) s.ro }) ∧
  (∀ (s u : State) (t cls reason object loc detail : Nat) (d : EventDesc) (ev : EventRing) (e : BitVec 256), (s.tenant t).events = ev → ev.mode = .running →
     s.eventDesc t = d → serialDiff ev.produced ev.consumed < 2 ^ d.log2 →
     e = pack 256 [(8, cls), (8, reason), (16, ev.produced.toNat), (32, object), (64, s.now), (64, loc), (32, detail),
       (8, if ev.lost then 1 else 0)] →
     s.placeWrite t ⟨d.space, d.port, d.pasid⟩ (d.base + 32 * (ev.produced.toNat % 2 ^ d.log2)) (bytesOf 32 e) = some u →
     s.event t cls reason object loc detail =
       if d.msix = true ∧ ev.notified = false then
         (u.setTenant t { u.tenant t with events := { ev with produced := ev.produced + 1, lost := false, notified := true } }).raiseMsix t 0
       else u.setTenant t { u.tenant t with events := { ev with produced := ev.produced + 1, lost := false, notified := ev.notified } }) ∧
  (∀ (s : State) (t cls reason object loc detail : Nat) (d : EventDesc) (ev : EventRing), (s.tenant t).events = ev → ev.mode = .running →
     s.eventDesc t = d → serialDiff ev.produced ev.consumed < 2 ^ d.log2 →
     s.placeWrite t ⟨d.space, d.port, d.pasid⟩ (d.base + 32 * (ev.produced.toNat % 2 ^ d.log2))
       (bytesOf 32 (eventEntry cls reason ev.produced object s.now loc detail ev.lost)) = none →
     s.event t cls reason object loc detail = (s.setTenant t { s.tenant t with events := { ev with mode := .error } }).logTenantEntry t
       (faultEntry s.now 0 .tenant .ring (some t) 0xFFFFF (d.base + 32 * (ev.produced.toNat % 2 ^ d.log2)) 0)) ∧
  (∀ (s : State) (sev : Severity) (e : W512), (s.logPackageEntry sev e).faults.log = (e :: s.faults.log).take 1024 ∧
     (s.logPackageEntry sev e).faults.count = s.faults.count + 1 ∧
     (s.logPackageEntry sev e).faults.lastFatal = (if sev = .fatal then e else s.faults.lastFatal) ∧
     s.logPackageEntry sev e = { s with faults := (s.logPackageEntry sev e).faults }) ∧
  (∀ (s : State) (t : Nat) (e : W512), twfD {} s.tenants = true →
     ((s.logTenantEntry t e).tenant t).log = (e :: (s.tenant t).log).take 64 ∧
     ((s.logTenantEntry t e).tenant t).logCount = (s.tenant t).logCount + 1 ∧
     (∀ n, n ≠ t → (s.logTenantEntry t e).tenant n = s.tenant n) ∧ (s.logTenantEntry t e).faults = s.faults)

/-- PACKAGE_RESET leaves every piece of state at its reset value but the part, its fuses, its flash, the kept FATAL
entry, the levels of PERST_N, the log of what was sent, the free counter and the queue, and lets the output pins go. A
release latches the straps, draws a BOOT_ID that is not 0 and, unless STRAP_TEST is high, boots the preferred slot
when it passes the checks, else the other one, else enters recovery (after a supply fault the release is
SUPPLY_RESTORED). SUPPLY_FAULT keeps a FATAL entry of source POWER while VDD_IO stays, and holds the package in reset.
JTAG_TRST holds the JTAG port in reset. Every clause gives the whole next state, so everything it does not name is
unchanged. -/
def Obligations.PackageResetAndRelease : Prop :=
  (∀ s : State, exec .packageReset s = .next { State.reset with
     pkg := { part := s.pkg.part, fuses := s.pkg.fuses, phase := .held, pins := { jtagReset := s.pkg.pins.jtagReset } }
     hosts := s.hosts.filterMap (fun e => if e.2.perst then none else some (e.1, { perst := false }))
     mgmt := { flash := s.mgmt.flash }
     faults := { lastFatal := s.faults.lastFatal }
     out := s.out ++ (if s.time.ppsOut then [.pin pinPpsOut false] else []) ++
       (if s.pkg.pins.thermTrip then [.pin pinThermTrip true] else []) ++
       (if s.pkg.pins.faultN then [.pin pinFault true] else [])
     free := s.free
     pending := s.pending }) ∧
  (∀ (straps : BitVec 4) (s : State), s.pkg.phase = .held → flag 3 straps = true →
     exec (.packageResetRelease straps) s = .next { s with
       free := s.free + 1
       pkg := { s.pkg with phase := .booting, pins := { s.pkg.pins with
         clkH0 := flag 0 straps, clkH1 := flag 1 straps, sscOff := flag 2 straps, test := true } }
       mgmt := { s.mgmt with bootId := bootIdOf (Config.freeWord32 s.free) } }) ∧
  (∀ (straps : BitVec 4) (s : State), s.pkg.phase = .held → flag 3 straps = false →
     ∀ r : State, r = { s with
       free := s.free + 1
       pkg := { s.pkg with phase := .booting, pins := { s.pkg.pins with
         clkH0 := flag 0 straps, clkH1 := flag 1 straps, sscOff := flag 2 straps, test := false } }
       mgmt := { s.mgmt with bootId := bootIdOf (Config.freeWord32 s.free) } } →
     (r.checkSlot r.prefersB = 2 → exec (.packageResetRelease straps) s = .next (r.runSlot r.prefersB 0)) ∧
     (r.checkSlot r.prefersB ≠ 2 → r.checkSlot (!r.prefersB) = 2 →
       exec (.packageResetRelease straps) s = .next (r.runSlot (!r.prefersB) 1)) ∧
     (r.checkSlot r.prefersB ≠ 2 → r.checkSlot (!r.prefersB) ≠ 2 →
       exec (.packageResetRelease straps) s = .next { r with
         pkg := { r.pkg with phase := .recovery }, mgmt := { r.mgmt with bootStatus := 2 } })) ∧
  (∀ (straps : BitVec 4) (s : State), s.pkg.phase = .supplyHold →
     ∃ t : State, exec (.supplyRestored straps) s = .next t ∧
       exec (.packageResetRelease straps) { s with pkg := { s.pkg with phase := .held } } = .next t) ∧
  (∀ s : State, s.timeRuns = true →
     ∃ t : State, exec .packageReset { s with faults := { s.faults with
         lastFatal := faultEntry s.now (location 7 3 0 0 0 0 0 0) .fatal .power none 0 0 0 } } = .next t ∧
       exec (.supplyFault true) s = .next { t with pkg := { t.pkg with phase := .supplyHold } }) ∧
  (∀ s : State, s.timeRuns = true →
     ∃ t : State, exec .packageReset s = .next t ∧ ∃ kept : W512,
       exec (.supplyFault false) s = .next { t with
         pkg := { t.pkg with phase := .supplyHold }, free := s.free + 8, faults := { t.faults with lastFatal := kept } }) ∧
  (∀ s : State, exec .jtagTrst s = .next { s with pkg := { s.pkg with pins := { s.pkg.pins with jtagReset := true } } })

/-- While firmware boots and STRAP_TEST is low, FUNCTIONS_ENABLE stores the trained present bridges in D1.0020; with
every present bridge trained it enables both PFs, lets the ports and attach ports start and serves the segment, and
otherwise it stops in the bridge failure of R31; in recovery it stores the bridges alone. A fatal bridge error of a
present bridge is the fatal fault of R32 at the bridge's location; a retraining is logged with severity PACKAGE. A
logic temperature of 115 degrees or more, or a stack temperature of 105 or more, is a fatal fault of source THERMAL,
and THERMTRIP_N goes low once. -/
def Obligations.FunctionsBridgesAndTrip : Prop :=
  (∀ (trained : BitVec 10) (s : State), s.pkg.phase = .booting → s.pkg.pins.test = false →
     (∀ b ∈ s.pkg.part.bridges, flag b trained = true) →
     exec (.functionsEnable trained) s = .next
       (s.setRo d1_0020 0 ((s.pkg.part.bridges.filter (fun b => flag b trained)).foldl (fun a b => a + 2 ^ b) 0)).enableAll) ∧
  (∀ (trained : BitVec 10) (s : State), s.pkg.phase = .booting → s.pkg.pins.test = false →
     (∃ b ∈ s.pkg.part.bridges, flag b trained = false) →
     exec (.functionsEnable trained) s = .next { s with
       pkg := { s.pkg with phase := .bridgeFail }
       ro := (s.setRo d1_0020 0 ((s.pkg.part.bridges.filter (fun b => flag b trained)).foldl (fun a b => a + 2 ^ b) 0)).ro }) ∧
  (∀ (trained : BitVec 10) (s : State), s.pkg.phase = .recovery →
     exec (.functionsEnable trained) s = .next
       (s.setRo d1_0020 0 ((s.pkg.part.bridges.filter (fun b => flag b trained)).foldl (fun a b => a + 2 ^ b) 0))) ∧
  (∀ (bridge : Nat) (s : State), s.pkg.phase = .running → bridge ∈ s.pkg.part.bridges →
     exec (.bridgeFatal bridge) s = .next (s.fatalFault .bridge (location 4 2 0 0 bridge 0 0 0) bridge 0 0)) ∧
  (∀ (bridge : Nat) (s : State), s.pkg.phase = .running → bridge ∈ s.pkg.part.bridges →
     exec (.bridgeRetraining bridge) s = .next (s.logFault .package .bridge (location 4 2 0 0 bridge 0 0 0) none bridge 0 0)) ∧
  (∀ (tower : Nat) (stack : Bool) (temp : Int) (s : State), tower < s.towers → (if stack then 840 else 920) ≤ temp → s.timeRuns = true →
     ∀ r : State, r = s.fatalFault .thermal (if stack then sliceLocation tower 0 else location 5 0 tower 0 0 0 0 0) 0 0 (ofSigned 32 temp) →
     (r.pkg.pins.thermTrip = true → exec (.thermalTrip tower stack temp) s = .next r) ∧
     (r.pkg.pins.thermTrip = false → exec (.thermalTrip tower stack temp) s = .next { r with
       pkg := { r.pkg with pins := { r.pkg.pins with thermTrip := true } }, out := r.out ++ [.pin pinThermTrip false] }))

/-- A CLOSE that names no domain has result 1; of a domain that is not OPEN, 2; of a domain with a spire window on its
ports, 4; of a tower in use, 3; otherwise the domain is CLOSING from now with its deadline (D20.0063 when the command
gives 0), its event is written and the result is 0. An OPEN of a CLOSING domain makes it OPEN, of a CLOSED one
OPENING, of another has result 2, of none result 1. -/
def Obligations.PowerDomainCommands : Prop :=
  (∀ (cmd : Bytes) (s : State), pcOp cmd = 1 → s.domainOf (pcCode cmd) = none →
     exec (.powerClose cmd) s = .next { s with power := { s.power with result := 1 } }) ∧
  (∀ (cmd : Bytes) (d : Nat) (s : State), pcOp cmd = 1 → s.domainOf (pcCode cmd) = some d →
     ((s.domain d).mode ≠ .open_ → exec (.powerClose cmd) s = .next { s with power := { s.power with result := 2 } }) ∧
     ((s.domain d).mode = .open_ → s.domainSpire d = true →
       exec (.powerClose cmd) s = .next { s with power := { s.power with result := 4 } }) ∧
     ((s.domain d).mode = .open_ → s.domainSpire d = false → 24 ≤ d → d < 32 → s.towerInUse (d - 24) = true →
       exec (.powerClose cmd) s = .next { s with power := { s.power with result := 3 } }) ∧
     ((s.domain d).mode = .open_ → s.domainSpire d = false → ¬ (24 ≤ d ∧ d < 32 ∧ s.towerInUse (d - 24) = true) →
       ∃ t : State, exec (.powerClose cmd) s = .next { t with power := { t.power with result := 0 } } ∧
         ∃ limit : Nat, limit = (if pcDeadline cmd = 0 then s.par d20_0063 0 else pcDeadline cmd) ∧
         t = ({ s with power := { s.power with domains := tput {} d ⟨.closing, s.now, limit⟩ s.power.domains } } : State).packageEvent
               0x0B 1 d (s.domainCode d).toNat 0)) ∧
  (∀ (cmd : Bytes) (s : State), pcOp cmd = 2 → s.domainOf (pcCode cmd) = none →
     exec (.powerOpen cmd) s = .next { s with power := { s.power with result := 1 } }) ∧
  (∀ (cmd : Bytes) (d : Nat) (s : State), pcOp cmd = 2 → s.domainOf (pcCode cmd) = some d →
     (((s.domain d).mode = .open_ ∨ (s.domain d).mode = .opening) →
       exec (.powerOpen cmd) s = .next { s with power := { s.power with result := 2 } }) ∧
     ((s.domain d).mode = .closing →
       ∃ t : State, exec (.powerOpen cmd) s = .next { t with power := { t.power with result := 0 } } ∧
         t = ({ s with power := { s.power with domains := tput {} d {} s.power.domains } } : State).packageEvent
             0x0B 3 d (s.domainCode d).toNat 0) ∧
     ((s.domain d).mode = .closed →
       ∃ (t : State) (reason : Nat), exec (.powerOpen cmd) s = .next { t with power := { t.power with result := 0 } } ∧
         t = ({ s with free := s.free + 1, power := { s.power with domains := tput {} d ⟨.opening, s.now, 0⟩ s.power.domains } } : State).packageEvent
             0x0B reason d (s.domainCode d).toNat 0))

/-- A closing domain in which no started operation remains is CLOSED. At its deadline what still runs in it is
abandoned, it closes, and a PACKAGE fault of source POWER is logged at its location. An OPENING domain whose open time
has passed is OPEN and wakes. Each control period sets the package level P by the one rule of R727, counts a throttled
period, takes every tower's temperatures, and writes an event for each tower whose level changed. -/
def Obligations.PowerDomainProgress : Prop :=
  (∀ (d : Nat) (s : State), (s.domain d).mode = .closing → s.domainBusy d = false →
     ∀ a b : State,
     a = (({ s with power := { s.power with domains := tput {} d { mode := .closed, since := s.now } s.power.domains } } : State).packageEvent
       0x0B 2 d (s.domainCode d).toNat 0).bump d20_0102 0 →
     (domainTower d = none → exec (.domainClosed d) s = .next a) ∧
     (∀ k, domainTower d = some k →
       b = (if holdsCupola d k then a.dropBays k else a) →
       ∃ t : State, exec (.domainClosed d) s = .next t ∧
         t = (if holdsLanes d k then State.settlePorts else id)
           (if holdsAttach d k && (b.attachPort k).mode ≠ .down then b.attachTo k .down 0 0 else b))) ∧
  (∀ (d : Nat) (s : State), (s.domain d).mode = .closing → (s.domain d).since + (s.domain d).deadline ≤ s.now →
     ∀ a b : State, a = (s.domainEntries d).foldl State.powerDown s →
     b = (a.domainResponses d).foldl (fun s e => s.voidMsg e.1 e.2 true .poweredDown 0) a →
     exec (.domainCloseDeadline d) s = .next
       ((((b.cupola.input.filter (fun h => holdsCupola d h.tower)).foldl State.giveUpHold b).closeDomain d).logFault
         .package .power (s.domainCode d) none 0 0 0)) ∧
  (∀ (d : Nat) (s : State), (s.domain d).mode = .opening → (s.domain d).since + openTime d ≤ s.now →
     ∀ a : State, a = ({ s with power := { s.power with domains := tput {} d {} s.power.domains } } : State).packageEvent
       0x0B 3 d (s.domainCode d).toNat 0 →
     (domainTower d = none → exec (.domainOpened d) s = .next a) ∧
     (∀ k, domainTower d = some k →
       exec (.domainOpened d) s = .next (if holdsAttach d k then a.startAttach k else a).settlePorts)) ∧
  (∀ (power : Nat) (temps : List (Int × Int)) (s : State), s.timeRuns = true → s.power.lastControl + s.par d20_0071 0 ≤ s.now →
     ∀ (level : Nat) (a b : State),
     level = (if (s.par d20_0070 0 : Int) < power then min 7 (s.power.level + 1)
       else if (power : Int) < s.par d20_0070 0 - s.par d20_0072 0 then s.power.level - 1 else s.power.level) →
     a = { s with power := { s.power with level := level, power := power % 65536, lastControl := s.now } } →
     b = (if level = 0 then a else a.bump d20_0100 0) →
     exec (.powerControl power temps) s = .next
       (((temps.take s.towers).zipIdx.foldl (fun s e => s.measureTower e.2 e.1.1 e.1.2) b).throttleEvents ((upTo s.towers).map s.throttle)))

/-- PERST_N low acts as link loss when the link is up and holds it down; high lets the port train. A trained link is
up with its rate and width, bit 7 of the width and an event when it is low. Link loss clears VF Enable and resets,
with cause 3, the PF (by drain) and every enabled VF (by squash), and their MSI-X tables. An FLR of an enabled
function resets it with cause 1; of PF 0 it ends COMPAT_HALT's halt first; of a PF it also clears VF Enable, whose
tenants record cause 2. Setting VF Enable enables the VFs' functions; clearing it resets them with cause 2. D3hot
shuts each ring of the function down. -/
def Obligations.HostPortsAndFunctions : Prop :=
  (∀ (h : Nat) (s : State), h < 2 → (s.host h).perst = false →
     ((s.host h).linkUp = false → exec (.perstAssert h) s = .next (s.setHost h { s.host h with perst := true })) ∧
     ((s.host h).linkUp = true → ∃ t : State, exec (.hostLinkDown h) s = .next t ∧
       exec (.perstAssert h) s = .next (t.setHost h { t.host h with perst := true }))) ∧
  (∀ (h : Nat) (s : State), h < 2 → exec (.perstDeassert h) s = .next (s.setHost h { s.host h with perst := false })) ∧
  (∀ (h rate width : Nat) (s : State), h < 2 → (s.host h).perst = false → (s.host h).linkUp = false →
     1 ≤ rate → rate ≤ 5 → width ∈ [1, 2, 4, 8, 16] → s.timeRuns = true → s.pkg.pins.test = false →
     (3 ≤ rate → 4 ≤ width → exec (.hostLinkTrained h rate width) s = .next (s.setHost h { s.host h with
       linkUp := true, rate := BitVec.ofNat 8 rate, width := BitVec.ofNat 8 width })) ∧
     (rate < 3 ∨ width < 4 → exec (.hostLinkTrained h rate width) s = .next ((s.setHost h { s.host h with
       linkUp := true, rate := BitVec.ofNat 8 rate, width := BitVec.ofNat 8 (width + 128) }).event (1024 * h) 5 2 h 0 rate))) ∧
  (∀ (h : Nat) (s : State), h < 2 → (s.host h).linkUp = true →
     ∀ a b : State,
     a = (s.vfTenants h).foldl (fun s t => s.startReset t 3 true)
       ((s.setHost h { s.host h with vfEnable := false, numVfs := 0 }).startReset (1024 * h) 3 false) →
     b = (1024 * h :: s.vfTenants h).foldl (fun s t => s.resetMsix t) a →
     exec (.hostLinkDown h) s = .next (b.setHost h { perst := (b.host h).perst })) ∧
  (∀ (t : Nat) (s : State), (s.tenant t).mode ≠ .disabled →
     ∀ a b : State, a = (((if t = 0 then s.endHalt else s).startReset t 1 false).resetMsix t) →
     b = (a.vfTenants (tenantHost t)).foldl (fun s v => (s.startReset v 2 true).resetMsix v)
       (a.setHost (tenantHost t) { a.host (tenantHost t) with vfEnable := false, numVfs := 0 }) →
     (t ≠ 1024 * tenantHost t → exec (.flr t) s = .next a) ∧
     (t = 1024 * tenantHost t → exec (.flr t) s = .next
       (b.setHost (tenantHost t) { b.host (tenantHost t) with pasid := false, timeout := 20000000 }))) ∧
  (∀ (h n : Nat) (s : State), h < 2 → (s.host h).linkUp = true → s.pkg.phase = .running → (s.host h).vfEnable = false → n ≤ 1023 →
     ∀ a b : State, a = s.setHost h { s.host h with vfEnable := true, numVfs := n } →
     b = (if a.compatHalt then (a.setLive d4_8001 0 0).logFault .package .config 0 none 0 0 0 else a) →
     exec (.vfEnableSet h n) s = .next ((b.vfTenants h).foldl (fun s t => s.enableTenant t) b)) ∧
  (∀ (h : Nat) (s : State), h < 2 →
     exec (.vfEnableClear h) s = .next ((s.vfTenants h).foldl (fun s t => s.startReset t 2 true)
       (s.setHost h { s.host h with vfEnable := false, numVfs := 0 }))) ∧
  (∀ (t : Nat) (s : State),
     exec (.d3hotEntry t) s = .next ((s.tenantRings t).foldl (fun s e => s.shutdownRing e.1) s))

/-- A translation answer that allows reading replaces what is held for the page; every wait whose access it allows
goes on, every other one becomes a page request. A successful PRI answer asks for the translation again; a failed one,
and the time D14.0050, ends the wait with TRANSLATION_FAULT and counts it. An invalidation whose translations no
access uses removes them, is answered and counted, and waits otherwise. A window access that no region allows, or
whose target its tenant may not reach, is counted, and a read is also answered with an error and reported; an allowed
write is placed and remembered for the flushing read on its attach port, an allowed read flushes first and answers the
bytes. -/
def Obligations.TranslationAndWindow : Prop :=
  (∀ (t pasid page : Nat) (read write : Bool) (s : State) (ws : List AtsWait),
     ws = (s.pageWaits t pasid page).filter (fun w => w.pri.isNone) → ws ≠ [] →
     (read = false → exec (.atsTranslationResponse t pasid page read write) s = .next (ws.foldl (fun s w => s.requestPage w) s)) ∧
     (read = true → exec (.atsTranslationResponse t pasid page read write) s = .next
       (ws.foldl (fun s w => if write || !w.write then s.wakeEntry w else s.requestPage w)
         { s with ats := s.ats.filter (fun (x : Translation) => !(x.fn = t && x.pasid = pasid && x.page = page)) ++
           [⟨t, pasid, page, write⟩] }))) ∧
  (∀ (t pasid page : Nat) (s : State) (ws : List AtsWait), ws = (s.pageWaits t pasid page).filter (fun w => w.pri.isSome) →
     exec (.priResponse t pasid page true) s = .next (ws.foldl (fun s w =>
       { s with atsWait := s.atsWait.map (fun (x : AtsWait) =>
                  if x.fn = t && x.pasid = pasid && x.page = page then (if x = w then { x with pri := none } else x) else x)
                out := s.out ++ [.ats t 0 page] }) s) ∧
     exec (.priResponse t pasid page false) s = .next (ws.foldl (fun s w =>
       (({ s with atsWait := s.atsWait.erase w } : State).bump d14_0105 (tenantHost w.fn)).failLocal w.fn w.ref rsTranslation) s)) ∧
  (∀ (t pasid page : Nat) (s : State),
     exec (.priTimeout t pasid page) s = .next (((s.pageWaits t pasid page).filter (fun w =>
         w.pri.any (fun a => a + s.par d14_0050 0 ≤ s.now))).foldl (fun s w =>
       (({ s with atsWait := s.atsWait.erase w } : State).bump d14_0105 (tenantHost w.fn)).failLocal w.fn w.ref rsTranslation) s)) ∧
  (∀ (t pasid first pages : Nat) (s : State) (hit : Translation → Bool),
     hit = (fun (x : Translation) => x.fn = t && x.pasid = pasid && first ≤ x.page && x.page < first + pages) →
     (∀ x ∈ s.ats, hit x = true → s.pageInUse t pasid x.page = false) →
     exec (.atsInvalidate t pasid first pages) s = .next
       (({ s with ats := s.ats.filter (fun x => !hit x), out := s.out ++ [.ats t 2 first] } : State).bump d14_0103 (tenantHost t))) ∧
  (∀ (host reqId offset : Nat) (data : Bytes) (s : State), (s.host host).linkUp = true → s.pkg.phase = .running →
     (s.regionFor host reqId offset data.length true = none →
       exec (.windowWrite host reqId offset data) s = .next (s.bump d14_0100 host)) ∧
     (∀ r, s.regionFor host reqId offset data.length true = some r →
       (s.placeOk r.tenant r.place (r.addr offset) data.length true = false →
         exec (.windowWrite host reqId offset data) s = .next (s.bump d14_0100 host)) ∧
       (s.placeOk r.tenant r.place (r.addr offset) data.length true = true →
         (s.placeWrite r.tenant r.place (r.addr offset) data = none → exec (.windowWrite host reqId offset data) s = .next s) ∧
         (∀ t, s.placeWrite r.tenant r.place (r.addr offset) data = some t →
           (r.space ≠ 2 → exec (.windowWrite host reqId offset data) s = .next t) ∧
           (r.space = 2 → exec (.windowWrite host reqId offset data) s = .next (t.setHost host { t.host host with
             winAttach := tset r.port (r.addr offset + (data.length - min 4 data.length)) (t.host host).winAttach
             winCross := if r.cross && !(t.host host).winCross.contains r.port then (t.host host).winCross ++ [r.port]
                         else (t.host host).winCross })))))) ∧
  (∀ (host reqId offset len : Nat) (ok : Bool) (ans : MemAns) (s : State), (s.host host).linkUp = true → s.pkg.phase = .running →
     ∀ refused : State, refused = ((s.bump d14_0101 host).aer (1024 * host) .windowRead).emit (.readData (1024 * host) [] true) →
     (s.regionFor host reqId offset len false = none → exec (.windowRead host reqId offset len ok ans) s = .next refused) ∧
     (∀ r, s.regionFor host reqId offset len false = some r →
       (s.placeOk r.tenant r.place (r.addr offset) len false = false →
         exec (.windowRead host reqId offset len ok ans) s = .next refused) ∧
       (s.placeOk r.tenant r.place (r.addr offset) len false = true →
         ∀ f : State, f = s.flushWindow host r (r.addr offset) →
         ((s.host host).winAttach ≠ [] → ok = false →
           exec (.windowRead host reqId offset len ok ans) s = .next (f.emit (.readData (1024 * host) [] true))) ∧
         (((s.host host).winAttach = [] ∨ ok = true) →
           ∀ g : State, g = (if r.space = 2 then f.emit (.memRead 2 r.port 0 (r.addr offset) len) else f) →
           (∀ b, g.placeRead r.tenant r.place (r.addr offset) len ans = some b →
             exec (.windowRead host reqId offset len ok ans) s = .next (g.emit (.readData (1024 * host) b false))) ∧
           (g.placeRead r.tenant r.place (r.addr offset) len ans = none →
             exec (.windowRead host reqId offset len ok ans) s =
               .next ((g.readFailed r.tenant r.place (r.addr offset) len).emit (.readData (1024 * host) [] true)))))))

/-- A training attach port comes up native when its policy allows and the partner answers, else as CXL when its policy
allows, else in FAULT, with its width, its bytes up to 2^40 and its event. A port in FAULT whose retry time has passed
trains again and is counted; a lost link goes DOWN, trains again and is counted. An accelerator's access below 2^41
reaches package memory, up to 0xA0000000000 the attach memory of another port, above it the doorbell pages, which need
a grant; any other access is refused and counted, and a read, or a write on the native link, is answered with an
error. -/
def Obligations.AttachPortsAndAperture : Prop :=
  (∀ (port : Nat) (native cxl : Bool) (width bytes : Nat) (s : State), (s.attachPort port).mode = .training →
     (s.par d14_0040 port ≠ 2 → native = true →
       exec (.attachTrain port native cxl width bytes) s = .next (s.attachTo port .nativeUp width (min bytes 1099511627776))) ∧
     ((s.par d14_0040 port = 2 ∨ native = false) → s.par d14_0040 port ≠ 1 → cxl = true →
       exec (.attachTrain port native cxl width bytes) s = .next (s.attachTo port .cxlUp width (min bytes 1099511627776))) ∧
     ((s.par d14_0040 port = 2 ∨ native = false) → (s.par d14_0040 port = 1 ∨ cxl = false) →
       exec (.attachTrain port native cxl width bytes) s = .next (s.attachTo port .fault 0 0))) ∧
  (∀ (port : Nat) (s : State), (s.attachPort port).mode = .fault → (s.attachPort port).since + s.par d14_0045 port ≤ s.now →
     s.attachEnabled port = true →
     exec (.attachFaultRetry port) s = .next ((s.attachTo port .training 0 0).bump d14_0107 port)) ∧
  (∀ (port : Nat) (s : State), s.attachUp port = true →
     exec (.attachLinkLoss port) s = .next (((s.attachTo port .down 0 0).startAttach port).bump d14_0107 port)) ∧
  (∀ (port addr : Nat) (write : Bool) (len : Nat) (data : Bytes) (ans : MemAns) (s : State) (n : Nat),
     s.attachUp port = true → n = (if write then data.length else len) → n ≠ 0 →
     (addr + n ≤ 0x20000000000 →
       (s.accelMem port addr n write = false → exec (.apertureAccess port addr write len data ans) s = .next (s.refuseAperture port write)) ∧
       (s.accelMem port addr n write = true → s.placeClosed ⟨1, 0, 0⟩ addr n = true →
         exec (.apertureAccess port addr write len data ans) s = .next (s.accelError port write)) ∧
       (s.accelMem port addr n write = true → s.placeClosed ⟨1, 0, 0⟩ addr n = false →
         (write = true → exec (.apertureAccess port addr write len data ans) s =
           .next ((s.memWrite addr data).getD (s.accelError port true))) ∧
         (write = false → exec (.apertureAccess port addr write len data ans) s =
           .next (match s.memRead addr n with
             | some b => s.emit (.readData (4096 + port) b false)
             | none => (s.countPoison ⟨1, 0, 0⟩ addr n).emit (.readData (4096 + port) [] true))))) ∧
     (0x20000000000 ≤ addr → addr + n ≤ 0xA0000000000 → addr / 0x10000000000 = (addr + n - 1) / 0x10000000000 →
       exec (.apertureAccess port addr write len data ans) s =
         .next (s.accessPeer port (addr / 0x10000000000 - 2) (addr % 0x10000000000) write n data ans)) ∧
     (0xA0000000000 ≤ addr → addr + n ≤ 0xA0000000000 + 4096 * 2048 → addr / 4096 = (addr + n - 1) / 4096 →
       ∀ t, t = (addr - 0xA0000000000) / 4096 →
       (s.doorbellGranted t (.attach port) = false → exec (.apertureAccess port addr write len data ans) s = .next (s.refuseAperture port write)) ∧
       (s.doorbellGranted t (.attach port) = true → write = true → exec (.apertureAccess port addr write len data ans) s =
         .next (s.ringDoorbell t (BitVec.ofNat 64 (leNat data)) (if addr % 8 = 0 then 8 * n else 0) (.attach port))) ∧
       (s.doorbellGranted t (.attach port) = true → write = false → exec (.apertureAccess port addr write len data ans) s =
         .next (s.emit (.readData (4096 + port) (List.replicate n 0) false)))) ∧
     (0x20000000000 < addr + n → addr < 0x20000000000 →
       exec (.apertureAccess port addr write len data ans) s = .next (s.refuseAperture port write)) ∧
     (0xA0000000000 + 4096 * 2048 < addr + n → 0xA0000000000 ≤ addr →
       exec (.apertureAccess port addr write len data ans) s = .next (s.refuseAperture port write)))

/-- On a port up in fabric mode, a SYNC leaves at the interval with an ANNOUNCE after every eighth and is remembered
until its ECHO; a symbol of another TYPE or domain is counted and otherwise ignored; a SYNC is answered with an ECHO;
an ECHO that answers a pending SYNC completes an exchange, which is an outlier and counted, or gives the port its mean
and offset and is counted, and disciplines time when the port is the reference. An announcement is held, and selection
runs, unless STEPS_REMOVED is 255; one not renewed within three announce intervals is withdrawn. -/
def Obligations.TimeSymbolsAndAnnouncements : Prop :=
  (∀ (port frac : Nat) (s : State) (tp : TimePort), s.fabricUp port = true → tp = s.timePort port → tp.nextSync ≤ s.now →
     ((tp.syncs + 1) % 8 ≠ 0 → exec (.syncSend port frac) s = .next
       ((s.emit (.block port 6 (timeBlock (s.mkSymbol 1 tp.seq frac s.now 0)))).setTimePort port { tp with
         seq := tp.seq + 1, syncs := tp.syncs + 1, nextSync := s.now + s.par d2_0020 0
         pendingSyncs := tp.pendingSyncs ++ [⟨tp.seq, 4 * s.now + frac % 4, s.now⟩] })) ∧
     ((tp.syncs + 1) % 8 = 0 → exec (.syncSend port frac) s = .next
       (((s.emit (.block port 6 (timeBlock (s.mkSymbol 1 tp.seq frac s.now 0)))).emit
         (.block port 6 (timeBlock (s.mkAnnounce tp.annSeq)))).setTimePort port { tp with
           seq := tp.seq + 1, annSeq := tp.annSeq + 1, syncs := tp.syncs + 1, nextSync := s.now + s.par d2_0020 0
           pendingSyncs := tp.pendingSyncs ++ [⟨tp.seq, 4 * s.now + frac % 4, s.now⟩] }))) ∧
  (∀ (port : Nat) (y : BitVec 192) (frac turn : Nat) (s : State), s.fabricUp port = true →
     (symType y = 1 → symDomain y = s.par d2_0014 0 → exec (.syncRx port y frac turn) s = .next { s with
       out := s.out ++ [.block port 6 (timeBlock (s.mkSymbol 2 (symSeq y) frac s.now (min turn 8192)))] }) ∧
     ((symType y ≠ 1 ∨ symDomain y ≠ s.par d2_0014 0) → exec (.syncRx port y frac turn) s = .next (s.bump d2_0072 port))) ∧
  (∀ (port : Nat) (y : BitVec 192) (frac : Nat) (s : State), s.fabricUp port = true →
     ((symType y ≠ 2 ∨ symDomain y ≠ s.par d2_0014 0) → exec (.echoRx port y frac) s = .next (s.bump d2_0072 port)) ∧
     (symType y = 2 → symDomain y = s.par d2_0014 0 →
       ((∀ e ∈ (s.timePort port).pendingSyncs, e.seq ≠ symSeq y) → exec (.echoRx port y frac) s = .next s) ∧
       (∀ e, (s.timePort port).pendingSyncs.find? (fun e => e.seq = symSeq y) = some e →
         ∀ (mean : Int) (a : State),
         mean = ((((4 * s.now : Nat) : Int) + (frac % 4 : Nat) - e.t1) - symTurn y) / 2 →
         a = s.setTimePort port { s.timePort port with
           pendingSyncs := (s.timePort port).pendingSyncs.filter (fun x => x.seq ≠ e.seq) } →
         exec (.echoRx port y frac) s = .next (a.exchange port mean
           ((((4 * symTime y + symFrac y : Nat) : Int) - e.t1) - (mean + toSigned 32 (s.par d2_0040 port))))))) ∧
  (∀ (port : Nat) (mean offset : Int) (s : State) (tp : TimePort), tp = s.timePort port →
     (∀ m, tp.mean = some m → (mean - m).natAbs > 4 * s.par d2_0039 0 → s.exchange port mean offset = s.bump d2_0073 port) ∧
     ((tp.mean = none ∨ ∃ m, tp.mean = some m ∧ (mean - m).natAbs ≤ 4 * s.par d2_0039 0) →
       ∀ a : State, a = (s.setTimePort port { tp with mean := some (Config.delayMean tp.mean mean), offset := offset }).bump d2_0070 port →
       (s.time.ref = .port port → s.exchange port mean offset = a.acceptOffset offset) ∧
       (s.time.ref ≠ .port port → s.exchange port mean offset = a))) ∧
  (∀ (port : Nat) (seq : BitVec 8) (s : State),
     exec (.syncAbandon port seq) s = .next (s.setTimePort port { s.timePort port with
       pendingSyncs := (s.timePort port).pendingSyncs.filter (fun e => !(e.seq = seq && e.at_ + 4 * s.par d2_0020 0 ≤ s.now)) })) ∧
  (∀ (port : Nat) (y : BitVec 192) (s : State), s.fabricUp port = true →
     ((symType y ≠ 3 ∨ symDomain y ≠ s.par d2_0014 0) → exec (.announceRx port y) s = .next (s.bump d2_0072 port)) ∧
     (symType y = 3 → symDomain y = s.par d2_0014 0 →
       (255 ≤ (symAnnounce y).stepsRemoved.toNat → exec (.announceRx port y) s = .next s) ∧
       ((symAnnounce y).stepsRemoved.toNat < 255 → exec (.announceRx port y) s = .next
         (s.setTimePort port { s.timePort port with cand := some ⟨symAnnounce y, s.now⟩ }).select))) ∧
  (∀ (port : Nat) (y : BitVec 192) (frac turn : Nat) (s : State), s.fabricUp port = true →
     (symDomain y ≠ s.par d2_0014 0 ∨ symType y = 0 ∨ 3 < symType y → exec (.timeSymbolRx port y frac turn) s = .next (s.bump d2_0072 port)) ∧
     (symDomain y = s.par d2_0014 0 →
       (symType y = 1 → exec (.timeSymbolRx port y frac turn) s = exec (.syncRx port y frac turn) s ∧
         ∃ t, exec (.timeSymbolRx port y frac turn) s = .next t) ∧
       (symType y = 2 → exec (.timeSymbolRx port y frac turn) s = exec (.echoRx port y frac) s ∧
         ∃ t, exec (.timeSymbolRx port y frac turn) s = .next t) ∧
       (symType y = 3 → exec (.timeSymbolRx port y frac turn) s = exec (.announceRx port y) s ∧
         ∃ t, exec (.timeSymbolRx port y frac turn) s = .next t))) ∧
  (∀ (port : Nat) (c : Candidate) (s : State), (s.timePort port).cand = some c → c.renewed + 3 * s.announceInterval port ≤ s.now →
     ∀ a : State, a = s.setTimePort port { s.timePort port with cand := none } →
     exec (.announceWithdraw port) s = .next (if s.time.ref = .port port then a.loseRef else a).select)

/-- While time runs, a tick flushes the doorbell notices, advances time by 0, 1 or 2 (the fraction, 2^32, the
frequency correction and the clamped phase correction, divided by 2^32), keeps the fraction and takes the applied
correction off the phase still to be slewed; open loads then grow. A reference port without a measurement for D2.0030
intervals is lost; a HOLDOVER whose estimate passes D2.0033 ends in FREE_RUN. PPS_OUT rises at a whole second when
enabled and falls after D2.0052; an edge on PPS_IN is latched under policies 1 and 2, and under policy 1 is ignored
and counted when it is more than half a second off, and disciplines time when selection picks this adapter. The
earliest due trigger, in the order of R89, leaves the list, and the entry it names is released. -/
def Obligations.FabricTimeProgress : Prop :=
  (∀ (s a b : State), a = s.flushDoorbells → a.timeRuns = true →
     b = a.countTicks (min 2 (((a.time.fraction.toNat : Int) + 4294967296 + a.time.freq + a.slewNow) / 4294967296).toNat) →
     exec .timeClockTick s = .next ({ b with time := { b.time with
       now := (a.time.now + min 2 (((a.time.fraction.toNat : Int) + 4294967296 + a.time.freq + a.slewNow) / 4294967296).toNat) % 18446744073709551616
       fraction := BitVec.ofInt 32 ((a.time.fraction.toNat : Int) + 4294967296 + a.time.freq + a.slewNow)
       phaseLeft := a.time.phaseLeft - a.slewNow } } : State).growLoads) ∧
  (∀ s : State, s.flushDoorbells.timeRuns = false → exec .timeClockTick s = .next s.flushDoorbells.growLoads) ∧
  (∀ (n : Nat) (s : State), s.time.ref = .port n → s.time.lastAccept + s.par d2_0030 0 * (s.announceInterval n / 8) ≤ s.now →
     ∀ lose : State → TimeRef → TimeMode → State,
     lose = (fun s r m => ({ s with time := { s.time with ref := r, inBand := 0, regained := false, lastAccept := s.time.now } } : State).setTimeMode m) →
     (s.time.mode = .acquiring → exec .referenceLost s = .next (lose s .none .freeRun)) ∧
     (s.time.mode = .locked → s.otherPort = none → exec .referenceLost s = .next (lose s .none .holdover)) ∧
     (∀ p, s.time.mode = .locked → s.otherPort = some p → exec .referenceLost s = .next { s with time := { s.time with
       ref := .port p, inBand := 0, regained := false, lastAccept := s.time.now, firstOffset := true } }) ∧
     ((s.time.mode = .holdover ∨ s.time.mode = .freeRun) → exec .referenceLost s = .next { s with time := { s.time with
       ref := .none, inBand := 0, regained := false, lastAccept := s.time.now } })) ∧
  (∀ s : State, s.time.mode = .holdover → 4 * s.par d2_0033 0 * 1000000000 < s.time.errorLock * 1000000000 + 4 * s.par d2_0032 0 * (s.now - s.time.holdSince) →
     exec .holdoverExpire s = .next (({ s with time := { s.time with
       ref := .none, inBand := 0, regained := false, lastAccept := s.time.now } } : State).setTimeMode .freeRun)) ∧
  (∀ s : State, s.timeRuns = true → s.par d2_0051 0 ≠ 0 → s.now % 1250000000 ≤ 2 → s.time.ppsOut = false →
     exec .ppsOutEdge s = .next { s with
       out := s.out ++ [.pin 0 true], time := { s.time with ppsOut := true, ppsOutRose := s.now } }) ∧
  (∀ s : State, s.time.ppsOut = true → s.time.ppsOutRose + s.par d2_0052 0 ≤ s.now →
     exec .ppsOutFall s = .next { s with out := s.out ++ [.pin 0 false], time := { s.time with ppsOut := false } }) ∧
  (∀ (s : State) (e : Nat) (a : State), s.timeRuns = true →
     e = (((s.now : Int) - toSigned 32 (s.par d2_0054 0)) % 18446744073709551616).toNat →
     a = { s with time := { s.time with ppsLast := e } } →
     (s.par d2_0050 0 ≠ 0 → s.par d2_0050 0 ≠ 1 → exec .ppsInEdge s = .next a) ∧
     (s.par d2_0050 0 = 1 → 625000000 < (ppsOffset e).natAbs → exec .ppsInEdge s = .next (a.bump d2_0074 0)) ∧
     (s.par d2_0050 0 = 1 → (ppsOffset e).natAbs ≤ 625000000 →
       (∀ ann, a.bestClock = some (ann, 0xFD) → exec .ppsInEdge s = .next (a.acceptPps (4 * ppsOffset e))) ∧
       ((∀ ann, a.bestClock ≠ some (ann, 0xFD)) → exec .ppsInEdge s = .next a))) ∧
  (∀ (s a : State), s.time.ref = .pps → s.time.lastAccept + 2500000000 ≤ s.now →
     a = { s with time := { s.time with ref := .none, inBand := 0, regained := false, lastAccept := s.time.now } } →
     (s.time.mode = .acquiring → exec .ppsReferenceLost s = .next
       { a.setTimeMode .freeRun with time := { (a.setTimeMode .freeRun).time with ppsLost := true } }) ∧
     (s.time.mode = .locked → exec .ppsReferenceLost s = .next
       { a.setTimeMode .holdover with time := { (a.setTimeMode .holdover).time with ppsLost := true } }) ∧
     (s.time.mode = .holdover ∨ s.time.mode = .freeRun → exec .ppsReferenceLost s = .next
       { a with time := { a.time with ppsLost := true } })) ∧
  (∀ (x : Trigger) (s a : State), s.dueTrigger = some x →
     a = { s with time := { s.time with triggers := s.time.triggers.erase x }
                  ro := if x.late then (s.bump d2_0075 0).ro else s.ro } →
     (s.ring? x.ring = none → exec .triggerFire s = .next a) ∧
     (∀ r, s.ring? x.ring = some r → exec .triggerFire s = .next
       (a.setRing x.ring { r with chains := r.chains.map (releaseEntry x) })))

/-- A message is ignored unless 1588 is enabled on the port and its domain is the adapter's. A one-step Sync completes
with its receive time, a two-step Sync waits for its Follow_Up, an Announce is held as a candidate, a request of the
mechanism in use is answered, an answer of the mechanism completes the delay. At the interval a Sync leaves, with a
Follow_Up when two-step, an Announce after every eighth, and the delay request of the mechanism, and the port's
sequence number, next time and outstanding request follow. -/
def Obligations.PtpMessages : Prop :=
  (∀ (port : Nat) (msg : Bytes) (frac : Nat) (s : State), s.etherUp port = true →
     ((s.par d2_0025 port = 0 ∨ beNat (slice 4 1 msg) ≠ s.par d2_0014 0) → exec (.ptpMessageRx port msg frac) s = .next s) ∧
     (s.par d2_0025 port ≠ 0 → beNat (slice 4 1 msg) = s.par d2_0014 0 →
       ∀ (type : Nat) (seq : BitVec 16) (tp : TimePort), type = beNat (slice 0 1 msg) % 16 → seq = BitVec.ofNat 16 (beNat (slice 30 2 msg)) →
       tp = s.timePort port →
       (type = 0 → ptpTwoStep msg = true → exec (.ptpMessageRx port msg frac) s = .next
         (s.setTimePort port { tp with ptpT1 := some (seq, ((4 * s.now + frac % 4 : Nat) : Int) - ptpCorrection msg) })) ∧
       (type = 0 → ptpTwoStep msg = false → exec (.ptpMessageRx port msg frac) s = .next
         (s.ptpOffset port (ptpTime msg + ptpCorrection msg) (4 * s.now + frac % 4 : Nat))) ∧
       (∀ t2, type = 8 → tp.ptpT1 = some (seq, t2) → exec (.ptpMessageRx port msg frac) s = .next
         (s.ptpOffset port (ptpTime msg + ptpCorrection msg) t2)) ∧
       (type = 0xB → exec (.ptpMessageRx port msg frac) s = .next (s.takeAnnounce port (ptpAnnounce msg))) ∧
       (type = 2 → s.par d2_0022 0 = 0 → exec (.ptpMessageRx port msg frac) s = .next
         (s.ptpSend port 3 (s.ptpMessage 3 false seq port (ptpStamp (4 * s.now + frac % 4) ++ slice 20 10 msg)))) ∧
       (type = 1 → s.par d2_0022 0 ≠ 0 → exec (.ptpMessageRx port msg frac) s = .next
         (s.ptpSend port 9 (s.ptpMessage 9 false seq port (ptpStamp (4 * s.now + frac % 4) ++ slice 20 10 msg)))) ∧
       ((type = 3 ∧ s.par d2_0022 0 = 0) ∨ (type = 9 ∧ s.par d2_0022 0 ≠ 0) → exec (.ptpMessageRx port msg frac) s = .next
         (s.ptpDelayAnswer port msg (4 * s.now + frac % 4))) ∧
       (∀ d, type = 0xA → s.par d2_0022 0 = 0 → tp.ptpResp = some (seq, d) → s.ptpMine port msg = true →
         exec (.ptpMessageRx port msg frac) s = .next
           (s.setTimePort port { tp with ptpResp := none, ptpDelay := some ((d - ptpTime msg - ptpCorrection msg) / 2) })))) ∧
  (∀ (port frac q k : Nat) (two : Bool) (a : Announce) (s : State) (tp : TimePort) (zeros : Nat → Bytes) (frames : List (Nat × Bytes)),
     s.etherUp port = true → s.par d2_0025 port ≠ 0 → tp = s.timePort port → tp.ptpNext ≤ s.now →
     q = 4 * s.now + frac % 4 → two = decide (s.par d2_0024 0 = 0) → k = (if s.par d2_0022 0 = 0 then 2 else 1) →
     a = (if s.time.ref = .none then s.ownClock else s.time.gm) → zeros = (fun n => List.replicate n 0) →
     frames = [(0, s.ptpMessage 0 two tp.ptpSeq port (if two then zeros 10 else ptpStamp q))] ++
       (if two then [(8, s.ptpMessage 8 false tp.ptpSeq port (ptpStamp q))] else []) ++
       (if tp.ptpSeq.toNat % 8 = 7 then [(0xB, s.ptpMessage 0xB false tp.ptpSeq port (zeros 10 ++ beBytes 2 a.utcOffset.toNat ++ [0]
         ++ beBytes 1 a.priority1.toNat ++ beBytes 1 a.clockClass.toNat ++ beBytes 1 a.accuracy.toNat ++ beBytes 2 a.variance.toNat
         ++ beBytes 1 a.priority2.toNat ++ beBytes 8 a.identity.toNat ++ beBytes 2 (a.stepsRemoved.toNat + 1) ++ [0xA0]))] else []) ++
       [(k, s.ptpMessage k false tp.ptpSeq port (zeros 20))] →
     exec (.ptpSyncSend port frac) s = .next ((frames.foldl (fun s e => s.ptpSend port e.1 e.2) s).setTimePort port { tp with
         ptpSeq := tp.ptpSeq + 1, ptpNext := s.now + s.ptpInterval, ptpReq := some (tp.ptpSeq, q) }))

/-- When the fetch lead of an instance is reached and its fetch has not opened, the instance is opened, once, with an
empty load that grows when its connection exists. At the ready deadline the load is fixed: with every packet staged it
is sent whole and what waits for a copy returns to the queue; with an unstaged packet the instance is late, its
connection falls behind, the counter, the time and the event of a late instance follow; an empty expected load counts
and writes the event of an empty instance. At its due time, once, instances passed over before it are skipped and
counted, a load that the deadline did not fix is fixed, and the load of a READY connection leaves in the slot and is
counted while schedules run and the port carries; packets for which the credits lack return to the queue. Otherwise
the instance is skipped and counted, its load returns to the queue, and a connection with a load falls behind. -/
def Obligations.SpireSendSlots : Prop :=
  (∀ (tower entry due : Nat) (x : Slot) (i : SlotInstance) (s a : State), s.sendSlot tower entry = some x →
     s.instanceDue x.start (s.par d7_0002 tower) = some due → tgetD s.spire.opened (slotKey tower entry) 0 < due + 1 → s.now ≤ due →
     s.instanceAt tower entry due = none →
     i = { tower := tower, entry := entry, due := due, conn := x.target } →
     a = { s with spire := { s.spire with
       opened := tset (slotKey tower entry) (due + 1) s.spire.opened
       instances := s.spire.instances ++ [i] } } →
     (s.conn? x.target = none → exec (.slotFetchOpen tower entry) s = .next a) ∧
     (s.conn? x.target ≠ none → exec (.slotFetchOpen tower entry) s = .next (a.growLoad i (s.slotWire x)))) ∧
  (∀ (tower entry : Nat) (x : Slot) (i : SlotInstance) (s : State), s.sendSlot tower entry = some x → s.openInstance tower entry = some i →
     i.due ≤ s.now + 40 →
     (s.conn? i.conn = none → exec (.slotReadyDeadline tower entry) s = .next (s.putInstance { i with fixed := true, load := [] })) ∧
     (∀ (c : Conn) (waiting load send rest : List LoadPkt) (a b : State), s.conn? i.conn = some c →
       waiting = i.load.filter (fun q => q.psn.isSome && q.staged.isNone) →
       load = i.load.filter (fun q => !(q.psn.isSome && q.staged.isNone)) →
       send = load.takeWhile (·.staged.isSome) → rest = load.drop send.length →
       ∀ p : State, p = s.putInstance { i with fixed := true, late := decide (rest ≠ []), load := send } →
       a = (if waiting ++ rest = [] then p else p.requeue i.conn (waiting ++ rest)) →
       b = (if c.behind ≠ none ∧ rest = [] ∧ c.allIn s.now i.load = true ∧ tgetD s.spire.leftover i.conn [] = []
         then a.setConn i.conn { c with behindLeave := true } else a) →
       (rest ≠ [] → exec (.slotReadyDeadline tower entry) s = .next
         ((((a.fallBehind i.conn (s.roundOf i.due)).bump d7_0101 i.tower).setRo d7_0108 i.tower i.due).event
           c.ctx.core.tenant.toNat 3 1 i.conn 0 (s.roundOf i.due % 4294967296))) ∧
       (rest = [] → i.load = [] → x.expect = true → exec (.slotReadyDeadline tower entry) s = .next
         ((b.bump d7_0102 i.tower).event c.ctx.core.tenant.toNat 3 2 i.conn 0 (s.roundOf i.due % 4294967296))) ∧
       (rest = [] → (i.load ≠ [] ∨ x.expect = false) → exec (.slotReadyDeadline tower entry) s = .next b))) ∧
  (∀ (tower entry due : Nat) (x : Slot) (s a b c : State) (older : List SlotInstance) (i j : SlotInstance), s.sendSlot tower entry = some x →
     s.instanceDue x.start 0 = some due → tgetD s.spire.fired (slotKey tower entry) 0 < due + 1 →
     a = { s with spire := { s.spire with fired := tset (slotKey tower entry) (due + 1) s.spire.fired } } →
     older = s.spire.instances.filter (fun i => i.tower = tower && i.entry = entry && decide (i.due < due)) →
     b = (older.foldl (fun s i => s.skipLoad i) a).countSkipped tower (max older.length (s.passedOver (slotKey tower entry) due))
       (due - s.dict.active.round s.pkg.part) →
     i = (b.instanceAt tower entry due).getD { tower := tower, entry := entry, due := due, conn := x.target } →
     c = (if i.fixed then b else b.fixLoad i x.expect) → j = (c.instanceAt tower entry due).getD i →
     (c.scheduled = true → c.slotReady j.conn = true → c.carries x.egress = true →
       ∀ (d e : State) (r : State × Nat × List LoadPkt), d = (c.dropInstance j).bump d7_0100 j.tower →
       r = State.sendLoads x.egress j.conn j.load 0 d →
       e = r.1.portUntil x.egress (max (d.port x.egress).busyUntil d.now) r.2.1 →
       exec (.slotDue tower entry) s = .next (if r.2.2 = [] then e.endBehind j.conn else e.requeue j.conn r.2.2)) ∧
     ((c.scheduled = false ∨ c.slotReady j.conn = false ∨ c.carries x.egress = false) →
       ∀ d : State, d = c.dropInstance j →
       (j.load = [] → exec (.slotDue tower entry) s = .next (d.countSkipped j.tower 1 j.due)) ∧
       (j.load ≠ [] → exec (.slotDue tower entry) s =
         .next (((d.requeue j.conn j.load).fallBehind j.conn (d.roundOf j.due)).countSkipped j.tower 1 j.due))))

/-- The request at the head of the queue, when it names the operation and need not wait for the rebuild of the shadow
set, leaves the queue and is answered on its path. READ and READ_SHADOW check, in this order, that the parameter and
the instance exist, that the requester may read it, that its kind may be read and that the offset suits it, answer the
reason of the first check that fails, and otherwise the bytes of the active or the shadow set, and a high-water mark
starts again. DESCRIBE checks existence and access and answers the description; ENUMERATE answers the address of the
next instance the requester may read. -/
def Obligations.DictionaryReads : Prop :=
  (∀ (shadow : Bool) (q : DictRequest) (rest : List DictRequest) (s a : State) (ps : ParamSet) (c : Instr) (p : Param) (i : Nat)
     (done : State → Reason → Bytes → State),
     c = (if shadow then .dictReadShadow else .dictRead) → ps = (if shadow then s.dict.shadow else s.dict.active) →
     s.dict.queue = q :: rest → rqOp q.bytes = (if shadow then 2 else 1) → s.mustWait q.bytes = false →
     a = { s with dict := { s.dict with queue := rest } } →
     done = (fun t r v => t.answer q.route (t.responseTo q.bytes r none v)) →
     (s.named q.bytes = .error .unknownParameter → exec c s = .next (done a .unknownParameter [])) ∧
     (s.named q.bytes = .error .instanceRange → exec c s = .next (done a .instanceRange [])) ∧
     (s.named q.bytes = .ok (p, i) → s.mayRead q.route.cls p i = false → exec c s = .next (done a .access [])) ∧
     (s.named q.bytes = .ok (p, i) → s.mayRead q.route.cls p i = true → p.kind = .wo → exec c s = .next (done a .kind [])) ∧
     (s.named q.bytes = .ok (p, i) → s.mayRead q.route.cls p i = true → p.kind ≠ .wo →
       ((p.ty.width ≠ none ∧ rqOffset q.bytes ≠ 0) ∨ (p.ty.width = none ∧ a.blobLength p i < rqOffset q.bytes)) →
       exec c s = .next (done a .length [])) ∧
     (s.named q.bytes = .ok (p, i) → s.mayRead q.route.cls p i = true → p.kind ≠ .wo →
       ((p.ty.width ≠ none ∧ rqOffset q.bytes = 0) ∨ (p.ty.width = none ∧ rqOffset q.bytes ≤ a.blobLength p i)) →
       exec c s = .next (done (a.readClears p i) .ok (a.readBytes ps p i (rqOffset q.bytes))))) ∧
  (∀ (q : DictRequest) (rest : List DictRequest) (s a : State) (p : Param) (i : Nat) (done : Reason → Bytes → State),
     s.dict.queue = q :: rest → rqOp q.bytes = 4 → s.mustWait q.bytes = false →
     a = { s with dict := { s.dict with queue := rest } } →
     done = (fun r v => a.answer q.route (a.responseTo q.bytes r none v)) →
     (s.named q.bytes = .error .unknownParameter → exec .dictDescribe s = .next (done .unknownParameter [])) ∧
     (s.named q.bytes = .error .instanceRange → exec .dictDescribe s = .next (done .instanceRange [])) ∧
     (s.named q.bytes = .ok (p, i) → s.mayRead q.route.cls p i = false → exec .dictDescribe s = .next (done .access [])) ∧
     (s.named q.bytes = .ok (p, i) → s.mayRead q.route.cls p i = true → exec .dictDescribe s = .next (done .ok (s.description p i)))) ∧
  (∀ (q : DictRequest) (rest : List DictRequest) (s a : State) (v : Nat),
     s.dict.queue = q :: rest → rqOp q.bytes = 5 → s.mustWait q.bytes = false →
     a = { s with dict := { s.dict with queue := rest } } →
     ((∃ k, allParams.findSome? (a.nextInstance q.route.cls (addressKey (rqAddress q.bytes))) = some k ∧ v = keyAddress k) ∨
       (allParams.findSome? (a.nextInstance q.route.cls (addressKey (rqAddress q.bytes))) = none ∧ v = 0xFFFFFFFFFFFFFFFF)) →
     exec .dictEnumerate s = .next (a.answer q.route (a.responseTo q.bytes .ok none (leBytes 8 v))))

/-- A WRITE at the head of the queue is refused, in this order, when its parameter or instance does not exist, when
the requester may not write it, when its kind is RO, when length or offset do not suit it, when the value is out of
range; a parameter of kind SH is written to the shadow set alone, or refused with SHADOW_LOCKED while a swap is armed;
a parameter of kind RW or LV takes effect at once. A write of an event ring's descriptor stops the ring; a good one is
stored in both sets and, with ENABLE, the ring runs with its indices at 0. -/
def Obligations.DictionaryWrites : Prop :=
  (∀ (q : DictRequest) (rest : List DictRequest) (s a : State) (p : Param) (i : Nat) (done : State → Reason → State),
     s.dict.queue = q :: rest → rqOp q.bytes = 3 → s.mustWait q.bytes = false →
     a = { s with dict := { s.dict with queue := rest } } →
     done = (fun t r => t.answer q.route (t.responseTo q.bytes r none [])) →
     (s.named q.bytes = .error .unknownParameter → exec .dictWrite s = .next (done a .unknownParameter)) ∧
     (s.named q.bytes = .error .instanceRange → exec .dictWrite s = .next (done a .instanceRange)) ∧
     (s.named q.bytes = .ok (p, i) →
       (s.mayWrite q.route.cls p i = false → exec .dictWrite s = .next (done a .access)) ∧
       (s.mayWrite q.route.cls p i = true →
         (p.kind = .ro → exec .dictWrite s = .next (done a .kind)) ∧
         (p.kind ≠ .ro → writeLengthOk p (rqOffset q.bytes) (rqValue q.bytes).length = false → exec .dictWrite s = .next (done a .length)) ∧
         (p.kind ≠ .ro → writeLengthOk p (rqOffset q.bytes) (rqValue q.bytes).length = true →
           s.writeValueOk p (leNat (rqValue q.bytes)) = false → exec .dictWrite s = .next (done a .valueRange)) ∧
         (writeLengthOk p (rqOffset q.bytes) (rqValue q.bytes).length = true → s.writeValueOk p (leNat (rqValue q.bytes)) = true →
           (p.kind = .sh → s.dict.armed ≠ none → exec .dictWrite s = .next (done a .shadowLocked)) ∧
           (p.kind = .sh → s.dict.armed = none →
             (p.ty.width ≠ none → exec .dictWrite s = .next (done { a with dict := { a.dict with
               shadow := s.dict.shadow.putInt s.pkg.part p i (leNat (rqValue q.bytes)) } } .ok)) ∧
             (p.ty.width = none → exec .dictWrite s = .next (done { a with dict := { a.dict with
               shadow := s.dict.shadow.putBlob p i (rqOffset q.bytes) (rqValue q.bytes) } } .ok))) ∧
           ((p.kind = .rw ∨ p.kind = .lv) → p ≠ d20_0020 → p ≠ d15_8020 → p ≠ d20_0040 → p ≠ d3_0010 →
             (p.ty.width ≠ none → exec .dictWrite s = .next (done (a.setLive p i (leNat (rqValue q.bytes))) .ok)) ∧
             (p.ty.width = none → exec .dictWrite s = .next (done { a with dict := { a.dict with
               active := s.dict.active.putBlob p i 0 (rqValue q.bytes)
               shadow := s.dict.shadow.putBlob p i 0 (rqValue q.bytes) } } .ok))) ∧
           (p.kind = .rw → p = d3_0010 → exec .dictWrite s = .next (done (a.setLive p i (leNat (rqValue q.bytes) % 32)) .ok)) ∧
           (p.kind = .wo → ∀ r : DictResult, r = a.writeOnly p i (leNat (rqValue q.bytes)) (rqValue q.bytes) → r.detail = none → r.value = [] →
             exec .dictWrite s = .next (done r.next r.reason)))))) ∧
  (∀ (t : Nat) (desc b : Bytes) (s a : State) (ok : Bool), s.fnLive t = true → b = slice 0 32 desc → ok = s.eventDescOk t b →
     a = s.setTenant t { s.tenant t with events := { (s.tenant t).events with mode := .stopped } } →
     (ok = false → exec (.eventRingSetup t desc) s = .next a) ∧
     (ok = true → ∀ e : State, e = { a with dict := { a.dict with
         active := s.dict.active.putBlob d20_0020 t 0 b, shadow := s.dict.shadow.putBlob d20_0020 t 0 b } } →
       ((eventDescOf b).enable = false → exec (.eventRingSetup t desc) s = .next e) ∧
       ((eventDescOf b).enable = true → exec (.eventRingSetup t desc) s = .next (e.setTenant t { e.tenant t with
         events := { (e.tenant t).events with mode := .running, produced := 0, consumed := 0, notified := false } }))))

/-- VALIDATE by an administrator answers OK when the sets pass and else records and answers the first failure.
ARM_SWAP checks class, length, that no swap is armed, the generation when it is asked, and the sets; a tick at or
after now plus SWAP_LEAD is armed, an earlier one is refused with LATE or, under the late policy, armed late at a
round boundary. CANCEL_SWAP disarms before the tick, DISCARD_SHADOW copies the active set over the shadow set unless a
swap is armed. At the armed tick the repeated checks refuse the swap or it is performed: the new set is the active
one, the generation rises by one, the shadow set is being rebuilt, the swap is recorded with its event; then the
chapters' own changes follow in order. When the rebuild ends the shadow set is the active one. -/
def Obligations.DictionarySetsAndSwap : Prop :=
  (∀ (q : DictRequest) (rest : List DictRequest) (s a : State) (record : Reason → Nat → State),
     s.dict.queue = q :: rest → rqOp q.bytes = 6 → s.mustWait q.bytes = false →
     a = { s with dict := { s.dict with queue := rest } } →
     record = (fun r d => { a with dict := { a.dict with lastReason := BitVec.ofNat 8 r.code, lastDetail := BitVec.ofNat 64 d } }) →
     (s.isAdmin q.route.cls = false → ∀ t, t = record .access s.now →
       exec .dictValidate s = .next (t.answer q.route (t.responseTo q.bytes .access none []))) ∧
     (s.isAdmin q.route.cls = true → ∀ r k t, a.validate = some (r, k) → t = record r k →
       exec .dictValidate s = .next (t.answer q.route (t.responseTo q.bytes r (some k) []))) ∧
     (s.isAdmin q.route.cls = true → a.validate = none →
       exec .dictValidate s = .next (a.answer q.route (a.responseTo q.bytes .ok none [])))) ∧
  (∀ (q : DictRequest) (rest : List DictRequest) (s a : State) (record : Reason → State) (v : Bytes) (tick : Nat) (id : W32) (late : State → Nat),
     s.dict.queue = q :: rest → rqOp q.bytes = 7 → s.mustWait q.bytes = false →
     a = { s with dict := { s.dict with queue := rest } } →
     record = (fun r => { a with dict := { a.dict with lastReason := BitVec.ofNat 8 r.code, lastDetail := BitVec.ofNat 64 s.now } }) →
     v = rqValue q.bytes → tick = leAt 0 8 v → id = BitVec.ofNat 32 (leAt 8 4 v) →
     late = (fun s => s.lateBoundary (s.now + s.par d3_0004 0)) →
     ∀ answer : State → Reason → Host.Outcome State Fault Refusal,
     answer = (fun t r => .next (t.answer q.route (t.responseTo q.bytes r none []))) →
     (s.isAdmin q.route.cls = false → exec .dictArmSwap s = answer (record .access) .access) ∧
     (s.isAdmin q.route.cls = true →
       (v.length ≠ 16 → exec .dictArmSwap s = answer (record .length) .length) ∧
       (v.length = 16 → s.dict.armed ≠ none → exec .dictArmSwap s = answer (record .alreadyArmed) .alreadyArmed) ∧
       (v.length = 16 → s.dict.armed = none → rqFlags q.bytes = 1 → leAt 12 4 v ≠ s.dict.generation.toNat →
         exec .dictArmSwap s = answer (record .generation) .generation) ∧
       (v.length = 16 → s.dict.armed = none → (rqFlags q.bytes ≠ 1 ∨ leAt 12 4 v = s.dict.generation.toNat) → a.validate = none →
         (tick < s.now + s.par d3_0004 0 → s.par d3_0014 0 = 0 → exec .dictArmSwap s = answer (record .late) .late) ∧
         (s.now + s.par d3_0004 0 ≤ tick → a.spireDiffers = false → routeChange s.pkg.part s.dict.active s.dict.shadow = false →
           exec .dictArmSwap s = answer { a with dict := { a.dict with armed := some ⟨tick, id, false⟩ } } .ok) ∧
         (tick < s.now + s.par d3_0004 0 → s.par d3_0014 0 ≠ 0 → a.spireDiffers = false → routeChange s.pkg.part s.dict.active s.dict.shadow = false →
           exec .dictArmSwap s = answer { a with dict := { a.dict with armed := some ⟨late a, id, true⟩ } } .ok)))) ∧
  (∀ (q : DictRequest) (rest : List DictRequest) (s a : State) (done : State → Reason → State),
     s.dict.queue = q :: rest → rqOp q.bytes = 8 → s.mustWait q.bytes = false →
     a = { s with dict := { s.dict with queue := rest } } →
     done = (fun t r => t.answer q.route (t.responseTo q.bytes r none [])) →
     (s.isAdmin q.route.cls = false → exec .dictCancelSwap s = .next (done a .access)) ∧
     (s.isAdmin q.route.cls = true → (s.dict.armed = none ∨ ∃ x, s.dict.armed = some x ∧ x.tick ≤ s.now) →
       exec .dictCancelSwap s = .next (done a .notArmed)) ∧
     (∀ x, s.isAdmin q.route.cls = true → s.dict.armed = some x → s.now < x.tick →
       exec .dictCancelSwap s = .next (done { a with dict := { a.dict with armed := none } } .ok))) ∧
  (∀ (q : DictRequest) (rest : List DictRequest) (s a : State) (done : State → Reason → State),
     s.dict.queue = q :: rest → rqOp q.bytes = 9 → s.mustWait q.bytes = false →
     a = { s with dict := { s.dict with queue := rest } } →
     done = (fun t r => t.answer q.route (t.responseTo q.bytes r none [])) →
     (s.isAdmin q.route.cls = false → exec .dictDiscardShadow s = .next (done a .access)) ∧
     (s.isAdmin q.route.cls = true → s.dict.armed ≠ none → exec .dictDiscardShadow s = .next (done a .shadowLocked)) ∧
     (s.isAdmin q.route.cls = true → s.dict.armed = none →
       exec .dictDiscardShadow s = .next (done { a with dict := { a.dict with shadow := s.dict.active } } .ok))) ∧
  (∀ (x : ArmedSwap) (s : State), s.dict.armed = some x → x.tick ≤ s.now →
     (∀ k (a : State), s.tickFails = some k →
       a = { s with dict := { s.dict with armed := none, lastFlags := if x.late then 3 else 2
                                          lastReason := BitVec.ofNat 8 Reason.state.code, lastDetail := BitVec.ofNat 64 k } } →
       exec .swap s = .next ((a.bump d3_0013 0).packageEvent 7 3 x.swapId.toNat 0 s.dict.generation.toNat)) ∧
     (s.tickFails = none → ∀ (a b : State) (changes : List Nat),
       a = { s with dict := { s.dict with
         active := s.dict.shadow, generation := s.dict.generation + 1, armed := none, copying := some s.now, lastTick := x.tick
         lastFlags := if x.late then 1 else 0, lastSwapId := x.swapId } } →
       b = (if x.late then a.bump d3_0012 0 else a).packageEvent 7 (if x.late then 2 else 1) x.swapId.toNat 0 (s.dict.generation + 1).toNat →
       changes = s.bindingChanges s.dict.shadow →
       exec .swap s = .next ((((((((((((b.traceSwap.swapRoutes s.dict.active).swapSlots s.dict.active).swapSteps).swapBuckets
         s.dict.active).swapArrived s.dict.active).swapStages s.dict.active).swapChans s.dict.active).swapExtents changes).swapBoxes
         s.dict.active).swapPorts s.dict.active).swapSegment s.dict.active)))) ∧
  (∀ (s : State), s.dict.copying ≠ none →
     exec .shadowCopyDone s = .next { s with dict := { s.dict with shadow := s.dict.active, copying := none } })

/-- A request on a served path is answered with BUSY and counted when 64 requests of the path wait, answered as
malformed when it is, and else waits at the end of the queue. GO on a busy mailbox sets LOST; on another it sets BUSY
and brings the request; a response is written with BUSY cleared and DONE set, and vector 0 is raised when asked. An
MCTP vendor message brings its request, another is counted. The I3C commands set the dynamic address and the endpoint
ID. LINK_MGMT_SEND queues a datagram or changes nothing. A write to BAR0 changes the page its offset names: mailbox,
ring, connection and realm pages, and the MSI-X table. -/
def Obligations.RequestPathsAndRegisters : Prop :=
  (∀ (r : Route) (b : Bytes) (s : State), s.pathServed r = true →
     (64 ≤ (s.dict.queue.filter (fun q => q.route.path = r.path)).length → ∀ a, a = s.bump d3_0015 0 →
       exec (.dictRequestQueue r b) s = .next (a.answer r (a.responseTo b .busy none []))) ∧
     ((s.dict.queue.filter (fun q => q.route.path = r.path)).length < 64 → requestBad b = true →
       exec (.dictRequestQueue r b) s = .next (s.answer r (s.responseTo b .malformedRequest none []))) ∧
     ((s.dict.queue.filter (fun q => q.route.path = r.path)).length < 64 → requestBad b = false →
       exec (.dictRequestQueue r b) s = .next { s with dict := { s.dict with queue := s.dict.queue ++ [⟨r, b⟩] } })) ∧
  (∀ (t : Nat) (s : State), s.mailboxServed t = true →
     ((s.fn t).mbox.busy = true → exec (.mbGo t) s = .next (s.setFn t { s.fn t with mbox := { (s.fn t).mbox with lost := true } })) ∧
     ((s.fn t).mbox.busy = false → ∀ a, a = s.setFn t { s.fn t with mbox := { (s.fn t).mbox with busy := true } } →
       exec (.mbGo t) s = .next (a.queueRequest (.mailbox t) (slice 0 1536 (s.fn t).mbox.req)))) ∧
  (∀ (t : Nat) (b : Bytes) (s a : State), (s.fn t).mbox.answer = some b →
     a = s.setFn t { s.fn t with mbox := { (s.fn t).mbox with resp := slice 0 1536 b, answer := none, busy := false, done := true } } →
     exec (.mbResponseDone t) s = .next (if (s.fn t).mbox.intr then a.raiseMsix t 0 else a)) ∧
  (∀ (body : Bytes) (s : State), s.pathServed .mctp = true →
     (leAt 0 2 body = 0x1EC6 → leAt 2 1 body = 1 → body.length ≤ 4223 →
       exec (.mctpMessageRx 0x7E body) s = .next (s.queueRequest .mctp (body.drop 3))) ∧
     ((leAt 0 2 body ≠ 0x1EC6 ∨ leAt 2 1 body ≠ 1 ∨ 4223 < body.length) →
       exec (.mctpMessageRx 0x7E body) s = .next (s.bump d19_0107 0))) ∧
  (∀ (target value : Nat) (s : State), s.pathServed .mctp = true →
     exec (.i3cAddressAssignment 0 target value) s = .next { s with mgmt := { s.mgmt with i3cAddress := BitVec.ofNat 8 (value % 128) } } ∧
     (target = s.par d19_0022 0 → exec (.i3cAddressAssignment 1 target value) s =
       .next { s with mgmt := { s.mgmt with i3cAddress := BitVec.ofNat 8 (value % 128) } }) ∧
     (target ≠ s.par d19_0022 0 → exec (.i3cAddressAssignment 1 target value) s = .next s) ∧
     exec (.i3cAddressAssignment 2 target value) s = .next { s with mgmt := { s.mgmt with eid := BitVec.ofNat 8 value } }) ∧
  (∀ (b : Bytes) (s : State),
     ((20 ≤ b.length ∧ b.length ≤ 1024 ∧ leAt 0 1 b < 64 ∧ leAt 1 3 b = 0 ∧ s.fabricUp (leAt 0 1 b) = true ∧ leAt 16 2 b = b.length - 20) →
       exec (.linkMgmtSend b) s = .next (s.enqueue (leAt 0 1 b) 5
         (s.datagramItem (leAt 0 1 b) (mkHdr 0x20 5 (s.par d9_0001 0) 0 0xFFFF (s.par d0_0001 0) 0 0 0 0 0 0) (b.drop 4)))) ∧
     (¬ (20 ≤ b.length ∧ b.length ≤ 1024 ∧ leAt 0 1 b < 64 ∧ leAt 1 3 b = 0 ∧ s.fabricUp (leAt 0 1 b) = true ∧ leAt 16 2 b = b.length - 20) →
       exec (.linkMgmtSend b) s = .next s)) ∧
  (∀ (t offset width : Nat) (value : W64) (s : State),
     (offset / 4096 = 0 → s.mailboxServed t = true → exec (.registerWrite t offset width value) s = .next
       (s.setFn t { s.fn t with mbox := (s.fn t).mbox.write (offset % 4096) width value })) ∧
     (s.fnLive t = true →
       (offset / 4096 = 1 → exec (.registerWrite t offset width value) s = .next
         (s.setFn t { s.fn t with ring := (s.fn t).ring.write 0x40 (offset % 4096) width value })) ∧
       (offset / 4096 = 2 → exec (.registerWrite t offset width value) s = .next
         (s.setFn t { s.fn t with conn := (s.fn t).conn.write 0x80 (offset % 4096) width value })) ∧
       (offset / 4096 = 3 → exec (.registerWrite t offset width value) s = .next
         (s.setFn t { s.fn t with realm := (s.fn t).realm.write 0x40 (offset % 4096) width value })) ∧
       (16 ≤ offset / 4096 → offset / 4096 < 24 → exec (.registerWrite t offset width value) s = .next
         (s.msixWrite t (offset - 0x10000) width value)))) ∧
  (∀ (size off width : Nat) (value : W64) (p : CtrlPage), (width = 32 ∨ width = 64) → off % (width / 8) = 0 →
     (off < size → p.write size off width value = { p with ctx := putField (8 * off) width value.toNat p.ctx }) ∧
     (off = size + 8 → flag 1 value = true → p.write size off width value = { p with lost := false }) ∧
     (off = size → width = 32 → p.write size off width value = { p with lost := true }))

/-- A frame for the segment's port is a management datagram when it has its form, is answered as a neighbour
solicitation or echo request, or counted. A management request is counted when its shape is wrong, answered with
MSTATUS 2 without a key, counted when its tag fails or the source table is full, answered with MSTATUS 1 and the last
SEQ when stale, and else its SEQ is kept and the request waits. The line check keeps the pair's state and counts and
reports a change; the PLCA state follows the beacon. A datagram with PTYPE 0x20 is judged by the same rules with the
fabric key; link-scoped ones need an adapter without an ID; a response of an unconfigured partner is kept. -/
def Obligations.SegmentAndDatagrams : Prop :=
  (∀ (frame : Bytes) (collisions : Nat) (s : State) (b h body tag : Bytes) (seq : W32) (r : Route) (c : Instr),
     (c = .segRequestRx frame collisions ∨ c = .segFrameRx frame collisions) →
     s.pkg.phase = .running → s.par d19_0010 0 ≠ 0 → s.segRequest frame = true →
     b = (sgBody frame).drop 8 → h = b.take 16 → body = slice 16 (b.length - 32) b → tag = b.drop (b.length - 16) →
     seq = BitVec.ofNat 32 (leAt 4 4 h) →
     r = .segment (BitVec.ofNat 48 (sgSrc frame)) (BitVec.ofNat 128 (sgFrom frame)) (BitVec.ofNat 16 (beNat (slice 0 2 (sgBody frame)))) seq →
     ∀ judged : MgmtCheck, judged = s.mgmtJudge h body s.mgmt.segKey (tag = segTag s.segKeyBytes (h ++ body)) s.mgmt.segSources (sgFrom frame) →
     ((b.length < 32 ∨ judged = .bad) → exec c s = .next (s.bump d19_0107 0)) ∧
     (32 ≤ b.length →
       (judged = .noKey → exec c s = .next (s.mgmtReply r 2 seq [] collisions)) ∧
       (judged = .tagFail → exec c s = .next (s.bump d19_0102 0)) ∧
       (judged = .full → exec c s = .next (s.bump d19_0108 0)) ∧
       (∀ last, judged = .stale last → exec c s = .next ((s.bump d19_0104 0).mgmtReply r 1 last [] collisions)) ∧
       (judged = .accept → exec c s = .next (State.queueRequest r body
         { s with mgmt := { s.mgmt with segSources := tset (sgFrom frame) seq s.mgmt.segSources } })))) ∧
  (∀ (frame : Bytes) (collisions : Nat) (s : State), s.pkg.phase = .running → s.par d19_0010 0 ≠ 0 → s.segRequest frame = false →
     (∀ f, s.segIcmp frame = some f → exec (.segFrameRx frame collisions) s = .next (s.segSend collisions f)) ∧
     (s.segIcmp frame = none → exec (.segFrameRx frame collisions) s = .next (s.bump d19_0107 0))) ∧
  (∀ (line : Nat) (inverted : Bool) (s a : State), s.pkg.phase = .running → s.par d19_0010 0 ≠ 0 → line < 3 →
     a = { s with mgmt := { s.mgmt with line := line, inverted := inverted } } →
     (line = s.mgmt.line → exec (.segLineCheck line inverted) s = .next a) ∧
     (line ≠ s.mgmt.line → exec (.segLineCheck line inverted) s = .next ((a.packageEvent 0x05 0x03 0 0 line).bump d19_0106 0))) ∧
  (∀ (beacon : Bool) (s : State), s.par d19_0010 0 ≠ 0 → s.par d19_0013 0 ≠ 0 → s.par d19_0014 0 ≠ 0 →
     exec (.plcaBeaconTimeout beacon) s = .next { s with mgmt := { s.mgmt with plca := beacon } }) ∧
  (∀ (p : Packet) (mk : W32 → Route) (s : State) (h body : Bytes) (seq : W32) (judged : MgmtCheck),
     h = p.payload.take 16 → body = p.payload.drop 16 → seq = BitVec.ofNat 32 (leAt 4 4 h) →
     judged = s.mgmtJudge h body s.mgmt.fabKey (p.trailer = datagramTag s.fabricKey p.hdr p.payload) s.mgmt.fabSources (hdrSrcAdapter p) →
     ((hdrSrcAdapter p = 0xFFFF ∨ p.payload.length < 16 ∨ judged = .bad) → s.takeDictRequest p mk = s.bump d19_0107 0) ∧
     (hdrSrcAdapter p ≠ 0xFFFF → 16 ≤ p.payload.length →
       (judged = .noKey → s.takeDictRequest p mk = s.mgmtReply (mk seq) 2 seq [] 0) ∧
       (judged = .tagFail → s.takeDictRequest p mk = s.bump d19_0103 0) ∧
       (judged = .full → s.takeDictRequest p mk = s.bump d19_0108 0) ∧
       (∀ last, judged = .stale last → s.takeDictRequest p mk = (s.bump d19_0104 0).mgmtReply (mk seq) 1 last [] 0) ∧
       (judged = .accept → s.takeDictRequest p mk = State.queueRequest (mk seq) body
         { s with mgmt := { s.mgmt with fabSources := tset (hdrSrcAdapter p) seq s.mgmt.fabSources } }))) ∧
  (∀ (rx : Rx) (s : State), hdrVc rx.pkt = 5 → hdrDstAdapter rx.pkt ≠ 0xFFFF →
     (hdrType rx.pkt = 0x20 → exec (.dictRequestRx rx) s = .next
       (s.takeDatagram rx (State.takeDictRequest rx.pkt (fun q => .fabric (hdrSrcAdapter rx.pkt) (hdrPath rx.pkt) q)))) ∧
     ((hdrType rx.pkt < 0x20 ∨ 0x23 < hdrType rx.pkt) → exec (.dictRequestRx rx) s = .next
       ((s.bump d19_0107 0).freeIngress rx.port 5 0 rx.pkt.len))) ∧
  (∀ (rx : Rx) (s a : State), hdrVc rx.pkt = 5 → hdrDstAdapter rx.pkt = 0xFFFF → a = s.freeIngress rx.port 5 0 rx.pkt.len →
     ((a.tagExpired rx.pkt = true ∨ hdrType rx.pkt ≠ 0x20 ∨ a.hasId = true ∨ hdrHops rx.pkt ≠ 0 ∨ a.fabricUp rx.port = false) →
       exec (.linkScopedRequestRx rx) s = .next (a.bump d19_0107 0)) ∧
     (a.tagExpired rx.pkt = false → hdrType rx.pkt = 0x20 → a.hasId = false → hdrHops rx.pkt = 0 → a.fabricUp rx.port = true →
       exec (.linkScopedRequestRx rx) s = .next (a.takeDictRequest rx.pkt (fun q => .link rx.port (hdrSrcAdapter rx.pkt) q)))) ∧
  (∀ (rx : Rx) (s : State), hdrVc rx.pkt = 5 → hdrType rx.pkt = 0x21 → hdrDstAdapter rx.pkt ≠ 0xFFFF →
     exec (.dictResponseRx rx) s = .next (s.takeDatagram rx (State.takeDictResponse rx.port rx.pkt)) ∧
     (hdrSrcAdapter rx.pkt ≠ 0xFFFF → ∀ s : State, s.takeDictResponse rx.port rx.pkt = s) ∧
     (hdrSrcAdapter rx.pkt = 0xFFFF → ∀ (s : State) (h body : Bytes), s.openDatagram rx.pkt = .ok (h, body) →
       s.takeDictResponse rx.port rx.pkt = ({ s with mgmt := { s.mgmt with
         linkResp := slice 0 1024 (leBytes 1 rx.port ++ [1, 0, 0] ++ h ++ body.take 1004) } } : State).bump d19_0052 0))

/-- A command of a live function is discarded with LOST while the page is BUSY; otherwise BUSY is set and TARGET holds
the ring. CREATE answers BAD_FIELD, EXISTS, NO_CONTEXT in that order, or creates the ring ACTIVE with its image,
writes its mirror and answers OK. A command on no ring answers NO_RING, in a wrong state BAD_STATE. QUERY puts the
ring's eight words into RING_CTX. SHUTDOWN of an ACTIVE ring drains it; ABORT abandons the started chains, decides
every chain and stops a ring that has none; RESUME makes a STOPPED ring ACTIVE from done; DESTROY frees a STOPPED or
ERROR ring; an unlisted command answers BAD_FIELD. The abort deadline records the remaining chains with ABORTED and
stops the ring. -/
def Obligations.RingControlPage : Prop :=
  (∀ (t ring : Nat) (value : W64) (s : State) (c : Instr), s.fnLive t = true → (s.fn t).ring.busy = true →
     c ∈ [.ringCreate t ring, .ringQuery t ring, .ringShutdown t ring, .ringAbort t ring, .ringResume t ring, .ringDestroy t ring] ∨
       (c = .ringCmdUnknown t value ∧ ¬ (1 ≤ fieldNat 0 8 value ∧ fieldNat 0 8 value ≤ 6 ∧ fieldNat 28 36 value = 0)) →
     exec c s = .next (s.setFn t { s.fn t with ring := { (s.fn t).ring with lost := true } })) ∧
  (∀ (t ring n limit : Nat) (s a : State) (x : W512) (m : RingImage), s.fnLive t = true → (s.fn t).ring.busy = false →
     n = ring % 1048576 → x = (s.fn t).ring.ctx.setWidth 512 → m = RingImage.ofWord x → limit = s.par d4_8000 t →
     a = s.setFn t { s.fn t with ring := { (s.fn t).ring with busy := true, target := BitVec.ofNat 32 n } } →
     ((a.imageOk t x = false ∨ limit ≤ n) → exec (.ringCreate t ring) s = .next (a.ringResult t 3)) ∧
     (a.imageOk t x = true → n < limit →
       (s.ring? (ringKey t n) ≠ none → exec (.ringCreate t ring) s = .next (a.ringResult t 5)) ∧
       (s.ring? (ringKey t n) = none → (65536 ≤ s.ringsOn m.homeTower.toNat ∨ limit ≤ s.ringsOf t) →
         exec (.ringCreate t ring) s = .next (a.ringResult t 4)) ∧
       (s.ring? (ringKey t n) = none → s.ringsOn m.homeTower.toNat < 65536 → s.ringsOf t < limit →
         exec (.ringCreate t ring) s = .next (((a.setRing (ringKey t n) { image := m }).writeMirror (ringKey t n)).ringResult t 0)))) ∧
  (∀ (t ring n : Nat) (s a : State), s.fnLive t = true → (s.fn t).ring.busy = false → n = ring % 1048576 →
     a = s.setFn t { s.fn t with ring := { (s.fn t).ring with busy := true, target := BitVec.ofNat 32 n } } →
     (s.ring? (ringKey t n) = none → ∀ c : Instr, c ∈ [Instr.ringQuery t ring, .ringShutdown t ring, .ringAbort t ring, .ringResume t ring, .ringDestroy t ring] →
       exec c s = .next (a.ringResult t 1)) ∧
     (∀ r, s.ring? (ringKey t n) = some r →
       (exec (.ringQuery t ring) s = .next ((a.setFn t { a.fn t with ring := { (a.fn t).ring with ctx := r.word.setWidth 1024 } }).ringResult t 0)) ∧
       (r.mode ≠ .active → exec (.ringShutdown t ring) s = .next (a.ringResult t 2)) ∧
       (r.mode = .active → exec (.ringShutdown t ring) s = .next
         ((a.setRing (ringKey t n) (({ r with mode := .draining } : Ring).drain s.now)).stopDrain (ringKey t n))) ∧
       (r.mode ≠ .active → r.mode ≠ .draining → r.mode ≠ .error → exec (.ringAbort t ring) s = .next (a.ringResult t 2)) ∧
       ((r.mode = .active ∨ r.mode = .draining ∨ r.mode = .error) →
         ∀ (b : State) (q : Ring), b = r.running.foldl (fun s c => s.abandonChain (ringKey t n) c .aborted) a → b.ring? (ringKey t n) = some q →
         exec (.ringAbort t ring) s = .next (if q.chains = [] then (b.setRing (ringKey t n) (q.abort b.now)).stopAbort (ringKey t n)
           else b.setRing (ringKey t n) (q.abort b.now))) ∧
       (r.mode ≠ .stopped → exec (.ringResume t ring) s = .next (a.ringResult t 2)) ∧
       (r.mode = .stopped → exec (.ringResume t ring) s = .next ((a.setRing (ringKey t n) { r with
         mode := .active, head := r.done, fetchNext := r.done, fromError := false }).ringResult t 0)) ∧
       (r.mode ≠ .stopped → r.mode ≠ .error → exec (.ringDestroy t ring) s = .next (a.ringResult t 2)) ∧
       ((r.mode = .stopped ∨ r.mode = .error) → exec (.ringDestroy t ring) s = .next
         (((r.running.foldl (fun s c => s.abandonChain (ringKey t n) c .aborted) a).delRing (ringKey t n)).ringResult t 0)))) ∧
  (∀ (t : Nat) (value : W64) (s a : State), s.fnLive t = true → (s.fn t).ring.busy = false →
     ¬ (1 ≤ fieldNat 0 8 value ∧ fieldNat 0 8 value ≤ 6 ∧ fieldNat 28 36 value = 0) →
     a = s.setFn t { s.fn t with ring := { (s.fn t).ring with busy := true, target := BitVec.ofNat 32 (fieldNat 8 20 value % 1048576) } } →
     exec (.ringCmdUnknown t value) s = .next (a.ringResult t 3)) ∧
  (∀ (t ring a : Nat) (r : Ring) (s : State), s.ring? (ringKey t ring) = some r → r.abortAt = some a → r.mode = .aborting →
     a + s.par d4_0012 r.image.homeTower.toNat ≤ s.now →
     exec (.abortDeadline t ring) s = .next
       ((r.chains.foldl (fun s c => s.recordChain (ringKey t ring) (c.finish s.now Status.aborted.code 0)) s).stopAbort (ringKey t ring)))

/-- A doorbell from an attach port without a grant is counted there and ignored; one of a live function that is not 64
bits wide or has reserved bits is discarded, counted and reported. On an ACTIVE work ring an index that does not pass
the ring's size beyond done and beyond tail becomes the tail, an equal one changes nothing, any other is discarded. On
an ACTIVE notification ring an index between consumed and produced becomes the consumed index, and an event that comes
due is raised. On the event ring it becomes the consumed index and the next event is notified again. Doorbells to no
ring, or to a ring that is not ACTIVE, are discarded. -/
def Obligations.RingDoorbells : Prop :=
  (∀ (t a : Nat) (v : W64) (width : Nat) (s : State), s.doorbellGranted t (.attach a) = false →
     exec (.doorbell t v width (.attach a)) s = .next (s.bump d14_0102 a) ∧
     (∀ r, s.ring? (ringKey t (dbRing v)) = some r → r.image.notify = 1 →
       exec (.notifyConsumeDoorbell t v width (.attach a)) s = .next (s.bump d14_0102 a)) ∧
     (dbRing v = 0xFFFFF → exec (.eventRingConsumeDoorbell t v width (.attach a)) s = .next (s.bump d14_0102 a))) ∧
  (∀ (t ring : Nat) (v : W64) (width : Nat) (via : Via) (s : State), s.doorbellGranted t via = true → s.fnLive t = true → ring = fieldNat 32 20 v →
     ((width ≠ 64 ∨ fieldNat 52 12 v ≠ 0) → exec (.doorbell t v width via) s = .next (s.discardDoorbell t ring)) ∧
     (width = 64 → fieldNat 52 12 v = 0 →
       (s.ring? (ringKey t ring) = none → ring ≠ 0xFFFFF → exec (.doorbell t v width via) s = .next (s.discardDoorbell t ring)) ∧
       (∀ r, s.ring? (ringKey t ring) = some r → r.image.notify ≠ 1 →
         (r.mode ≠ .active → exec (.doorbell t v width via) s = .next (s.discardDoorbell t ring)) ∧
         (r.mode = .active →
           (field 0 32 v = r.tail → exec (.doorbell t v width via) s = .next s) ∧
           (field 0 32 v ≠ r.tail → serialDiff (field 0 32 v) r.done ≤ r.size → serialDiff (field 0 32 v) r.tail ≤ r.size →
             exec (.doorbell t v width via) s = .next (s.setRing (ringKey t ring) { r with tail := field 0 32 v })) ∧
           (field 0 32 v ≠ r.tail → (r.size < serialDiff (field 0 32 v) r.done ∨ r.size < serialDiff (field 0 32 v) r.tail) →
             exec (.doorbell t v width via) s = .next (s.discardDoorbell t ring)))))) ∧
  (∀ (t ring : Nat) (v : W64) (width : Nat) (via : Via) (r : Ring) (s : State), s.doorbellGranted t via = true → s.fnLive t = true →
     ring = fieldNat 32 20 v → s.ring? (ringKey t ring) = some r → r.image.notify = 1 →
     ((width ≠ 64 ∨ fieldNat 52 12 v ≠ 0 ∨ r.mode ≠ .active ∨ serialDiff r.tail r.done < serialDiff (field 0 32 v) r.done) →
       exec (.notifyConsumeDoorbell t v width via) s = .next (s.discardDoorbell t ring)) ∧
     (width = 64 → fieldNat 52 12 v = 0 → r.mode = .active → serialDiff (field 0 32 v) r.done ≤ serialDiff r.tail r.done →
       ∀ q : Ring, q = { r with done := field 0 32 v, eventDue := r.eventDue || (decide (field 0 32 v = r.tail) && decide (r.uncovered ≠ 0)) } →
       (q.eventDue = false → exec (.notifyConsumeDoorbell t v width via) s = .next (s.setRing (ringKey t ring) q)) ∧
       (q.eventDue = true → exec (.notifyConsumeDoorbell t v width via) s = .next ((s.setRing (ringKey t ring) q).raiseRing (ringKey t ring))))) ∧
  (∀ (t : Nat) (v : W64) (width : Nat) (via : Via) (s : State), s.doorbellGranted t via = true → s.fnLive t = true → fieldNat 32 20 v = 0xFFFFF →
     ((width ≠ 64 ∨ fieldNat 52 12 v ≠ 0 ∨ serialDiff (s.tenant t).events.produced (s.tenant t).events.consumed <
         serialDiff (field 0 32 v) (s.tenant t).events.consumed) →
       exec (.eventRingConsumeDoorbell t v width via) s = .next (s.discardDoorbell t 0xFFFFF)) ∧
     (width = 64 → fieldNat 52 12 v = 0 → serialDiff (field 0 32 v) (s.tenant t).events.consumed ≤
         serialDiff (s.tenant t).events.produced (s.tenant t).events.consumed →
       exec (.eventRingConsumeDoorbell t v width via) s = .next (s.setTenant t { s.tenant t with
         events := { (s.tenant t).events with consumed := field 0 32 v, notified := false } })))

/-- A ring with entries to fetch, reads left in its round and nothing held at its head issues a read of up to 8
entries that does not pass the tail or the last slot, and its next fetch moves by as many. A returned read enters its
entries in ring order, and entries whose stamps match are accepted from the head on; a failed one puts the ring in
ERROR. A held entry is fetched again at its interval, at most D4.0010 times; it is accepted when its stamp then
matches, becomes a stale entry after the last, and keeps the stamp it read otherwise. -/
def Obligations.RingFetching : Prop :=
  (∀ (t ring k n : Nat) (r q : Ring) (s a b : State), k = ringKey t ring → s.tenantFetches t = true → s.pkg.phase = .running →
     a = s.resumeRing k → a.ring? k = some r → r.pendingFetch = true →
     (r.refetch ≠ none ∨ ∀ h ∈ r.held.head?, h.1 ≠ r.head) →
     b = a.fetchRound k r → b.ring? k = some q →
     (q.fetchCredit = 0 → exec (.fetchIssue t ring) s = .next b) ∧
     (q.fetchCredit ≠ 0 → n = min (min 8 (serialDiff q.tail q.fetchNext)) (q.size - q.fetchNext.toNat % q.size) →
       exec (.fetchIssue t ring) s = .next ((b.setRing k { q with
         fetchCredit := q.fetchCredit - 1, fetches := q.fetches ++ [(q.fetchNext, n)], fetchNext := q.fetchNext + BitVec.ofNat 32 n }).emit
           (.memRead q.place.space q.place.port q.place.pasid (q.slotAddr q.fetchNext) (64 * n))))) ∧
  (∀ (t ring k n : Nat) (index : W32) (ans : MemAns) (r q : Ring) (s a : State), k = ringKey t ring → s.ring? k = some r →
     r.fetches.find? (fun f => f.1 = index) = some (index, n) → q = { r with fetches := r.fetches.filter (fun f => f.1 ≠ index) } → a = s.setRing k q →
     (a.placeRead t q.place (q.slotAddr index) (64 * n) ans = none →
       exec (.fetchReturn t ring index ans) s = .next ((a.readFailed t q.place (q.slotAddr index) (64 * n)).fetchFailed k)) ∧
     (∀ b, a.placeRead t q.place (q.slotAddr index) (64 * n) ans = some b →
       exec (.fetchReturn t ring index ans) s = .next ((a.setRing k { q with held :=
         ((upTo n).map (fun j => (index + BitVec.ofNat 32 j, w512OfBytes (slice (64 * j) 64 b)))).foldl (fun l e => holdEntry q.head e l) q.held }).resumeRing k))) ∧
  (∀ (t ring k : Nat) (r : Ring) (f : Refetch) (s : State), k = ringKey t ring → s.ring? k = some r → r.refetch = some f →
     s.tenantFetches t = true → (r.mode = .active ∨ r.mode = .draining) → f.issued < s.par d4_0010 r.image.homeTower.toNat →
     f.since + s.par d4_0011 r.image.homeTower.toNat * (f.issued + 1) ≤ s.now →
     exec (.refetchIssue t ring) s = .next ((s.setRing k { r with refetch := some { f with issued := f.issued + 1 } }).emit
       (.memRead r.place.space r.place.port r.place.pasid (r.slotAddr f.index) 64))) ∧
  (∀ (t ring k : Nat) (ans : MemAns) (r : Ring) (f : Refetch) (s : State), k = ringKey t ring → s.ring? k = some r → r.refetch = some f →
     f.returned < f.issued →
     (s.placeRead t r.place (r.slotAddr f.index) 64 ans = none →
       exec (.refetchReturn t ring f.index ans) s = .next ((s.readFailed t r.place (r.slotAddr f.index) 64).fetchFailed k)) ∧
     (∀ (b : Bytes) (w : W512), s.placeRead t r.place (r.slotAddr f.index) 64 ans = some b → w = w512OfBytes b →
       (entStamp w = field 0 16 f.index → exec (.refetchReturn t ring f.index ans) s = .next
         ((((s.setRing k { r with refetch := none, held := r.held.tail }).bump d4_0103 t).acceptEntry k f.index w true).resumeRing k)) ∧
       (entStamp w ≠ field 0 16 f.index → s.par d4_0010 r.image.homeTower.toNat ≤ f.returned + 1 →
         exec (.refetchReturn t ring f.index ans) s = .next (((s.setRing k { r with held := r.held.tail }).staleEntry k f.index w).resumeRing k)) ∧
       (entStamp w ≠ field 0 16 f.index → f.returned + 1 < s.par d4_0010 r.image.homeTower.toNat →
         exec (.refetchReturn t ring f.index ans) s = .next (s.setRing k { r with refetch := some { f with returned := f.returned + 1, stamp := entStamp w } }))))

/-- A ring's next chain that may start starts when every entry is well formed, its tenant has requests left on the
tower and its mover entries fit; a malformed one completes with MALFORMED at its first bad field and is counted; one
at the request limit is counted once and waits. The oldest chain, once decided, is recorded in its first slot, done
advances by its slots, the mirror comes due, and a signalled completion counts towards the event; an ABORT or a
DRAINING may then be over. A mirror that is due is written, then a pending event is raised. When the event time has
passed since the first uncovered completion, the mirror is written and the event raised. -/
def Obligations.RingChainsAndRecords : Prop :=
  (∀ (t ring k : Nat) (r : Ring) (c : Chain) (s : State), k = ringKey t ring → s.ring? k = some r → r.nextChain = some c → s.chainMayStart t r c = true →
     (∀ i off, s.chainBad t c = some (i, off) → exec (.chainStart t ring) s = .next
       ((s.modifyChain k c.first (Chain.finish s.now Status.malformed.code (i % 256 + 256 * off))).noteMalformed k (c.first + BitVec.ofNat 32 i))) ∧
     (s.chainBad t c = none →
       (s.par d15_8001 t ≤ s.requestsOf t r.image.homeTower.toNat → c.limited = true → exec (.chainStart t ring) s = .next s) ∧
       (s.par d15_8001 t ≤ s.requestsOf t r.image.homeTower.toNat → c.limited = false → exec (.chainStart t ring) s = .next
         ((s.modifyChain k c.first (fun c => { c with limited := true })).bump d15_0103 t)) ∧
       (s.requestsOf t r.image.homeTower.toNat < s.par d15_8001 t → s.moversFit t c = false → exec (.chainStart t ring) s = .next s) ∧
       (s.requestsOf t r.image.homeTower.toNat < s.par d15_8001 t → s.moversFit t c = true → exec (.chainStart t ring) s = .next
         (s.setRing k { r with chains := r.chains.map (fun x => if x.first = c.first then { x with started := true } else x) })))) ∧
  (∀ (t ring k : Nat) (r : Ring) (c : Chain) (rest : List Chain) (s a b : State) (record : Bytes), k = ringKey t ring → s.ring? k = some r →
     r.chains = c :: rest → c.decided ≠ none → (r.mode = .active ∨ r.mode = .draining ∨ r.mode = .aborting) →
     ((s.tenant t).mode ≠ .resetting ∨ r.place.space ≠ 0) →
     record = c.record r.image.evtMode s.now →
     a = State.trace r.image.homeTower.toNat 3 (keyTenant k) record { s with time := { s.time with
       triggers := s.time.triggers.filter (fun (x : Trigger) => !(x.ring = k && x.first = c.first)) } } →
     b = (if c.outcome.1 = Status.poweredDown.code then ((a.ringWrite k r (r.slotAddr c.first) record).getD a).bump d20_0103 0
       else (a.ringWrite k r (r.slotAddr c.first) record).getD a) →
     ∀ q u : Ring, q = { r with chains := rest, done := r.done + BitVec.ofNat 32 c.slots, mirrorSince := r.mirrorSince.or (some b.now) } →
     u = (if c.signalled && !(r.fromError && (a.ringWrite k r (r.slotAddr c.first) record).isNone) then q.signal b.now else q) →
     exec (.completionWrite t ring) s = .next ((b.setRing k u.reachTail).afterRecord k)) ∧
  (∀ (t ring k a : Nat) (r : Ring) (s b : State), k = ringKey t ring → s.ring? k = some r → r.mirrorSince = some a → r.mode ≠ .error → r.mode ≠ .halted →
     b = s.setRing k { r with mirrorSince := none } →
     ∀ w : State, w = (if r.image.notify = 1 then b else (b.ringWrite k r r.image.mirrorAddr.toNat (leBytes 8 (packNat [(32, r.done.toNat), (8, r.mode.code)]))).getD b) →
     exec (.mirrorWrite t ring) s = .next (if r.eventDue then w.raiseRing k else w)) ∧
  (∀ (t ring k a : Nat) (r : Ring) (s b : State), k = ringKey t ring → s.ring? k = some r → r.firstUncovered = some a → r.image.evtTime ≠ 0 →
     a + r.image.evtTime.toNat ≤ s.now → r.image.evtMode ≠ 0 → b = s.setRing k { r with eventDue := true } →
     (r.mirrorSince ≠ none → r.mode ≠ .error → r.mode ≠ .halted → exec (.ringEventTimer t ring) s = .next (b.writeMirror k)) ∧
     ((r.mirrorSince = none ∨ r.mode = .error ∨ r.mode = .halted) → exec (.ringEventTimer t ring) s = .next (b.raiseRing k)))

/-- A command of a live function is discarded with LOST while the page is BUSY; otherwise BUSY is set and TARGET holds
the realm. CREATE answers BAD_FIELD, NO_CONTEXT, or makes the next free index VALID with the tag after its last one,
for the tenant and its incarnation, and answers OK with the key. A command on no realm answers NO_REALM, on another
tenant's NOT_OWNER, on a CHANGING one BAD_STATE. MODIFY refuses bad fields and a moved place, else replaces PERMS and
the fence ranges; REVOKE advances TAG; DESTROY marks the realm for freeing; each of the three leaves it CHANGING with
the command under way. QUERY puts the context into the first 512 bits of REALM_CTX. When every access under the old
state has finished, the realm is VALID again, or FREE after DESTROY, and the command that waits for it ends with OK. -/
def Obligations.RealmControlPage : Prop :=
  (∀ (t i : Nat) (value : W64) (s : State) (c : Instr), s.fnLive t = true → (s.fn t).realm.busy = true →
     c ∈ [.realmCreate t, .realmModify t i, .realmRevoke t i, .realmDestroy t i, .realmQuery t i] ∨
       (c = .realmCmdUnknown t value ∧ ¬ (1 ≤ fieldNat 0 8 value ∧ fieldNat 0 8 value ≤ 5 ∧ fieldNat 32 32 value = 0)) →
     exec c s = .next (s.setFn t { s.fn t with realm := { (s.fn t).realm with lost := true } })) ∧
  (∀ (t : Nat) (s a : State) (x : W512), s.fnLive t = true → (s.fn t).realm.busy = false →
     (∀ value : W64, ¬ (1 ≤ fieldNat 0 8 value ∧ fieldNat 0 8 value ≤ 5 ∧ fieldNat 32 32 value = 0) →
       exec (.realmCmdUnknown t value) s = .next ((s.setFn t { s.fn t with realm := { (s.fn t).realm with
         busy := true, target := BitVec.ofNat 32 (fieldNat 8 24 value) } }).realmResult t 3 0)) ∧
     (x = (s.fn t).realm.ctx.setWidth 512 → a = s.setFn t { s.fn t with realm := { (s.fn t).realm with busy := true, target := 0 } } →
       (a.realmFieldsOk t x = false → exec (.realmCreate t) s = .next (a.realmResult t 3 0)) ∧
       (a.realmFieldsOk t x = true → s.par d12_8004 t ≤ s.realmsHeld t → exec (.realmCreate t) s = .next (a.realmResult t 4 0)) ∧
       (a.realmFieldsOk t x = true → s.realmsHeld t < s.par d12_8004 t → s.nextRealm = none → exec (.realmCreate t) s = .next (a.realmResult t 4 0)) ∧
       (∀ (i : Nat) (tag : BitVec 8), a.realmFieldsOk t x = true → s.realmsHeld t < s.par d12_8004 t → s.nextRealm = some i →
         tag = tgetD s.realms.lastTags i 0 + 1 →
         exec (.realmCreate t) s = .next (({ a with realms := {
             realms := tset i ({ Realm.ofWord x with tag := tag, mode := .valid, tenant := BitVec.ofNat 11 t, tenantInc := (s.tenant t).inc } : Realm) s.realms.realms
             lastTags := tput 0 i tag s.realms.lastTags
             lastIndex := i } } : State).realmResult t 0 (realmKey i tag))))) ∧
  (∀ (t i : Nat) (s a : State), s.fnLive t = true → (s.fn t).realm.busy = false →
     a = s.setFn t { s.fn t with realm := { (s.fn t).realm with busy := true, target := BitVec.ofNat 32 i } } →
     (s.realm? i = none → ∀ c : Instr, c ∈ [Instr.realmModify t i, .realmRevoke t i, .realmDestroy t i, .realmQuery t i] →
       exec c s = .next (a.realmResult t 1 0)) ∧
     (∀ r, s.realm? i = some r →
       (r.tenant.toNat ≠ t → ∀ c : Instr, c ∈ [Instr.realmModify t i, .realmRevoke t i, .realmDestroy t i, .realmQuery t i] →
         exec c s = .next (a.realmResult t 5 0)) ∧
       (r.tenant.toNat = t → r.mode = .changing → ∀ c : Instr, c ∈ [Instr.realmModify t i, .realmRevoke t i, .realmDestroy t i, .realmQuery t i] →
         exec c s = .next (a.realmResult t 2 (realmKey i r.tag))) ∧
       (r.tenant.toNat = t → r.mode ≠ .changing →
         (∀ (x : W512) (n : Realm), x = (s.fn t).realm.ctx.setWidth 512 → n = Realm.ofWord x →
           (a.realmFieldsOk t x = false ∨ n.space ≠ r.space ∨ n.attachPort ≠ r.attachPort ∨ n.pasid ≠ r.pasid ∨ n.pasidEn ≠ r.pasidEn →
             exec (.realmModify t i) s = .next (a.realmResult t 3 (realmKey i r.tag))) ∧
           (a.realmFieldsOk t x = true → n.space = r.space → n.attachPort = r.attachPort → n.pasid = r.pasid → n.pasidEn = r.pasidEn →
             exec (.realmModify t i) s = .next (a.setRealm i { r with
               perms := n.perms, fence0 := n.fence0, fence1 := n.fence1, fence2 := n.fence2, mode := .changing, changeAt := s.now }))) ∧
         exec (.realmRevoke t i) s = .next (({ a with realms := { s.realms with lastTags := tput 0 i (r.tag + 1) s.realms.lastTags } } : State).setRealm i
           { r with tag := r.tag + 1, mode := .changing, changeAt := s.now }) ∧
         exec (.realmDestroy t i) s = .next (a.setRealm i { r with mode := .changing, destroying := true, changeAt := s.now }) ∧
         exec (.realmQuery t i) s = .next ((a.setFn t { a.fn t with realm := { (a.fn t).realm with
           ctx := (((a.fn t).realm.ctx >>> 512) <<< 512) ||| r.word.setWidth 1024 } }).realmResult t 0 (realmKey i r.tag))))) ∧
  (∀ (i : Nat) (r : Realm) (s a : State), s.realm? i = some r → r.mode = .changing → s.realmBusy i = false →
     ((r.destroying = true ∧ a = { s with realms := { s.realms with realms := terase i s.realms.realms } }) ∨
       (r.destroying = false ∧ a = s.setRealm i { r with mode := .valid })) →
     ((s.fn r.tenant.toNat).realm.busy = true ∧ (s.fn r.tenant.toNat).realm.target.toNat = i →
       exec (.realmChangeDone i) s = .next (a.realmResult r.tenant.toNat 0 (realmKey i r.tag))) ∧
     (¬ ((s.fn r.tenant.toNat).realm.busy = true ∧ (s.fn r.tenant.toNat).realm.target.toNat = i) → exec (.realmChangeDone i) s = .next a))

/-- A command of a live function is discarded with LOST while the page is BUSY; otherwise BUSY is set and TARGET holds
the operand (state a). A connection of no tower answers NO_CONN, one outside the tenant's range NOT_OWNER. CREATE
answers QUARANTINED or BAD_STATE on a connection that is not FREE, then BAD_FIELD, then NO_CONTEXT, else advances the
incarnation, installs the context in INIT and answers OK. BIND takes INIT to READY and replaces the peer fields of a
FROZEN connection; MODIFY replaces its five fields in INIT and READY; FREEZE takes READY to FROZEN and stays under
way; THAW returns it; DESTROY drains INIT, READY and FROZEN and leaves ERROR at once; QUERY returns the words; FLUSH
writes a cached context to its backing. In any other state the answer is BAD_STATE, with bad fields BAD_FIELD; an
unlisted command answers BAD_FIELD. -/
def Obligations.ConnectionControlPage : Prop :=
  (∀ (t n : Nat) (value : W64) (s : State) (c : Instr), s.fnLive t = true → (s.fn t).conn.busy = true →
     c ∈ [.connCreate t n, .connBind t n, .connModify t n, .connFreeze t n, .connThaw t n, .connDestroy t n, .connQuery t n, .connFlush t n,
         .handleWrite t n, .handleRead t n] ∨
       (c = .connCmdUnknown t value ∧ ¬ (1 ≤ fieldNat 0 8 value ∧ fieldNat 0 8 value ≤ 10 ∧ fieldNat 32 32 value = 0)) →
     exec c s = .next (s.setFn t { s.fn t with conn := { (s.fn t).conn with lost := true } })) ∧
  (∀ (t n code : Nat) (s a : State), s.fnLive t = true → (s.fn t).conn.busy = false →
     a = s.setFn t { s.fn t with conn := { (s.fn t).conn with busy := true, target := BitVec.ofNat 32 n } } →
     ((s.towers ≤ connTower n ∧ code = 1) ∨ (connTower n < s.towers ∧ s.ownsConn t n = false ∧ code = 5)) →
     ∀ c : Instr, c ∈ [Instr.connCreate t n, .connBind t n, .connModify t n, .connFreeze t n, .connThaw t n, .connDestroy t n, .connQuery t n, .connFlush t n] →
       exec c s = .next (a.connResult t n code)) ∧
  (∀ (t n : Nat) (s a : State) (w : BitVec 1024) (k : Core), s.fnLive t = true → (s.fn t).conn.busy = false →
     a = s.setFn t { s.fn t with conn := { (s.fn t).conn with busy := true, target := BitVec.ofNat 32 n } } → connTower n < s.towers → s.ownsConn t n = true →
     w = (a.fn t).conn.ctx → k = Core.ofWord (w.setWidth 704) →
     (∀ y, s.conn? n = some y → y.ctx.core.mode ≠ .quarantine → exec (.connCreate t n) s = .next (a.connResult t n 2)) ∧
     (∀ y, s.conn? n = some y → y.ctx.core.mode = .quarantine → s.now < y.quarantineEnd → exec (.connCreate t n) s = .next (a.connResult t n 6)) ∧
     ((s.conn? n = none ∨ ∃ y, s.conn? n = some y ∧ y.ctx.core.mode = .quarantine ∧ y.quarantineEnd ≤ s.now) →
       ((createFieldsOk k w = false ∨ a.handleUsable t k.handle.toNat = false ∨ a.rootOk t k = false) →
         exec (.connCreate t n) s = .next (a.connResult t n 3)) ∧
       (createFieldsOk k w = true → a.handleUsable t k.handle.toNat = true → a.rootOk t k = true →
         ((k.cls = 1 ∧ a.par d5_0002 (connTower n) ≤ a.pinnedCount (connTower n)) ∨ 16384 ≤ a.cachedCount (connTower n) →
           exec (.connCreate t n) s = .next (a.connResult t n 4)) ∧
         (¬ (k.cls = 1 ∧ a.par d5_0002 (connTower n) ≤ a.pinnedCount (connTower n)) → a.cachedCount (connTower n) < 16384 →
           ∀ b : State, b = a.setInc n { a.inc n with last := (a.inc n).last + 1 } →
           exec (.connCreate t n) s = .next ((b.setConn n (b.newConn t n ((a.inc n).last + 1) k)).connResult t n 0))))) ∧
  (∀ (t n : Nat) (s a : State) (w : BitVec 1024) (k : Core), s.fnLive t = true → (s.fn t).conn.busy = false →
     a = s.setFn t { s.fn t with conn := { (s.fn t).conn with busy := true, target := BitVec.ofNat 32 n } } → connTower n < s.towers → s.ownsConn t n = true →
     w = (a.fn t).conn.ctx → k = Core.ofWord (w.setWidth 704) →
     exec (.connQuery t n) s = .next ((a.setFn t { a.fn t with conn := { (a.fn t).conn with ctx := a.queryConn n } }).connResult t n 0) ∧
     (s.conn? n = none → ∀ c : Instr, c ∈ [Instr.connBind t n, .connModify t n, .connFreeze t n, .connThaw t n, .connDestroy t n, .connFlush t n] →
       exec c s = .next (a.connResult t n 2)) ∧
     (∀ x, s.conn? n = some x →
       (x.ctx.core.mode ≠ .init → x.ctx.core.mode ≠ .frozen → exec (.connBind t n) s = .next (a.connResult t n 2)) ∧
       ((x.ctx.core.mode = .init ∨ x.ctx.core.mode = .frozen) → a.handleUsable t k.handle.toNat = false →
         exec (.connBind t n) s = .next (a.connResult t n 3)) ∧
       ((x.ctx.core.mode = .init ∨ x.ctx.core.mode = .frozen) → a.handleUsable t k.handle.toNat = true →
         exec (.connBind t n) s = .next ((a.setConn n (a.bindPeer x k (x.ctx.core.mode = .init))).connResult t n 0)) ∧
       (x.ctx.core.mode ≠ .init → x.ctx.core.mode ≠ .ready → exec (.connModify t n) s = .next (a.connResult t n 2)) ∧
       ((x.ctx.core.mode = .init ∨ x.ctx.core.mode = .ready) → (k.txWindow = 0 ∨ 4096 < k.txWindow.toNat ∨ a.rootOk t x.ctx.core = false) →
         exec (.connModify t n) s = .next (a.connResult t n 3)) ∧
       ((x.ctx.core.mode = .init ∨ x.ctx.core.mode = .ready) → k.txWindow ≠ 0 → k.txWindow.toNat ≤ 4096 → a.rootOk t x.ctx.core = true →
         exec (.connModify t n) s = .next ((a.setConn n { x with ctx := { x.ctx with core := { x.ctx.core with
           keyEpoch := k.keyEpoch, notifyRing := k.notifyRing, notifyEn := k.notifyEn, retryLimit := k.retryLimit,
           txWindow := k.txWindow } } }).connResult t n 0)) ∧
       (x.ctx.core.mode ≠ .ready → exec (.connFreeze t n) s = .next (a.connResult t n 2)) ∧
       (x.ctx.core.mode = .ready → exec (.connFreeze t n) s = .next (a.setConn n { x with
         ctx := { x.ctx with core := { x.ctx.core with mode := .frozen } }
         freezeAt := some s.now, freezeMsn := x.ctx.delivery.txMsn })) ∧
       (x.ctx.core.mode ≠ .frozen → exec (.connThaw t n) s = .next (a.connResult t n 2)) ∧
       (x.ctx.core.mode = .frozen → exec (.connThaw t n) s = .next ((a.setConn n { x with
         ctx := { x.ctx with core := { x.ctx.core with mode := .ready } }, freezeAt := none, ableSince := s.now }).connResult t n 0)) ∧
       (x.ctx.core.mode = .error → exec (.connDestroy t n) s = .next (a.leaveDraining n (.ofCause x.ctx.core.errorCause.toNat))) ∧
       ((x.ctx.core.mode = .init ∨ x.ctx.core.mode = .ready ∨ x.ctx.core.mode = .frozen) → exec (.connDestroy t n) s = .next (a.setConn n { x with
         ctx := { x.ctx with core := { x.ctx.core with mode := .draining } }
         drainAt := some s.now, destroying := true, freezeAt := none })) ∧
       ((x.ctx.core.mode = .draining ∨ x.ctx.core.mode = .quarantine ∨ x.ctx.core.mode = .free) → exec (.connDestroy t n) s = .next (a.connResult t n 2)) ∧
       (x.ctx.core.mode = .quarantine → exec (.connFlush t n) s = .next (a.connResult t n 2)) ∧
       (x.ctx.core.mode ≠ .quarantine → (x.cache = .out ∨ x.cache = .fetching) → exec (.connFlush t n) s = .next (a.connResult t n 0)) ∧
       (x.ctx.core.mode ≠ .quarantine → x.cache ≠ .out → x.cache ≠ .fetching →
         exec (.connFlush t n) s = .next ((a.writeBack n).1.connResult t n (if (a.writeBack n).2 then 0 else 7))))) ∧
  (∀ (t : Nat) (value : W64) (s : State), s.fnLive t = true → (s.fn t).conn.busy = false →
     ¬ (1 ≤ fieldNat 0 8 value ∧ fieldNat 0 8 value ≤ 10 ∧ fieldNat 32 32 value = 0) →
     exec (.connCmdUnknown t value) s = .next ((s.setFn t { s.fn t with conn := { (s.fn t).conn with
       busy := true, target := BitVec.ofNat 32 (fieldNat 8 24 value) } }).handleResult t 3))

/-- A freeze ends with OK when nothing is outstanding or D5.0013 has passed. A DRAINING connection leaves when nothing
is outstanding or D5.0011 has passed. A quarantined connection becomes FREE when its quarantine has passed. When fewer
than D5.0014 cache entries of a tower are free, its victim is written back and evicted; when the write-back has left,
the entry is released and counted, or stays if it was needed meanwhile; a failed write-back keeps it and marks it as
not to be evicted. HANDLE_WRITE answers NOT_OWNER, BAD_STATE, BAD_FIELD, NO_CONTEXT or writes the handle; HANDLE_READ
returns a handle of the tenant. -/
def Obligations.ConnectionProgress : Prop :=
  (∀ (n : Nat) (x : Conn) (s : State), s.conn? n = some x →
     (∀ f, x.freezeAt = some f → (x.outstanding = 0 ∨ f + s.par d5_0013 (connTower n) ≤ s.now) →
       exec (.freezeComplete n) s = .next ((s.setConn n { x with freezeAt := none }).endConnCmd x.ctx.core.tenant.toNat n 0)) ∧
     (∀ d, x.drainAt = some d → x.ctx.core.mode = .draining → (x.outstanding = 0 ∨ d + s.par d5_0011 (connTower n) ≤ s.now) →
       exec (.drainExit n) s = .next (s.leaveDraining n .contextLost)) ∧
     (x.ctx.core.mode = .quarantine → x.quarantineEnd ≤ s.now → exec (.quarantineEnd n) s = .next { s with conns := terase n s.conns })) ∧
  (∀ (n k : Nat) (x : Conn) (s : State),
     (16384 - s.cachedCount k < s.par d5_0014 k →
       (s.victim k = none → exec (.evictionStart k) s = .next s) ∧
       (s.victim k = some (n, x) → exec (.evictionStart k) s = .next
         (if (s.writeBack n).2 then (s.writeBack n).1.setConn n { x with cache := .evicting false } else (s.writeBack n).1))) ∧
     (s.conn? n = some x →
       (x.cache = .evicting false → exec (.evictionRelease n) s = .next ((s.setConn n { x with cache := .out }).bump d5_0101 (connTower n))) ∧
       (x.cache = .evicting true → exec (.evictionRelease n) s = .next (s.setConn n { x with cache := .cached })) ∧
       (∀ b tr, x.cache = .evicting b → exec (.backingWritebackError n tr) s = .next
         ((s.setConn n { x with cache := .cached, noEvict := true }).backingFailure n (if tr then .translationFault else .busError))))) ∧
  (∀ (t h n : Nat) (s a : State) (w : W512), s.fnLive t = true → (s.fn t).conn.busy = false → n = h % 65536 →
     a = s.setFn t { s.fn t with conn := { (s.fn t).conn with busy := true, target := BitVec.ofNat 32 h } } → w = (a.fn t).conn.ctx.setWidth 512 →
     ((s.handle n).valid = 1 → (s.handle n).tenant.toNat ≠ t →
       exec (.handleWrite t h) s = .next (a.handleResult t 5) ∧ exec (.handleRead t h) s = .next (a.handleResult t 5)) ∧
     ((s.handle n).valid ≠ 1 → (Handle.ofWord w).valid = 0 → exec (.handleWrite t h) s = .next (a.handleResult t 5)) ∧
     ((s.handle n).valid ≠ 1 → exec (.handleRead t h) s = .next (a.handleResult t 5)) ∧
     ((s.handle n).valid = 1 → (s.handle n).tenant.toNat = t → (Handle.ofWord w).valid = 0 →
       exec (.handleWrite t h) s = .next (if s.handleNamed t n then a.handleResult t 2 else (a.setHandle n {}).handleResult t 0)) ∧
     ((s.handle n).valid = 1 → (s.handle n).tenant.toNat = t →
       exec (.handleRead t h) s = .next ((a.setFn t { a.fn t with conn := { (a.fn t).conn with
         ctx := (((a.fn t).conn.ctx >>> 512) <<< 512) ||| (s.handle n).word.setWidth 1024 } }).handleResult t 0)) ∧
     (((s.handle n).valid ≠ 1 ∨ (s.handle n).tenant.toNat = t) → (Handle.ofWord w).valid ≠ 0 →
       ((Handle.ofWord w).tenant.toNat ≠ t ∨ 3 ≤ (Handle.ofWord w).encap.toNat ∨ handleReservedZero w = false → exec (.handleWrite t h) s = .next (a.handleResult t 3)) ∧
       ((Handle.ofWord w).tenant.toNat = t → (Handle.ofWord w).encap.toNat < 3 → handleReservedZero w = true →
         ((s.handle n).valid ≠ 1 → s.par d5_8001 t ≤ s.handlesHeld t → exec (.handleWrite t h) s = .next (a.handleResult t 4)) ∧
         ((s.handle n).valid = 1 ∨ s.handlesHeld t < s.par d5_8001 t →
           exec (.handleWrite t h) s = .next ((a.setHandle n (Handle.ofWord w)).handleResult t 0)))))

/-- The next ready entry of a ring with the opcode: on a connection that refuses it the entry fails with that status,
on a FROZEN one it waits, out of the cache the context is fetched first; a refused local key fails it with its status
and reason, a page without translation makes it wait for one. Otherwise it runs, is recorded as relaxed if it asked
and the ring has room, and its message is appended to the connection's messages with the next MSN. A NOP ends at once.
A FENCE_FLUSH whose chain is the ring's first clears what the ring recorded, sends a flush request on each recorded
connection, reads back the recorded places, and ends at once when it has nothing to wait for. -/
def Obligations.RemoteEntries : Prop :=
  (∀ (t ring op : Nat) (s : State) (c : Instr), (op, c) ∈ [(0x41, Instr.nop t ring), (1, .write t ring), (2, .writeImm t ring), (3, .read t ring),
       (4, .accum t ring), (0x40, .fenceFlush t ring)] → s.readyEntry t ring op = none → exec c s = .next s) ∧
  (∀ (t ring op : Nat) (s : State) (c : Instr) (e : EntryRef) (w : W512), (op, c) ∈ [(1, Instr.write t ring), (2, .writeImm t ring), (3, .read t ring),
       (4, .accum t ring)] → s.readyEntry t ring op = some (e, w) →
     (∀ st, s.connUse t (entConn w) = .fail st → exec c s = .next (s.failEntry e st 0)) ∧
     (s.connUse t (entConn w) = .wait → exec c s = .next s) ∧
     (∀ x, s.connUse t (entConn w) = .go → s.conn? (entConn w) = some x →
       ((x.cache = .out ∨ x.cache = .fetching) → exec c s = .next (s.fetchCtx (entConn w))) ∧
       (∀ (b : Bool) (y : Conn) (a : State), (x.cache = .cached ∧ a = s) ∨
           (x.cache = .evicting b ∧ y = { x with cache := .evicting true } ∧ a = s.setConn (entConn w) y) →
         (∀ n, a.checkNeeds t (remoteNeeds op w) = .fail n → exec c s = .next (a.failLocal t e n)) ∧
         (∀ n g, a.checkNeeds t (remoteNeeds op w) = .translate n g → exec c s = .next (a.awaitPage t e (a.keyPasid n.key) g (n.perm = 1))) ∧
         (∀ rs, a.checkNeeds t (remoteNeeds op w) = .ok rs → a.needsShut (remoteNeeds op w) rs = true →
           exec c s = .next (a.failEntry e .poweredDown 0)) ∧
         (∀ (rs : List Realm) (p : Place) (m : TxMsg) (d : State × Bool), a.checkNeeds t (remoteNeeds op w) = .ok rs → a.needsShut (remoteNeeds op w) rs = false →
           ((a.tenant t).mode ≠ .resetting ∨ ∀ r ∈ rs, r.space ≠ 0) →
           p = (rs.head?.map Realm.place).getD ⟨1, 0, 0⟩ → d = a.recordRelaxedEntry e (entConn w) (rmRelaxed w) →
           m = entryMsg op e w x.ctx.core p d.2 a.now → (op ≠ 3 ∨ d.2 = false ∨ p.space = 1) →
           exec c s = .next ((d.1.runEntry e).post (entConn w) m)) ∧
         (∀ (r : Realm) (rs : List Realm) (p : Place) (m : TxMsg) (d : State × Bool), a.checkNeeds t (remoteNeeds op w) = .ok (r :: rs) →
           a.needsShut (remoteNeeds op w) (r :: rs) = false → (a.tenant t).mode ≠ .resetting →
           p = r.place → d = a.recordRelaxedEntry e (entConn w) (rmRelaxed w) →
           m = entryMsg op e w x.ctx.core p d.2 a.now → op = 3 → d.2 = true → p.space ≠ 1 →
           exec c s = .next (((d.1.runEntry e).recordRelaxedRead e p (lastWord (entLocal w) (entLength w))
             (readsOf p (r.crossPath (entLocal w) (entLength w)))).post (entConn w) m))))) ∧
  (∀ (t ring : Nat) (e : EntryRef) (w : W512) (s : State), s.readyEntry t ring 0x41 = some (e, w) → exec (.nop t ring) s = .next (s.endEntry e)) ∧
  (∀ (t ring : Nat) (e : EntryRef) (w : W512) (s : State), s.readyEntry t ring 0x40 = some (e, w) →
     (s.firstChain e = false → exec (.fenceFlush t ring) s = .next s) ∧
     (∀ (r q : Ring) (a b : State), s.firstChain e = true → s.ring? e.ring = some r → q = { r with relaxed := [], relaxedReads := [] } →
       a = r.relaxedReads.foldl (fun s x => s.emitReads x.1 x.2.1 x.2.2) (r.relaxed.foldl (fun s c => s.flushOn t e c) ((s.setRing e.ring q).runEntry e)) →
       ((r.relaxedReads.foldl (fun n x => n + x.2.2) 0 = 0 ∧ b = a) ∨
         (r.relaxedReads.foldl (fun n x => n + x.2.2) 0 ≠ 0 ∧
           b = { a with localReads := a.localReads ++ [{ ref := e, left := r.relaxedReads.foldl (fun n x => n + x.2.2) 0 }] })) →
       exec (.fenceFlush t ring) s = .next (if b.ownerBusy e then b else b.endEntry e)))

/-- A command for a packet of another type changes nothing. An expired packet is discarded, counted and its ingress
place freed; one with reserved bits set or of a bad shape is counted in D6.0109. A packet that arrives at a connection
which does not exist, has another incarnation, or is in INIT, FREE or QUARANTINE is answered with STALE_CONNECTION
when it takes a PSN and dropped otherwise; from another peer it is counted; on an ERROR connection it is answered
STALE; on a FROZEN one that does not take it, CONTEXT_BUSY. A packet whose context is not cached waits in the miss
buffer if there is room for it. -/
def Obligations.PacketArrival : Prop :=
  ∀ (rx : Rx) (ty : Nat) (c : Instr) (s : State), (ty, c) ∈ [(1, Instr.pktWriteRx rx), (2, .pktWriteImmRx rx), (3, .pktReadReqRx rx), (4, .pktReadRespRx rx),
      (5, .pktAccumRx rx), (6, .pktFlushReqRx rx), (7, .pktVoidRx rx), (0x10, .ackRx rx), (0x11, .nakRx rx), (0x12, .msgConfirmRx rx), (0x13, .confirmQueryRx rx)] →
    (hdrType rx.pkt ≠ ty → exec c s = .next s) ∧
    (hdrType rx.pkt = ty →
      (∀ a : State, a = s.trace (portTower rx.port) 0 2048 (bytesOf 24 rx.pkt.hdr) → a.tagExpired rx.pkt = true →
        exec c s = .next ((a.bump d6_0103 (portTower rx.port)).freeIngress rx.port (hdrVc rx.pkt) rx.cls rx.pkt.len)) ∧
      (∀ (a b : State) (set : ParamSet), a = s.trace (portTower rx.port) 0 2048 (bytesOf 24 rx.pkt.hdr) → a.tagExpired rx.pkt = false →
        State.routeTables (portTower rx.port) (hdrGen rx.pkt) a = (b, some set) → b.isMine rx.pkt = true → b.hasId = true →
        (reservedOk rx.pkt = false ∨ shapeOk rx.pkt = false) →
        exec c s = .next ((b.freeIngress rx.port (hdrVc rx.pkt) rx.cls rx.pkt.len).bump d6_0109 (portTower rx.port))) ∧
      (∀ d : State, PacketArrives rx s d →
        exec c s = .next (d.atHome rx) ∧
        (d.conn? (hdrDst rx.pkt) = none → exec c s = .next (if takesPsn ty then d.answerStale (hdrDst rx.pkt) rx else d)) ∧
        (∀ x : Conn, d.conn? (hdrDst rx.pkt) = some x →
          (x.ctx.core.mode ≠ .quarantine → (x.cache = .out ∨ x.cache = .fetching) → exec c s = .next (d.missPacket (hdrDst rx.pkt) x rx)) ∧
          ((x.ctx.core.mode = .quarantine ∨ x.cache = .cached ∧ (x.ctx.core.mode = .free ∨ x.ctx.core.mode = .init ∨ hdrDstInc rx.pkt ≠ x.ctx.core.incarnation)) →
            exec c s = .next (if takesPsn ty then d.answerStale (hdrDst rx.pkt) rx else d)) ∧
          (x.cache = .cached → (x.ctx.core.mode = .ready ∨ x.ctx.core.mode = .frozen ∨ x.ctx.core.mode = .draining ∨ x.ctx.core.mode = .error) →
            hdrDstInc rx.pkt = x.ctx.core.incarnation →
            (hdrSrcAdapter rx.pkt ≠ (d.handle x.ctx.core.handle.toNat).peerAdapter.toNat → exec c s = .next (d.bump d5_0108 (connTower (hdrDst rx.pkt)))) ∧
            (hdrSrcAdapter rx.pkt = (d.handle x.ctx.core.handle.toNat).peerAdapter.toNat →
              (x.ctx.core.mode = .error → exec c s = .next (if takesPsn ty then d.answerStale (hdrDst rx.pkt) rx else d)) ∧
              (x.ctx.core.mode = .frozen → d.tenantAnswer x.ctx.core.tenant.toNat (x.begun rx.pkt) = none → takesPsn ty = true → x.frozenTakes rx.pkt = false →
                exec c s = .next (d.answerBusy (hdrDst rx.pkt) rx (d.par d5_0012 (connTower (hdrDst rx.pkt)))))))))) 

/-- A packet beyond the window is counted and dropped; one already received counts as a duplicate and is acknowledged;
one that the policer does not let pass is dropped; one of a refused message, or whose realm check fails, is refused
with its reason. A WRITE_IMM that finds no room in the notification ring is answered REMOTE_NOT_READY. A bad trailer
is counted, a key that must be derived makes the packet wait. A good WRITE, WRITE_IMM, READ_REQ, FLUSH_REQ or VOID
sets its bit of the window, counts, is recorded in its message (a WRITE_IMM reserves its notification entry, a write
is placed), is acknowledged, and closes what may close; a READ's response or its VOID goes to the READ; an ACCUM waits
for the cores. -/
def Obligations.DataPackets : Prop :=
  (∀ (rx : Rx) (ty n : Nat) (c : Instr) (s d b : State) (x : Conn), (ty, c) ∈ [(1, Instr.pktWriteRx rx), (2, .pktWriteImmRx rx), (3, .pktReadReqRx rx), (4, .pktReadRespRx rx),
       (5, .pktAccumRx rx), (6, .pktFlushReqRx rx), (7, .pktVoidRx rx)] → hdrType rx.pkt = ty → PacketArrives rx s d → AtConnection rx d x → n = hdrDst rx.pkt →
     (4096 ≤ x.window (hdrPsn rx.pkt) → exec c s = .next (d.bump d6_0104 (connTower n))) ∧
     (x.window (hdrPsn rx.pkt) < 4096 → x.received (hdrPsn rx.pkt) = true → exec c s = .next
       ((d.setConn n { x with ctx := { x.ctx with core := { x.ctx.core with duplicates := x.ctx.core.duplicates + 1 } } }).sendAck n (hdrPsn rx.pkt)
         (hdrTag rx.pkt) (BitVec.ofNat 32 d.now) (rx.echo true))) ∧
     (x.window (hdrPsn rx.pkt) < 4096 → x.received (hdrPsn rx.pkt) = false → d.police n rx = (b, false) → exec c s = .next b) ∧
     (x.window (hdrPsn rx.pkt) < 4096 → x.received (hdrPsn rx.pkt) = false → d.police n rx = (b, true) →
       (∀ m reason, ty ≠ 4 → ¬ (ty = 7 ∧ extResp rx.pkt = true) → x.rx? (extMsn rx.pkt) = some m → m.refused = some reason →
         exec c s = .next (b.refuse n rx d.now reason)) ∧
       (∀ reason, (ty = 1 ∨ ty = 2 ∨ ty = 3 ∨ ty = 5) → (∀ m, x.rx? (extMsn rx.pkt) = some m → m.refused = none) →
         b.requestCheck n x.ctx.core rx = .error reason → exec c s = .next (b.refuse n rx d.now reason)))) ∧
  (∀ (rx : Rx) (ty n : Nat) (c : Instr) (s d b : State) (x : Conn) (realm : Option Realm), (ty, c) ∈ [(1, Instr.pktWriteRx rx), (2, .pktWriteImmRx rx), (3, .pktReadReqRx rx), (4, .pktReadRespRx rx),
       (5, .pktAccumRx rx), (6, .pktFlushReqRx rx), (7, .pktVoidRx rx)] → hdrType rx.pkt = ty → PacketArrives rx s d → AtConnection rx d x → n = hdrDst rx.pkt →
     x.window (hdrPsn rx.pkt) < 4096 → x.received (hdrPsn rx.pkt) = false → d.police n rx = (b, true) →
     (∀ m, x.rx? (extMsn rx.pkt) = some m → m.refused = none) →
     ((ty = 1 ∨ ty = 2 ∨ ty = 3 ∨ ty = 5) ∧ (∃ r, realm = some r ∧ b.requestCheck n x.ctx.core rx = .ok r) ∨ (ty = 4 ∨ ty = 6 ∨ ty = 7) ∧ realm = none) →
     (b.tenant x.ctx.core.tenant.toNat).reset = none →
     (∀ key r, ty = 2 → b.notifyRing x.ctx.core = some (key, r) → r.holdsFor n (extMsn rx.pkt) = false → r.notifySize ≤ r.notifyUsed →
       exec c s = .next ((b.bump d4_0104 x.ctx.core.tenant.toNat).sendRefusal n rx.pkt 3 0 (b.par d6_0020 (connTower n)))) ∧
     ((ty ≠ 2 ∨ ∀ key r, b.notifyRing x.ctx.core = some (key, r) → r.holdsFor n (extMsn rx.pkt) = true ∨ r.notifyUsed < r.notifySize) →
       (∀ crc, b.openPacket n x.ctx.core rx.pkt false = .bad crc → exec c s = .next (b.countBad n rx.pkt crc)) ∧
       (∀ q, b.openPacket n x.ctx.core rx.pkt false = .next q → exec c s = .next (b.followEpoch n)) ∧
       (∀ k, b.openPacket n x.ctx.core rx.pkt false = .wait k → exec c s = .next (b.awaitKey k d.now rx)) ∧
       (∀ q, b.openPacket n x.ctx.core rx.pkt false = .good q → exec c s = .next (b.accept n rx d.now q realm)))) ∧
  (∀ (rx : Rx) (c at_ : Nat) (p : Packet) (realm : Option Realm) (s : State) (x : Conn), s.conn? c = some x →
     (hdrType p = 5 → ∀ y : Conn, y = (x.trackRx p).modifyRx (extMsn p) (fun m =>
         { (if m.got.any (fun e => e.2 = hdrPsn p) then m else m.took p) with placing := m.placing + 1 }) →
       s.accept c rx at_ p realm = (s.setConn c y).holdAccum {
         source := .accum c (hdrPsn p) (extMsn p), inc := hdrDstInc p, tower := extentTower (extentOf (extAddr p).toNat), tenant := x.ctx.core.tenant.toNat, addr := (extAddr p).toNat,
         fmt := fieldNat 192 8 p.ext, op := fieldNat 200 8 p.ext, payload := p.payload, len := p.len, tag := hdrTag p,
         rxTag := BitVec.ofNat 32 at_, echo := rx.echo false } rx) ∧
     (∀ y z w : Conn, y = x.markReceived (hdrPsn p) →
       z = { y with ctx := { y.ctx with core := { y.ctx.core with pktsRx := y.ctx.core.pktsRx + 1 } } } →
       w = ((z.trackRx p).modifyRx (extMsn p) (fun m => { m.took p with voided := m.voided || hdrType p = 7 })).touch s.now →
       ((hdrType p = 3 ∨ hdrType p = 6 ∨ (hdrType p = 7 ∧ extResp p = false)) → s.accept c rx at_ p realm =
         (((s.setConn c w).ackAccepted c x (hdrPsn p) (hdrTag p) (BitVec.ofNat 32 at_) (rx.echo false)).closeReady c)) ∧
       (∀ r, hdrType p = 1 → realm = some r → s.accept c rx at_ p realm =
         ((((s.setConn c w).place c p r).ackAccepted c x (hdrPsn p) (hdrTag p) (BitVec.ofNat 32 at_) (rx.echo false)).closeReady c)) ∧
       (∀ (r : Realm) (a : State), hdrType p = 2 → realm = some r → (s.notifyRing x.ctx.core = none ∧ a = s.setConn c w ∨
           ∃ key q, s.notifyRing x.ctx.core = some (key, q) ∧ a = (s.setConn c w).setRing key (q.reserve c (extMsn p) s.now)) →
         s.accept c rx at_ p realm = (((a.place c p r).ackAccepted c x (hdrPsn p) (hdrTag p) (BitVec.ofNat 32 at_) (rx.echo false)).closeReady c)) ∧
       (∀ a : State, (hdrType p = 4 ∨ (hdrType p = 7 ∧ extResp p = true)) → a = (s.setConn c (z.touch s.now)).takeResponse c rx at_ p →
         ((∀ h ∈ a.cupola.input.getLast?, ∀ i o, h.source ≠ .resp c (hdrPsn p) i o) ∨ hdrType p = 7 →
           s.accept c rx at_ p realm = (a.ackAccepted c x (hdrPsn p) (hdrTag p) (BitVec.ofNat 32 at_) (rx.echo false)).closeReady c) ∧
         (∀ h i o, hdrType p = 4 → a.cupola.input.getLast? = some h → h.source = .resp c (hdrPsn p) i o → s.accept c rx at_ p realm = a.closeReady c))))

/-- A control packet whose trailer is bad is counted, one whose key must be derived waits, and a good one acts: an ACK
acknowledges what it names unless it lies too far ahead, a CONTEXT_BUSY or STALE_CONNECTION that matches a packet in
flight holds the connection or ends it, a REMOTE_NOT_READY delays its packet, a REFUSED voids its message, a
MSG_CONFIRM reports messages closed, and a CONFIRM_QUERY is answered with a MSG_CONFIRM. -/
def Obligations.ControlPackets : Prop :=
  (∀ (rx : Rx) (ty n code : Nat) (c : Instr) (s d : State) (x : Conn) (plain : Bool), (ty, c) ∈ [(0x10, Instr.ackRx rx), (0x11, .nakRx rx), (0x12, .msgConfirmRx rx), (0x13, .confirmQueryRx rx)] →
     hdrType rx.pkt = ty → PacketArrives rx s d → AtConnection rx d x → n = hdrDst rx.pkt → code = fieldNat 0 8 rx.pkt.ext →
     plain = (ty = 0x11 && (code = 1 || code = 2) && !hdrEnc rx.pkt) →
     (∀ crc, d.openPacket n x.ctx.core rx.pkt plain = .bad crc → exec c s = .next (d.countBad n rx.pkt crc)) ∧
     (∀ k, d.openPacket n x.ctx.core rx.pkt plain = .wait k → exec c s = .next (d.awaitKey k d.now rx)) ∧
     (∀ q a, (d.openPacket n x.ctx.core rx.pkt plain = .good q ∧ a = d ∨ d.openPacket n x.ctx.core rx.pkt plain = .next q ∧ a = d.followEpoch n) →
       (hdrType q = 0x10 → exec c s = .next (a.takeAck n q)) ∧ (hdrType q = 0x11 → exec c s = .next (a.takeNak n q)) ∧
       (hdrType q = 0x12 → exec c s = .next (a.takeConfirm n q)) ∧ (hdrType q = 0x13 → exec c s = .next (a.sendConfirm n)))) ∧
  (∀ (c : Nat) (p : Packet) (s a : State) (x : Conn), s.conn? c = some x →
     ((x.ackTooFar (field 0 32 p.ext) = true → s.takeAck c p = s.bump d6_0105 (connTower c)) ∧
       (x.ackTooFar (field 32 32 p.ext) = true → s.takeConfirm c p = s.bump d6_0105 (connTower c))) ∧
     (∀ (y : Conn) (n : Nat), x.ackTooFar (field 0 32 p.ext) = false →
       x.ackWhere s.now (fun q => psnBefore q (field 0 32 p.ext) || (serialDiff q (field 32 32 p.ext) < 256 &&
         (field 64 256 p.ext : BitVec 256).getLsbD (serialDiff q (field 32 32 p.ext)))) = (y, n) →
       a = s.setConn c (x.able s.now (((y.advanceUna (field 0 32 p.ext)).sweep.markQuery s.now).touch s.now)) →
       (128 ≤ fieldNat 416 8 p.ext → s.takeAck c p = a) ∧
       (fieldNat 416 8 p.ext < 128 → s.takeAck c p = a.sample c (fieldNat 416 8 p.ext % 64) (field 352 32 p.ext) (field 384 32 p.ext)
         (64 ≤ fieldNat 416 8 p.ext) n)) ∧
     ((fieldNat 0 8 p.ext = 1 ∨ fieldNat 0 8 p.ext = 2) → x.nakMatches (field 32 32 p.ext) (field 160 32 p.ext) = false →
       s.takeNak c p = s.bump d6_0106 (connTower c)) ∧
     (x.nakMatches (field 32 32 p.ext) (field 160 32 p.ext) = true →
       (fieldNat 0 8 p.ext = 1 → s.takeNak c p = s.busyHold c (field 32 32 p.ext) (fieldNat 128 32 p.ext)) ∧
       (fieldNat 0 8 p.ext = 2 → s.takeNak c p = s.connError c .contextLost)) ∧
     (fieldNat 0 8 p.ext = 3 → s.takeNak c p = s.notReady c (field 32 32 p.ext) (field 64 32 p.ext) (fieldNat 128 32 p.ext)) ∧
     (fieldNat 0 8 p.ext = 4 → s.takeNak c p = s.voidMsg c (field 64 32 p.ext) false (remoteStatus (fieldNat 8 8 p.ext))
       (fieldNat 8 8 p.ext + 512 * fieldNat 96 23 p.ext)))

/-- A fetched context is installed, its miss counted, and the packets that waited are processed; a failed or shut
fetch fails the connection and discards them. A complete READ at its turn begins to answer. A failed read at the
target is logged and voids the responses; a failed placement is logged and ends the connection, of an own READ it
marks the message. A placed message's read-backs are issued once. A notification reservation older than 1 s is
released and counted. ACK_TIMER sends the acknowledgement that is due. A derived key is installed, and what waited for
it proceeds. -/
def Obligations.ReceiverProgress : Prop :=
  (∀ (n : Nat) (ans : MemAns) (x : Conn) (s : State), s.conn? n = some x → x.cache = .fetching →
     (∀ p a, s.backing n x.ctx.core.tenant.toNat = some (p, a) → s.placeShut p a 2048 = true → ∀ b : State, b = s.setConn n { x with cache := .cached } →
       exec (.contextInstall n ans) s = .next (({ b with miss := b.miss.filter (fun e => e.conn ≠ n) } : State).backingFailure n .poweredDown)) ∧
     ((∀ p a, s.backing n x.ctx.core.tenant.toNat = some (p, a) → s.placeShut p a 2048 = false) →
       (∀ c : Ctx, s.fetchedCtx n x ans = some c → exec (.contextInstall n ans) s = .next
         ((s.setConn n { x with ctx := { c with core := { c.core with misses := c.core.misses + 1 } }, cache := .cached }).runMisses n)) ∧
       (∀ a b : State, s.fetchedCtx n x ans = none →
         a = (match s.backing n x.ctx.core.tenant.toNat with
           | some (p, a) => s.readFailed x.ctx.core.tenant.toNat p a 2048
           | none => s) → b = a.setConn n { x with cache := .cached } →
         exec (.contextInstall n ans) s = .next (({ b with miss := b.miss.filter (fun e => e.conn ≠ n) } : State).backingFailure n .busError)))) ∧
  (∀ (n : Nat) (x : Conn) (m : RxMsg) (s : State) (p : Place) (y : Conn), s.conn? n = some x → x.cache = .cached → x.rx? x.ctx.delivery.rxMsn = some m →
     m.kind = .read → m.complete = true → m.refused = none → m.voided = false → m.reading = false →
     p = ((s.realm? (fieldNat 0 24 m.key)).map Realm.place).getD ⟨1, 0, 0⟩ → y = x.modifyRx m.msn (fun m => { m with reading := true }) →
     exec (.readStart n) s = .next ((s.setConn n (y.able s.now { y with tx := y.tx ++ [{
         msn := m.msn, kind := .resp, owner := none, length := m.length, chunk := x.ctx.core.payload, packets := packetsOf m.length x.ctx.core.payload
         remote := 0, key := m.key, aux := 0, src := p, addr := m.addr.toNat, sentAt := s.now }] })).closeReady n)) ∧
  (∀ (n : Nat) (msn : W32) (addr : W64) (x : Conn) (s : State), s.conn? n = some x →
     (∀ m, x.msg? msn true = some m → exec (.targetReadFail n msn addr) s = .next
       ((s.logFault .tenant .connection 0 (some x.ctx.core.tenant.toNat) n addr.toNat 10).voidMsg n msn true .busError 0)) ∧
     (exec (.placementWriteFail n msn true addr) s = .next (s.setConn n (x.modifyMsg msn false (fun m => { m with failed := true })))) ∧
     (∀ m, x.rx? msn = some m → exec (.placementWriteFail n msn false addr) s = .next
       ((s.logFault .tenant .connection 0 (some x.ctx.core.tenant.toNat) n addr.toNat 10).connError n .busError))) ∧
  (∀ (n : Nat) (msn : W32) (x : Conn) (s : State), s.conn? n = some x →
     (∀ (m : TxMsg) (k : Nat), x.ownReadbacks.find? (fun e => e.1 = msn) = some (msn, none) → x.msg? msn false = some m →
       (s.hostBarred x.ctx.core.tenant.toNat m.src = true → ∀ y : Conn,
         y = ({ x with ownReadbacks := x.ownReadbacks.filter (fun e => e.1 ≠ msn) } : Conn).modifyMsg msn false (fun m => { m with closed := true }) →
         exec (.readbackIssue n msn true) s =
           .next (((s.setConn n y.sweep).countSquashed x.ctx.core.tenant.toNat 1).messageFail m .squashed 0)) ∧
       (s.hostBarred x.ctx.core.tenant.toNat m.src = false →
       k = readsOf m.src (((s.realm? (fieldNat 0 24 m.aux)).map (fun r => r.crossPath m.addr m.length)).getD false) →
       exec (.readbackIssue n msn true) s = .next ((s.emitReads m.src (lastWord m.addr m.length) k).setConn n
         { x with ownReadbacks := x.ownReadbacks.map (fun e => if e.1 = msn then (msn, some k) else e) }))) ∧
     (∀ m : RxMsg, x.rx? msn = some m → m.readbacks = none → m.complete = true → m.refused = none → m.voided = false → m.placing = 0 →
       (m.kind = .flush → x.relaxedAt.any (fun e => s.hostBarred x.ctx.core.tenant.toNat e.2.1) = false → exec (.readbackIssue n msn false) s = .next
         (((x.relaxedAt.foldl (fun s e => s.emit (.memRead e.2.1.space e.2.1.port e.2.1.pasid e.2.2 4)) s).setConn n
           (({ x with relaxedAt := [], ctx := { x.ctx with delivery := { x.ctx.delivery with relaxedPaths := 0 } } } : Conn).modifyRx msn (fun m =>
             { m with readbacks := some x.relaxedAt.length }))).closeReady n)) ∧
       (m.kind ≠ .flush → m.needsRead = true → s.hostBarred x.ctx.core.tenant.toNat m.place = false → exec (.readbackIssue n msn false) s = .next
         ((s.emitReads m.place m.lastAddr (readsOf m.place m.cross)).setConn n (x.modifyRx msn (fun a => { a with readbacks := some (readsOf m.place m.cross) })))))) ∧
  (∀ (s : State),
     (∀ (t ring n : Nat) (msn : W32) (r : Ring) (e : Nat × W32 × Nat), s.ring? (ringKey t ring) = some r → e ∈ r.reserved → e.1 = n → e.2.1 = msn →
       e.2.2 + 1250000000 ≤ s.now → exec (.notifyReservationExpire t ring n msn) s = .next
         ((s.setRing (ringKey t ring) { r with reserved := r.reserved.filter (fun e => !(e.1 = n && e.2.1 = msn)) }).bump d4_0104 t)) ∧
     (∀ (n f : Nat) (x : Conn), s.conn? n = some x → x.cache = .cached → x.ackSince = some f → f + s.par d6_0011 (connTower n) ≤ s.now →
       exec (.ackTimer n) s = .next (s.sendAck n x.ackOf.1 x.ackOf.2.1 x.ackOf.2.2.1 x.ackOf.2.2.2)) ∧
     (∀ (tower : Nat) (k : KeyName), s.cipher.deriving_.find? (fun k => k.tower = tower) = some k →
       exec (.keyDerived tower) s = .next ((s.installKey k).runWaits k)))

/-- A PSN in flight whose reorder slack has passed is declared lost: the loss is counted, the rate and its path step,
and a copy is owed, counted against RETRY_COUNT. When the timer on TX_UNA expires the rate halves; without a usable
path RETRY_COUNT rises and the timer restarts, else the timer restarts, the expiry is counted, the path of TX_UNA's
packet is lost and its copy is owed. When a CONTEXT_BUSY hold ends, its packet is owed without counting and the timer
restarts. When a packet's back-off ends it is owed without counting. A due CONFIRM_QUERY is sent, and one more than
the limit ends the connection. -/
def Obligations.SenderTimers : Prop :=
  (∀ (n : Nat) (psn : W32) (x : Conn) (p : TxPkt) (s : State), s.conn? n = some x → x.cache = .cached → x.pkt? psn = some p →
     (s.isLost n x p = false → exec (.lossDetect n psn) s = .next s) ∧
     (s.isLost n x p = true → exec (.lossDetect n psn) s = .next ((((s.bump d6_0107 (connTower n)).loseRate n).losePath n p.path).oweCopy n p.psn true))) ∧
  (∀ (n : Nat) (x : Conn) (s a b : State), s.conn? n = some x → x.cache = .cached → s.rtoExpired n x = true → a = s.halveRate n →
     (a.noPath x = true → exec (.rtoExpire n) s = .next (a.countRetry n)) ∧
     (∀ y : Conn, a.noPath x = false → a.conn? n = some y → b = (a.setConn n { y with rtoFrom := some a.now }).bump d6_0110 (connTower n) →
       (x.pkt? x.ctx.core.txUna = none → exec (.rtoExpire n) s = .next b) ∧
       (∀ p, x.pkt? x.ctx.core.txUna = some p → exec (.rtoExpire n) s = .next ((b.losePath n p.path).oweCopy n x.ctx.core.txUna true)))) ∧
  (∀ (n : Nat) (x : Conn) (s : State), s.conn? n = some x → x.cache = .cached →
     (∀ (e : Nat) (psn : W32), x.hold = some (e, psn) → e ≤ s.now → ∀ y : Conn, y = { x with
         hold := none, rtoFrom := x.rtoFrom.map (fun _ => s.now)
         ctx := { x.ctx with delivery := { x.ctx.delivery with holdUntil := 0 } } } →
       exec (.busyHoldEnd n) s = .next ((s.setConn n y).oweCopy n psn false)) ∧
     (∀ (psn : W32) (p : TxPkt), x.pkt? psn = some p → p.notBefore ≠ 0 → p.notBefore ≤ s.now → p.acked = false →
       exec (.rnrResend n psn) s = .next ((s.setConn n (x.modifyPkt psn (fun p => { p with notBefore := 0 }))).oweCopy n psn false)) ∧
     (s.queryDue n x = true →
       (x.ctx.core.limit < x.queries → exec (.confirmQueryTimer n) s = .next (s.exhausted n)) ∧
       (x.queries ≤ x.ctx.core.limit → exec (.confirmQueryTimer n) s = .next
         ((s.setConn n { x with querySince := some s.now, queries := x.queries + 1 }).sendControl n 0x13 [(32, 0), (32, 0)] false))))

/-- The dome connection of a tower that became able first commits its next packet; a payload that may no longer be
read stops its message instead. A returned payload fills the queued packets and staged loads that wait for it; a
failed read voids the message, of a READ its responses. A port that is free and up starts what it may start next, VC7,
VC6, VC5 first, then the class and tenant with the smallest tags; a packet whose key is not cached asks for it. With
sampling on, each multiple of D8.0050 samples every VC of every port. -/
def Obligations.EgressWork : Prop :=
  (∀ (tower n : Nat) (x : Conn) (s : State),
     (s.nextCommit tower = none → exec (.packetCommit tower) s = .next s) ∧
     (s.nextCommit tower = some (n, x) →
       (∀ m i r, (x.nextWork s.now).bind (Work.msg? x) = some (m, i) → s.readRefused x m i = some r → exec (.packetCommit tower) s = .next (s.stopRead n x m i r)) ∧
       ((∀ m i, (x.nextWork s.now).bind (Work.msg? x) = some (m, i) → s.readRefused x m i = none) → exec (.packetCommit tower) s = .next (s.commit n x)))) ∧
  (∀ (n index : Nat) (msn : W32) (resp : Bool) (ans : MemAns) (x : Conn) (m : TxMsg) (s : State), s.conn? n = some x →
     (x.msg? msn resp = none → exec (.payloadReadReturn n msn resp index ans) s = .next (s.fillQueued n msn resp index none)) ∧
     (x.msg? msn resp = some m →
       (∀ b, s.readParts x.ctx.core.tenant.toNat m.src ans (m.payloadAt index) 0 = some b →
         exec (.payloadReadReturn n msn resp index ans) s = .next ((s.fillQueued n msn resp index (some b)).fillStaged n msn resp index b)) ∧
       (s.readParts x.ctx.core.tenant.toNat m.src ans (m.payloadAt index) 0 = none → ∀ a : State,
         a = (m.payloadAt index).foldl (fun s e => s.readFailed x.ctx.core.tenant.toNat m.src e.1 e.2) s →
         exec (.payloadReadReturn n msn resp index ans) s = .next (((if resp then a.failResponses n msn (((m.payloadAt index).map Prod.fst).headD 0)
           else a.voidMsg n msn false .busError 0).fillQueued n msn resp index none).fillStaged n msn resp index [])))) ∧
  (∀ (port : Nat) (s a : State), port < s.nports → s.carries port = true → (s.port port).busyUntil ≤ s.now → a = (s.markWaits port).tagHeads port →
     (a.choice port = none → exec (.egressStart port) s = .next a) ∧
     (∀ vc key i rest, a.choice port = some (vc, key, i :: rest) →
       (∀ k, a.sealKey (a.refresh i) = some k → a.keyCached k = false → exec (.egressStart port) s = .next (a.requestKey k)) ∧
       ((∀ k, a.sealKey (a.refresh i) = some k → a.keyCached k = true) →
         (5 ≤ vc → exec (.egressStart port) s = .next ((a.setPort port ((a.port port).setQueue vc 2048 rest)).launch port vc i)) ∧
         (vc < 5 → exec (.egressStart port) s = .next (a.serveDome port vc key (i :: rest)))))) ∧
  (∀ s : State, s.par d8_0051 0 = 1 → s.now % s.par d8_0050 0 = 0 →
     exec .lanternSample s = .next ((upTo s.nports).foldl (fun s n => (upTo 8).foldl (fun s vc => s.sampleQueue n vc) s) s))

/-- A packet for this adapter is left to its own command; an expired transit packet, and one of an unknown route
generation, is discarded and its ingress place freed; without forwarding or a route, with too many hops, or with its
egress down it is discarded and counted, in the last case with a notice; else it is queued at its egress with one hop
more. The head of a queue that outlives D9.0004 is discarded and counted. A credit block is sent by time or when a
quarter of an allocation was freed, and takes the freed counts; a partner's CREDIT sets its counts, its ADVERT the
limits, with both counts 0. A route-down notice is opened, matched with the generation, and enters the path-down
table, whose paths' copies are lost; an expired entry leaves and its path is reset; the drain's end drops the previous
tables. -/
def Obligations.ForwardingAndCredits : Prop :=
  (∀ (rx : Rx) (check k : Nat) (s : State), k = portTower rx.port →
     (s.isMine rx.pkt = true → s.hasId = true → exec (.transitRx rx check) s = .next s) ∧
     ((s.isMine rx.pkt = false ∨ s.hasId = false) →
     (s.tagExpired rx.pkt = true → exec (.transitRx rx check) s = .next ((s.bump d6_0103 k).freeIngress rx.port (hdrVc rx.pkt) rx.cls rx.pkt.len)) ∧
     (∀ a, s.tagExpired rx.pkt = false → State.routeTables k (hdrGen rx.pkt) s = (a, none) →
       exec (.transitRx rx check) s = .next (a.freeIngress rx.port (hdrVc rx.pkt) rx.cls rx.pkt.len)) ∧
     (∀ a set, s.tagExpired rx.pkt = false → State.routeTables k (hdrGen rx.pkt) s = (a, some set) →
         ((a.par d9_0000 0 = 0 ∨ a.hasId = false ∨ set.fwdChoice (hdrDstAdapter rx.pkt) (hdrPath rx.pkt) = none) →
           exec (.transitRx rx check) s = .next ((a.bump d9_0105 k).freeIngress rx.port (hdrVc rx.pkt) rx.cls rx.pkt.len)) ∧
         (∀ e, a.par d9_0000 0 ≠ 0 → a.hasId = true → set.fwdChoice (hdrDstAdapter rx.pkt) (hdrPath rx.pkt) = some e →
           (a.par d9_0003 0 ≤ hdrHops rx.pkt → exec (.transitRx rx check) s = .next ((a.bump d9_0103 k).freeIngress rx.port (hdrVc rx.pkt) rx.cls rx.pkt.len)) ∧
           (hdrHops rx.pkt < a.par d9_0003 0 → (e.down = true ∨ a.carries e.port = false) → exec (.transitRx rx check) s =
             .next (((a.bump d9_0106 k).notice rx.pkt (a.downCause e)).freeIngress rx.port (hdrVc rx.pkt) rx.cls rx.pkt.len)) ∧
           (hdrHops rx.pkt < a.par d9_0003 0 → e.down = false → a.carries e.port = true →
             (check = 1 → exec (.transitRx rx check) s = .next ((a.bump d9_0107 k).freeIngress rx.port (hdrVc rx.pkt) rx.cls rx.pkt.len)) ∧
             (check ≠ 1 → (a.port e.port).modeCode ≠ 0x10 → a.par d9_0024 e.port < (a.port e.port).transitBytes (hdrVc rx.pkt) + rx.pkt.len →
               exec (.transitRx rx check) s = .next ((a.bump d9_0108 (portTower e.port)).freeIngress rx.port (hdrVc rx.pkt) rx.cls rx.pkt.len)) ∧
             (∀ cls item, check ≠ 1 → ((a.port e.port).modeCode = 0x10 ∨ (a.port e.port).transitBytes (hdrVc rx.pkt) + rx.pkt.len ≤ a.par d9_0024 e.port) →
               cls = (if e.dateline then min (rx.cls + 1) (a.par d9_0020 e.port - 1) else rx.cls) →
               item = ({ pkt := { rx.pkt with hdr := putField 20 4 (hdrHops rx.pkt + 1) rx.pkt.hdr }, ready := true, tenant := 2048, owner := none,
                         encap := if (a.port e.port).modeCode = 0x10 then 0 else if rx.outer.length < 40 then 1 else 2,
                         outer := if (a.port e.port).modeCode = 0x10 then [] else rx.outer, cls := classOf (hdrVc rx.pkt) cls, len := rx.pkt.len,
                         entered := a.now, arrived := a.now, ingress := some (rx.port, hdrVc rx.pkt, classOf (hdrVc rx.pkt) rx.cls),
                         bad := check = 2 } : EgressItem) →
               exec (.transitRx rx check) s = .next ((a.holdIngress rx.port (hdrVc rx.pkt) rx.pkt.len).enqueue e.port (hdrVc rx.pkt) item))))))) ∧
  (∀ (port : Nat) (s : State),
     (∀ vc i rest n v c, (s.port port).transitQueue vc = i :: rest → i.ingress = some (n, v, c) → i.arrived + s.par d9_0004 0 < s.now →
       exec (.transitResidenceExpire port vc) s = .next (((s.setPort port ((s.port port).setQueue vc 2048 rest)).freeIngress n v c i.len).bump d9_0104 (portTower port))) ∧
     (s.fabricUp port = true → ((s.port port).creditSent + s.par d9_0022 port ≤ s.now ∨ s.quarterFreed port = true) →
       exec (.creditBlockSend port) s = .next ((s.emit (.block port 4 (creditBlock 4 0 (fun vc j => tgetD (s.port port).freed (vcKey vc j) 0)))).setPort port
         { s.port port with creditSent := s.now, freedSent := (s.port port).freed })) ∧
     (∀ block, s.fabricUp port = true → leAt 0 1 block = 4 → exec (.creditRx port block) s = .next (s.setPort port { s.port port with peerFreed := blockCounts block })) ∧
     (∀ block, ((s.port port).mode = .train ∨ (s.port port).mode = .up) → leAt 0 1 block = 5 → exec (.advertRx port block) s = .next (s.setPort port { s.port port with
       limit := blockCounts block, peerK := leAt 1 1 block, consumed := [], peerFreed := [], advertised := true }))) ∧
  (∀ (rx : Rx) (s : State),
     (s.tagExpired rx.pkt = true ∨ hdrDstAdapter rx.pkt = 0xFFFF → exec (.routeDownRx rx) s = .next ((s.bump d19_0107 0).freeIngress rx.port 5 0 rx.pkt.len)) ∧
     (∀ a, s.tagExpired rx.pkt = false → hdrDstAdapter rx.pkt ≠ 0xFFFF → s.isMine rx.pkt = true → a = s.freeIngress rx.port 5 0 rx.pkt.len →
       (∀ b, a.openDatagram rx.pkt = .error b → exec (.routeDownRx rx) s = .next b) ∧
       (∀ h body, a.openDatagram rx.pkt = .ok (h, body) →
         (leAt 5 1 body % 16 ≠ a.par d9_0001 0 → exec (.routeDownRx rx) s = .next (a.bump d9_0115 0)) ∧
         (∀ b, leAt 5 1 body % 16 = a.par d9_0001 0 → b = (a.enterPathDown (leAt 2 2 body * 64 + leAt 4 1 body % 64)).bump d9_0114 0 →
           exec (.routeDownRx rx) s = .next ((b.pathUsers (leAt 2 2 body) (leAt 4 1 body % 64)).foldl
             (fun s e => s.setConn e.1 (e.2.losePathCopies s.now (leAt 4 1 body % 64))) b)))) ∧
     (∀ a, s.tagExpired rx.pkt = false → hdrDstAdapter rx.pkt ≠ 0xFFFF → s.isMine rx.pkt = false → 
       (State.routeTables (portTower rx.port) (hdrGen rx.pkt) s = (a, none) → exec (.routeDownRx rx) s = .next (a.freeIngress rx.port 5 0 rx.pkt.len)) ∧
       (∀ set, State.routeTables (portTower rx.port) (hdrGen rx.pkt) s = (a, some set) → exec (.routeDownRx rx) s = .next (a.transit rx set 0)))) ∧
  (∀ s : State,
     (∀ d p t, tget (d * 64 + p) s.fwd.pathDown = some t → t ≤ s.now → exec (.pathDownExpire d p) s = .next
       (({ s with fwd := { s.fwd with pathDown := terase (d * 64 + p) s.fwd.pathDown } } : State).resetPath d p)) ∧
     (s.fwd.previous ≠ none → s.fwd.lastChange + s.par d9_0002 0 ≤ s.now → exec .drainEnd s = .next { s with fwd := { s.fwd with previous := none } }))

/-- The zeroing engine writes the next pending 16 KiB block of an extent with zeros and moves on, or ends. A request
that is outstanding ends as one answered with an error when its completion timeout passes, counted and reported for
host memory; one that package memory has not received in time is counted and ends so too. An uncorrectable error
poisons its cell and its extent, is counted by tier, logged and announced; in a reserved extent it acts by what stands
there. Refresh takes its time; a patrol pass starts at a multiple no pass has served, and ends with its corrected
errors counted. -/
def Obligations.PackageMemoryWork : Prop :=
  (∀ (x b : Nat) (s : State), (s.extent x).zeroing = true → (extentDomains x).any (fun d => (s.domain d).mode = .closed) = false →
     b = skipClean (s.extent x).clean (s.extent x).clean.length (s.extent x).zeroNext →
     (65536 ≤ b → exec (.zeroBlock x) s = .next (s.endZeroing x)) ∧
     (b < 65536 → exec (.zeroBlock x) s = .next ((s.zeroBlock x b).zeroTo x (b + 1)))) ∧
  (∀ (r : ReadOf) (t a : Nat) (p : Place) (s : State),
     (s.requestPlace r = none → exec (.completionTimeout r) s = .next s ∧ exec (.staleRequestDiscard r) s = .next s) ∧
     (s.requestPlace r = some (t, p, a) →
       (p.space ≠ 0 → exec (.completionTimeout r) s = failRequest r s) ∧
       (p.space = 0 → exec (.completionTimeout r) s = failRequest r ((s.bump d14_0106 (tenantHost t)).aer t .completionTimeout)) ∧
       (p.space = 1 → exec (.staleRequestDiscard r) s = failRequest r (s.bump d12_0104 (extentTower (extentOf a)))) ∧
       (p.space ≠ 1 → exec (.staleRequestDiscard r) s = .next s))) ∧
  (∀ (addr x a c : Nat) (s b d : State), x = extentOf addr → a = addr / 64 * 64 → c = addr / 64 →
     ((2199023255552 ≤ addr ∨ extentAbsent s.towers x = true ∨ s.blockPending a = true ∨ c ∈ s.memory.poison) → exec (.uncorrectableError addr) s = .next s) ∧
     (addr < 2199023255552 → extentAbsent s.towers x = false → s.blockPending a = false → c ∉ s.memory.poison →
       b = s.bump (if x < 1024 then d12_0101 else d12_0103) (extentTower x) →
       (extentReserved x = true → exec (.uncorrectableError addr) s = .next (b.reservedError a)) ∧
       (extentReserved x = false → d = { b with memory := { b.memory with poison := insertRising c b.memory.poison } } →
         exec (.uncorrectableError addr) s = .next ((d.setExtent x { d.extent x with poisoned := true }).reportPoison a)))) ∧
  (∀ (k : Nat) (s : State), k < s.towers →
     (∀ slice bank n, slice < 8 → bank < 32 → n = (location 3 0 k 0 slice bank 0 0).toNat → (s.domain (domTower k)).mode ≠ .closed →
       tgetD s.memory.refreshed n 0 + (if (tgetD s.power.thermal k {}).stack > 680 then 20000000 else 40000000) ≤ s.now →
       exec (.refresh k slice bank) s = .next { s with memory := { s.memory with refreshed := tput 0 n s.now s.memory.refreshed } }) ∧
     (∀ p n : Nat, ∀ q : Patrol, q = tgetD s.memory.patrol k {} → p = s.par d12_0010 k → n = s.now / p * p → p ≠ 0 → q.running = false → q.nextDue < n →
       exec (.patrolStart k) s = .next { s with memory := { s.memory with
         patrol := tput {} k { running := true, started := s.now, nextDue := n } s.memory.patrol } }) ∧
     (∀ (corrected : List Nat) (q : Patrol) (a : State), q = tgetD s.memory.patrol k {} → q.running = true →
       a = { s with memory := { s.memory with patrol := tput {} k { q with running := false } s.memory.patrol } } →
       exec (.patrolDone k corrected) s = .next ((corrected.filter (fun a => extentTower (extentOf a) = k)).foldl State.correctedError (a.bump d12_0106 k))))

/-- A line check in DETECT records the failed lanes: SWAPPED goes to FAULT 4, a port none of whose modes can pass to
FAULT 5, one without auto-negotiation trains its mode, the others negotiate. A completed negotiation trains the fabric
mode where both sides have it, else the best common Ethernet mode; without one FAULT 1, on failed lanes FAULT 5.
Training brings a fabric link up at the widest aligned group of passing lanes once the partner has advertised, FAULT 5
without one, and an Ethernet link at its width. D13.0022 in NEGOTIATE is FAULT 2, in TRAIN FAULT 3. A silent link, or
a fabric link without STATUS for four intervals, goes to DETECT; FAULT retries after D13.0024. A codeword that fails
to decode is counted, on a fabric link also as a lost block position. -/
def Obligations.LinkBringUp : Prop :=
  (∀ (n : Nat) (faults f : BitVec 16) (s a : State), s.portEnabled n = true → s.portHeld n = false → (s.port n).mode = .detect → f = faults &&& 0x1FF →
     a = s.setPort n { s.port n with laneFaults := f } →
     (f.getLsbD 8 = true → exec (.lineCheckDone n faults) s = .next (a.portTo n .fault 4)) ∧
     (f.getLsbD 8 = false → a.noModePasses n f = true → exec (.lineCheckDone n faults) s = .next (a.portTo n .fault 5)) ∧
     (f.getLsbD 8 = false → a.noModePasses n f = false → a.par d13_0004 n = 2 → exec (.lineCheckDone n faults) s = .next (a.startTrain n (a.auiMode n) (a.portWidth n))) ∧
     (f.getLsbD 8 = false → a.noModePasses n f = false → a.par d13_0004 n ≠ 2 → exec (.lineCheckDone n faults) s =
       .next (a.setPort n { a.port n with mode := .negotiate, since := a.now }))) ∧
  (∀ (n width : Nat) (fabric : Bool) (modes : BitVec 8) (s : State), (s.port n).mode = .negotiate →
     (fabric = true → s.ownFabric n = true → exec (.anComplete n fabric width modes) s = .next (s.startTrain n 0x10 (min (s.portWidth n) width))) ∧
     (fabric = false ∨ s.ownFabric n = false →
       ((s.ownModes n).find? (fun c => modes.getLsbD c) = none → exec (.anComplete n fabric width modes) s = .next (s.portTo n .fault 1)) ∧
       (∀ c, (s.ownModes n).find? (fun c => modes.getLsbD c) = some c →
         (lanesFail (s.port n).laneFaults (modeLanes c) = true → exec (.anComplete n fabric width modes) s = .next (s.portTo n .fault 5)) ∧
         (lanesFail (s.port n).laneFaults (modeLanes c) = false → exec (.anComplete n fabric width modes) s = .next (s.startTrain n c (modeLanes c)))))) ∧
  (∀ (n w : Nat) (far inv : BitVec 8) (rev : Bool) (s : State), (s.port n).mode = .train → w = passingWidth (s.port n).linkWidth ((s.port n).laneFaults.toNat % 256 ||| far.toNat) →
     ((s.port n).modeCode ≠ 0x10 → exec (.trainDone n far inv rev) s = .next (s.portUp n (s.port n).linkWidth inv rev)) ∧
     ((s.port n).modeCode = 0x10 → w = 0 → exec (.trainDone n far inv rev) s = .next (s.portTo n .fault 5)) ∧
     ((s.port n).modeCode = 0x10 → w ≠ 0 → (s.port n).advertised = true → exec (.trainDone n far inv rev) s = .next (s.portUp n w inv rev)) ∧
     ((s.port n).modeCode = 0x10 → w ≠ 0 → (s.port n).advertised = false → exec (.trainDone n far inv rev) s = .next s)) ∧
  (∀ (n : Nat) (s : State),
     ((s.port n).mode = .negotiate → (s.port n).since + s.par d13_0022 n ≤ s.now → exec (.negotiateTimeout n) s = .next (s.portTo n .fault 2)) ∧
     ((s.port n).mode = .train → (s.port n).since + s.par d13_0022 n ≤ s.now → exec (.trainTimeout n) s = .next (s.portTo n .fault 3)) ∧
     (∀ silent, (s.port n).mode = .up → (silent = true ∨ (s.port n).modeCode = 0x10 ∧ (s.port n).lastStatus + 4 * s.par d13_0020 n ≤ s.now) →
       exec (.linkLoss n silent) s = .next (s.portTo n .detect 0)) ∧
     ((s.port n).mode = .fault → (s.port n).since + s.par d13_0024 n ≤ s.now → exec (.faultRetry n) s = .next (s.portTo n .detect 0)) ∧
     ((s.port n).mode = .up → (s.port n).modeCode ≠ 0x10 → exec (.codewordDecodeFail n) s = .next (s.bump d13_0103 n)) ∧
     ((s.port n).mode = .up → (s.port n).modeCode = 0x10 → exec (.codewordDecodeFail n) s = .next ((s.bump d13_0103 n).bump d13_0110 n)))

/-- A STATUS block is sent by time or when what it says changes, and one that arrives on a fabric link that is up is
taken; a shed or restore request is a STATUS with its bit. At a period's end the byte count is noted, and a link that
may shed asks for half its width. When the tick of a change is reached, a narrowing that meets a window is dropped,
otherwise the width changes and a real change is counted. A link below its trained width that wants to be restored
asks and wakes its lanes; ready lanes are said. A PAUSE or PFC frame on an Ethernet link sets or ends pauses where
D13.0040 allows it and is counted, or is counted as unexpected; pauses that have run out end. Flow control is sent
when ingress room falls below D13.0041, repeated after half its time while below D13.0042, and ended above it. A frame
with a wrong FCS is counted in D13.0104, one longer than 8,448 bytes with its FCS in D13.0106. A frame for this port
with the Silus EtherType carries a Silus packet; an IEEE 1588 frame to one of its addresses is a message where D2.0023
selects that transport; a MAC control frame is PAUSE or PFC by its opcode; an IPv6 frame without extension headers to
the Silus port carries a packet if its checksum is good, to port 319 or 320 a 1588 message; every other frame is
counted in D13.0105. Bytes too few for a packet are counted in D6.0109. -/
def Obligations.LinkOperationAndFrames : Prop :=
  (∀ (n : Nat) (b : Bytes) (s : State),
     (s.fabricUp n = true → ((s.port n).statusSent + s.par d13_0020 n ≤ s.now ∨ (s.port n).statusSaid ≠ s.statusFields n false) →
       exec (.statusSend n) s = .next (s.sendStatus n false)) ∧
     exec (.statusRx n b) s = .next (s.takeStatus n b) ∧
     (natField 1 1 (leAt 5 1 b) = 1 → exec (.shedReqRx n b) s = .next (s.takeStatus n b)) ∧
     (natField 3 1 (leAt 5 1 b) = 1 → exec (.restoreReqRx n b) s = .next (s.takeStatus n b)) ∧
     ((s.fabricUp n = false ∨ leAt 0 1 b ≠ 3) → s.takeStatus n b = s) ∧
     (∀ (flags : Nat) (a d e : State), s.fabricUp n = true → leAt 0 1 b = 3 → flags = leAt 5 1 b →
       a = (s.setPort n { s.port n with
         lastStatus := s.now, peerReady := natField 0 1 flags = 1,
         partner := pack 32 [(16, leAt 2 2 b), (6, leAt 4 1 b), (9, 0), (1, 1)] }).takeAnswers n flags (leAt 6 1 b) (leAt 8 8 b) →
       d = (if natField 1 1 flags = 1 then a.takeShedReq n (leAt 6 1 b) (leAt 2 2 b) else a) →
       e = (if natField 3 1 flags = 1 then d.takeRestoreReq n (leAt 2 2 b) else d) →
       s.takeStatus n b = e.statusChange n)) ∧
  (∀ (n : Nat) (s a : State) (h : Shed), h = (s.port n).shed →
     (n < s.nports → h.period < s.now / s.par d13_0031 n →
       a = s.setPort n { s.port n with shed := { h with period := s.now / s.par d13_0031 n, lastBytes := h.periodBytes, periodBytes := 0 } } →
       (a.mayShed n h.periodBytes = true → h.asked = none → exec (.shedPeriodEnd n) s = .next ((a.setPort n { a.port n with
         shed := { (a.port n).shed with asked := some ((a.port n).active.toNat / 2, false) } }).statusChange n)) ∧
       (a.mayShed n h.periodBytes = false ∨ h.asked ≠ none → exec (.shedPeriodEnd n) s = .next a)) ∧
     (∀ w t g, h.switch = some (w, t) → s.fabricUp n = true → t ≤ s.now → g = ({ period := h.period, periodBytes := h.periodBytes, lastBytes := h.lastBytes } : Shed) →
       (w < (s.port n).active.toNat → s.hasWindow n = true → exec (.widthSwitch n) s = .next (s.setPort n { s.port n with shed := g })) ∧
       (w = (s.port n).active.toNat → exec (.widthSwitch n) s = .next (s.setPort n { s.port n with active := BitVec.ofNat 8 w, shed := g })) ∧
       ((s.port n).active.toNat < w ∨ (w < (s.port n).active.toNat ∧ s.hasWindow n = false) →
         exec (.widthSwitch n) s = .next ((s.setPort n { s.port n with active := BitVec.ofNat 8 w, shed := g }).bump d13_0111 n)))) ∧
  (∀ (n : Nat) (s : State) (h : Shed), h = (s.port n).shed → s.fabricUp n = true →
     (((s.port n).active.toNat < (s.port n).trained.toNat ∨ ∃ w t, h.switch = some (w, t) ∧ w < (s.port n).active.toNat) → h.restoring = false → s.wantsRestore n = true →
       exec (.restoreReq n) s = .next ((s.setPort n { s.port n with
         shed := { h with asked := some ((s.port n).trained.toNat, true), switch := none, restoring := true, granter := false, ownReady := false, peerReady := false } }).statusChange n)) ∧
     (h.restoring = true → h.ownReady = false → exec (.lanesReady n) s = .next
       (((s.setPort n { s.port n with shed := { h with ownReady := true } }).restoreTick n).statusChange n))) ∧
  (∀ (n : Nat) (s : State),
     (∀ q : BitVec 16, s.etherUp n = true → s.par d13_0040 n = 1 → exec (.pauseRx n q) s = .next ((s.setPause n 8 q.toNat).bump d13_0107 n)) ∧
     (∀ q : BitVec 16, s.etherUp n = true → s.par d13_0040 n ≠ 1 → exec (.pauseRx n q) s = .next (s.bump d13_0114 n)) ∧
     (∀ (en : BitVec 8) (qs : List Nat), s.etherUp n = true → s.par d13_0040 n = 2 → exec (.pfcRx n en qs) s =
       .next (((upTo 8).foldl (fun s i => if en.getLsbD i then s.setPause n i (qs[i]?.getD 0 % 65536) else s) s).bump d13_0108 n)) ∧
     (∀ (en : BitVec 8) (qs : List Nat), s.etherUp n = true → s.par d13_0040 n ≠ 2 → exec (.pfcRx n en qs) s = .next (s.bump d13_0114 n)) ∧
     (∀ i q, s.setPause n i q = s.setPort n { s.port n with
       paused := tput 0 i (if q = 0 then 0 else s.now + ceilDiv (64 * q) (max 1 (s.port n).rate)) (s.port n).paused }) ∧
     exec (.pauseExpire n) s = .next (s.setPort n { s.port n with paused := tfilter (fun _ t => s.now < t) (s.port n).paused })) ∧
  (∀ (n vc : Nat) (s : State), s.etherUp n = true →
     (∀ v ∈ s.flowVcs n vc, tget vc (s.port n).flowSent = none → s.ingressFree n v < s.par d13_0041 n →
       exec (.flowXoffSend n vc) s = .next (s.sendFlow n vc (s.par d13_0043 n))) ∧
     (∀ f, tget vc (s.port n).flowSent = some f →
       (∀ v ∈ s.flowVcs n vc, s.pauseTicks n (s.par d13_0043 n) ≤ 2 * (s.now - f.at_) → s.ingressFree n v < s.par d13_0042 n →
         exec (.flowRepeat n vc) s = .next (s.sendFlow n vc (s.par d13_0043 n))) ∧
       ((∀ v ∈ s.flowVcs n vc, s.par d13_0042 n ≤ s.ingressFree n v) → exec (.flowXonSend n vc) s = .next (s.sendFlow n vc 0)))) ∧
  (∀ (n frac : Nat) (f b : Bytes) (tr : Bool) (s : State), s.etherUp n = true → b = frameBody f →
     (exec (.ethFrameRx n f false frac tr) s = .next (s.bump d13_0104 n)) ∧
     (8448 < f.length + 4 → exec (.ethFrameRx n f true frac tr) s = .next (s.bump d13_0106 n)) ∧
     (f.length + 4 ≤ 8448 →
       (∀ h, beNat (slice 0 6 f) = s.portMac n → frameType f = s.par d6_0001 0 → frameHead f = 16 → h = f.take 12 ++ slice 12 4 f ++ slice 16 2 f →
         (∀ p, silusOf b = some p → exec (.ethFrameRx n f true frac tr) s = .next (s.takeSilus ⟨n, 0, h, p, tr⟩)) ∧
         (silusOf b = none → exec (.ethFrameRx n f true frac tr) s = .next (s.bump d6_0109 (portTower n)))) ∧
       (frameType f ≠ s.par d6_0001 0 →
         ((frameType f = 0x88F7 → (beNat (slice 0 6 f) = 0x011B19000000 ∨ beNat (slice 0 6 f) = 0x0180C200000E) →
           exec (.ethFrameRx n f true frac tr) s = .next (if s.par d2_0023 0 = 0 then s.takePtp n b frac else s)) ∧
         (frameType f = 0x8808 → beNat (slice 0 6 f) = 0x0180C2000001 →
           (beNat (slice 0 2 b) = 1 → exec (.ethFrameRx n f true frac tr) s = .next (s.takePause n (beNat (slice 2 2 b)))) ∧
           (beNat (slice 0 2 b) = 0x0101 → exec (.ethFrameRx n f true frac tr) s = .next (s.takePfc n (BitVec.ofNat 8 (beNat (slice 2 2 b)))
             ((upTo 8).map (fun i => beNat (slice (4 + 2 * i) 2 b))))) ∧
           (beNat (slice 0 2 b) ≠ 1 → beNat (slice 0 2 b) ≠ 0x0101 → exec (.ethFrameRx n f true frac tr) s = .next (s.bump d13_0105 n))) ∧
         (frameType f = 0x86DD →
           (frameUdp b = none → exec (.ethFrameRx n f true frac tr) s = .next (s.bump d13_0105 n)) ∧
           (∀ u, frameUdp b = some u → frameUdpOk b u = false → beNat (slice 2 2 u) = s.par d6_0002 0 →
             exec (.ethFrameRx n f true frac tr) s = .next (s.bump d6_0100 (portTower n))) ∧
           (∀ u, frameUdp b = some u → frameUdpOk b u = true → beNat (slice 2 2 u) ≠ s.par d6_0002 0 →
             ((beNat (slice 2 2 u) = 319 ∨ beNat (slice 2 2 u) = 320) → s.par d2_0023 0 = 1 → exec (.ethFrameRx n f true frac tr) s = .next (s.takePtp n (u.drop 8) frac)) ∧
             (beNat (slice 2 2 u) ≠ 319 → beNat (slice 2 2 u) ≠ 320 → exec (.ethFrameRx n f true frac tr) s = .next (s.bump d13_0105 n)))) ∧
         (frameType f ≠ 0x88F7 → frameType f ≠ 0x8808 → frameType f ≠ 0x86DD → exec (.ethFrameRx n f true frac tr) s = .next (s.bump d13_0105 n))))))

/-- TENANT_RESET of an ACTIVE or FROZEN tenant moves it to RESETTING with cause 4 and the next incarnation, ends a
migration and stops its event ring, counts D15.0100, cancels its speculations, resets the master when the tenant is a
PF, and under mode SQUASH squashes its work at once; a cause during a DRAIN reset turns it into SQUASH; during a
SQUASH reset or in another state it changes nothing. When D15.0011 has passed with work left, a DRAIN reset counts
D15.0101 and squashes. When nothing drains any more, the tenant's rings, connections, realms and handles are freed,
its counters are cleared, and it is ACTIVE again where its function is enabled, else DISABLED, with its incarnation,
cause and fault log kept; the PF gets event 8 with the number squashed and the cause. A reset that still drains, and
one that is not under way, stay as they are. Writing QUIESCE to 1 keeps the time of the first such write and sets
D15.8020 to 1; writing 0 ends it with D15.8020 0 and QUIESCED clear. A quiesced tenant with no started work left is
QUIESCED. When D15.8022 has passed with started work left and no reset under way, every started chain completes with
SQUASHED and unconfirmed messages are voided; under a FREEZE only chains with engine work. Each of the four changes
nothing otherwise, and QUIESCE_SET and QUIESCED leave package memory and every other tenant's state as they were. -/
def Obligations.TenantResetAndQuiesce : Prop :=
  (∀ (t : Nat) (s : State), ((s.tenant t).mode = .active ∨ (s.tenant t).mode = .frozen) → (s.tenant t).reset = none →
     ∀ a b : State, a = (((s.setTenant t { s.tenant t with
         mode := .resetting, inc := (s.tenant t).inc + 1, cause := 4
         reset := some { squash := decide (s.par d15_0010 t = 1), since := s.now }
         mig := { (s.tenant t).mig with mode := .none, rebinds := [], rebindLeft := 0 }
         events := { (s.tenant t).events with mode := .stopped } }).bump d15_0100 t).cancelSpecs t) →
       b = (if t = 0 then a.resetMaster 1 else if t = 1024 then a.resetMaster 2 else a) →
       (s.par d15_0010 t = 1 → exec (.tenantReset t) s = .next (b.squashTenant t)) ∧
       (s.par d15_0010 t ≠ 1 → exec (.tenantReset t) s = .next b)) ∧
  (∀ (t : Nat) (s : State),
     (∀ r, (s.tenant t).reset = some r → r.squash = true → exec (.tenantReset t) s = .next s) ∧
     (∀ r, (s.tenant t).reset = some r → r.squash = false →
       exec (.tenantReset t) s = .next ((s.setTenant t { s.tenant t with reset := some { r with squash := true } }).squashTenant t)) ∧
     ((s.tenant t).reset = none → (s.tenant t).mode ≠ .active → (s.tenant t).mode ≠ .frozen → exec (.tenantReset t) s = .next s)) ∧
  (∀ (t : Nat) (s : State),
     (∀ r, (s.tenant t).reset = some r → r.squash = false → r.since + s.par d15_0011 t ≤ s.now → s.drainWork t = true →
       exec (.drainLimitExpire t) s =
         .next (((s.setTenant t { s.tenant t with reset := some { r with squash := true } }).bump d15_0101 t).squashTenant t)) ∧
     ((∀ r, (s.tenant t).reset = some r → r.squash = true ∨ s.now < r.since + s.par d15_0011 t ∨ s.drainWork t = false) →
       exec (.drainLimitExpire t) s = .next s)) ∧
  (∀ (t : Nat) (s : State) (r : ResetRun), (s.tenant t).reset = some r → (r.squash = true ∨ s.drainWork t = false) →
     ∀ f a : State, f = s.freeTenant t → a = f.setTenant t {
         mode := if f.fnEnabled t then .active else .disabled, inc := (f.tenant t).inc, cause := (f.tenant t).cause
         log := (f.tenant t).log, logCount := (f.tenant t).logCount
         events := { mode := .stopped, lost := (f.tenant t).events.lost }, mig := { result := (f.tenant t).mig.result, bytes := (f.tenant t).mig.bytes, lastSave := (f.tenant t).mig.lastSave } } →
       (tenantPf t = t → exec (.tenantResetDone t) s = .next a) ∧
       (∀ q, tenantPf t ≠ t → (f.tenant t).reset = some q →
         exec (.tenantResetDone t) s = .next (a.event (tenantPf t) 8 1 t q.squashed ((f.tenant t).cause.toNat + (if r.squash then 256 else 0))))) ∧
  (∀ (t : Nat) (s : State), ((s.tenant t).reset = none ∨ ∃ r, (s.tenant t).reset = some r ∧ r.squash = false ∧ s.drainWork t = true) →
     exec (.tenantResetDone t) s = .next s) ∧
  (∀ (t : Nat) (s a b : State),
     a = (s.setTenant t { s.tenant t with quiesceAt := if (s.tenant t).quiesceAt.isSome then (s.tenant t).quiesceAt else some s.now }).setLive d15_8020 t 1 →
     b = (s.setTenant t { s.tenant t with quiesceAt := none, quiesced := false }).setLive d15_8020 t 0 →
     exec (.quiesceSet t) s = .next a ∧ exec (.quiesceClear t) s = .next b ∧
     (twfD {} s.tenants = true →
       ((s.tenant t).quiesceAt = none → (a.tenant t).quiesceAt = some s.now) ∧ (b.tenant t).quiesceAt = none ∧ (b.tenant t).quiesced = false ∧
       (∀ u, u ≠ t → a.tenant u = s.tenant u ∧ b.tenant u = s.tenant u)) ∧
     a.memory = s.memory ∧ b.memory = s.memory ∧ a.rings = s.rings ∧ b.rings = s.rings ∧ a.conns = s.conns ∧ b.conns = s.conns ∧
     ((s.tenant t).quiesceAt.isSome = true → s.startedWork t = false →
       exec (.quiesced t) s = .next (s.setTenant t { s.tenant t with quiesced := true })) ∧
     ((s.tenant t).quiesceAt.isSome = false ∨ s.startedWork t = true → exec (.quiesced t) s = .next s)) ∧
  (∀ (t n : Nat) (s : State), (s.tenant t).reset = none → n + s.par d15_8022 t ≤ s.now → s.startedWork t = true →
     ((s.tenant t).mig.mode ≠ .freezing → (s.tenant t).quiesceAt = some n → exec (.quiesceLimit t) s = .next (s.squashWork t)) ∧
     ((s.tenant t).mig.mode = .freezing → (s.tenant t).mig.since = n →
       exec (.quiesceLimit t) s = .next (((s.tenantRings t).flatMap (fun e => (e.2.running.filter (fun c => c.entries.any (fun y =>
         y.phase = .running && !(entOpcode y.word ≤ 4 || entOpcode y.word = 0x40)))).map (fun c => (e.1, c)))).foldl
           (fun s p => s.abandonChain p.1 p.2 .squashed) s))) ∧
  (∀ (t : Nat) (s : State), (s.tenant t).reset.isSome = true ∨ s.startedWork t = false ∨
       ((s.tenant t).mig.mode ≠ .freezing ∧ ∀ n, (s.tenant t).quiesceAt = some n → s.now < n + s.par d15_8022 t) ∨
       ((s.tenant t).mig.mode = .freezing ∧ s.now < (s.tenant t).mig.since + s.par d15_8022 t) →
     exec (.quiesceLimit t) s = .next s)

/-- FREEZE answers BAD_STATE unless the tenant is ACTIVE with no migration, SPIRE while it owns a spire connection
that is not in QUARANTINE; else the tenant is FROZEN and FREEZING from now, its connections freeze, its speculations
are cancelled and its modified bays are written back. It is FROZEN when its engines are idle and every connection is
FROZEN, or in QUARANTINE, INIT or ERROR. SAVE answers BAD_STATE outside FROZEN and SAVED, AUTH without its key slot,
BUFFER, with the length needed, where the buffer is not wholly the PF's or too small; else it is SAVING in the present
65,536-tick period, or in the next when this one had a SAVE. When that period has come, the blob with that period as
SEQ stands in the buffer and the state is SAVED with the length shown. Other commands and states change nothing. -/
def Obligations.MigrationFreezeAndSave : Prop :=
  (∀ (t : Nat) (s : State),
     ((s.tenant t).mig.mode ≠ .none ∨ (s.tenant t).mode ≠ .active → exec (.migFreeze t) s = .next (s.migResult t 1)) ∧
     ((s.tenant t).mig.mode = .none → (s.tenant t).mode = .active →
       ((s.tenantConns t).any (fun e => e.2.ctx.core.cls = 1 && e.2.ctx.core.mode ≠ .quarantine) = true →
         exec (.migFreeze t) s = .next (s.migResult t 2)) ∧
       (∀ a b : State, (s.tenantConns t).any (fun e => e.2.ctx.core.cls = 1 && e.2.ctx.core.mode ≠ .quarantine) = false →
         a = s.setTenant t { s.tenant t with mode := .frozen, mig := { (s.tenant t).mig with mode := .freezing, since := s.now, result := 0 } } →
         b = (a.tenantConns t).foldl (fun s e => s.freeze e.1) a →
         exec (.migFreeze t) s = .next ((b.cancelSpecs t).writeBays t)))) ∧
  (∀ (t : Nat) (s : State),
     ((s.tenant t).mig.mode = .freezing → s.engineIdle t = true →
       (∀ e ∈ s.tenantConns t, (e.2.ctx.core.mode = .frozen ∧ e.2.freezeAt = none) ∨ e.2.ctx.core.mode = .quarantine ∨
         e.2.ctx.core.mode = .init ∨ e.2.ctx.core.mode = .error) →
       exec (.migFrozen t) s = .next (s.setTenant t { s.tenant t with mig := { (s.tenant t).mig with mode := .frozen, frozenAt := s.now } })) ∧
     ((s.tenant t).mig.mode ≠ .freezing ∨ s.engineIdle t = false ∨
       (∃ e ∈ s.tenantConns t, e.2.ctx.core.mode = .ready) → exec (.migFrozen t) s = .next s)) ∧
  (∀ (t n : Nat) (s : State), n = 80 + (s.migRecords t).foldl (fun a r => a + r.length) 0 →
     ((s.tenant t).mig.mode ≠ .frozen → (s.tenant t).mig.mode ≠ .saved → exec (.migSave t) s = .next (s.migResult t 1)) ∧
     ((s.tenant t).mig.mode = .frozen ∨ (s.tenant t).mig.mode = .saved →
       (s.slotUsable (s.par d15_8031 t) 3 = false → exec (.migSave t) s = .next (s.migResult t 4)) ∧
       (s.slotUsable (s.par d15_8031 t) 3 = true → s.tenantMem (tenantPf t) (s.par d15_8034 t) (s.par d15_8035 t) = false ∨ s.par d15_8035 t < n →
         exec (.migSave t) s = .next ((s.setTenant t { s.tenant t with mig := { (s.tenant t).mig with bytes := BitVec.ofNat 64 n } }).migResult t 3)) ∧
       (∀ p, s.slotUsable (s.par d15_8031 t) 3 = true → s.tenantMem (tenantPf t) (s.par d15_8034 t) (s.par d15_8035 t) = true → n ≤ s.par d15_8035 t →
         p = (if s.now / 65536 < (s.tenant t).mig.lastSave then (s.tenant t).mig.lastSave else s.now / 65536) →
         exec (.migSave t) s = .next (s.setTenant t { s.tenant t with mig := { (s.tenant t).mig with
           mode := .saving, since := s.now, saveAt := p, lastSave := p + 1, result := 0 } })))) ∧
  (∀ (t : Nat) (s a : State) (b : Bytes), b = s.migBlob t ((s.tenant t).mig.saveAt % 4294967296) →
     a = s.setTenant t { s.tenant t with mig := { (s.tenant t).mig with bytes := BitVec.ofNat 64 b.length } } →
     ((s.tenant t).mig.mode = .saving → (s.tenant t).mig.saveAt ≤ s.now / 65536 →
       (∀ w : State, b.length ≤ s.par d15_8035 t → a.placeWrite (tenantPf t) ⟨1, 0, 0⟩ (s.par d15_8034 t) b = some w →
         exec (.migSaveDone t) s = .next (w.setTenant t { w.tenant t with mig := { (w.tenant t).mig with mode := .saved, result := 0 } })) ∧
       (s.par d15_8035 t < b.length ∨ a.placeWrite (tenantPf t) ⟨1, 0, 0⟩ (s.par d15_8034 t) b = none →
         exec (.migSaveDone t) s = .next ((a.setTenant t { a.tenant t with mig := { (a.tenant t).mig with mode := .frozen } }).migResult t 3))) ∧
     ((s.tenant t).mig.mode ≠ .saving ∨ s.now / 65536 < (s.tenant t).mig.saveAt → exec (.migSaveDone t) s = .next s))

/-- RESTORE answers BAD_STATE unless the tenant is ACTIVE with no migration and holds no ring, realm, handle or
connection; else it is FROZEN and RESTORING, and what its blob names is in place when every record could be placed, or
nothing is and the failure is kept. At its end a failure gives ACTIVE, no migration and its code, else RESTORED with
OK. RESUME answers BAD_STATE outside FROZEN, SAVED and RESTORED; else the tenant is ACTIVE with no migration and its
connections thaw; after a RESTORE its rings are ACTIVE too and a path-rebind datagram goes to each distinct peer,
twice more at intervals of 12,500 ticks. DISCARD answers BAD_STATE with no migration, else is a reset with cause 5 and
mode SQUASH. A received path-rebind of a bad form counts D19.0107; one that no handle of that peer and tag verifies,
newer than its last, counts D5.0109; else every such handle takes the adapter, encapsulation, MAC, IPv6 address and
number map of the datagram, its SEQ and the time. -/
def Obligations.MigrationRestoreAndResume : Prop :=
  (∀ (t : Nat) (s : State),
     ((s.tenant t).mig.mode ≠ .none ∨ (s.tenant t).mode ≠ .active ∨ s.tenantEmpty t = false → exec (.migRestore t) s = .next (s.migResult t 1)) ∧
     ((s.tenant t).mig.mode = .none → (s.tenant t).mode = .active → s.tenantEmpty t = true →
       (∀ e, s.openBlob t = .error e → exec (.migRestore t) s = .next (s.setTenant t { s.tenant t with
         mode := .frozen, mig := { (s.tenant t).mig with mode := .restoring, since := s.now, failure := some e } })) ∧
       (∀ h rs e, s.openBlob t = .ok (h, rs) → s.placeRecords t (leAt 16 4 h) rs = .error e →
         exec (.migRestore t) s = .next (s.setTenant t { s.tenant t with
           mode := .frozen, mig := { (s.tenant t).mig with mode := .restoring, since := s.now, failure := some e } })) ∧
       (∀ h rs, ∀ a b : State, s.openBlob t = .ok (h, rs) → s.placeRecords t (leAt 16 4 h) rs = .ok a →
         b = a.setTenant t { a.tenant t with mig := { (a.tenant t).mig with
           srcAdapter := BitVec.ofNat 16 (leAt 6 2 h), connBase := leAt 16 4 h % 16777216, connSpan := leAt 20 4 h, seq := BitVec.ofNat 32 (leAt 12 4 h) } } →
         exec (.migRestore t) s = .next (b.setTenant t { b.tenant t with
           mode := .frozen, mig := { (b.tenant t).mig with mode := .restoring, since := b.now, failure := none } })))) ∧
  (∀ (t : Nat) (s : State),
     ((s.tenant t).mig.mode = .restoring →
       (∀ e, (s.tenant t).mig.failure = some e → exec (.migRestoreDone t) s = .next (s.setTenant t { s.tenant t with
         mode := .active, mig := { (s.tenant t).mig with mode := .none, failure := none, result := BitVec.ofNat 8 e } })) ∧
       ((s.tenant t).mig.failure = none → exec (.migRestoreDone t) s = .next (s.setTenant t { s.tenant t with
         mig := { (s.tenant t).mig with mode := .restored, result := 0 } }))) ∧
     ((s.tenant t).mig.mode ≠ .restoring → exec (.migRestoreDone t) s = .next s)) ∧
  (∀ (t : Nat) (s : State),
     ((s.tenant t).mig.mode ≠ .frozen → (s.tenant t).mig.mode ≠ .saved → (s.tenant t).mig.mode ≠ .restored →
       exec (.migResume t) s = .next (s.migResult t 1)) ∧
     ((s.tenant t).mig.mode = .none → exec (.migDiscard t) s = .next (s.migResult t 1)) ∧
     ((s.tenant t).mig.mode ≠ .none → exec (.migDiscard t) s = .next ((s.migResult t 0).startReset t 5 true)) ∧
     (∀ a b c : State, a = s.setTenant t { s.tenant t with mode := .active, mig := { (s.tenant t).mig with mode := .none, result := 0 } } →
       b = (a.tenantConns t).foldl (fun s e => s.thaw e.1) a →
       c = { b with rings := tmap (fun k r => if keyTenant k = t then { r with mode := .active } else r) b.rings } →
       ((s.tenant t).mig.mode = .frozen ∨ (s.tenant t).mig.mode = .saved → exec (.migResume t) s = .next b) ∧
       ((s.tenant t).mig.mode = .restored → exec (.migResume t) s = .next ((c.setTenant t { c.tenant t with mig := { (c.tenant t).mig with
         rebinds := c.rebindPeers t, rebindLeft := 2, rebindAt := c.now + 12500 } }).sendRebinds t)))) ∧
  (∀ (t : Nat) (s : State),
     ((s.tenant t).mig.rebindLeft ≠ 0 → (s.tenant t).mig.rebindAt ≤ s.now →
       exec (.pathRebindRepeat t) s = .next ((s.setTenant t { s.tenant t with mig := { (s.tenant t).mig with
         rebindLeft := (s.tenant t).mig.rebindLeft - 1, rebindAt := (s.tenant t).mig.rebindAt + 12500 } }).sendRebinds t)) ∧
     ((s.tenant t).mig.rebindLeft = 0 ∨ s.now < (s.tenant t).mig.rebindAt → exec (.pathRebindRepeat t) s = .next s)) ∧
  (∀ (rx : Rx) (s a : State) (f : State → State) (b : Bytes), f = State.takeRebind rx.pkt → b = rx.pkt.payload.drop 16 →
     exec (.pathRebindRx rx) s = .next (s.takeDatagram rx f) ∧
     (leAt 0 2 (rx.pkt.payload.take 16) ≠ 0x4D5A ∨ leAt 2 1 (rx.pkt.payload.take 16) ≠ 1 ∨ leAt 12 2 (rx.pkt.payload.take 16) ≠ b.length ∨
       b.length ≠ 48 → f a = a.bump d19_0107 0) ∧
     (leAt 0 2 (rx.pkt.payload.take 16) = 0x4D5A → leAt 2 1 (rx.pkt.payload.take 16) = 1 → leAt 12 2 (rx.pkt.payload.take 16) = 48 → b.length = 48 →
       ((∀ e ∈ a.handles, a.rebinds e.2 b rx.pkt.trailer = false) → f a = a.bump d5_0109 0) ∧
       (∀ e ∈ a.handles, a.rebinds e.2 b rx.pkt.trailer = true →
         f a = { a with handles := tmap (fun _ h => if a.rebinds h b rx.pkt.trailer then h.rebind a.now b else h) a.handles })))

/-- Each of the three commands acts on the next ready entry of the ring when it is a COLLECTIVE_STEP of its ACTION,
and changes nothing otherwise. An entry whose trigger had expired fails with SCHEDULE_MISS; without a defined handle
in the tenant's range, or without weight, with ACCESS_DENIED; its local ranges are checked, a refusal fails it, an
untranslated page makes it wait; in a closed domain it fails with POWERED_DOWN. Otherwise it runs: on a handle that a
REDUCE slot names it waits for its instance; else it starts, a READOUT only once every segment has ARRIVED enough. A
READOUT that waits starts when its data have arrived, oldest first per tower. -/
def Obligations.CollectiveSteps : Prop :=
  (∀ (t ring n : Nat) (ans m : MemAns) (s : State) (c : Instr),
     (c = .collectiveClear t ring ∧ n = 1 ∧ m = .data []) ∨ (c = .collectiveAddLocal t ring ans ∧ n = 2 ∧ m = ans) ∨
       (c = .collectiveReadout t ring ∧ n = 3 ∧ m = .data []) →
     ((∀ e w, s.readyEntry t ring 0x20 = some (e, w) → stAction w ≠ n) → exec c s = .next s) ∧
     (∀ e w, s.readyEntry t ring 0x20 = some (e, w) → stAction w = n →
       (s.entryExpired e = true → exec c s = .next (s.failEntry e .scheduleMiss 0)) ∧
       (s.entryExpired e = false → s.handleDesc? t (stHandle w) = none ∨ s.par d10_8000 t = 0 → exec c s = .next (s.failEntry e .accessDenied 0)) ∧
       (∀ d, s.entryExpired e = false → s.handleDesc? t (stHandle w) = some d → s.par d10_8000 t ≠ 0 →
         (∀ r, s.checkNeeds t (stepNeeds d w) = .fail r → exec c s = .next (s.failLocal t e r)) ∧
         (∀ x g, s.checkNeeds t (stepNeeds d w) = .translate x g → exec c s = .next (s.awaitPage t e (s.keyPasid x.key) g (x.perm = 1))) ∧
         (∀ rs shut, s.checkNeeds t (stepNeeds d w) = .ok rs →
           shut = (s.needsShut (stepNeeds d w) rs || s.domShut (domCupola (extentTower (extentOf (hdBase d)))) || s.domShut (domTower (extentTower (extentOf (hdBase d))))) →
           (shut = true → exec c s = .next (s.failEntry e .poweredDown 0)) ∧
           (∀ g k : AccWork, ∀ r : State, shut = false → g = mkWork e t d w rs.head? → k = { g with gens := s.gensOf g.reach.1 g.reach.2 } → r = s.runEntry e →
             (s.boundHandle (stHandle w) = true →
               exec c s = .next { r with cupola := { r.cupola with works := r.cupola.works ++ [{ k with phase := .slot }] } }) ∧
             (s.boundHandle (stHandle w) = false → ∀ b : State,
               b = { r with cupola := { r.cupola with works := r.cupola.works ++ [{ k with phase := .running }] } } →
               exec c s = .next (b.beginStep { k with phase := .running } m))))))) ∧
  (∀ (tower : Nat) (s : State),
     (∀ w, s.cupola.works.find? (fun w => w.tower = tower && w.phase = .arrived && s.arrivedEnough w) = some w →
       exec (.readoutReady tower) s = .next (s.startWork w)) ∧
     ((∀ w ∈ s.cupola.works, w.tower ≠ tower ∨ w.phase ≠ .arrived ∨ s.arrivedEnough w = false) → exec (.readoutReady tower) s = .next s)) ∧
  (∀ (tower entry : Nat) (ans : MemAns) (s : State),
     (s.stepSlot .reduce tower entry = none → exec (.reduceSlotDue tower entry ans) s = .next s) ∧
     (∀ x, s.stepSlot .reduce tower entry = some x → s.takeInstance tower entry x = none → exec (.reduceSlotDue tower entry ans) s = .next s) ∧
     (∀ x due, ∀ a b : State, s.stepSlot .reduce tower entry = some x → s.takeInstance tower entry x = some (due, a) →
       (a.scheduled = false → exec (.reduceSlotDue tower entry ans) s = .next ((a.count d7_0103 tower 1).setRo d7_0108 tower due)) ∧
       (a.scheduled = true → b = a.bump d7_0100 tower →
         (∀ w ws, b.boundSteps x.target = w :: ws →
           (w.action ≠ 3 ∨ b.arrivedEnough w = true → exec (.reduceSlotDue tower entry ans) s = .next (b.startBound w ans)) ∧
           (w.action = 3 → b.arrivedEnough w = false → exec (.reduceSlotDue tower entry ans) s = .next (b.noteLate x.target due))) ∧
         (b.boundSteps x.target = [] → b.entryWaits (fun w => entOpcode w = 0x20 && stHandle w = x.target) = true →
           exec (.reduceSlotDue tower entry ans) s = .next (b.noteLate x.target due)) ∧
         (b.boundSteps x.target = [] → b.entryWaits (fun w => entOpcode w = 0x20 && stHandle w = x.target) = false →
           exec (.reduceSlotDue tower entry ans) s = .next (if x.expect then
             (b.bump d7_0102 tower).event (b.handleTenant x.target) 3 2 x.target 0 (b.roundOf due % 4294967296) else b)))))

/-- An ACCUM packet held on a tower is refused, counted in D12.0104, when a binding of its extents has changed since
its check. Else the oldest held ACCUM packet of the tower whose blocks stand in their bays is applied and leaves the
input buffer; when there is none, the blocks of the oldest are asked for; with nothing held, nothing changes. A load
that completes makes its bay resident and lets the steps that wait for it go on; one that fails frees the bay and
leaves the block undefined, logged, its users failed; one issued under an earlier BIND_GEN frees the bay, counts
D12.0104 and fails what waited under that binding. The end of a write-back frees the block's place, a failed one
leaves it undefined, and the load that waited for the bay begins. A load or write-back that is not under way changes
nothing. -/
def Obligations.CupolaBays : Prop :=
  (∀ (tower : Nat) (s : State) (mine : List AccHold), mine = s.cupola.input.filter (AccHold.isAccum tower) →
     (∀ h, mine.find? s.staleHold = some h → exec (.accumApply tower) s = .next ((s.bump d12_0104 tower).loseHold h)) ∧
     ((∀ h ∈ mine, s.staleHold h = false) →
     (∀ h c psn msn, mine.find? (fun h => h.blocks.all (s.bayReady tower)) = some h → h.source = .accum c psn msn →
       exec (.accumApply tower) s = .next ((s.applyAccum h c psn msn).dropHold h)) ∧
     (∀ h hs, mine = h :: hs → (∀ g ∈ mine, g.blocks.all (s.bayReady tower) = false) →
       exec (.accumApply tower) s = .next (h.blocks.foldl (fun s b => s.needBay tower b) s)) ∧
     (mine = [] → exec (.accumApply tower) s = .next s))) ∧
  (∀ (tower block : Nat) (ok : Bool) (s : State) (rest : List Bay), rest = (s.baysOf tower).filter (fun b => b.block ≠ block) →
     (∀ b, (s.baysOf tower).find? (fun b => b.block = block && b.phase = .loading) = some b →
       (ok = true → b.gen = (s.extent (extentOf block)).bindGen →
         exec (.bayLoadDone tower block ok) s = .next ((s.setBays tower ({ b with phase := .resident } :: rest)).resumeWorks tower)) ∧
       (b.gen ≠ (s.extent (extentOf block)).bindGen →
         exec (.bayLoadDone tower block ok) s = .next ((((s.setBays tower rest).bump d12_0104 tower).blockLost tower block true).resumeWorks tower)) ∧
       (ok = false → b.gen = (s.extent (extentOf block)).bindGen →
         exec (.bayLoadDone tower block ok) s = .next ((s.setBays tower rest).blockFailed tower block))) ∧
     ((s.baysOf tower).find? (fun b => b.block = block && b.phase = .loading) = none → exec (.bayLoadDone tower block ok) s = .next s) ∧
     (s.cupola.writing.contains (tower, block) = false → exec (.bayWritebackDone tower block ok) s = .next s) ∧
     (∀ a c : State, s.cupola.writing.contains (tower, block) = true →
       a = { s with cupola := { s.cupola with writing := s.cupola.writing.erase (tower, block) } } →
       c = (if ok = true then a else a.blockFailed tower block) →
       ((c.baysOf tower).find? (fun b => b.phase = .waiting block) = none → exec (.bayWritebackDone tower block ok) s = .next c) ∧
       (∀ b, (c.baysOf tower).find? (fun b => b.phase = .waiting block) = some b →
         exec (.bayWritebackDone tower block ok) s = .next (c.loadBay tower b.block))))

/-- QUANTIZE acts on the next ready entry when it is one. Without weight the entry fails with ACCESS_DENIED; its local
ranges are checked as for every entry; an error buffer outside tier-1 package memory gives ACCESS_DENIED, a closed
tower or Cupola domain POWERED_DOWN. Otherwise it runs: a failed read or write ends it with BUS_ERROR; else each
element plus its old error is rounded to the output format and written, with error feedback the new errors are written
too, lane-cycles are counted (threefold with feedback), values out of range give FORMAT_RANGE with their number, and
the entry ends after its read-backs. -/
def Obligations.Quantize : Prop :=
  (∀ (t ring : Nat) (ans : MemAns) (s : State),
     (s.readyEntry t ring 0x21 = none → exec (.quantize t ring ans) s = .next s) ∧
     (∀ e w, s.readyEntry t ring 0x21 = some (e, w) →
       (s.par d10_8000 t = 0 → exec (.quantize t ring ans) s = .next (s.failEntry e .accessDenied 0)) ∧
       (s.par d10_8000 t ≠ 0 →
         (∀ r, s.checkNeeds t (quantizeNeeds w) = .fail r → exec (.quantize t ring ans) s = .next (s.failLocal t e r)) ∧
         (∀ x g, s.checkNeeds t (quantizeNeeds w) = .translate x g →
           exec (.quantize t ring ans) s = .next (s.awaitPage t e (s.keyPasid x.key) g (x.perm = 1))) ∧
         (∀ rs bad k p, ∀ r : State, s.checkNeeds t (quantizeNeeds w) = .ok rs → s.needsShut (quantizeNeeds w) rs = false → (s.tenant t).mode ≠ .resetting →
           bad = (qzErrEn w && !tierOne ((rs.map Realm.place).getD 2 ⟨0, 0, 0⟩) (qzErrAddr w) (4 * qzCount w)) → k = s.quantizeTower e w →
           p = (rs.map Realm.place).getD 0 ⟨1, 0, 0⟩ → r = s.runEntry e →
           (bad = true → exec (.quantize t ring ans) s = .next (s.failEntry e .accessDenied 0)) ∧
           (bad = false → s.domShut (domCupola k) = true ∨ s.domShut (domTower k) = true → exec (.quantize t ring ans) s = .next (s.failEntry e .poweredDown 0)) ∧
           (bad = false → s.domShut (domCupola k) = false → s.domShut (domTower k) = false →
             (r.placeRead t p (entLocal w) (entLength w) ans = none →
               exec (.quantize t ring ans) s = .next ((r.readFailed t p (entLocal w) (entLength w)).failEntry e .busError 0)) ∧
             (∀ b, r.placeRead t p (entLocal w) (entLength w) ans = some b → exec (.quantize t ring ans) s = .next (r.quantize e t w rs b))))))) ∧
  (∀ (e : EntryRef) (t : Nat) (w : W512) (rs : List Realm) (input : Bytes) (s : State) (k n : Nat) (out : Place), k = s.quantizeTower e w → n = qzCount w →
     out = (rs.map Realm.place).getD 1 ⟨1, 0, 0⟩ → qzErrEn w = true →
     (s.memRead (qzErrAddr w) (4 * n) = none → s.quantize e t w rs input = (s.readFailed t ⟨1, 0, 0⟩ (qzErrAddr w) (4 * n)).failEntry e .busError 0) ∧
     (∀ errs ts r, ∀ a : State, s.memRead (qzErrAddr w) (4 * n) = some errs → ts = quantizeSums w input errs →
       r = readOut (qzOut w) (qzRound w) 0 (qzSeed w) 0 (qzKBase w) ts → a = s.useLanes k t (3 * n) →
       (a.placeWrite t out (entRemote w) r.1 = none → s.quantize e t w rs input = a.failEntry e .busError 0) ∧
       (∀ b c : State, a.placeWrite t out (entRemote w) r.1 = some b →
         b.memWrite (qzErrAddr w) ((List.zipWith quantizeError ts (decodeAll (qzOut w) r.1)).flatMap (leBytes 4)) = some c → r.2 = 0 →
         s.quantize e t w rs input = (c.addBytes e (entLength w)).endAfterReads e out (lastWord (entRemote w) (bytesFor (qzOut w) n))
           (match rs[1]? with | some r => r.crossPath (entRemote w) (bytesFor (qzOut w) n) | none => false))))

/-- DISPATCH_TOKENS and DISPATCH_WEIGHTS act on the next ready entry when it is a DISPATCH of MODE 0 or 1. Without a
VALID directory (or stage, or with rows longer than the stage) the entry fails with ACCESS_DENIED; its local ranges
are checked; a speculative one without a deadline trigger, over the limit, or of an id in use is cancelled at once
with the reason. Else it runs. Tokens: a failed read of the router output ends it with BUS_ERROR, else each choice
takes a slot in order, the rows are sent, the DISPATCH is kept and its record entries are written. Weights: the
prefetch is kept and the stage's record names no expert. Another entry changes nothing. -/
def Obligations.ExpertDispatch : Prop :=
  (∀ (t ring : Nat) (router rows : MemAns) (s : State) (e : EntryRef) (w : W512), s.readyEntry t ring 0x30 = some (e, w) →
     (dpMode w ≠ 0 → exec (.dispatchTokens t ring router rows) s = .next s) ∧
     (dpMode w = 0 → edValid (s.expertDesc t) = false → exec (.dispatchTokens t ring router rows) s = .next (s.failEntry e .accessDenied 0)) ∧
     (dpMode w = 0 → edValid (s.expertDesc t) = true →
       (∀ r, s.checkNeeds t (dispatchNeeds w) = .fail r → exec (.dispatchTokens t ring router rows) s = .next (s.failLocal t e r)) ∧
       (∀ rs, s.checkNeeds t (dispatchNeeds w) = .ok rs → s.needsShut (dispatchNeeds w) rs = true →
         exec (.dispatchTokens t ring router rows) s = .next (s.failEntry e .poweredDown 0)) ∧
       (∀ rs n p, ∀ a : State, s.checkNeeds t (dispatchNeeds w) = .ok rs → s.needsShut (dispatchNeeds w) rs = false → (s.tenant t).mode ≠ .resetting →
         n = 8 * dpTokens w * dpTopk w → p = (fun (i : Nat) => (rs.map Realm.place).getD i ⟨1, 0, 0⟩) → a = (s.reuseSpec t w).runEntry e →
         (∀ why, s.specRefused t e w = some why → exec (.dispatchTokens t ring router rows) s = .next (s.refuseSpec e why)) ∧
         (s.specRefused t e w = none → a.placeRead t (p 1) (entRemote w) n router = none →
           exec (.dispatchTokens t ring router rows) s = .next ((a.readFailed t (p 1) (entRemote w) n).failEntry e .busError 0)) ∧
         (∀ b d r q, s.specRefused t e w = none → a.placeRead t (p 1) (entRemote w) n router = some b →
           d = ({ ref := e, tenant := t, desc := a.expertDesc t, round := dpRound w, tokens := dpTokens w, topk := dpTopk w
                  tokenBase := dpTokenBase w, length := entLength w, rows := p 0, rowAddr := entLocal w, recs := p 3, key := entKey w
                  recAddr := dpRecord w, spec := if entSpec w then some (dpSpecId w) else none } : Dispatch) →
           r = a.takeSlots d e false (choices (dpTokens w) (dpTopk w) b) →
           q = r.1.sendRows e { r.2.1 with contribs := r.2.2 } r.2.2 rows →
           exec (.dispatchTokens t ring router rows) s =
             .next (({ q.1 with experts := { q.1.experts with dispatches := q.1.experts.dispatches ++ [q.2] } } : State).putRecords q.2))))) ∧
  (∀ (t ring : Nat) (router rows ans : MemAns) (s : State), s.readyEntry t ring 0x30 = none →
     exec (.dispatchTokens t ring router rows) s = .next s ∧ exec (.dispatchWeights t ring ans) s = .next s) ∧
  (∀ (t ring : Nat) (ans : MemAns) (s : State) (e : EntryRef) (w : W512) (d : Bytes) (ns : List Need), s.readyEntry t ring 0x30 = some (e, w) →
     d = s.stageDesc t (dpStage w) →
     ns = [⟨entKey w, 0, entLocal w, entLength w⟩, ⟨wsKey d, 1, wsBase d, entLength w⟩, ⟨wsKey d, 1, wsPub d, 16⟩] →
     (dpMode w ≠ 1 → exec (.dispatchWeights t ring ans) s = .next s) ∧
     (dpMode w = 1 → edValid (s.expertDesc t) = false ∨ wsValid d = false ∨ wsSize d < entLength w →
       exec (.dispatchWeights t ring ans) s = .next (s.failEntry e .accessDenied 0)) ∧
     (dpMode w = 1 → edValid (s.expertDesc t) = true → wsValid d = true → entLength w ≤ wsSize d →
       (∀ r, s.checkNeeds t ns = .fail r → exec (.dispatchWeights t ring ans) s = .next (s.failLocal t e r)) ∧
       (∀ rs, ∀ a : State, s.checkNeeds t ns = .ok rs → s.needsShut ns rs = false → (s.tenant t).mode ≠ .resetting → a = (s.reuseSpec t w).runEntry e →
         (∀ why, s.specRefused t e w = some why → exec (.dispatchWeights t ring ans) s = .next (s.refuseSpec e why)) ∧
         (∀ q : Prefetch, s.specRefused t e w = none → ((rs.map Realm.place).getD 0 ⟨1, 0, 0⟩).space = 1 →
           q = { ref := e, tenant := t, stage := dpStage w, expert := dpTokenBase w, length := entLength w, round := dpRound w
                 src := (rs.map Realm.place).getD 0 ⟨1, 0, 0⟩, srcAddr := entLocal w, dst := (rs.map Realm.place).getD 1 ⟨1, 0, 0⟩, base := wsBase d, size := wsSize d
                 pub := wsPub d, cross := (match rs[1]? with | some r => r.crossPath (wsBase d) (entLength w) | none => false)
                 pubCross := (match rs[2]? with | some r => r.crossPath (wsPub d) 16 | none => false)
                 spec := if entSpec w then some (dpSpecId w) else none, data := [] } →
           exec (.dispatchWeights t ring ans) s =
             .next (({ a with experts := { a.experts with prefetches := a.experts.prefetches ++ [q] } } : State).writePub q 0xFFFFFFFF 1)) ∧
         (s.specRefused t e w = none → ((rs.map Realm.place).getD 0 ⟨1, 0, 0⟩).space ≠ 1 →
           a.placeRead t ((rs.map Realm.place).getD 0 ⟨1, 0, 0⟩) (entLocal w) (entLength w) ans = none →
           exec (.dispatchWeights t ring ans) s = .next (a.failEntry e .busError 0)))))

/-- PUBLISH leaves alone a DISPATCH that is not there, and a speculative one without a CONFIRM or with rows in flight;
else it publishes what is confirmed and not yet announced, writes the record entries, and ends the DISPATCH when no
row or header is outstanding. The deadline of a started or absent speculation does nothing; of another it counts
D11.0105 and cancels it. CANCEL ends its entry: a live speculation is cancelled with it, a cancelled one changes
nothing else, an unknown one is MALFORMED at byte 44. CONFIRM with rows in flight, or weights not yet copied, marks
the speculation started and waits; without a final output, or with it read, it publishes; of a cancelled one it fails
with CANCELLED, of an unknown one it is MALFORMED. Freed slots at the top of a share of the round in its record are
released by lowering NEXT; slots of an earlier round are forgotten. -/
def Obligations.ExpertSpeculation : Prop :=
  (∀ (ring : Nat) (first : W32) (pos : Nat) (s : State),
     (s.experts.dispatches.find? (fun d => d.ref = ⟨ring, first, pos⟩) = none → exec (.publish ring first pos) s = .next s) ∧
     (∀ d, s.experts.dispatches.find? (fun d => d.ref = ⟨ring, first, pos⟩) = some d →
       (d.spec ≠ none → d.confirm = none ∨ d.contribs.any (fun c => c.phase = .sent) = true → exec (.publish ring first pos) s = .next s) ∧
       (∀ r, ∀ a : State, d.spec = none ∨ (d.confirm ≠ none ∧ d.contribs.any (fun c => c.phase = .sent) = false) →
         r = s.publishAll (d.confirm.getD d.ref) d (d.contribs.filter Contribution.publishable) →
         a = (r.1.putDispatch r.2).putRecords { r.2 with contribs := r.2.contribs.map (fun c =>
           { c with flags := if c.took && c.phase = .confirmed then c.flags ||| rfPlaced else c.flags }) } →
         (d.contribs.any (fun c => c.phase = .sent) = true ∨ r.2.headers ≠ [] → exec (.publish ring first pos) s = .next a) ∧
         (d.contribs.any (fun c => c.phase = .sent) = false → r.2.headers = [] → exec (.publish ring first pos) s = .next (a.endDispatch r.2))))) ∧
  (∀ (t ring : Nat) (id : W32) (s : State),
     (s.specDue t id = false → exec (.specDeadline t id) s = .next s) ∧
     (s.specDue t id = true → exec (.specDeadline t id) s = .next ((s.bump d11_0105 t).cancelSpec t id (some .cancelled))) ∧
     (s.readyEntry t ring 0x33 = none → exec (.cancel t ring) s = .next s) ∧
     (∀ e w live, ∀ a : State, s.readyEntry t ring 0x33 = some (e, w) → a = (if s.specDue t (dpSpecId w) then (s.bump d11_0105 t).cancelSpec t (dpSpecId w) (some .cancelled) else s) →
       live = (a.experts.dispatches.any (fun d => d.tenant = t && d.spec = some (dpSpecId w) && d.phase = .open_) ||
          a.experts.prefetches.any (fun p => p.tenant = t && p.spec = some (dpSpecId w) && p.confirm.isNone)) →
       (live = true → exec (.cancel t ring) s = .next ((a.cancelSpec t (dpSpecId w) (some .cancelled)).endEntry e)) ∧
       (live = false → a.experts.cancelled.contains (t, dpSpecId w) = true → exec (.cancel t ring) s = .next (a.endEntry e)) ∧
       (live = false → a.experts.cancelled.contains (t, dpSpecId w) = false → exec (.cancel t ring) s = .next (a.lateMalformed t e 44)))) ∧
  (∀ (t ring : Nat) (final rows : MemAns) (s : State),
     (s.readyEntry t ring 0x32 = none → exec (.confirm t ring final rows) s = .next s) ∧
     (∀ e w, ∀ a : State, s.readyEntry t ring 0x32 = some (e, w) → a = s.expireSpec t (dpSpecId w) →
       (∀ d, a.experts.dispatches.find? (fun d => d.tenant = t && d.spec = some (dpSpecId w) && d.phase = .open_) = some d →
         (d.contribs.any (fun c => c.phase = .sent) = true → exec (.confirm t ring final rows) s = .next (a.startSpec t (dpSpecId w))) ∧
         (d.contribs.any (fun c => c.phase = .sent) = false → entRemote w = 0 → exec (.confirm t ring final rows) s = .next (a.confirmDispatch e d none rows)) ∧
         (∀ p b, d.contribs.any (fun c => c.phase = .sent) = false → entRemote w ≠ 0 →
           (a.startSpec t (dpSpecId w)).checkNeeds t [⟨entKey w, 0, entRemote w, 8 * d.tokens * d.topk⟩] = .ok [p] →
           (a.startSpec t (dpSpecId w)).needsShut [⟨entKey w, 0, entRemote w, 8 * d.tokens * d.topk⟩] [p] = false →
           ((a.startSpec t (dpSpecId w)).tenant t).mode ≠ .resetting →
           (a.startSpec t (dpSpecId w)).placeRead t p.place (entRemote w) (8 * d.tokens * d.topk) final = some b →
           exec (.confirm t ring final rows) s = .next ((a.startSpec t (dpSpecId w)).confirmDispatch e { d with started := true } (some b) rows))) ∧
       (a.experts.dispatches.find? (fun d => d.tenant = t && d.spec = some (dpSpecId w) && d.phase = .open_) = none →
         (∀ p, a.experts.prefetches.find? (fun p => p.tenant = t && p.spec = some (dpSpecId w) && p.confirm.isNone) = some p →
           (p.copied = false → exec (.confirm t ring final rows) s = .next (a.startSpec t (dpSpecId w))) ∧
           (∀ b : State, p.copied = true → b = { a with experts := { a.experts with
               prefetches := a.experts.prefetches.map (fun (q : Prefetch) => if q.ref = p.ref then { p with confirm := some e, started := true } else q) } } →
             exec (.confirm t ring final rows) s = .next ((b.runEntry e).writePub { p with confirm := some e, started := true } p.expert 0))) ∧
         (a.experts.prefetches.find? (fun p => p.tenant = t && p.spec = some (dpSpecId w) && p.confirm.isNone) = none →
           (a.experts.cancelled.contains (t, dpSpecId w) = true → exec (.confirm t ring final rows) s = .next (a.failEntry e .cancelled 0)) ∧
           (a.experts.cancelled.contains (t, dpSpecId w) = false → exec (.confirm t ring final rows) s = .next (a.lateMalformed t e 44)))))) ∧
  (∀ (t expert share : Nat) (s : State),
     (s.experts.freed.find? (fun f => f.tenant = t && f.expert = expert && f.share = share) = none → exec (.slotRelease t expert share) s = .next s) ∧
     (∀ f b live next keep mine, ∀ a : State, s.experts.freed.find? (fun f => f.tenant = t && f.expert = expert && f.share = share) = some f →
       mine = (fun (g : FreedSlot) => g.tenant = t && g.expert = expert && g.share = share && g.desc = f.desc) →
       s.tableRead t (edShares f.desc + 64 * expert) 64 = some b →
       live = s.experts.freed.filter (fun g => mine g && leAt 0 4 b = g.round.toNat) →
       next = lowerNext (fun j => live.any (fun g => g.slot = j && g.pending.isNone)) (srNext b share) →
       keep = s.experts.freed.filter (fun g => !mine g || (leAt 0 4 b = g.round.toNat && g.slot < next)) →
       a = { s with experts := { s.experts with freed := keep } } →
       (next = srNext b share → exec (.slotRelease t expert share) s = .next a) ∧
       (∀ w : State, next ≠ srNext b share →
         a.placeWrite t ⟨1, 0, 0⟩ (edShares f.desc + 64 * expert) (putBytes (8 + 8 * share) (leBytes 2 next) b) = some w →
         exec (.slotRelease t expert share) s = .next w)))

/-- COMBINE acts on the next ready entry when it is one. Without a defined handle, a VALID directory, OP 0 and room
for its accumulators the entry fails with ACCESS_DENIED; its local ranges are checked; in a closed domain it fails
with POWERED_DOWN; a failed read of the router output or the record gives BUS_ERROR; else it runs, and every record
entry is taken in order. A tower first ends a COMBINE with nothing left to apply, then refuses a held response whose
extents' bindings have changed since its check, then applies its oldest held response whose blocks stand in their
bays, then asks for the blocks of the oldest. A read-back that completes or fails acts on the peer's message, this
side's message or the entry it was for. -/
def Obligations.CombineAndReadBacks : Prop :=
  (∀ (t ring : Nat) (router recs rows : MemAns) (s : State),
     (s.readyEntry t ring 0x31 = none → exec (.combine t ring router recs rows) s = .next s) ∧
     (∀ e w, s.readyEntry t ring 0x31 = some (e, w) →
       (s.handleDesc? t (cbHandle w) = none → exec (.combine t ring router recs rows) s = .next (s.failEntry e .accessDenied 0)) ∧
       (∀ hd, s.handleDesc? t (cbHandle w) = some hd →
         edValid (s.expertDesc t) = false ∨ hdOp hd ≠ 0 ∨ hdSegCount hd * hdSegElems hd < cbFirst w + dpTokens w * cbHidden w →
         exec (.combine t ring router recs rows) s = .next (s.failEntry e .accessDenied 0)) ∧
       (∀ hd n ns, s.handleDesc? t (cbHandle w) = some hd → edValid (s.expertDesc t) = true → hdOp hd = 0 →
         cbFirst w + dpTokens w * cbHidden w ≤ hdSegCount hd * hdSegElems hd → n = 8 * dpTokens w * dpTopk w →
         ns = [⟨entKey w, 0, entRemote w, n⟩, ⟨entKey w, 0, dpRecord w, n⟩, ⟨hdKey hd, 1, hdBase hd + 64 * cbFirst w, 64 * (dpTokens w * cbHidden w)⟩] →
         (∀ r, s.checkNeeds t ns = .fail r → exec (.combine t ring router recs rows) s = .next (s.failLocal t e r)) ∧
         (∀ rs p, ∀ a : State, s.checkNeeds t ns = .ok rs → s.needsShut ns rs = false → (s.tenant t).mode ≠ .resetting →
           s.domShut (domCupola (extentTower (extentOf (hdBase hd)))) = false → s.domShut (domTower (extentTower (extentOf (hdBase hd)))) = false →
           p = (rs.map Realm.place).getD 0 ⟨1, 0, 0⟩ → a = s.runEntry e →
           (a.placeRead t p (entRemote w) n router = none → exec (.combine t ring router recs rows) s = .next (((a.readFailed t p (entRemote w) n).readFailed t p (dpRecord w) n).failEntry e .busError 0)) ∧
           (∀ g b k d r, a.placeRead t p (entRemote w) n router = some g → a.placeRead t p (dpRecord w) n recs = some b →
             k = ({ ref := e, tenant := t, handle := cbHandle w, desc := hd, first := cbFirst w, count := dpTokens w * cbHidden w } : Combine) →
             d = ({ ref := e, tenant := t, desc := a.expertDesc t, round := 0, tokens := dpTokens w, topk := dpTopk w, tokenBase := 0
                    length := 0, rows := p, rowAddr := 0, recs := p, recAddr := 0 } : Dispatch) →
             r = (upTo (dpTokens w * dpTopk w)).foldl (fun x i => State.combineOne e d w g b x i rows) (a, k, d, 0) →
             exec (.combine t ring router recs rows) s =
               .next { r.1 with experts := { r.1.experts with combines := r.1.experts.combines ++ [r.2.1] } }))))) ∧
  (∀ (tower : Nat) (s : State) (mine : List AccHold), mine = s.cupola.input.filter (AccHold.isCombine tower) →
     (∀ k, s.experts.combines.find? (fun k => extentTower (extentOf (hdBase k.desc)) = tower && k.reads.isEmpty && k.rows = 0) = some k →
       exec (.combineResponseApply tower) s = .next (s.endCombine k)) ∧
     (s.experts.combines.find? (fun k => extentTower (extentOf (hdBase k.desc)) = tower && k.reads.isEmpty && k.rows = 0) = none →
       (∀ h, mine.find? s.staleHold = some h → exec (.combineResponseApply tower) s = .next ((s.bump d12_0104 tower).loseHold h)) ∧
       ((∀ h ∈ mine, s.staleHold h = false) →
       (∀ h c psn msn index, mine.find? (fun h => h.blocks.all (s.bayReady tower)) = some h → h.source = .resp c psn msn index →
         exec (.combineResponseApply tower) s = .next ((s.applyResponse h c psn msn index).dropHold h)) ∧
       (∀ h hs, mine = h :: hs → (∀ g ∈ mine, g.blocks.all (s.bayReady tower) = false) →
         exec (.combineResponseApply tower) s = .next (h.blocks.foldl (fun s b => s.needBay tower b) s)) ∧
       (mine = [] → exec (.combineResponseApply tower) s = .next s)))) ∧
  (∀ (c ring pos : Nat) (msn first : W32) (ok : Bool) (s : State),
     exec (.readbackDone (.peer c msn) ok) s = .next (s.peerReadDone c msn ok) ∧
     exec (.readbackDone (.own c msn) ok) s = .next (s.ownReadDone c msn ok) ∧
     exec (.readbackDone (.entry ring first pos) ok) s = .next (s.entryReadDone ⟨ring, first, pos⟩ ok) ∧
     (∀ e : EntryRef, e = ⟨ring, first, pos⟩ → s.ownerOpcode e ≠ 0x40 → s.experts.prefetches.find? (fun p => p.ref = e) = none →
       (∀ r, ∀ a : State, s.localReadDone e ok = (a, some r) → s.entryReadDone e ok = a.endEntry e) ∧
       (∀ a : State, ok = true → s.localReadDone e ok = (a, none) → s.entryReadDone e ok = a)))

/-- MOVE and FILL act on the next ready entry of their opcode. On a channel the tenant does not own, or an AFTER
channel it does not own, the entry fails with ACCESS_DENIED; with 32 descriptors queued it stays; else its local
ranges are checked and it joins the channel's queue. The head of a channel, not yet started, ends with SCHEDULE_MISS
when its trigger had expired; waits for its AFTER count, its trigger and its slot (a loop of AFTER ends it MALFORMED
at byte 37, counted); with length 0 it completes; a local range refused ends it with the status; in a closed domain
with POWERED_DOWN; else it runs. A MOVE slot that falls due once while schedules run counts and releases the oldest
waiting descriptor; with none, an entry not yet queued is noted late; else an expected empty instance is counted and
reported; outside a schedule it is skipped. A late descriptor is released with SCHEDULE_MISS. -/
def Obligations.MoverQueue : Prop :=
  (∀ (t ring op : Nat) (s : State) (i : Instr), (i = .move t ring ∧ op = 0x10) ∨ (i = .fill t ring ∧ op = 0x11) →
     (s.readyEntry t ring op = none → exec i s = .next s) ∧
     (∀ e w k c, s.readyEntry t ring op = some (e, w) → k = mvTower w → c = mvChan w →
       (s.ownsChan t k c = false ∨ (mvAfter w = true ∧ s.ownsChan t k (mvAfterCh w) = false) → exec i s = .next (s.failEntry e .accessDenied 0)) ∧
       (s.ownsChan t k c = true → mvAfter w = false ∨ s.ownsChan t k (mvAfterCh w) = true →
         (32 ≤ (s.chan k c).queue.length → exec i s = .next s) ∧
         ((s.chan k c).queue.length < 32 →
           (∀ r, s.checkNeeds t (moveNeeds w) = .fail r → exec i s = .next (s.failLocal t e r)) ∧
           (∀ x g, s.checkNeeds t (moveNeeds w) = .translate x g → exec i s = .next (s.awaitPage t e (s.keyPasid x.key) g (x.perm = 1))) ∧
           (∀ rs, s.checkNeeds t (moveNeeds w) = .ok rs → s.needsShut (moveNeeds w) rs = true → exec i s = .next (s.failEntry e .poweredDown 0)) ∧
           (∀ rs n d, s.checkNeeds t (moveNeeds w) = .ok rs → s.needsShut (moveNeeds w) rs = false → (s.tenant t).mode ≠ .resetting →
             n = (if mvFill w then 0 else 1) →
             d = ({ ref := e, tenant := t, word := w, src := (rs.map Realm.place).getD 0 ⟨1, 0, 0⟩, dst := (rs.map Realm.place).getD n ⟨1, 0, 0⟩
                    evt := (rs.map Realm.place).getD (n + 1) ⟨1, 0, 0⟩
                    cross := (match rs[n]? with | some r => r.crossPath (entRemote w) (entLength w) | none => false), expired := s.entryExpired e } : Descriptor) →
             exec i s = .next ((s.runEntry e).setChan k c { s.chan k c with queue := (s.chan k c).queue ++ [d] })))))) ∧
  (∀ (k c : Nat) (s : State),
     ((s.chan k c).queue = [] → exec (.descriptorStart k c) s = .next s) ∧
     (∀ d q, (s.chan k c).queue = d :: q →
       (d.phase ≠ .queued → exec (.descriptorStart k c) s = .next s) ∧
       (d.phase = .queued → d.expired = true → exec (.descriptorStart k c) s = .next (s.popHead k c (fun d s => s.failEntry d.ref .scheduleMiss 0))) ∧
       (d.phase = .queued → d.expired = false → s.afterReached k d.word = false →
         (d.waited = true → exec (.descriptorStart k c) s = .next s) ∧
         (∀ b : State, d.waited = false → b = s.setChan k c { s.chan k c with queue := { d with waited := true } :: q } →
           (b.afterLoop k c 16 c = false → exec (.descriptorStart k c) s = .next b) ∧
           (b.afterLoop k c 16 c = true → exec (.descriptorStart k c) s = .next (((b.bump d16_0103 k).bump d4_0102 d.tenant).popHead k c (fun d s =>
             s.failEntry d.ref .malformed (d.ref.pos + 256 * 37)))))) ∧
       (d.phase = .queued → d.expired = false → s.afterReached k d.word = true → s.triggerWaits d = true ∨ (s.boundChan k c = true ∧ d.slotOk = false) →
         exec (.descriptorStart k c) s = .next s) ∧
       (d.phase = .queued → d.expired = false → s.afterReached k d.word = true → s.triggerWaits d = false → s.boundChan k c = false ∨ d.slotOk = true →
         (entLength d.word = 0 → exec (.descriptorStart k c) s = .next (s.popHead k c (fun d s => s.endEntry d.ref))) ∧
         (entLength d.word ≠ 0 →
           (∀ r, s.checkNeeds d.tenant (moveNeeds d.word) = .fail r → exec (.descriptorStart k c) s =
             .next ((s.countLocalRefused d.tenant).popHead k c (fun d s => s.failEntry d.ref (localStatus r) (r + 256)))) ∧
           (∀ rs, s.checkNeeds d.tenant (moveNeeds d.word) = .ok rs →
             (s.needsShut (moveNeeds d.word) rs = true ∨ s.domShut (domTower k) = true →
               exec (.descriptorStart k c) s = .next (s.popHead k c (fun d s => s.failEntry d.ref .poweredDown 0))) ∧
             (s.needsShut (moveNeeds d.word) rs = false → s.domShut (domTower k) = false →
               exec (.descriptorStart k c) s = .next (s.setChan k c { s.chan k c with queue := { d with phase := .running } :: q }))))))) ∧
  (∀ (tower entry : Nat) (s : State),
     (s.stepSlot .move tower entry = none → exec (.moveSlotDue tower entry) s = .next s) ∧
     (∀ x, s.stepSlot .move tower entry = some x → s.takeInstance tower entry x = none → exec (.moveSlotDue tower entry) s = .next s) ∧
     (∀ x due, ∀ a b : State, s.stepSlot .move tower entry = some x → s.takeInstance tower entry x = some (due, a) →
       (a.scheduled = false → exec (.moveSlotDue tower entry) s = .next ((a.count d7_0103 tower 1).setRo d7_0108 tower due)) ∧
       (a.scheduled = true → b = a.bump d7_0100 tower →
         (∀ c, (b.chan tower x.target).release = some c → exec (.moveSlotDue tower entry) s = .next (b.setChan tower x.target c)) ∧
         (∀ waits, (b.chan tower x.target).release = none →
           waits = b.entryWaits (fun w => (entOpcode w = 0x10 || entOpcode w = 0x11) && mvTower w = tower && mvChan w = x.target) →
           (waits = true → exec (.moveSlotDue tower entry) s = .next (b.noteLate (1048576 + 16 * tower + x.target) due)) ∧
           (waits = false → exec (.moveSlotDue tower entry) s = .next (if x.expect then
             (b.bump d7_0102 tower).event (cgTenant (b.dict.active.chanGrant tower x.target)) 3 2 x.target 0 (b.roundOf due % 4294967296) else b)))))) ∧
  (∀ (target due : Nat) (l : List Nat) (ans : MemAns) (s : State),
     (tgetD s.spire.lateSteps (1048576 + target) [] = [] → exec (.stepLateStart true target ans) s = .next s) ∧
     (tgetD s.spire.lateSteps target [] = [] → exec (.stepLateStart false target ans) s = .next s) ∧
     (∀ c d, tgetD s.spire.lateSteps (1048576 + target) [] = due :: l → (s.chan (target / 16) (target % 16)).release = some c →
       (s.chan (target / 16) (target % 16)).waiter = some d →
       exec (.stepLateStart true target ans) s = .next ((((s.useLate (1048576 + target)).setChan (target / 16) (target % 16) c).noteFail d.ref .scheduleMiss
         (s.roundOf due % 4294967296)).bump d7_0105 (target / 16))) ∧
     (tgetD s.spire.lateSteps target [] = due :: l → s.boundSteps target = [] → exec (.stepLateStart false target ans) s = .next s) ∧
     (∀ w ws, tgetD s.spire.lateSteps target [] = due :: l → s.boundSteps target = w :: ws →
       (w.action ≠ 3 ∨ s.arrivedEnough w = true → exec (.stepLateStart false target ans) s =
         .next ((((s.useLate target).noteFail w.ref .scheduleMiss (s.roundOf due % 4294967296)).bump d7_0105 w.tower).startBound w ans)) ∧
       (w.action = 3 → s.arrivedEnough w = false → exec (.stepLateStart false target ans) s = .next s)))

/-- A tower's engine that is busy, or has no busy channel, issues nothing; else the channel whose turn it is issues
its next burst: its keys are checked again, a refusal stops the descriptor there, host memory of a tenant under reset
squashes it, else the burst is read and the engine is busy for its length over 400 ticks. The end of a burst that is
not under way changes nothing; a failed read or write marks the descriptor bad at the burst; a good one writes the
data (free bytes where source and destination overlap upwards), counts the bytes, and issues the read-backs that are
due. The half event is written when the read-back of the first half completes. A descriptor with bursts, or a half
read-back outstanding stays; a bad one ends with what failed; a good one whose last read-back completed writes its
full event and ends with all its bytes. -/
def Obligations.MoverBursts : Prop :=
  (∀ (tower : Nat) (s : State),
     (s.now < tgetD s.movers.busy tower 0 → exec (.burstIssue tower) s = .next s) ∧
     (tgetD s.movers.busy tower 0 ≤ s.now → s.nextTurn tower = none → exec (.burstIssue tower) s = .next s) ∧
     (∀ c left d q, ∀ a : State, tgetD s.movers.busy tower 0 ≤ s.now → s.nextTurn tower = some (c, left) → (s.chan tower c).queue = d :: q →
       a = { s with movers := { s.movers with last := tset tower (c, left) s.movers.last } } →
       (∀ r, a.checkNeeds d.tenant (moveNeeds d.word) = .fail r → exec (.burstIssue tower) s = .next ((a.countLocalRefused d.tenant).modifyHead tower c (fun d =>
         { d with refused := some ((localStatus r).code, r + 256), failed := some d.next }))) ∧
       (∀ rs n r, ∀ b f : State, a.checkNeeds d.tenant (moveNeeds d.word) = .ok rs → (a.tenant d.tenant).mode ≠ .resetting →
         n = burstLen d.word d.next (a.par d16_0002 tower) → b = a.setChan tower c { a.chan tower c with queue := { d with next := d.next + n, bursts := d.bursts ++ [(d.next, n)] } :: q } →
         f = { b with movers := { b.movers with busy := tset tower (b.now + ceilDiv n 400) b.movers.busy } } →
         r = burstRead d.src (entLocal d.word + d.next) n →
         (mvFill d.word = true → exec (.burstIssue tower) s = .next f) ∧
         (mvFill d.word = false → exec (.burstIssue tower) s = .next (f.emit (.memRead d.src.space d.src.port d.src.pasid r.1 r.2)))))) ∧
  (∀ (k c off : Nat) (ans : MemAns) (s : State),
     ((∀ d q, (s.chan k c).queue = d :: q → d.bursts.find? (fun b => b.1 = off) = none) → exec (.burstDone k c off ans) s = .next s) ∧
     (∀ d q o n, ∀ a : State, (s.chan k c).queue = d :: q → d.bursts.find? (fun b => b.1 = off) = some (o, n) →
       a = s.setChan k c { s.chan k c with queue := { d with bursts := d.bursts.filter (fun b => b.1 ≠ off) } :: q } →
       (a.burstData d off n ans = none → exec (.burstDone k c off ans) s = .next (((a.readFailed d.tenant d.src (burstRead d.src (entLocal d.word + off) n).1
         (burstRead d.src (entLocal d.word + off) n).2).badBurst k c off).moveReads k c)) ∧
       (∀ b, a.burstData d off n ans = some b →
         (∀ f : State, d.overlaps = false → a.placeWrite d.tenant d.dst (entRemote d.word + off) b = some f →
           exec (.burstDone k c off ans) s = .next ((f.count d16_0104 k n).moveReads k c)) ∧
         (d.overlaps = false → a.placeWrite d.tenant d.dst (entRemote d.word + off) b = none →
           exec (.burstDone k c off ans) s = .next (((a.countStale d.tenant d.dst (entRemote d.word + off) n).badBurst k c off).moveReads k c)) ∧
         (∀ f : State, d.overlaps = true → ({ a with free := a.free + n } : State).placeWrite d.tenant d.dst (entRemote d.word + off) (freeBytes a.free n) = some f →
           exec (.burstDone k c off ans) s = .next ((f.count d16_0104 k n).moveReads k c))))) ∧
  (∀ (k c : Nat) (ok : Bool) (s : State),
     ((s.chan k c).queue = [] → exec (.halfEvent k c ok) s = .next s ∧ exec (.descriptorDone k c ok) s = .next s) ∧
     (∀ d q, (s.chan k c).queue = d :: q →
       (d.half ≠ 1 → exec (.halfEvent k c ok) s = .next s) ∧
       (∀ a : State, d.half = 1 → a = s.setChan k c { s.chan k c with queue := { d with half := 2 } :: q } →
         (ok = true → exec (.halfEvent k c ok) s = .next (a.writeEvent k c d false)) ∧
         (ok = false → exec (.halfEvent k c ok) s = .next (a.badBurst k c (burstStart d.word (d.halfLen - 4) (a.par d16_0002 k))))) ∧
       (d.phase ≠ .running ∨ d.bursts ≠ [] ∨ d.half = 1 → exec (.descriptorDone k c ok) s = .next s) ∧
       (d.phase = .running → d.bursts = [] → d.half ≠ 1 →
         (∀ off, d.failed = some off → exec (.descriptorDone k c ok) s = .next (s.endBad k c off)) ∧
         (d.failed = none → d.lastRead = false → exec (.descriptorDone k c ok) s = .next s) ∧
         (d.failed = none → d.lastRead = true → ok = false →
           exec (.descriptorDone k c ok) s = .next (s.endBad k c (burstStart d.word (entLength d.word - min 4 (entLength d.word)) (s.par d16_0002 k)))) ∧
         (d.failed = none → d.lastRead = true → ok = true →
           exec (.descriptorDone k c ok) s = .next ((if mvFull d.word then s.writeEvent k c d true else s).popHead k c (fun d s =>
             (s.addBytes d.ref (entLength d.word)).endEntry d.ref))))))

/-- A record of OP 1 or 2 whose fields are bad gives outcome 4; of a slot (or wrap slot) the tenant does not own, 1;
with a wrap slot not usable, 5; an ERASE of a slot a connection names, 2; a wrapped LOAD whose tag fails, 3. An
accepted ERASE empties the slot, an accepted LOAD fills it with key, DOMAIN and USAGE; each advances GEN, purges the
slot's derived keys and gives outcome 0. An outcome other than 0 is counted. A record of another OP changes nothing.
Within D18.0040 ticks before a frame of 2^32 ticks, the two keys of every READY-able ciphered spire connection of the
tower are derived unless cached; otherwise nothing changes. Each of the four acts on the next ready entry when it is a
CIPHER of its CMODE and changes nothing otherwise. Without a slot the tenant owns, loaded for look-aside use, the
entry fails with ACCESS_DENIED; a wrapped record of a tower that wrote one in this tick waits; its local ranges are
checked; a failed read of the input ends it with BUS_ERROR. A CONTINUE segment opens its record (a bad tag zeroes the
output and fails with AUTH_FAILED, a contradicting record is MALFORMED, an older GEN ACCESS_DENIED); a first one
hashes its AAD. A final decryption whose tag differs zeroes what the message wrote and fails with AUTH_FAILED; else
data, tag and record are written, the bytes are counted, and the entry ends, after its read-backs where it wrote. -/
def Obligations.RootKeysAndCipher : Prop :=
  (∀ (t : Nat) (b : Bytes) (s : State) (c : Instr), (c = .keyLoadLoad t b ∧ leAt 2 1 b = 1) ∨ (c = .keyLoadErase t b ∧ leAt 2 1 b = 2) →
     ∀ out : Nat → State → State, out = (fun n a => if n = 0 then a.setRo d18_0021 t 0 else (a.setRo d18_0021 t n).bump d18_0104 t) →
     (keyRecordBad b = true → exec c s = .next (out 4 s)) ∧
     (keyRecordBad b = false →
       (s.ownsSlot t (leAt 0 2 b) = false ∨ (leAt 3 1 b % 2 = 1 ∧ s.ownsSlot t (leAt 4 2 b) = false) → exec c s = .next (out 1 s)) ∧
       (s.ownsSlot t (leAt 0 2 b) = true → leAt 3 1 b % 2 = 0 ∨ s.ownsSlot t (leAt 4 2 b) = true →
         (leAt 3 1 b % 2 = 1 → s.slotUsable (leAt 4 2 b) 2 = false → exec c s = .next (out 5 s)) ∧
         (leAt 3 1 b % 2 = 0 ∨ s.slotUsable (leAt 4 2 b) 2 = true →
           (leAt 2 1 b = 2 → s.slotReferenced (leAt 0 2 b) = true → exec c s = .next (out 2 s)) ∧
           (leAt 2 1 b = 2 → s.slotReferenced (leAt 0 2 b) = false → exec c s = .next (out 0 (s.putSlot (leAt 0 2 b) {}))) ∧
           (leAt 2 1 b = 1 → s.loadedKey b = none → exec c s = .next (out 3 s)) ∧
           (∀ k, leAt 2 1 b = 1 → s.loadedKey b = some k → exec c s = .next (out 0 (s.putSlot (leAt 0 2 b)
             { loaded := true, key := k, domain := BitVec.ofNat 32 (leAt 8 4 b), usage := BitVec.ofNat 8 (leAt 6 1 b) }))))))) ∧
  (∀ (t : Nat) (b : Bytes) (s : State), (leAt 2 1 b ≠ 1 → exec (.keyLoadLoad t b) s = .next s) ∧ (leAt 2 1 b ≠ 2 → exec (.keyLoadErase t b) s = .next s)) ∧
  (∀ (tower f : Nat) (s : State), f = s.now / 4294967296 + 1 →
     (s.par d18_0040 0 < f * 4294967296 - s.now → exec (.keyPrederive tower) s = .next s) ∧
     (f * 4294967296 - s.now ≤ s.par d18_0040 0 →
       exec (.keyPrederive tower) s = .next (s.conns.foldl (fun a e =>
         if connTower e.1 = tower && e.2.ctx.core.cls = 1 && e.2.ctx.core.cipherEn = 1 && e.2.ctx.core.mode ≠ .quarantine && e.2.ctx.core.mode ≠ .init then
           (a.ensureKey (a.connKey e.1 e.2 true f)).ensureKey (a.connKey e.1 e.2 false f)
         else a) s) ∧
       ((∀ e ∈ s.conns, connTower e.1 ≠ tower ∨ ¬ e.2.ctx.core.cls = 1 ∨ ¬ e.2.ctx.core.cipherEn = 1) → exec (.keyPrederive tower) s = .next s))) ∧
  (∀ (n t ring : Nat) (ans : MemAns) (s : State) (c : Instr),
     (c = .cipherGcmEnc t ring ans ∧ n = 0) ∨ (c = .cipherGcmDec t ring ans ∧ n = 1) ∨ (c = .cipherXtsEnc t ring ans ∧ n = 2) ∨ (c = .cipherXtsDec t ring ans ∧ n = 3) →
     ((∀ e w, s.readyEntry t ring 0x50 = some (e, w) → ciMode w ≠ n) → exec c s = .next s) ∧
     (∀ e w tower ns, s.readyEntry t ring 0x50 = some (e, w) → ciMode w = n →
       tower = (match s.ring? e.ring with | some r => r.image.homeTower.toNat | none => 0) →
       ns = [⟨entKey w, 0, entLocal w, ciInLen w⟩, ⟨ciOutKey w, 1, entRemote w, ciOutLen w⟩] →
       (s.ownsSlot t (ciSlot w) = false ∨ s.slotUsable (ciSlot w) 1 = false → exec c s = .next (s.failEntry e .accessDenied 0)) ∧
       (s.ownsSlot t (ciSlot w) = true → s.slotUsable (ciSlot w) 1 = true →
         (ciMore w = true → ciWrap w = true → s.now < tgetD s.cipher.lastWrap tower 0 → exec c s = .next s) ∧
         (ciMore w = false ∨ ciWrap w = false ∨ tgetD s.cipher.lastWrap tower 0 ≤ s.now →
           (∀ r, s.checkNeeds t ns = .fail r → exec c s = .next (s.failLocal t e r)) ∧
           (∀ rs src cross, ∀ a : State, s.checkNeeds t ns = .ok rs → s.needsShut ns rs = false → (s.tenant t).mode ≠ .resetting → a = s.runEntry e →
             src = (rs.map Realm.place).getD 0 ⟨1, 0, 0⟩ → cross = (match rs[1]? with | some r => r.crossPath (entRemote w) (ciOutLen w) | none => false) →
             (ciInLen w ≠ 0 → a.placeRead t src (entLocal w) (ciInLen w) ans = none →
               exec c s = .next ((a.readFailed t src (entLocal w) (ciInLen w)).failEntry e .busError 0)) ∧
             (∀ b, ciInLen w ≠ 0 → a.placeRead t src (entLocal w) (ciInLen w) ans = some b →
               exec c s = .next (a.cipherInput e t tower w ((rs.map Realm.place).getD 1 ⟨1, 0, 0⟩) cross b)) ∧
             (ciInLen w = 0 → exec c s = .next (a.cipherInput e t tower w ((rs.map Realm.place).getD 1 ⟨1, 0, 0⟩) cross []))))))) ∧
  (∀ (e : EntryRef) (t tower : Nat) (w : W512) (place : Place) (cross : Bool) (r : CipherRec) (data tagIn : Bytes) (s : State) (x : Bytes × CipherRec × Bytes × Nat),
     x = s.cipherRun (s.keyValue (s.ciKey tower w)) w r data → ciMode w = 1 → ciMore w = false →
     ∀ a : State, a = { s with free := s.free + x.2.2.2 } →
     (x.2.2.1 ≠ tagIn → s.cipherFinish e t tower w place cross r data tagIn =
       ((a.zeroPlace t place r.outBase (r.data + data.length)).failEntry e .authFailed 0).bump d18_0103 t) ∧
     (x.2.2.1 = tagIn → x.1 ≠ [] →
       (a.placeWrite t place (entRemote w) x.1 = none → s.cipherFinish e t tower w place cross r data tagIn = a.failEntry e .busError 0) ∧
       (∀ b : State, a.placeWrite t place (entRemote w) x.1 = some b → s.cipherFinish e t tower w place cross r data tagIn =
         (b.addBytes e (entLength w)).endAfterReads e place (lastWord (entRemote w) x.1.length) cross)) ∧
     (x.2.2.1 = tagIn → x.1 = [] → s.cipherFinish e t tower w place cross r data tagIn = (a.addBytes e (entLength w)).endEntry e))

/-- An access to a tower's Belfry that is not open to the master changes nothing, a read of it answers zeros. A write
that is not whole, or by a master outside SENDERS, or to a mailbox without receiver, is refused and counted; so is a
read by another than the receiver, which answers zeros. A permitted write to a full mailbox leaves the data, sets the
sender's OVERRUN and counts, and the write fails; to one that is not full it takes data, sender, its incarnation and
the time, is POSTED with CODE 0, and notifies the receiver where POST_EVT asks for it. The receiver's read of a full
mailbox returns the data, empties it and makes it TAKEN; of one that is not full it returns zeros. The receiver's
write of MB_ACK stores CODE only when TAKEN, and makes it ACKED, with a notice where ACK_EVT asks; otherwise it is
counted; a sender clears its own OVERRUN. With the Belfry open to the master: a whole write to DB_SET raises PEND
bits, and owes a notice to each master whose mask holds a newly raised one; a write to DB_PEND clears bits; a write to
DB_MASK stores the master's own mask, and owes it a notice for newly unmasked pending bits. A read of a free semaphore
takes it for the master and its incarnation, of a held one changes nothing; both answer its value. A write of zero by
the owner frees it; every other write of a semaphore is refused and counted, as is an access that is not whole. Not
open, nothing changes and a read answers zeros. A restart of firmware or the agent raises its incarnation and resets
that master. -/
def Obligations.BelfryAccesses : Prop :=
  (∀ (k m b c : Nat) (whole : Bool) (v : W64) (s : State) (x : Mailslot), c = s.boxConfig k b → x = s.mailbox k b →
     (s.belfryOpen k m = false ∨ 16 ≤ b → exec (.mbDataWrite k m b whole v) s = .next s) ∧
     (s.belfryOpen k m = true → b < 16 →
       (whole = false ∨ boxReceiver c = 0 ∨ boxSender c m = false → exec (.mbDataWrite k m b whole v) s = .next (s.bump d17_0101 k)) ∧
       (whole = true → boxReceiver c ≠ 0 → boxSender c m = true → s.receiverResetting (boxReceiver c) = false →
         (∀ a : State, x.full = true → a = (s.setMailbox k b { x with overrun := x.overrun ||| (1 <<< (m - 1)) }).bump d17_0100 k →
           (∀ t, masterPf m = some t → exec (.mbDataWrite k m b whole v) s = .next (a.aer t .belfry)) ∧
           (masterPf m = none → exec (.mbDataWrite k m b whole v) s = .next (a.emit (.readData (belfryReader m) [] true)))) ∧
         (∀ a : State, x.full = false → a = s.setMailbox k b { x with
             data := v, full := true, sender := m, stale := false, senderInc := s.masterInc m, postTime := s.tag, code := 0, mode := .posted } →
           (boxPostEvt c = true → exec (.mbDataWrite k m b whole v) s = .next (a.belfryNotice (boxReceiver c) 1 k b 0)) ∧
           (boxPostEvt c = false → exec (.mbDataWrite k m b whole v) s = .next a))) ∧
       (whole = true → boxReceiver c ≠ 0 → boxSender c m = true → s.receiverResetting (boxReceiver c) = true →
         (x.mode = .reset → exec (.mbDataWrite k m b whole v) s = .next (s.setMailbox k b { x with mode := .reset })) ∧
         (x.mode ≠ .reset → exec (.mbDataWrite k m b whole v) s = .next ((s.setMailbox k b { x with mode := .reset }).ackNotice k b))))) ∧
  (∀ (k m b : Nat) (whole : Bool) (s : State) (x : Mailslot), x = s.mailbox k b →
     (s.belfryOpen k m = false ∨ 16 ≤ b → exec (.mbDataRead k m b whole) s = .next (s.belfryAnswer m 0)) ∧
     (s.belfryOpen k m = true → b < 16 →
       (whole = false ∨ boxReceiver (s.boxConfig k b) ≠ m → exec (.mbDataRead k m b whole) s = .next ((s.bump d17_0101 k).belfryAnswer m 0)) ∧
       (whole = true → boxReceiver (s.boxConfig k b) = m →
         (x.full = false → exec (.mbDataRead k m b whole) s = .next (s.belfryAnswer m 0)) ∧
         (∀ a : State, x.full = true → a = s.setMailbox k b { x with full := false, mode := .taken } →
           (x.stale = true → exec (.mbDataRead k m b whole) s = .next ((a.bump d17_0103 k).belfryAnswer m x.data.toNat)) ∧
           (x.stale = false → exec (.mbDataRead k m b whole) s = .next (a.belfryAnswer m x.data.toNat)))))) ∧
  (∀ (k m b : Nat) (whole : Bool) (v : W64) (s : State) (x : Mailslot),
     x = (if flag (19 + m) v then { s.mailbox k b with overrun := (s.mailbox k b).overrun &&& ~~~((1 : BitVec 4) <<< (m - 1)) } else s.mailbox k b) →
     (s.belfryOpen k m = false ∨ 16 ≤ b → exec (.mbAckCodeWrite k m b whole v) s = .next s) ∧
     (s.belfryOpen k m = true → b < 16 →
       (whole = false → exec (.mbAckCodeWrite k m b whole v) s = .next (s.bump d17_0101 k)) ∧
       (whole = true → boxReceiver (s.boxConfig k b) = m →
         (x.mode = .taken → exec (.mbAckCodeWrite k m b whole v) s = .next ((s.setMailbox k b { x with code := field 0 16 v, mode := .acked }).ackNotice k b)) ∧
         (x.mode ≠ .taken → exec (.mbAckCodeWrite k m b whole v) s = .next ((s.setMailbox k b x).bump d17_0105 k))) ∧
       (whole = true → boxReceiver (s.boxConfig k b) ≠ m →
         (flag (19 + m) v = true → exec (.mbAckCodeWrite k m b whole v) s = .next (s.setMailbox k b x)) ∧
         (flag (19 + m) v = false → exec (.mbAckCodeWrite k m b whole v) s = .next (s.bump d17_0101 k))))) ∧
  (∀ (k m : Nat) (whole : Bool) (v : BitVec 32) (s : State) (b : BelfryTower), b = s.belfryAt k →
     (s.belfryOpen k m = false → exec (.dbSetWrite k m whole v) s = .next s ∧ exec (.dbPendWrite k m v) s = .next s ∧ exec (.dbMaskWrite k m v) s = .next s) ∧
     (s.belfryOpen k m = true →
       exec (.dbSetWrite k m false v) s = .next (s.bump d17_0101 k) ∧
       exec (.dbSetWrite k m true v) s = .next (s.setBelfry k ([1, 2, 3, 4].foldl (fun a n => if a.mask n &&& (v &&& ~~~b.pend) = 0 then a else a.owe n)
         { b with pend := b.pend ||| v })) ∧
       exec (.dbPendWrite k m v) s = .next (s.setBelfry k { b with pend := b.pend &&& ~~~v }) ∧
       (b.pend &&& (v &&& ~~~b.mask m) = 0 → exec (.dbMaskWrite k m v) s = .next (s.setBelfry k { b with masks := tput 0 m v b.masks })) ∧
       (b.pend &&& (v &&& ~~~b.mask m) ≠ 0 → exec (.dbMaskWrite k m v) s = .next (s.setBelfry k (({ b with masks := tput 0 m v b.masks } : BelfryTower).owe m))))) ∧
  (∀ (k m i : Nat) (v : W64) (whole : Bool) (s : State) (b : BelfryTower) (x : Sem), b = s.belfryAt k → x = tgetD b.sems i {} →
     (s.belfryOpen k m = false ∨ 32 ≤ i → exec (.semRead k m i whole) s = .next (s.belfryAnswer m 0) ∧ exec (.semWrite k m i whole v) s = .next s) ∧
     (s.belfryOpen k m = true → i < 32 →
       exec (.semRead k m i false) s = .next ((s.bump d17_0101 k).belfryAnswer m 0) ∧
       (∀ y : Sem, x.owner = 0 → y = { owner := m, inc := s.masterInc m } →
         exec (.semRead k m i true) s = .next ((s.setBelfry k { b with sems := tput {} i y b.sems }).belfryAnswer m y.value)) ∧
       (x.owner ≠ 0 → exec (.semRead k m i true) s = .next (s.belfryAnswer m x.value)) ∧
       (whole = true → v = 0 → x.owner = m → exec (.semWrite k m i whole v) s = .next (s.setBelfry k { b with sems := tput {} i {} b.sems })) ∧
       (whole = false ∨ v ≠ 0 ∨ x.owner ≠ m → exec (.semWrite k m i whole v) s = .next (s.bump d17_0101 k)))) ∧
  (∀ s : State, exec .firmwareRestart s = .next ((s.bump d17_0002 0).resetMaster 3) ∧ exec .managementAgentReset s = .next ((s.bump d17_0003 0).resetMaster 4))

/-- A read of MB_DATA by the receiver while FULL is 1 answers DATA; FULL becomes 0 and STATE TAKEN in the same step,
and what MB_INFO describes (sender, its incarnation, the time of the post) stays, as do the other mailboxes, towers,
package memory, rings and connections. While FULL is 0 it answers zero and nothing else changes. A whole write of 0 to
SEM by the owner leaves OWNER and OWNER_INC 0, and every other semaphore, the mailboxes, the doorbell and the counters
of dictionary kind RO as they were. Any other write leaves every semaphore as it was, and D17.0101 of the tower rises
by 1. -/
def Obligations.MailIsTakenAndSemaphoreReleased : Prop :=
  (∀ (k m b : Nat) (s t : State) (x y : Mailslot), s.belfryOpen k m = true → b < 16 → boxReceiver (s.boxConfig k b) = m →
     twfD {} s.belfry = true → twfD {} (s.belfryAt k).boxes = true → x = s.mailbox k b → y = t.mailbox k b → x.full = true →
     exec (.mbDataRead k m b true) s = .next t →
     t.out = s.out ++ [.readData (8192 + m) (leBytes 8 x.data.toNat) false] ∧
     y.full = false ∧ y.mode = .taken ∧ y.sender = x.sender ∧ y.senderInc = x.senderInc ∧ y.postTime = x.postTime ∧ y.stale = x.stale ∧ y.data = x.data ∧
     (∀ n j, n ≠ k ∨ j ≠ b → t.mailbox n j = s.mailbox n j) ∧ t.memory = s.memory ∧ t.rings = s.rings ∧ t.conns = s.conns) ∧
  (∀ (k m b : Nat) (s : State), s.belfryOpen k m = true → b < 16 → boxReceiver (s.boxConfig k b) = m → (s.mailbox k b).full = false →
     exec (.mbDataRead k m b true) s = .next { s with out := s.out ++ [.readData (8192 + m) (leBytes 8 0) false] }) ∧
  (∀ (k m i : Nat) (s t : State), s.belfryOpen k m = true → i < 32 → twfD {} s.belfry = true → twfD {} (s.belfryAt k).sems = true →
     (tgetD (s.belfryAt k).sems i {}).owner = m → exec (.semWrite k m i true 0) s = .next t →
     tgetD (t.belfryAt k).sems i {} = { owner := 0, inc := 0 } ∧ (∀ j, j ≠ i → tgetD (t.belfryAt k).sems j {} = tgetD (s.belfryAt k).sems j {}) ∧
     (t.belfryAt k).boxes = (s.belfryAt k).boxes ∧ (t.belfryAt k).pend = (s.belfryAt k).pend ∧ (t.belfryAt k).masks = (s.belfryAt k).masks ∧
     (∀ n, n ≠ k → t.belfryAt n = s.belfryAt n) ∧ t.ro = s.ro ∧ t.memory = s.memory) ∧
  (∀ (k m i : Nat) (whole : Bool) (v : W64) (s : State), s.belfryOpen k m = true → i < 32 →
     (whole = false ∨ v ≠ 0 ∨ (tgetD (s.belfryAt k).sems i {}).owner ≠ m) →
     exec (.semWrite k m i whole v) s = .next { s with ro := tput 0 (d17_0101.key k) ((s.roVal d17_0101 k + 1) % 4294967296) s.ro })

/-- While firmware does not serve group 19, or a command is under way, the five commands and FW_CHUNK change nothing.
Else FW_STATUS becomes BUSY and the outcome is fixed: ERASE leaves no byte of the inactive slot listed, so that it
reads 0xFF; VERIFY remembers a slot that passes the checks; PREFER is refused without one, else boot control prefers
the inactive slot; COMMIT_SVN, refused unless the boot was clean, raises the counter to the SVN of the running image
and never lowers it; REVOKE_KEY is refused for the key in use, else sets its bit. FW_CHUNK stores 1 to 1,016 bytes
within the inactive slot, which is then not verified; another length or place stores nothing. FW_COMMAND_DONE reports
the outcome of the command under way. None of them touches package memory. A message on a path that is not served, or
of another kind than the command's, changes nothing. Else it is answered on its path: GET_VERSION with version 1.3
alone, GET_CAPABILITIES with the flags of the path, GET_LOG with the 320 bytes of the log, GET_IDENTITY with the
identity key, every other request with ERROR UnsupportedRequest. QUOTE with fewer than four quotes waiting answers a
signed quote over the nonce and counts it; behind four it answers ERROR Busy. An answer larger than a message of the
path is announced by ERROR LargeResponse and kept; CHUNK_GET returns it piece by piece, CHUNK_SEND gathers a request
and answers it with the last piece. -/
def Obligations.FirmwareAndSpdm : Prop :=
  (∀ (key : Nat) (value : Bytes) (s : State),
     (s.firmwareServes = false ∨ s.mgmt.fwStatus = 1 →
       exec .fwErase s = .next s ∧ exec .fwVerify s = .next s ∧ exec .fwPrefer s = .next s ∧ exec .fwCommitSvn s = .next s ∧
       exec (.fwRevokeKey key) s = .next s ∧ exec (.fwChunk value) s = .next s) ∧
     (s.firmwareServes = false ∨ s.mgmt.fwStatus ≠ 1 → exec .fwCommandDone s = .next s) ∧
     (s.firmwareServes = true → s.mgmt.fwStatus = 1 → exec .fwCommandDone s = .next { s with mgmt := { s.mgmt with fwStatus := s.mgmt.fwResult } })) ∧
  (∀ (key : Nat) (s : State) (g : MgmtState), s.firmwareServes = true → s.mgmt.fwStatus ≠ 1 → g = { s.mgmt with fwStatus := 1 } →
     (exec .fwErase s = .next { s with mgmt := { g with
       fwResult := 2, flash := s.mgmt.flash.filter (fun e => !(slotBase s.inactiveB ≤ e.1 && e.1 < slotBase s.inactiveB + slotSize)) } }) ∧
     (exec .fwVerify s = .next { s with mgmt := { g with fwResult := s.checkSlot s.inactiveB, verified := s.mgmt.verified || s.checkSlot s.inactiveB = 2 } }) ∧
     (s.mgmt.verified = false → exec .fwPrefer s = .next { s with mgmt := { g with fwResult := 8 } }) ∧
     (s.mgmt.verified = true → exec .fwPrefer s = .next { s with mgmt := { g with
       fwResult := 2, flash := flashStore 0 (if s.inactiveB then [1, 254] else [0, 255]) s.mgmt.flash } }) ∧
     (s.mgmt.bootStatus ≠ 0 → exec .fwCommitSvn s = .next { s with mgmt := { g with fwResult := 8 } }) ∧
     (s.mgmt.bootStatus = 0 → exec .fwCommitSvn s = .next { s with
       mgmt := { g with fwResult := 2 }, pkg := { s.pkg with fuses := { s.pkg.fuses with counter := max s.pkg.fuses.counter s.mgmt.svn } } }) ∧
     (key < 4 → key = s.mgmt.keyIndex → exec (.fwRevokeKey key) s = .next { s with mgmt := { g with fwResult := 8 } }) ∧
     (key < 4 → key ≠ s.mgmt.keyIndex → exec (.fwRevokeKey key) s = .next { s with
       mgmt := { g with fwResult := 2 }, pkg := { s.pkg with fuses := { s.pkg.fuses with revoked := s.pkg.fuses.revoked ||| BitVec.ofNat 4 (2 ^ key) } } })) ∧
  (∀ (value : Bytes) (s : State), s.firmwareServes = true → s.mgmt.fwStatus ≠ 1 →
     (value.length ≤ 8 ∨ 1024 < value.length ∨ slotSize < leAt 0 8 value + (value.length - 8) → exec (.fwChunk value) s = .next s) ∧
     (8 < value.length → value.length ≤ 1024 → leAt 0 8 value + (value.length - 8) ≤ slotSize →
       exec (.fwChunk value) s = .next { s with mgmt := { s.mgmt with
         flash := flashStore (slotBase s.inactiveB + leAt 0 8 value) (value.drop 8) s.mgmt.flash, verified := false } })) ∧
  (∀ (path n : Nat) (req : Bytes) (s : State) (c : Instr) (k : SpdmKind),
     (c = .spdmGetVersion path req ∧ k = .version) ∨ (c = .spdmGetCapabilities path req ∧ k = .capabilities) ∨ (c = .spdmUnsupported path req ∧ k = .other) ∨
       (c = .getLog path req ∧ k = .log) ∨ (c = .getIdentity path req ∧ k = .identity) ∨ (c = .quote path req n ∧ n < 4 ∧ k = .quote) →
     (s.spdmServed path = false ∨ spdmKind req ≠ k → exec c s = .next s) ∧
     (s.spdmServed path = true → spdmKind req = k →
       ∀ r : Bytes × State, r = (match k with
         | .version => ([0x10, 0x04, 0, 0, 0, 1, 0x00, 0x13], s)
         | .capabilities => ([0x13, 0x61, 0, 0] ++ slice 0 16 (Config.spdmCapabilities path), s)
         | .quote => (spdmVendorResponse (s.quote ((spdmPayload req).drop 1)), s.bump d19_0105 0)
         | .log => (spdmVendorResponse (slice 0 320 s.mgmt.log), s)
         | .identity => (spdmVendorResponse (slice 0 1952 s.identityKey), s)
         | .chunk => (spdmError 0x07 (leAt 1 1 req), s)
         | .other => (spdmError 0x07 (leAt 1 1 req), s)) →
       (r.1.length ≤ spdmSize path → exec c s = .next (r.2.emit (.spdm path r.1))) ∧
       (spdmSize path < r.1.length → exec c s = .next ((r.2.setSpdm path { r.2.spdmOf path with
         response := r.1, handle := (r.2.spdmOf path).handle + 1, seq := 0 }).emit (.spdm path (spdmError 0x0F 0 ++ bytesOf 1 ((r.2.spdmOf path).handle + 1))))))) ∧
  (∀ (path n : Nat) (req : Bytes) (s : State), 4 ≤ n →
     (s.spdmServed path = true → spdmKind req = .quote → exec (.quote path req n) s = .next (s.emit (.spdm path [0x13, 0x7F, 3, 0]))) ∧
     (s.spdmServed path = false ∨ spdmKind req ≠ .quote → exec (.quote path req n) s = .next s)) ∧
  (∀ (path : Nat) (req : Bytes) (s : State),
     (s.spdmServed path = false ∨ spdmKind req ≠ .chunk → exec (.spdmChunking path req) s = .next s) ∧
     (s.spdmServed path = true → spdmKind req = .chunk →
       (leAt 1 1 req = 0x86 → exec (.spdmChunking path req) s = .next (s.spdmChunkGet path req)) ∧
       (leAt 1 1 req ≠ 0x86 → exec (.spdmChunking path req) s = .next (s.spdmChunkSend path req)) ∧
       (leAt 1 1 req = 0x86 → (s.spdmOf path).response = [] → exec (.spdmChunking path req) s = .next (s.emit (.spdm path [0x13, 0x7F, 1, 0])))))

end
end

