-- ==== Sys2Proof/Laws/Bits.lean ====
section
/-! SUPPORT. Laws of packing and of byte order: a field of a layout table reads what its row was given, and the bytes of a number
spell it (R9). -/
namespace Sys2Proof.Machine

/-- The row of a layout table that begins at bit `lo`. -/
def rowAt : Nat → List (Nat × Nat) → Option (Nat × Nat)
  | _, [] => none
  | lo, (n, v) :: rest => if lo = 0 then some (n, v) else if n ≤ lo then rowAt (lo - n) rest else none

theorem natField_packNat {n v : Nat} {rows : List (Nat × Nat)} {lo : Nat} (h : rowAt lo rows = some (n, v)) :
    natField lo n (packNat rows) = v % 2 ^ n := by
  induction rows generalizing lo with
  | nil => simp [rowAt] at h
  | cons r rows ih =>
    obtain ⟨m, u⟩ := r
    simp only [rowAt] at h
    split at h
    · rename_i h0
      obtain ⟨rfl, rfl⟩ := Prod.mk.inj (Option.some.inj h)
      subst h0
      simp [natField, packNat, Nat.add_mul_mod_self_left]
    · split at h
      · rename_i hm
        have ih' := ih h
        simp only [natField, packNat] at ih' ⊢
        obtain ⟨k, rfl⟩ : ∃ k, lo = m + k := ⟨lo - m, by omega⟩
        rw [Nat.add_sub_cancel_left] at ih'
        rw [Nat.pow_add, ← Nat.div_div_eq_div_mul, Nat.add_mul_div_left _ _ (Nat.two_pow_pos m),
          Nat.div_eq_of_lt (Nat.mod_lt _ (Nat.two_pow_pos m)), Nat.zero_add]
        exact ih'
      · exact absurd h (by simp)

/-- A field of a word made from a layout table. -/
theorem field_pack {w lo n v : Nat} {rows : List (Nat × Nat)} (hw : lo + n ≤ w) (h : rowAt lo rows = some (n, v)) :
    field lo n (pack w rows) = BitVec.ofNat n v := by
  apply BitVec.eq_of_toNat_eq
  have h2 : v % 2 ^ n = packNat rows / 2 ^ lo % 2 ^ n := (natField_packNat h).symm
  simp only [field, pack, BitVec.extractLsb'_toNat, BitVec.toNat_ofNat, Nat.shiftRight_eq_div_pow]
  rw [h2]
  have : 2 ^ n ∣ 2 ^ (w - lo) := Nat.pow_dvd_pow 2 (by omega)
  rw [← Nat.mod_mod_of_dvd (packNat rows / 2 ^ lo) this]
  congr 1
  rw [← Nat.mod_mul_right_div_self, ← Nat.pow_add, Nat.add_sub_cancel' (by omega)]

/-- A number read from a word made from a layout table. -/
theorem fieldNat_pack {w lo n v : Nat} {rows : List (Nat × Nat)} (hw : lo + n ≤ w) (h : rowAt lo rows = some (n, v)) :
    fieldNat lo n (pack w rows) = v % 2 ^ n := by
  have := congrArg BitVec.toNat (field_pack hw h)
  simp only [field, BitVec.extractLsb'_toNat, BitVec.toNat_ofNat, Nat.shiftRight_eq_div_pow] at this
  exact this

theorem flag_pack {w lo v : Nat} {rows : List (Nat × Nat)} (hw : lo + 1 ≤ w) (h : rowAt lo rows = some (1, v)) :
    flag lo (pack w rows) = decide (v % 2 = 1) := by
  have h1 := fieldNat_pack hw h
  simp only [fieldNat] at h1
  simp only [flag, BitVec.getLsbD, Nat.testBit_eq_decide_div_mod_eq]
  rw [show (2 : Nat) = 2 ^ 1 from rfl] at *
  simp only [Nat.pow_one] at h1 ⊢
  rw [h1]

/-! ### Bytes -/

@[simp] theorem leBytes_length (n v : Nat) : (leBytes n v).length = n := by
  induction n generalizing v with
  | zero => rfl
  | succ n ih => simp [leBytes, ih]

theorem leNat_leBytes (n v : Nat) : leNat (leBytes n v) = v % 256 ^ n := by
  induction n generalizing v with
  | zero => simp [leBytes, leNat, Nat.mod_one]
  | succ n ih =>
    simp only [leBytes, leNat, ih, BitVec.toNat_ofNat]
    rw [show 2 ^ 8 = 256 from rfl, Nat.pow_succ', Nat.mod_mul]

/-- A slice that lies in the first part of two. -/
theorem slice_append_left {off n : Nat} {a b : Bytes} (h : off + n ≤ a.length) : slice off n (a ++ b) = slice off n a := by
  simp only [slice]
  rw [List.drop_append_of_le_length (by omega), List.take_append_of_le_length (by simp; omega)]

/-- A slice that lies in the second part of two. -/
theorem slice_append_right {off n : Nat} {a b : Bytes} (h : a.length ≤ off) :
    slice off n (a ++ b) = slice (off - a.length) n b := by
  simp only [slice]
  rw [List.drop_append, List.drop_eq_nil_of_le h, List.nil_append]

/-- A slice of the whole. -/
theorem slice_all {a : Bytes} : slice 0 a.length a = a := by simp [slice]

theorem leAt_append_left {off n : Nat} {a b : Bytes} (h : off + n ≤ a.length) : leAt off n (a ++ b) = leAt off n a := by
  simp only [leAt, slice_append_left h]

theorem leAt_append_right {off n : Nat} {a b : Bytes} (h : a.length ≤ off) : leAt off n (a ++ b) = leAt (off - a.length) n b := by
  simp only [leAt, slice_append_right h]

theorem leAt_leBytes (n v : Nat) : leAt 0 n (leBytes n v) = v % 256 ^ n := by
  have : slice 0 n (leBytes n v) = leBytes n v := by simpa using slice_all (a := leBytes n v)
  simp only [leAt, this, leNat_leBytes]

/-- A value that fits its bytes. -/
theorem leAt_bytesOf {n w : Nat} (x : BitVec w) (h : w ≤ 8 * n) : leAt 0 n (bytesOf n x) = x.toNat := by
  rw [bytesOf, leAt_leBytes, show (256 : Nat) = 2 ^ 8 from rfl, ← Nat.pow_mul]
  exact Nat.mod_eq_of_lt (Nat.lt_of_lt_of_le x.isLt (Nat.pow_le_pow_right (by decide) h))

end Sys2Proof.Machine
end

