-- ==== Sys2Proof/Laws/Cache.lean ====
section
/-! SUPPORT. What a command that needs a context meets (R197, R201, R203, R206). -/
namespace Sys2Proof.Machine

/-- A cached context lets the command go on at once. -/
theorem State.withCtx_cached {s : State} {c : Nat} {x : Conn} {f : Conn → State → State} (h : s.conn? c = some x)
    (hc : x.cache = .cached) : s.withCtx c f = f x s := by
  simp only [State.withCtx, h, hc]

/-- An eviction under way is cancelled. -/
theorem State.withCtx_evicting {s : State} {c : Nat} {x : Conn} {b : Bool} {f : Conn → State → State} (h : s.conn? c = some x)
    (hc : x.cache = .evicting b) :
    s.withCtx c f = f { x with cache := .evicting true } (s.setConn c { x with cache := .evicting true }) := by
  simp only [State.withCtx, h, hc]

/-- Out of the cache the context is fetched, and nothing else happens. -/
theorem State.withCtx_out {s : State} {c : Nat} {x : Conn} {f : Conn → State → State} (h : s.conn? c = some x)
    (hc : x.cache = .out ∨ x.cache = .fetching) : s.withCtx c f = s.fetchCtx c := by
  rcases hc with hc | hc <;> simp only [State.withCtx, h, hc]

end Sys2Proof.Machine
end

