-- ==== Sys2Proof/Laws/Table.lean ====
section
/-! SUPPORT. Laws of the sparse tables: reading after writing, and that every operation keeps the canonical form. -/
namespace Sys2Proof.Machine

variable {α : Type}

@[simp] theorem tget_nil (k : Nat) : tget k ([] : Tbl α) = none := rfl

/-- Reading the key that was entered. -/
@[simp] theorem tget_tset_self (k : Nat) (v : α) (t : Tbl α) : tget k (tset k v t) = some v := by
  induction t with
  | nil => simp [tset, tget]
  | cons e t ih =>
    obtain ⟨j, u⟩ := e
    simp only [tset]
    split
    · simp [tget]
    · split
      · simp [tget]
      · simp_all [tget]

/-- Reading another key than the one entered. -/
theorem tget_tset_ne {j k : Nat} (h : j ≠ k) (v : α) (t : Tbl α) : tget j (tset k v t) = tget j t := by
  induction t with
  | nil => simp [tset, tget, h]
  | cons e t ih =>
    obtain ⟨i, u⟩ := e
    simp only [tset]
    split
    · simp [tget, h]
    · split
      · rename_i h2; subst h2; simp [tget, h]
      · simp [tget, ih]

/-- Reading another key than the one removed. -/
theorem tget_terase_ne {j k : Nat} (h : j ≠ k) (t : Tbl α) : tget j (terase k t) = tget j t := by
  induction t with
  | nil => rfl
  | cons e t ih =>
    obtain ⟨i, u⟩ := e
    simp only [terase]
    split
    · rename_i h2; subst h2; simp [tget, h]
    · simp [tget, ih]

/-- A table whose keys start above `k` does not list `k`. -/
theorem tget_of_risingFrom {lo k : Nat} {t : Tbl α} (h : risingFrom lo t = true) (hk : k < lo) : tget k t = none := by
  induction t generalizing lo with
  | nil => rfl
  | cons e t ih =>
    obtain ⟨j, u⟩ := e
    simp [risingFrom] at h
    have hj : k ≠ j := by omega
    simp only [tget, hj, if_false]
    exact ih h.2 (by omega)

/-- A rising table does not list a key after its removal. -/
theorem tget_terase_self {lo : Nat} (k : Nat) {t : Tbl α} (h : risingFrom lo t = true) : tget k (terase k t) = none := by
  induction t generalizing lo with
  | nil => rfl
  | cons e t ih =>
    obtain ⟨j, u⟩ := e
    simp [risingFrom] at h
    simp only [terase]
    split
    · rename_i h2; subst h2; exact tget_of_risingFrom h.2 (by omega)
    · rename_i h2; simp only [tget, h2, if_false]; exact ih h.2

theorem risingFrom_mono {lo lo' : Nat} {t : Tbl α} (h : risingFrom lo t = true) (hl : lo' ≤ lo) : risingFrom lo' t = true := by
  cases t with
  | nil => rfl
  | cons e t => obtain ⟨j, u⟩ := e; simp [risingFrom] at *; exact ⟨by omega, h.2⟩

/-- Entering keeps the keys rising. -/
theorem risingFrom_tset {lo k : Nat} (v : α) {t : Tbl α} (h : risingFrom lo t = true) (hk : lo ≤ k) :
    risingFrom lo (tset k v t) = true := by
  induction t generalizing lo with
  | nil => simp [tset, risingFrom, hk]
  | cons e t ih =>
    obtain ⟨j, u⟩ := e
    simp [risingFrom] at h
    simp only [tset]
    split
    · rename_i h1
      simp [risingFrom, hk]
      exact ⟨by omega, h.2⟩
    · split
      · rename_i h2; subst h2; simp [risingFrom]; exact h
      · simp [risingFrom]; exact ⟨h.1, ih h.2 (by omega)⟩

/-- Removing keeps the keys rising. -/
theorem risingFrom_terase {lo : Nat} (k : Nat) {t : Tbl α} (h : risingFrom lo t = true) : risingFrom lo (terase k t) = true := by
  induction t generalizing lo with
  | nil => rfl
  | cons e t ih =>
    obtain ⟨j, u⟩ := e
    simp [risingFrom] at h
    simp only [terase]
    split
    · exact risingFrom_mono h.2 (by omega)
    · simp [risingFrom]; exact ⟨h.1, ih h.2⟩

/-- Filtering keeps the keys rising. -/
theorem risingFrom_filter {lo : Nat} (p : Nat × α → Bool) {t : Tbl α} (h : risingFrom lo t = true) :
    risingFrom lo (t.filter p) = true := by
  induction t generalizing lo with
  | nil => rfl
  | cons e t ih =>
    obtain ⟨j, u⟩ := e
    simp [risingFrom] at h
    simp only [List.filter_cons]
    split
    · simp [risingFrom]; exact ⟨h.1, ih h.2⟩
    · exact risingFrom_mono (ih h.2) (by omega)

theorem risingFrom_tmap {lo : Nat} {f : Nat → α → α} {t : Tbl α} (h : risingFrom lo t = true) : risingFrom lo (tmap f t) = true := by
  induction t generalizing lo with
  | nil => rfl
  | cons e t ih =>
    obtain ⟨j, u⟩ := e
    simp [risingFrom] at h
    simp only [tmap, List.map_cons, risingFrom, Bool.and_eq_true, decide_eq_true_eq]
    exact ⟨h.1, ih h.2⟩

theorem mem_tset {k : Nat} {v : α} {e : Nat × α} {t : Tbl α} (h : e ∈ tset k v t) : e = (k, v) ∨ e ∈ t := by
  induction t with
  | nil => simpa [tset] using h
  | cons f t ih =>
    obtain ⟨j, u⟩ := f
    simp only [tset] at h
    split at h
    · simpa using h
    · split at h
      · rcases List.mem_cons.mp h with h | h
        · exact .inl h
        · exact .inr (List.mem_cons_of_mem _ h)
      · rcases List.mem_cons.mp h with h | h
        · exact .inr (h ▸ List.mem_cons_self)
        · rcases ih h with h | h
          · exact .inl h
          · exact .inr (List.mem_cons_of_mem _ h)

theorem mem_terase {k : Nat} {e : Nat × α} {t : Tbl α} (h : e ∈ terase k t) : e ∈ t := by
  induction t with
  | nil => exact h
  | cons f t ih =>
    obtain ⟨j, u⟩ := f
    simp only [terase] at h
    split at h
    · exact List.mem_cons_of_mem _ h
    · rcases List.mem_cons.mp h with h | h
      · exact h ▸ List.mem_cons_self
      · exact List.mem_cons_of_mem _ (ih h)

section Canonical
variable [DecidableEq α] {d : α}

/-- A write keeps the canonical form. -/
theorem twfD_tput (k : Nat) (v : α) {t : Tbl α} (h : twfD d t = true) : twfD d (tput d k v t) = true := by
  simp only [twfD, Bool.and_eq_true, List.all_eq_true] at h ⊢
  unfold tput
  split
  · exact ⟨risingFrom_terase k h.1, fun e he => h.2 e (mem_terase he)⟩
  · rename_i hv
    refine ⟨risingFrom_tset v h.1 (Nat.zero_le k), fun e he => ?_⟩
    rcases mem_tset he with he | he
    · subst he; simpa using hv
    · exact h.2 e he

/-- Removing keeps the canonical form. -/
theorem twfD_terase (k : Nat) {t : Tbl α} (h : twfD d t = true) : twfD d (terase k t) = true := by
  simp only [twfD, Bool.and_eq_true, List.all_eq_true] at h ⊢
  exact ⟨risingFrom_terase k h.1, fun e he => h.2 e (mem_terase he)⟩

/-- Filtering keeps the canonical form. -/
theorem twfD_filter (p : Nat × α → Bool) {t : Tbl α} (h : twfD d t = true) : twfD d (t.filter p) = true := by
  simp only [twfD, Bool.and_eq_true, List.all_eq_true] at h ⊢
  exact ⟨risingFrom_filter p h.1, fun e he => h.2 e (List.mem_filter.mp he).1⟩

/-- Changing entries keeps the canonical form, where no changed entry becomes the default. -/
theorem twfD_tmap {f : Nat → α → α} (hf : ∀ k v, v ≠ d → f k v ≠ d) {t : Tbl α} (h : twfD d t = true) :
    twfD d (tmap f t) = true := by
  simp only [twfD, Bool.and_eq_true, List.all_eq_true] at h ⊢
  refine ⟨risingFrom_tmap h.1, fun e he => ?_⟩
  obtain ⟨⟨k, v⟩, hm, rfl⟩ := List.mem_map.mp he
  have := h.2 _ hm
  simp only [decide_eq_true_eq] at this ⊢
  exact hf k v this

/-- Reading the key that was written, in a table in canonical form. -/
theorem tgetD_tput_self (k : Nat) (v : α) {t : Tbl α} (h : twfD d t = true) : tgetD (tput d k v t) k d = v := by
  simp only [twfD, Bool.and_eq_true] at h
  unfold tput tgetD
  split
  · rename_i hv; subst hv; simp [tget_terase_self k h.1]
  · simp

/-- Reading another key than the one written. -/
theorem tgetD_tput_ne {j k : Nat} (h : j ≠ k) (v : α) (t : Tbl α) : tgetD (tput d k v t) j d = tgetD t j d := by
  unfold tput tgetD
  split
  · rw [tget_terase_ne h]
  · rw [tget_tset_ne h]

/-- Writing a value other than the default lists it, whatever the table. -/
theorem tgetD_tput_self_ne {k : Nat} {v : α} (hv : v ≠ d) (t : Tbl α) : tgetD (tput d k v t) k d = v := by
  simp [tput, hv, tgetD]

end Canonical
end Sys2Proof.Machine
end

