-- ==== Sys2Proof/Laws/Kept.lean ====
section
/-! SUPPORT. What every command keeps (`State.Kept`): the shared lemmas, and those of the few operations that write a table of
`State.canonical`, the fuses or the package state. -/
namespace Sys2Proof.Machine

theorem Fuses.upTo_refl (f : Fuses) : f.upTo f := ⟨Nat.le_refl _, by simp, rfl⟩

/-- Revoking one more key revokes no key less. -/
theorem revoked_more {f g k : BitVec 4} (h : f &&& g = f) : f &&& (g ||| k) = f := by
  rw [BitVec.and_or_distrib_left, h]
  ext i hi
  simp only [BitVec.getElem_or, BitVec.getElem_and]
  cases f[i] <;> simp

theorem State.Kept.refl (s : State) : s.Kept s := ⟨rfl, s.pkg.fuses.upTo_refl, rfl, id⟩

/-- A state that agrees with one that is kept in all that `State.Kept` speaks of is kept. -/
theorem State.Kept.of_fields {a s t : State} (h : a.Kept s) (part : t.pkg.part = s.pkg.part) (fuses : t.pkg.fuses = s.pkg.fuses)
    (pending : t.pending = s.pending) (mem : t.memory.mem = s.memory.mem) (extents : t.memory.extents = s.memory.extents)
    (ro : t.ro = s.ro) (active : t.dict.active = s.dict.active) (shadow : t.dict.shadow = s.dict.shadow)
    (handles : t.handles = s.handles) : a.Kept t := by
  obtain ⟨h1, h2, h3, h4⟩ := h
  refine ⟨part.trans h1, fuses ▸ h2, pending.trans h3, fun hc => ?_⟩
  have := h4 hc
  simp only [State.canonical, mem, extents, ro, active, shadow, handles] at *
  exact this

/-- The same for a state written out by its fields. -/
theorem State.Kept.of_record {a s : State} {pkg time dict ro fns tenants rings conns incs handles realms localReads miss memory hosts msix ats
    atsWait attach ports spire shapers policers fwd power oculus cipher cupola experts movers belfry mgmt faults out free pending} (h : a.Kept s) (part : pkg.part = s.pkg.part)
    (fuses : pkg.fuses = s.pkg.fuses) (pend : pending = s.pending) (mem : memory.mem = s.memory.mem)
    (extents : memory.extents = s.memory.extents) (counters : ro = s.ro) (active : dict.active = s.dict.active)
    (shadow : dict.shadow = s.dict.shadow) (hands : handles = s.handles) :
    a.Kept ⟨pkg, time, dict, ro, fns, tenants, rings, conns, incs, handles, realms, localReads, miss, memory, hosts, msix, ats, atsWait,
      attach, ports, spire, shapers, policers, fwd, power, oculus, cipher, cupola, experts, movers, belfry, mgmt, faults, out, free, pending⟩ :=
  h.of_fields part fuses pend mem extents counters active shadow hands

theorem State.Kept.ite {a t e : State} {c : Prop} [Decidable c] (ht : c → a.Kept t) (he : ¬c → a.Kept e) :
    a.Kept (if c then t else e) := by
  split
  · exact ht ‹_›
  · exact he ‹_›

/-- A state on the way is kept once for all that follows. -/
theorem State.Kept.cut {a s : State} {P : Prop} (h : a.Kept s) (k : a.Kept s → P) : P := k h

theorem State.Kept.cut1 {a : State} {f : State → State} {P : Prop} (h : ∀ s, a.Kept s → a.Kept (f s))
    (k : (∀ s, a.Kept s → a.Kept (f s)) → P) : P := k h

theorem State.Kept.cut2 {a : State} {β : Type} {f : β → State → State} {P : Prop} (h : ∀ x s, a.Kept s → a.Kept (f x s))
    (k : (∀ x s, a.Kept s → a.Kept (f x s)) → P) : P := k h

theorem State.Kept.cut2' {a : State} {β : Type} {f : State → β → State} {P : Prop} (h : ∀ s x, a.Kept s → a.Kept (f s x))
    (k : (∀ s x, a.Kept s → a.Kept (f s x)) → P) : P := k h

/-- A fold of operations that each keep. -/
theorem State.Kept.foldl {a : State} {β : Type} {f : State → β → State} (hf : ∀ s x, a.Kept s → a.Kept (f s x)) :
    ∀ (l : List β) {s : State}, a.Kept s → a.Kept (l.foldl f s)
  | [], _, h => h
  | x :: l, _, h => State.Kept.foldl hf l (hf _ x h)

/-- An outcome that is a next state which is kept. -/
def State.Answers (a : State) (o : Outcome) : Prop := ∃ t, o = .next t ∧ a.Kept t

theorem State.Answers.next {a t : State} (h : a.Kept t) : a.Answers (.next t) := ⟨t, rfl, h⟩

theorem State.Answers.ite {a : State} {t e : Outcome} {c : Prop} [Decidable c] (ht : c → a.Answers t) (he : ¬c → a.Answers e) :
    a.Answers (if c then t else e) := by
  split
  · exact ht ‹_›
  · exact he ‹_›

/-- A result that holds only states which `P` allows is kept: `P` says which states a result of its type holds. -/
structure State.KeptIn (a : State) {β : Type} (P : β → State → Prop) (r : β) : Prop where
  all : ∀ t, P r t → a.Kept t

abbrev holdsSome (r : Option State) (t : State) : Prop := r = some t
abbrev holdsFst {α : Type} (r : State × α) (t : State) : Prop := r.1 = t
abbrev holdsSnd {α : Type} (r : α × State) (t : State) : Prop := r.2 = t
abbrev holdsSomeFst {α : Type} (r : Option (State × α)) (t : State) : Prop := ∃ x, r = some (t, x)
abbrev holdsSomeSnd {α : Type} (r : Option (α × State)) (t : State) : Prop := ∃ x, r = some (x, t)
abbrev holdsOk {α : Type} (r : Except α State) (t : State) : Prop := r = .ok t
abbrev holdsError {α : Type} (r : Except State α) (t : State) : Prop := r = .error t

section
variable {a s t : State} {α β : Type}

theorem State.KeptIn.cut {P : β → State → Prop} {r : β} {Q : Prop} (h : a.KeptIn P r) (k : a.KeptIn P r → Q) : Q := k h

theorem State.KeptIn.ite {P : β → State → Prop} {x y : β} {c : Prop} [Decidable c] (hx : c → a.KeptIn P x)
    (hy : ¬c → a.KeptIn P y) : a.KeptIn P (if c then x else y) := by
  split
  · exact hx ‹_›
  · exact hy ‹_›

theorem State.KeptIn.ofNone : a.KeptIn holdsSome none := ⟨fun _ h => nomatch h⟩
theorem State.KeptIn.ofNoneFst : a.KeptIn (holdsSomeFst (α := α)) none := ⟨fun _ ⟨_, h⟩ => nomatch h⟩
theorem State.KeptIn.ofNoneSnd : a.KeptIn (holdsSomeSnd (α := α)) none := ⟨fun _ ⟨_, h⟩ => nomatch h⟩
theorem State.KeptIn.notOk {e : α} : a.KeptIn holdsOk (.error e) := ⟨fun _ h => nomatch h⟩
theorem State.KeptIn.notError {e : α} : a.KeptIn holdsError (.ok e) := ⟨fun _ h => nomatch h⟩
theorem State.KeptIn.ofSome (h : a.Kept s) : a.KeptIn holdsSome (some s) := ⟨fun _ e => Option.some.inj e ▸ h⟩
theorem State.KeptIn.ofOk (h : a.Kept s) : a.KeptIn (holdsOk (α := α)) (.ok s) := ⟨fun _ e => Except.ok.inj e ▸ h⟩
theorem State.KeptIn.ofError (h : a.Kept s) : a.KeptIn (holdsError (α := α)) (.error s) := ⟨fun _ e => Except.error.inj e ▸ h⟩
theorem State.KeptIn.mkFst {x : α} (h : a.Kept s) : a.KeptIn holdsFst (s, x) := ⟨fun _ e => e ▸ h⟩
theorem State.KeptIn.mkSnd {x : α} (h : a.Kept s) : a.KeptIn holdsSnd (x, s) := ⟨fun _ e => e ▸ h⟩
theorem State.KeptIn.ofSomeFst {x : α} (h : a.Kept s) : a.KeptIn holdsSomeFst (some (s, x)) := ⟨fun _ ⟨_, e⟩ => by
  injection e with e; injection e with e; exact e ▸ h⟩
theorem State.KeptIn.ofSomeSnd {x : α} (h : a.Kept s) : a.KeptIn holdsSomeSnd (some (x, s)) := ⟨fun _ ⟨_, e⟩ => by
  injection e with e; injection e with _ e; exact e ▸ h⟩

theorem State.Kept.of_some {r : Option State} (e : r = some t) (h : a.KeptIn holdsSome r) : a.Kept t := h.all t e
theorem State.Kept.of_ok {r : Except α State} (e : r = .ok t) (h : a.KeptIn holdsOk r) : a.Kept t := h.all t e
theorem State.Kept.of_error {r : Except State α} (e : r = .error t) (h : a.KeptIn holdsError r) : a.Kept t := h.all t e
theorem State.Kept.of_fst {r : State × α} {x : α} (e : r = (t, x)) (h : a.KeptIn holdsFst r) : a.Kept t := h.all t (by rw [e])
theorem State.Kept.of_snd {r : α × State} {x : α} (e : r = (x, t)) (h : a.KeptIn holdsSnd r) : a.Kept t := h.all t (by rw [e])
theorem State.Kept.of_someFst {r : Option (State × α)} {x : α} (e : r = some (t, x)) (h : a.KeptIn holdsSomeFst r) : a.Kept t :=
  h.all t ⟨x, e⟩
theorem State.Kept.of_someSnd {r : Option (α × State)} {x : α} (e : r = some (x, t)) (h : a.KeptIn holdsSomeSnd r) : a.Kept t :=
  h.all t ⟨x, e⟩
theorem State.KeptIn.fst {r : State × α} (h : a.KeptIn holdsFst r) : a.Kept r.1 := h.all _ rfl
theorem State.KeptIn.snd {r : α × State} (h : a.KeptIn holdsSnd r) : a.Kept r.2 := h.all _ rfl

theorem State.Kept.getD {r : Option State} (h : a.KeptIn holdsSome r) (hs : a.Kept s) : a.Kept (r.getD s) := by
  cases r with
  | none => exact hs
  | some t => exact h.all t rfl

theorem State.KeptIn.mapSome {f : State → State} {r : Option State} (hf : ∀ s, a.Kept s → a.Kept (f s))
    (h : a.KeptIn holdsSome r) : a.KeptIn holdsSome (r.map f) := by
  cases r with
  | none => exact .ofNone
  | some t => exact .ofSome (hf t (h.all t rfl))

theorem State.KeptIn.mapFst {f : State → State × α} {r : Option State} (hf : ∀ s, a.Kept s → a.KeptIn holdsFst (f s))
    (h : a.KeptIn holdsSome r) : a.KeptIn holdsSomeFst (r.map f) := by
  cases r with
  | none => exact .ofNoneFst
  | some t => exact .ofSomeFst (hf t (h.all t rfl)).fst

theorem State.KeptIn.foldlBind {f : β → State → Option State} (hf : ∀ x s, a.Kept s → a.KeptIn holdsSome (f x s)) :
    ∀ (l : List β) {r : Option State}, a.KeptIn holdsSome r → a.KeptIn holdsSome (l.foldl (fun o x => o.bind (f x)) r)
  | [], _, h => h
  | x :: l, r, h => by
    refine State.KeptIn.foldlBind hf l ?_
    cases r with
    | none => exact .ofNone
    | some s => exact hf x s (h.all s rfl)

/-- A fold of operations that keep the state beside what they gather. -/
theorem State.KeptIn.foldl {f : State × α → β → State × α} (hf : ∀ p x, a.KeptIn holdsFst p → a.KeptIn holdsFst (f p x)) :
    ∀ (l : List β) {p : State × α}, a.KeptIn holdsFst p → a.KeptIn holdsFst (l.foldl f p)
  | [], _, h => h
  | x :: l, _, h => State.KeptIn.foldl hf l (hf _ x h)

end

/-- The parts of the canonical form. -/
theorem State.canonical_iff (s : State) : s.canonical = true ↔
    Memory.wf s.memory.mem = true ∧ twfD 0 s.ro = true ∧ risingFrom 0 s.dict.active.ints = true ∧
    twfD 0 s.dict.active.blobs = true ∧ risingFrom 0 s.dict.shadow.ints = true ∧ twfD 0 s.dict.shadow.blobs = true ∧
    twfD {} s.handles = true ∧ twfD {} s.memory.extents = true := by
  simp only [State.canonical, Bool.and_eq_true, and_assoc]

theorem memErase_wf {lo hi : Nat} {m : Memory} (h : Memory.wf m = true) : Memory.wf (memErase lo hi m) = true := twfD_filter _ h

theorem memStore_wf {a : Nat} {bs : Bytes} {m : Memory} (h : Memory.wf m = true) : Memory.wf (memStore a bs m) = true := by
  induction bs generalizing a m with
  | nil => exact h
  | cons b bs ih => exact ih (twfD_tput a b h)

/-- A set in canonical form. -/
def ParamSet.wf (ps : ParamSet) : Prop := risingFrom 0 ps.ints = true ∧ twfD 0 ps.blobs = true

theorem ParamSet.putInt_wf {ps : ParamSet} {part : Part} {p : Param} {i v : Nat} (h : ps.wf) : (ps.putInt part p i v).wf := by
  refine ⟨?_, h.2⟩
  show risingFrom 0 (tput _ _ _ _) = true
  unfold tput
  split
  · exact risingFrom_terase _ h.1
  · exact risingFrom_tset _ h.1 (Nat.zero_le _)

theorem ParamSet.putBlob_wf {p : Param} {i : Nat} : ∀ {b : Bytes} {ps : ParamSet} {off : Nat}, ps.wf → (ps.putBlob p i off b).wf
  | [], _, _, h => h
  | x :: b, ps, off, h => ParamSet.putBlob_wf (b := b)
      (ps := { ps with blobs := tput 0 (p.key i * 16777216 + off) x ps.blobs }) (off := off + 1) ⟨h.1, twfD_tput _ _ h.2⟩

/-- A state whose tables stay in canonical form where those of a kept state do is kept. -/
theorem State.Kept.of_tables {a s t : State} (h : a.Kept s) (part : t.pkg.part = s.pkg.part) (fuses : t.pkg.fuses = s.pkg.fuses)
    (pending : t.pending = s.pending) (mem : Memory.wf s.memory.mem = true → Memory.wf t.memory.mem = true)
    (extents : twfD {} s.memory.extents = true → twfD {} t.memory.extents = true)
    (ro : twfD 0 s.ro = true → twfD 0 t.ro = true)
    (sets : s.dict.active.wf → s.dict.shadow.wf → t.dict.active.wf ∧ t.dict.shadow.wf)
    (handles : twfD {} s.handles = true → twfD {} t.handles = true) : a.Kept t := by
  refine ⟨part.trans h.part, fuses ▸ h.fuses, pending.trans h.pending, fun hc => ?_⟩
  obtain ⟨h1, h2, h3, h4, h5, h6, h7, h8⟩ := (s.canonical_iff).mp (h.canon hc)
  obtain ⟨⟨h3, h4⟩, h5, h6⟩ := sets ⟨h3, h4⟩ ⟨h5, h6⟩
  exact (State.canonical_iff _).mpr ⟨mem h1, ro h2, h3, h4, h5, h6, handles h7, extents h8⟩

/-- Stored counters may be written by `tput`. -/
theorem State.Kept.put_ro {a s t : State} (h : a.Kept s) (part : t.pkg.part = s.pkg.part) (fuses : t.pkg.fuses = s.pkg.fuses)
    (pending : t.pending = s.pending) (memory : t.memory = s.memory) (dict : t.dict = s.dict) (handles : t.handles = s.handles)
    (ro : twfD 0 s.ro = true → twfD 0 t.ro = true) : a.Kept t :=
  h.of_tables part fuses pending (by rw [memory]; exact id) (by rw [memory]; exact id) ro
    (by rw [dict]; exact fun h1 h2 => ⟨h1, h2⟩) (by rw [handles]; exact id)

theorem State.count_kept {a s : State} {p : Param} {i n : Nat} (h : a.Kept s) : a.Kept (s.count p i n) :=
  h.put_ro rfl rfl rfl rfl rfl rfl (twfD_tput _ _)

theorem State.setRo_kept {a s : State} {p : Param} {i v : Nat} (h : a.Kept s) : a.Kept (s.setRo p i v) :=
  h.put_ro rfl rfl rfl rfl rfl rfl (twfD_tput _ _)

theorem counters_wf {t : Nat} : ∀ (l : List Param) {m : Tbl Nat}, twfD 0 m = true →
    twfD 0 (l.foldl (fun m p => terase (p.key t) m) m) = true
  | [], _, h => h
  | p :: l, _, h => counters_wf l (twfD_terase (p.key t) h)

theorem State.clearCounters_kept {a s : State} {t : Nat} (h : a.Kept s) : a.Kept (s.clearCounters t) := by
  unfold State.clearCounters
  generalize tenantCounters = l
  exact h.put_ro rfl rfl rfl rfl rfl rfl (counters_wf l)

/-- Package memory may take any contents in canonical form. -/
theorem State.Kept.put_mem {a s t : State} (h : a.Kept s) (part : t.pkg.part = s.pkg.part) (fuses : t.pkg.fuses = s.pkg.fuses)
    (pending : t.pending = s.pending) (mem : Memory.wf s.memory.mem = true → Memory.wf t.memory.mem = true)
    (extents : twfD {} s.memory.extents = true → twfD {} t.memory.extents = true) (ro : t.ro = s.ro) (dict : t.dict = s.dict)
    (handles : t.handles = s.handles) : a.Kept t :=
  h.of_tables part fuses pending mem extents (by rw [ro]; exact id) (by rw [dict]; exact fun h1 h2 => ⟨h1, h2⟩)
    (by rw [handles]; exact id)

theorem State.setExtent_kept {a s : State} {n : Nat} {x : Extent} (h : a.Kept s) : a.Kept (s.setExtent n x) :=
  h.put_mem rfl rfl rfl id (twfD_tput _ _) rfl rfl rfl

/-- Both sets may take any contents in canonical form. -/
theorem State.Kept.put_sets {a s t : State} (h : a.Kept s) (part : t.pkg.part = s.pkg.part) (fuses : t.pkg.fuses = s.pkg.fuses)
    (pending : t.pending = s.pending) (memory : t.memory = s.memory) (ro : t.ro = s.ro) (handles : t.handles = s.handles)
    (sets : s.dict.active.wf → s.dict.shadow.wf → t.dict.active.wf ∧ t.dict.shadow.wf) : a.Kept t :=
  h.of_tables part fuses pending (by rw [memory]; exact id) (by rw [memory]; exact id) (by rw [ro]; exact id) sets
    (by rw [handles]; exact id)

/-- Handles may take any contents in canonical form. -/
theorem State.Kept.put_handles {a s t : State} (h : a.Kept s) (part : t.pkg.part = s.pkg.part)
    (fuses : t.pkg.fuses = s.pkg.fuses) (pending : t.pending = s.pending) (memory : t.memory = s.memory) (ro : t.ro = s.ro)
    (dict : t.dict = s.dict) (handles : twfD {} s.handles = true → twfD {} t.handles = true) : a.Kept t :=
  h.of_tables part fuses pending (by rw [memory]; exact id) (by rw [memory]; exact id) (by rw [ro]; exact id)
    (by rw [dict]; exact fun h1 h2 => ⟨h1, h2⟩) handles

theorem State.setHandle_kept {a s : State} {n : Nat} {x : Handle} (h : a.Kept s) : a.Kept (s.setHandle n x) :=
  h.put_handles rfl rfl rfl rfl rfl rfl (twfD_tput _ _)

end Sys2Proof.Machine
end

