-- ==== Sys2Proof/Laws/KeptOps.lean ====
section
/-! SUPPORT. What every command keeps: the operations of Machine/Ops.lean. -/
namespace Sys2Proof.Machine

theorem State.bump_kept {σ : State} {s : State} {p : Param} {i0 : Nat} (hs : σ.Kept s) :
    σ.Kept (State.bump s p i0) := by
  unfold State.bump
  repeat' (first
    | with_reducible assumption
    | with_reducible apply State.count_kept)

theorem State.setTenant_kept {σ : State} {s : State} {t : Nat} {x : Tenant} (hs : σ.Kept s) :
    σ.Kept (State.setTenant s t x) := by
  unfold State.setTenant
  repeat' (first
    | exact State.Kept.of_record (by with_reducible assumption) rfl rfl rfl rfl rfl rfl rfl rfl rfl)

theorem State.setFn_kept {σ : State} {s : State} {t : Nat} {x : FnPages} (hs : σ.Kept s) :
    σ.Kept (State.setFn s t x) := by
  unfold State.setFn
  repeat' (first
    | exact State.Kept.of_record (by with_reducible assumption) rfl rfl rfl rfl rfl rfl rfl rfl rfl)

theorem State.setHost_kept {σ : State} {s : State} {h : Nat} {x : HostPort} (hs : σ.Kept s) :
    σ.Kept (State.setHost s h x) := by
  unfold State.setHost
  repeat' (first
    | exact State.Kept.of_record (by with_reducible assumption) rfl rfl rfl rfl rfl rfl rfl rfl rfl)

theorem State.setAttach_kept {σ : State} {s : State} {a : Nat} {x : AttachPort} (hs : σ.Kept s) :
    σ.Kept (State.setAttach s a x) := by
  unfold State.setAttach
  repeat' (first
    | exact State.Kept.of_record (by with_reducible assumption) rfl rfl rfl rfl rfl rfl rfl rfl rfl)

theorem State.setRing_kept {σ : State} {s : State} {k : Nat} {r : Ring} (hs : σ.Kept s) :
    σ.Kept (State.setRing s k r) := by
  unfold State.setRing
  repeat' (first
    | exact State.Kept.of_record (by with_reducible assumption) rfl rfl rfl rfl rfl rfl rfl rfl rfl)

theorem State.delRing_kept {σ : State} {s : State} {k : Nat} (hs : σ.Kept s) :
    σ.Kept (State.delRing s k) := by
  unfold State.delRing
  repeat' (first
    | exact State.Kept.of_record (by with_reducible assumption) rfl rfl rfl rfl rfl rfl rfl rfl rfl)

theorem State.setConn_kept {σ : State} {s : State} {c : Nat} {x : Conn} (hs : σ.Kept s) :
    σ.Kept (State.setConn s c x) := by
  unfold State.setConn
  repeat' (first
    | exact State.Kept.of_record (by with_reducible assumption) rfl rfl rfl rfl rfl rfl rfl rfl rfl)

theorem State.setPort_kept {σ : State} {s : State} {n : Nat} {x : Port} (hs : σ.Kept s) :
    σ.Kept (State.setPort s n x) := by
  unfold State.setPort
  repeat' (first
    | exact State.Kept.of_record (by with_reducible assumption) rfl rfl rfl rfl rfl rfl rfl rfl rfl)

theorem State.setTimePort_kept {σ : State} {s : State} {n : Nat} {x : TimePort} (hs : σ.Kept s) :
    σ.Kept (State.setTimePort s n x) := by
  unfold State.setTimePort
  repeat' (first
    | exact State.Kept.of_record (by with_reducible assumption) rfl rfl rfl rfl rfl rfl rfl rfl rfl)

theorem State.setInc_kept {σ : State} {s : State} {c : Nat} {x : IncRecord} (hs : σ.Kept s) :
    σ.Kept (State.setInc s c x) := by
  unfold State.setInc
  repeat' (first
    | exact State.Kept.of_record (by with_reducible assumption) rfl rfl rfl rfl rfl rfl rfl rfl rfl)

theorem State.countSquashed_kept {σ : State} {t : Nat} {n : Nat} {s : State} (hs : σ.Kept s) :
    σ.Kept (State.countSquashed t n s) := by
  unfold State.countSquashed
  repeat' (first
    | with_reducible assumption
    | with_reducible apply State.setTenant_kept
    | with_reducible apply State.count_kept
    | (intro y; clear_value y)
    | lift_lets -underBinder
    | split)

theorem State.emit_kept {σ : State} {s : State} {e : Emit} (hs : σ.Kept s) :
    σ.Kept (State.emit s e) := by
  unfold State.emit
  repeat' (first
    | exact State.Kept.of_record (by with_reducible assumption) rfl rfl rfl rfl rfl rfl rfl rfl rfl)

theorem State.takeFree_kept {σ : State} {s : State} (hs : σ.Kept s) :
    σ.KeptIn holdsSnd (State.takeFree s) := by
  unfold State.takeFree
  repeat' (first
    | exact State.Kept.of_record (by with_reducible assumption) rfl rfl rfl rfl rfl rfl rfl rfl rfl
    | with_reducible apply State.KeptIn.mkSnd)

theorem State.trace_kept {σ : State} {tower : Nat} {kind : Nat} {tenant : Nat} {bytes : Bytes} {s : State} (hs : σ.Kept s) :
    σ.Kept (State.trace tower kind tenant bytes s) := by
  unfold State.trace
  repeat' (first
    | with_reducible assumption
    | with_reducible refine State.Kept.ite (fun _ => ?_) (fun _ => ?_)
    | exact State.Kept.of_record (by with_reducible assumption) rfl rfl rfl rfl rfl rfl rfl rfl rfl)

theorem State.countStale_kept {σ : State} {t : Nat} {p : Place} {a : Nat} {n : Nat} {s : State} (hs : σ.Kept s) :
    σ.Kept (State.countStale t p a n s) := by
  unfold State.countStale
  repeat' (first
    | with_reducible assumption
    | with_reducible apply State.bump_kept
    | with_reducible refine State.Kept.ite (fun _ => ?_) (fun _ => ?_)
    | with_reducible apply State.Kept.foldl
    | (intro))

theorem State.countPoison_kept {σ : State} {p : Place} {a : Nat} {n : Nat} {s : State} (hs : σ.Kept s) :
    σ.Kept (State.countPoison p a n s) := by
  unfold State.countPoison
  repeat' (first
    | with_reducible assumption
    | with_reducible apply State.bump_kept
    | with_reducible refine State.Kept.ite (fun _ => ?_) (fun _ => ?_)
    | with_reducible apply State.Kept.foldl
    | (intro))

theorem State.readFailed_kept {σ : State} {t : Nat} {p : Place} {a : Nat} {n : Nat} {s : State} (hs : σ.Kept s) :
    σ.Kept (State.readFailed t p a n s) := by
  unfold State.readFailed
  repeat' (first
    | with_reducible assumption
    | with_reducible apply State.countStale_kept
    | with_reducible apply State.countPoison_kept)

theorem State.cleanBlock_kept {σ s : State} {x : Nat} (hs : σ.Kept s) : σ.Kept (s.cleanBlock x) := by
  unfold State.cleanBlock
  refine State.Kept.ite (fun _ => ?_) (fun _ => hs)
  apply State.bump_kept
  apply State.setExtent_kept
  exact hs.put_mem rfl rfl rfl memErase_wf id rfl rfl rfl

theorem State.memWrite_kept {σ s : State} {x : Nat} {bytes : Bytes} (hs : σ.Kept s) :
    σ.KeptIn holdsSome (s.memWrite x bytes) := by
  unfold State.memWrite
  lift_lets
  intro n s1
  have h : σ.Kept s1 := State.Kept.foldl (fun _ _ => State.cleanBlock_kept) _ hs
  clear_value s1
  intro whole
  refine State.KeptIn.ite (fun _ => State.KeptIn.ofNone) (fun _ => State.KeptIn.ofSome ?_)
  exact h.put_mem rfl rfl rfl memStore_wf id rfl rfl rfl

theorem State.placeWrite_kept {σ : State} {s : State} {t : Nat} {p : Place} {a : Nat} {bytes : Bytes} (hs : σ.Kept s) :
    σ.KeptIn holdsSome (State.placeWrite s t p a bytes) := by
  unfold State.placeWrite
  repeat' (first
    | with_reducible assumption
    | with_reducible apply State.emit_kept
    | with_reducible apply State.memWrite_kept
    | with_reducible refine State.KeptIn.ite (fun _ => ?_) (fun _ => ?_)
    | with_reducible exact State.KeptIn.ofNone
    | with_reducible apply State.KeptIn.ofSome)

theorem State.raiseMsix_kept {σ : State} {s : State} {t : Nat} {v : Nat} (hs : σ.Kept s) :
    σ.Kept (State.raiseMsix s t v) := by
  unfold State.raiseMsix
  repeat' (first
    | with_reducible assumption
    | with_reducible apply State.emit_kept
    | with_reducible refine State.Kept.ite (fun _ => ?_) (fun _ => ?_)
    | exact State.Kept.of_record (by with_reducible assumption) rfl rfl rfl rfl rfl rfl rfl rfl rfl)

theorem State.aer_kept {σ : State} {fn : Nat} {k : AerKind} {s : State} (hs : σ.Kept s) :
    σ.Kept (State.aer fn k s) := by
  unfold State.aer
  repeat' (first
    | with_reducible assumption
    | with_reducible apply State.emit_kept)

theorem State.logPackageEntry_kept {σ : State} {s : State} {sev : Severity} {e : W512} (hs : σ.Kept s) :
    σ.Kept (State.logPackageEntry s sev e) := by
  unfold State.logPackageEntry
  repeat' (first
    | exact State.Kept.of_record (by with_reducible assumption) rfl rfl rfl rfl rfl rfl rfl rfl rfl)

theorem State.logTenantEntry_kept {σ : State} {s : State} {t : Nat} {e : W512} (hs : σ.Kept s) :
    σ.Kept (State.logTenantEntry s t e) := by
  unfold State.logTenantEntry
  repeat' (first
    | with_reducible assumption
    | with_reducible apply State.setTenant_kept)

theorem State.dropEvent_kept {σ : State} {s : State} {t : Nat} (hs : σ.Kept s) :
    σ.Kept (State.dropEvent s t) := by
  unfold State.dropEvent
  repeat' (first
    | with_reducible assumption
    | with_reducible apply State.setTenant_kept
    | with_reducible apply State.bump_kept)

theorem State.event_kept {σ : State} {s : State} {t : Nat} {cls : Nat} {reason : Nat} {object : Nat} {loc : Nat} {detail : Nat} (hs : σ.Kept s) :
    σ.Kept (State.event s t cls reason object loc detail) := by
  unfold State.event
  repeat' (first
    | with_reducible assumption
    | with_reducible apply State.dropEvent_kept
    | with_reducible apply State.placeWrite_kept
    | with_reducible apply State.setTenant_kept
    | with_reducible apply State.raiseMsix_kept
    | with_reducible apply State.logTenantEntry_kept
    | with_reducible refine State.Kept.ite (fun _ => ?_) (fun _ => ?_)
    | (intro y; clear_value y)
    | refine State.Kept.of_some (by with_reducible assumption) ?_
    | lift_lets -underBinder
    | split)

theorem State.packageEvent_kept {σ : State} {s : State} {cls : Nat} {reason : Nat} {object : Nat} {loc : Nat} {detail : Nat} (hs : σ.Kept s) :
    σ.Kept (State.packageEvent s cls reason object loc detail) := by
  unfold State.packageEvent
  repeat' (first
    | with_reducible assumption
    | with_reducible apply State.event_kept)

theorem State.logFault_kept {σ : State} {s : State} {sev : Severity} {src : FaultSource} {loc : W64} {t : Option Nat} {object : Nat} {address : Nat} {detail : Nat} (hs : σ.Kept s) :
    σ.Kept (State.logFault s sev src loc t object address detail) := by
  unfold State.logFault
  repeat' (first
    | with_reducible assumption
    | with_reducible apply State.trace_kept
    | with_reducible apply State.logTenantEntry_kept
    | with_reducible apply State.logPackageEntry_kept
    | with_reducible apply State.packageEvent_kept
    | with_reducible refine State.Kept.ite (fun _ => ?_) (fun _ => ?_)
    | (intro y; refine State.Kept.cut (a := σ) (s := y) ?_ fun hy => ?_; rotate_left; clear_value y)
    | lift_lets -underBinder
    | split)

end Sys2Proof.Machine
end

