-- ==== Sys2Proof/Laws/KeptBelfry.lean ====
section
/-! SUPPORT. What every command keeps: the operations of Machine/Belfry.lean. -/
namespace Sys2Proof.Machine

theorem State.setBelfry_kept {σ : State} {s : State} {tower : Nat} {b : BelfryTower} (hs : σ.Kept s) :
    σ.Kept (State.setBelfry s tower b) := by
  unfold State.setBelfry
  repeat' (first
    | exact State.Kept.of_record (by with_reducible assumption) rfl rfl rfl rfl rfl rfl rfl rfl rfl)

theorem State.setMailbox_kept {σ : State} {s : State} {tower : Nat} {m : Nat} {x : Mailslot} (hs : σ.Kept s) :
    σ.Kept (State.setMailbox s tower m x) := by
  unfold State.setMailbox
  repeat' (first
    | with_reducible assumption
    | with_reducible apply State.setBelfry_kept)

theorem State.belfryNotice_kept {σ : State} {master : Nat} {reason : Nat} {tower : Nat} {box : Nat} {value : Nat} {s : State} (hs : σ.Kept s) :
    σ.Kept (State.belfryNotice master reason tower box value s) := by
  unfold State.belfryNotice
  repeat' (first
    | with_reducible assumption
    | with_reducible apply State.event_kept
    | with_reducible apply State.emit_kept
    | with_reducible refine State.Kept.ite (fun _ => ?_) (fun _ => ?_)
    | split)

theorem State.ackNotice_kept {σ : State} {tower : Nat} {box : Nat} {s : State} (hs : σ.Kept s) :
    σ.Kept (State.ackNotice tower box s) := by
  unfold State.ackNotice
  repeat' (first
    | with_reducible assumption
    | with_reducible apply State.belfryNotice_kept
    | with_reducible refine State.Kept.ite (fun _ => ?_) (fun _ => ?_))

theorem State.refuseBelfry_kept {σ : State} {tower : Nat} {s : State} (hs : σ.Kept s) :
    σ.Kept (State.refuseBelfry tower s) := by
  unfold State.refuseBelfry
  repeat' (first
    | with_reducible assumption
    | with_reducible apply State.bump_kept)

theorem State.belfryAnswer_kept {σ : State} {m : Nat} {v : Nat} {s : State} (hs : σ.Kept s) :
    σ.Kept (State.belfryAnswer m v s) := by
  unfold State.belfryAnswer
  repeat' (first
    | with_reducible assumption
    | with_reducible apply State.emit_kept)

theorem State.postMail_kept {σ : State} {tower : Nat} {m : Nat} {box : Nat} {v : W64} {s : State} (hs : σ.Kept s) :
    σ.Kept (State.postMail tower m box v s) := by
  unfold State.postMail
  repeat' (first
    | with_reducible assumption
    | with_reducible apply State.setMailbox_kept
    | with_reducible apply State.ackNotice_kept
    | with_reducible apply State.bump_kept
    | with_reducible apply State.aer_kept
    | with_reducible apply State.emit_kept
    | with_reducible apply State.belfryNotice_kept
    | with_reducible refine State.Kept.ite (fun _ => ?_) (fun _ => ?_)
    | (intro y; refine State.Kept.cut (a := σ) (s := y) ?_ fun hy => ?_; rotate_left; clear_value y)
    | lift_lets -underBinder
    | split)

theorem execMbDataWrite_kept {σ : State} {tower : Nat} {master : Nat} {box : Nat} {whole : Bool} {data : W64} {s : State} (hs : σ.Kept s) :
    σ.Answers (execMbDataWrite tower master box whole data s) := by
  unfold execMbDataWrite
  repeat' (first
    | with_reducible assumption
    | with_reducible apply State.refuseBelfry_kept
    | with_reducible apply State.postMail_kept
    | with_reducible apply State.Answers.next
    | with_reducible refine State.Answers.ite (fun _ => ?_) (fun _ => ?_))

theorem execMbDataRead_kept {σ : State} {tower : Nat} {master : Nat} {box : Nat} {whole : Bool} {s : State} (hs : σ.Kept s) :
    σ.Answers (execMbDataRead tower master box whole s) := by
  unfold execMbDataRead
  repeat' (first
    | with_reducible assumption
    | with_reducible apply State.refuseBelfry_kept
    | with_reducible apply State.belfryAnswer_kept
    | with_reducible apply State.setMailbox_kept
    | with_reducible apply State.bump_kept
    | with_reducible apply State.Answers.next
    | with_reducible refine State.Answers.ite (fun _ => ?_) (fun _ => ?_)
    | with_reducible refine State.Kept.ite (fun _ => ?_) (fun _ => ?_))

theorem execMbAckCodeWrite_kept {σ : State} {tower : Nat} {master : Nat} {box : Nat} {whole : Bool} {value : W64} {s : State} (hs : σ.Kept s) :
    σ.Answers (execMbAckCodeWrite tower master box whole value s) := by
  unfold execMbAckCodeWrite
  repeat' (first
    | with_reducible assumption
    | with_reducible apply State.refuseBelfry_kept
    | with_reducible apply State.setMailbox_kept
    | with_reducible apply State.ackNotice_kept
    | with_reducible apply State.bump_kept
    | with_reducible apply State.Answers.next
    | with_reducible refine State.Answers.ite (fun _ => ?_) (fun _ => ?_))

theorem execDbSetWrite_kept {σ : State} {tower : Nat} {master : Nat} {whole : Bool} {value : BitVec 32} {s : State} (hs : σ.Kept s) :
    σ.Answers (execDbSetWrite tower master whole value s) := by
  unfold execDbSetWrite
  repeat' (first
    | with_reducible assumption
    | with_reducible apply State.refuseBelfry_kept
    | with_reducible apply State.setBelfry_kept
    | with_reducible apply State.Answers.next
    | with_reducible refine State.Answers.ite (fun _ => ?_) (fun _ => ?_))

theorem execDbPendWrite_kept {σ : State} {tower : Nat} {master : Nat} {value : BitVec 32} {s : State} (hs : σ.Kept s) :
    σ.Answers (execDbPendWrite tower master value s) := by
  unfold execDbPendWrite
  repeat' (first
    | with_reducible assumption
    | with_reducible apply State.setBelfry_kept
    | with_reducible apply State.Answers.next
    | with_reducible refine State.Answers.ite (fun _ => ?_) (fun _ => ?_))

theorem execDbMaskWrite_kept {σ : State} {tower : Nat} {master : Nat} {value : BitVec 32} {s : State} (hs : σ.Kept s) :
    σ.Answers (execDbMaskWrite tower master value s) := by
  unfold execDbMaskWrite
  repeat' (first
    | with_reducible assumption
    | with_reducible apply State.setBelfry_kept
    | with_reducible apply State.Answers.next
    | with_reducible refine State.Answers.ite (fun _ => ?_) (fun _ => ?_))

theorem State.flushTower_kept {σ : State} {tower : Nat} {s : State} (hs : σ.Kept s) :
    σ.Kept (State.flushTower tower s) := by
  unfold State.flushTower
  repeat' (first
    | with_reducible assumption
    | with_reducible apply State.belfryNotice_kept
    | with_reducible apply State.setBelfry_kept
    | with_reducible apply State.Kept.foldl
    | (intro))

theorem State.flushDoorbells_kept {σ : State} {s : State} (hs : σ.Kept s) :
    σ.Kept (State.flushDoorbells s) := by
  unfold State.flushDoorbells
  repeat' (first
    | with_reducible assumption
    | with_reducible apply State.flushTower_kept
    | with_reducible apply State.Kept.foldl
    | (intro))

theorem execSemRead_kept {σ : State} {tower : Nat} {master : Nat} {sem : Nat} {whole : Bool} {s : State} (hs : σ.Kept s) :
    σ.Answers (execSemRead tower master sem whole s) := by
  unfold execSemRead
  repeat' (first
    | with_reducible assumption
    | with_reducible apply State.refuseBelfry_kept
    | with_reducible apply State.belfryAnswer_kept
    | with_reducible apply State.setBelfry_kept
    | with_reducible apply State.Answers.next
    | with_reducible refine State.Answers.ite (fun _ => ?_) (fun _ => ?_))

theorem execSemWrite_kept {σ : State} {tower : Nat} {master : Nat} {sem : Nat} {whole : Bool} {value : W64} {s : State} (hs : σ.Kept s) :
    σ.Answers (execSemWrite tower master sem whole value s) := by
  unfold execSemWrite
  repeat' (first
    | with_reducible assumption
    | with_reducible apply State.setBelfry_kept
    | with_reducible apply State.refuseBelfry_kept
    | with_reducible apply State.Answers.next
    | with_reducible refine State.Answers.ite (fun _ => ?_) (fun _ => ?_))

theorem State.resetReceiver_kept {σ : State} {tower : Nat} {box : Nat} {s : State} (hs : σ.Kept s) :
    σ.Kept (State.resetReceiver tower box s) := by
  unfold State.resetReceiver
  repeat' (first
    | with_reducible assumption
    | with_reducible apply State.setMailbox_kept
    | with_reducible apply State.bump_kept
    | with_reducible apply State.ackNotice_kept
    | (intro y; clear_value y)
    | lift_lets -underBinder
    | split)

theorem State.resetBox_kept {σ : State} {tower : Nat} {m : Nat} {box : Nat} {s : State} (hs : σ.Kept s) :
    σ.Kept (State.resetBox tower m box s) := by
  unfold State.resetBox
  repeat' (first
    | with_reducible assumption
    | with_reducible apply State.resetReceiver_kept
    | with_reducible apply State.setMailbox_kept
    | with_reducible refine State.Kept.ite (fun _ => ?_) (fun _ => ?_))

theorem State.resetMaster_kept {σ : State} {m : Nat} {s : State} (hs : σ.Kept s) :
    σ.Kept (State.resetMaster m s) := by
  unfold State.resetMaster
  repeat' (first
    | with_reducible assumption
    | with_reducible apply State.resetBox_kept
    | with_reducible apply State.setBelfry_kept
    | with_reducible apply State.count_kept
    | with_reducible apply State.Kept.foldl
    | (intro))

theorem execFirmwareRestart_kept {σ : State} {s : State} (hs : σ.Kept s) :
    σ.Answers (execFirmwareRestart s) := by
  unfold execFirmwareRestart
  repeat' (first
    | with_reducible assumption
    | with_reducible apply State.bump_kept
    | with_reducible apply State.resetMaster_kept
    | with_reducible apply State.Answers.next)

theorem execManagementAgentReset_kept {σ : State} {s : State} (hs : σ.Kept s) :
    σ.Answers (execManagementAgentReset s) := by
  unfold execManagementAgentReset
  repeat' (first
    | with_reducible assumption
    | with_reducible apply State.bump_kept
    | with_reducible apply State.resetMaster_kept
    | with_reducible apply State.Answers.next)

end Sys2Proof.Machine
end

