-- ==== Sys2Proof/Laws/KeptChain.lean ====
section
/-! SUPPORT. What every command keeps: the operations of Machine/Chain.lean. -/
namespace Sys2Proof.Machine

theorem State.modifyChain_kept {σ : State} {k : Nat} {first : W32} {f : Chain → Chain} {s : State} (hs : σ.Kept s) :
    σ.Kept (State.modifyChain k first f s) := by
  unfold State.modifyChain
  repeat' (first
    | with_reducible assumption
    | with_reducible apply State.setRing_kept
    | split)

theorem State.runEntry_kept {σ : State} {e : EntryRef} {s : State} (hs : σ.Kept s) :
    σ.Kept (State.runEntry e s) := by
  unfold State.runEntry
  repeat' (first
    | with_reducible assumption
    | with_reducible apply State.modifyChain_kept)

theorem State.addBytes_kept {σ : State} {e : EntryRef} {n : Nat} {s : State} (hs : σ.Kept s) :
    σ.Kept (State.addBytes e n s) := by
  unfold State.addBytes
  repeat' (first
    | with_reducible assumption
    | with_reducible apply State.modifyChain_kept)

theorem State.setDetail_kept {σ : State} {e : EntryRef} {d : Nat} {s : State} (hs : σ.Kept s) :
    σ.Kept (State.setDetail e d s) := by
  unfold State.setDetail
  repeat' (first
    | with_reducible assumption
    | with_reducible apply State.modifyChain_kept)

theorem State.endEntry_kept {σ : State} {e : EntryRef} {s : State} (hs : σ.Kept s) :
    σ.Kept (State.endEntry e s) := by
  unfold State.endEntry
  repeat' (first
    | with_reducible assumption
    | with_reducible apply State.modifyChain_kept)

theorem State.failEntry_kept {σ : State} {e : EntryRef} {status : Status} {detail : Nat} {s : State} (hs : σ.Kept s) :
    σ.Kept (State.failEntry e status detail s) := by
  unfold State.failEntry
  repeat' (first
    | with_reducible assumption
    | with_reducible apply State.modifyChain_kept)

theorem State.noteFail_kept {σ : State} {e : EntryRef} {status : Status} {detail : Nat} {s : State} (hs : σ.Kept s) :
    σ.Kept (State.noteFail e status detail s) := by
  unfold State.noteFail
  repeat' (first
    | with_reducible assumption
    | with_reducible apply State.modifyChain_kept)

end Sys2Proof.Machine
end

