-- ==== Sys2Proof/Laws/KeptKeys.lean ====
section
/-! SUPPORT. What every command keeps: the operations of Machine/Keys.lean. -/
namespace Sys2Proof.Machine

theorem State.requestKey_kept {σ : State} {k : KeyName} {s : State} (hs : σ.Kept s) :
    σ.Kept (State.requestKey k s) := by
  unfold State.requestKey
  repeat' (first
    | with_reducible assumption
    | with_reducible apply State.bump_kept
    | with_reducible refine State.Kept.ite (fun _ => ?_) (fun _ => ?_)
    | exact State.Kept.of_record (by with_reducible assumption) rfl rfl rfl rfl rfl rfl rfl rfl rfl)

theorem State.installKey_kept {σ : State} {k : KeyName} {s : State} (hs : σ.Kept s) :
    σ.Kept (State.installKey k s) := by
  unfold State.installKey
  repeat' (first
    | with_reducible apply State.bump_kept
    | exact State.Kept.of_record (by with_reducible assumption) rfl rfl rfl rfl rfl rfl rfl rfl rfl)

theorem State.purgeSlot_kept {σ : State} {n : Nat} {s : State} (hs : σ.Kept s) :
    σ.Kept (State.purgeSlot n s) := by
  unfold State.purgeSlot
  repeat' (first
    | exact State.Kept.of_record (by with_reducible assumption) rfl rfl rfl rfl rfl rfl rfl rfl rfl)

theorem State.putSlot_kept {σ : State} {n : Nat} {x : KeySlot} {s : State} (hs : σ.Kept s) :
    σ.Kept (State.putSlot n x s) := by
  unfold State.putSlot
  repeat' (first
    | with_reducible apply State.purgeSlot_kept
    | exact State.Kept.of_record (by with_reducible assumption) rfl rfl rfl rfl rfl rfl rfl rfl rfl)

theorem State.eraseSlot_kept {σ : State} {n : Nat} {s : State} (hs : σ.Kept s) :
    σ.Kept (State.eraseSlot n s) := by
  unfold State.eraseSlot
  repeat' (first
    | with_reducible assumption
    | with_reducible apply State.putSlot_kept)

end Sys2Proof.Machine
end

