-- ==== Sys2Proof/Laws/KeptConn.lean ====
section
/-! SUPPORT. What every command keeps: the operations of Machine/Conn.lean. -/
namespace Sys2Proof.Machine

theorem State.enqueue_kept {σ : State} {port : Nat} {vc : Nat} {x : EgressItem} {s : State} (hs : σ.Kept s) :
    σ.Kept (State.enqueue port vc x s) := by
  unfold State.enqueue
  repeat' (first
    | with_reducible assumption
    | with_reducible apply State.setPort_kept)

theorem State.sendControl_kept {σ : State} {c : Nat} {type : Nat} {ext : List (Nat × Nat)} {plain : Bool} {s : State} (hs : σ.Kept s) :
    σ.Kept (State.sendControl c type ext plain s) := by
  unfold State.sendControl
  repeat' (first
    | with_reducible assumption
    | with_reducible apply State.enqueue_kept
    | with_reducible refine State.Kept.ite (fun _ => ?_) (fun _ => ?_)
    | (intro y; clear_value y)
    | lift_lets -underBinder
    | split)

theorem State.sendNak_kept {σ : State} {port : Nat} {outer : Bytes} {p : Packet} {code : Nat} {backoff : Nat} {s : State} (hs : σ.Kept s) :
    σ.Kept (State.sendNak port outer p code backoff s) := by
  unfold State.sendNak
  repeat' (first
    | with_reducible assumption
    | with_reducible apply State.enqueue_kept
    | with_reducible refine State.Kept.ite (fun _ => ?_) (fun _ => ?_))

theorem State.connEvent_kept {σ : State} {t : Nat} {reason : Nat} {c : Nat} {cause : Nat} {s : State} (hs : σ.Kept s) :
    σ.Kept (State.connEvent t reason c cause s) := by
  unfold State.connEvent
  repeat' (first
    | with_reducible assumption
    | with_reducible apply State.event_kept)

theorem State.expertEnd_kept {σ : State} {m : TxMsg} {e : EntryRef} {st : Option (Nat × Nat)} {s : State} (hs : σ.Kept s) :
    σ.Kept (State.expertEnd m e st s) := by
  unfold State.expertEnd
  repeat' (first
    | with_reducible apply State.addBytes_kept
    | with_reducible refine State.Kept.ite (fun _ => ?_) (fun _ => ?_)
    | exact State.Kept.of_record (by with_reducible assumption) rfl rfl rfl rfl rfl rfl rfl rfl rfl)

theorem State.messageDone_kept {σ : State} {m : TxMsg} {s : State} (hs : σ.Kept s) :
    σ.Kept (State.messageDone m s) := by
  unfold State.messageDone
  repeat' (first
    | with_reducible assumption
    | with_reducible apply State.expertEnd_kept
    | with_reducible apply State.addBytes_kept
    | with_reducible apply State.noteFail_kept
    | with_reducible apply State.endEntry_kept
    | with_reducible refine State.Kept.ite (fun _ => ?_) (fun _ => ?_)
    | lift_lets -underBinder
    | split)

theorem State.messageFail_kept {σ : State} {m : TxMsg} {status : Status} {detail : Nat} {s : State} (hs : σ.Kept s) :
    σ.Kept (State.messageFail m status detail s) := by
  unfold State.messageFail
  repeat' (first
    | with_reducible assumption
    | with_reducible apply State.expertEnd_kept
    | with_reducible apply State.noteFail_kept
    | with_reducible apply State.endEntry_kept
    | with_reducible apply State.failEntry_kept
    | with_reducible refine State.Kept.ite (fun _ => ?_) (fun _ => ?_)
    | split)

theorem State.releaseReservations_kept {σ : State} {c : Nat} {s : State} (hs : σ.Kept s) :
    σ.Kept (State.releaseReservations c s) := by
  unfold State.releaseReservations
  repeat' (first
    | exact State.Kept.of_record (by with_reducible assumption) rfl rfl rfl rfl rfl rfl rfl rfl rfl)

theorem State.dropWork_kept {σ : State} {c : Nat} {status : Status} {s : State} (hs : σ.Kept s) :
    σ.Kept (State.dropWork c status s) := by
  unfold State.dropWork
  repeat' (first
    | with_reducible assumption
    | with_reducible apply State.setConn_kept
    | with_reducible apply State.messageFail_kept
    | with_reducible apply State.releaseReservations_kept
    | with_reducible apply State.Kept.foldl
    | (intro)
    | lift_lets -underBinder
    | split
    | refine State.Kept.of_record ?_ rfl rfl rfl rfl rfl rfl rfl rfl rfl)

theorem State.quarantine_kept {σ : State} {c : Nat} {s : State} (hs : σ.Kept s) :
    σ.Kept (State.quarantine c s) := by
  unfold State.quarantine
  repeat' (first
    | with_reducible assumption
    | with_reducible apply State.setInc_kept
    | with_reducible apply State.setConn_kept
    | (intro y; refine State.Kept.cut (a := σ) (s := y) ?_ fun hy => ?_; rotate_left; clear_value y)
    | (intro y; clear_value y)
    | exact State.Kept.of_record (by with_reducible assumption) rfl rfl rfl rfl rfl rfl rfl rfl rfl
    | lift_lets -underBinder
    | split)

theorem State.endConnCmd_kept {σ : State} {t : Nat} {c : Nat} {code : Nat} {s : State} (hs : σ.Kept s) :
    σ.Kept (State.endConnCmd t c code s) := by
  unfold State.endConnCmd
  repeat' (first
    | with_reducible assumption
    | with_reducible apply State.setFn_kept
    | with_reducible refine State.Kept.ite (fun _ => ?_) (fun _ => ?_))

theorem State.leaveDraining_kept {σ : State} {c : Nat} {status : Status} {s : State} (hs : σ.Kept s) :
    σ.Kept (State.leaveDraining c status s) := by
  unfold State.leaveDraining
  repeat' (first
    | with_reducible assumption
    | with_reducible apply State.dropWork_kept
    | with_reducible apply State.quarantine_kept
    | with_reducible apply State.connEvent_kept
    | with_reducible apply State.endConnCmd_kept
    | split)

theorem State.connError_kept {σ : State} {c : Nat} {status : Status} {s : State} (hs : σ.Kept s) :
    σ.Kept (State.connError c status s) := by
  unfold State.connError
  repeat' (first
    | with_reducible assumption
    | with_reducible apply State.setConn_kept
    | with_reducible apply State.dropWork_kept
    | with_reducible apply State.connEvent_kept
    | with_reducible apply State.endConnCmd_kept
    | with_reducible apply State.leaveDraining_kept
    | with_reducible refine State.Kept.ite (fun _ => ?_) (fun _ => ?_)
    | split)

theorem State.backingFailure_kept {σ : State} {c : Nat} {status : Status} {s : State} (hs : σ.Kept s) :
    σ.Kept (State.backingFailure c status s) := by
  unfold State.backingFailure
  repeat' (first
    | with_reducible assumption
    | with_reducible apply State.bump_kept
    | with_reducible apply State.logFault_kept
    | with_reducible apply State.connError_kept
    | split)

theorem State.writeBack_kept {σ : State} {c : Nat} {s : State} (hs : σ.Kept s) :
    σ.KeptIn holdsFst (State.writeBack c s) := by
  unfold State.writeBack
  repeat' (first
    | with_reducible assumption
    | with_reducible apply State.placeWrite_kept
    | with_reducible apply State.countStale_kept
    | with_reducible apply State.setConn_kept
    | with_reducible apply State.backingFailure_kept
    | (intro y; refine State.Kept.cut (a := σ) (s := y) ?_ fun hy => ?_; rotate_left; clear_value y)
    | (intro y; clear_value y)
    | refine State.Kept.of_some (by with_reducible assumption) ?_
    | lift_lets -underBinder
    | split
    | with_reducible apply State.KeptIn.mkFst)

theorem State.fetchCtx_kept {σ : State} {c : Nat} {s : State} (hs : σ.Kept s) :
    σ.Kept (State.fetchCtx c s) := by
  unfold State.fetchCtx
  repeat' (first
    | with_reducible assumption
    | with_reducible apply State.setConn_kept
    | with_reducible apply State.bump_kept
    | with_reducible apply State.emit_kept
    | with_reducible refine State.Kept.ite (fun _ => ?_) (fun _ => ?_)
    | (intro y; refine State.Kept.cut (a := σ) (s := y) ?_ fun hy => ?_; rotate_left; clear_value y)
    | lift_lets -underBinder
    | split)

theorem State.withCtx_kept {σ : State} {c : Nat} {f : Conn → State → State} {s : State} (hf : ∀ x0 x1, σ.Kept x1 → σ.Kept (f x0 x1)) (hs : σ.Kept s) :
    σ.Kept (State.withCtx c f s) := by
  unfold State.withCtx
  repeat' (first
    | with_reducible assumption
    | apply hf
    | with_reducible apply State.setConn_kept
    | with_reducible apply State.fetchCtx_kept
    | split)

theorem execEvictionStart_kept {σ : State} {tower : Nat} {s : State} (hs : σ.Kept s) :
    σ.Answers (execEvictionStart tower s) := by
  unfold execEvictionStart
  repeat' (first
    | with_reducible assumption
    | with_reducible apply State.writeBack_kept
    | with_reducible apply State.setConn_kept
    | with_reducible apply State.Answers.next
    | with_reducible refine State.Answers.ite (fun _ => ?_) (fun _ => ?_)
    | lift_lets -underBinder
    | split
    | with_reducible apply State.KeptIn.fst)

theorem execEvictionRelease_kept {σ : State} {conn : Nat} {s : State} (hs : σ.Kept s) :
    σ.Answers (execEvictionRelease conn s) := by
  unfold execEvictionRelease
  repeat' (first
    | with_reducible assumption
    | with_reducible apply State.setConn_kept
    | with_reducible apply State.bump_kept
    | with_reducible apply State.Answers.next
    | split)

theorem execBackingWritebackError_kept {σ : State} {conn : Nat} {translation : Bool} {s : State} (hs : σ.Kept s) :
    σ.Answers (execBackingWritebackError conn translation s) := by
  unfold execBackingWritebackError
  repeat' (first
    | with_reducible assumption
    | with_reducible apply State.setConn_kept
    | with_reducible apply State.backingFailure_kept
    | with_reducible apply State.Answers.next
    | split)

theorem State.connCmd_kept {σ : State} {t : Nat} {target : Nat} {f : State → State} {s : State} (hf : ∀ x0, σ.Kept x0 → σ.Kept (f x0)) (hs : σ.Kept s) :
    σ.Kept (State.connCmd t target f s) := by
  unfold State.connCmd
  repeat' (first
    | with_reducible assumption
    | apply hf
    | with_reducible apply State.setFn_kept
    | with_reducible refine State.Kept.ite (fun _ => ?_) (fun _ => ?_))

theorem State.connResult_kept {σ : State} {t : Nat} {c : Nat} {code : Nat} {s : State} (hs : σ.Kept s) :
    σ.Kept (State.connResult t c code s) := by
  unfold State.connResult
  repeat' (first
    | with_reducible assumption
    | with_reducible apply State.setFn_kept)

theorem State.createConn_kept {σ : State} {t : Nat} {c : Nat} {s : State} (hs : σ.Kept s) :
    σ.Kept (State.createConn t c s) := by
  unfold State.createConn
  repeat' (first
    | with_reducible assumption
    | with_reducible apply State.connResult_kept
    | with_reducible apply State.setInc_kept
    | with_reducible apply State.setConn_kept
    | with_reducible refine State.Kept.ite (fun _ => ?_) (fun _ => ?_))

theorem execConnCreate_kept {σ : State} {t : Nat} {conn : Nat} {s : State} (hs : σ.Kept s) :
    σ.Answers (execConnCreate t conn s) := by
  unfold execConnCreate
  repeat' (first
    | with_reducible assumption
    | with_reducible apply State.connCmd_kept
    | with_reducible apply State.connResult_kept
    | with_reducible apply State.createConn_kept
    | with_reducible apply State.Answers.next
    | (intro)
    | lift_lets -underBinder
    | split)

theorem execConnBind_kept {σ : State} {t : Nat} {conn : Nat} {s : State} (hs : σ.Kept s) :
    σ.Answers (execConnBind t conn s) := by
  unfold execConnBind
  repeat' (first
    | with_reducible assumption
    | with_reducible apply State.connCmd_kept
    | with_reducible apply State.connResult_kept
    | with_reducible apply State.setConn_kept
    | with_reducible apply State.Answers.next
    | with_reducible refine State.Kept.ite (fun _ => ?_) (fun _ => ?_)
    | (intro)
    | lift_lets -underBinder
    | split)

theorem execConnModify_kept {σ : State} {t : Nat} {conn : Nat} {s : State} (hs : σ.Kept s) :
    σ.Answers (execConnModify t conn s) := by
  unfold execConnModify
  repeat' (first
    | with_reducible assumption
    | with_reducible apply State.connCmd_kept
    | with_reducible apply State.connResult_kept
    | with_reducible apply State.setConn_kept
    | with_reducible apply State.Answers.next
    | with_reducible refine State.Kept.ite (fun _ => ?_) (fun _ => ?_)
    | (intro)
    | lift_lets -underBinder
    | split)

theorem State.freeze_kept {σ : State} {c : Nat} {s : State} (hs : σ.Kept s) :
    σ.Kept (State.freeze c s) := by
  unfold State.freeze
  repeat' (first
    | with_reducible assumption
    | with_reducible apply State.setConn_kept
    | with_reducible refine State.Kept.ite (fun _ => ?_) (fun _ => ?_)
    | split)

theorem execConnFreeze_kept {σ : State} {t : Nat} {conn : Nat} {s : State} (hs : σ.Kept s) :
    σ.Answers (execConnFreeze t conn s) := by
  unfold execConnFreeze
  repeat' (first
    | with_reducible assumption
    | with_reducible apply State.connCmd_kept
    | with_reducible apply State.connResult_kept
    | with_reducible apply State.freeze_kept
    | with_reducible apply State.Answers.next
    | with_reducible refine State.Kept.ite (fun _ => ?_) (fun _ => ?_)
    | (intro)
    | lift_lets -underBinder
    | split)

theorem execFreezeComplete_kept {σ : State} {conn : Nat} {s : State} (hs : σ.Kept s) :
    σ.Answers (execFreezeComplete conn s) := by
  unfold execFreezeComplete
  repeat' (first
    | with_reducible assumption
    | with_reducible apply State.setConn_kept
    | with_reducible apply State.endConnCmd_kept
    | with_reducible apply State.Answers.next
    | with_reducible refine State.Answers.ite (fun _ => ?_) (fun _ => ?_)
    | split)

theorem State.thaw_kept {σ : State} {c : Nat} {s : State} (hs : σ.Kept s) :
    σ.Kept (State.thaw c s) := by
  unfold State.thaw
  repeat' (first
    | with_reducible assumption
    | with_reducible apply State.setConn_kept
    | with_reducible refine State.Kept.ite (fun _ => ?_) (fun _ => ?_)
    | split)

theorem execConnThaw_kept {σ : State} {t : Nat} {conn : Nat} {s : State} (hs : σ.Kept s) :
    σ.Answers (execConnThaw t conn s) := by
  unfold execConnThaw
  repeat' (first
    | with_reducible assumption
    | with_reducible apply State.connCmd_kept
    | with_reducible apply State.connResult_kept
    | with_reducible apply State.thaw_kept
    | with_reducible apply State.Answers.next
    | with_reducible refine State.Kept.ite (fun _ => ?_) (fun _ => ?_)
    | (intro)
    | lift_lets -underBinder
    | split)

theorem execConnDestroy_kept {σ : State} {t : Nat} {conn : Nat} {s : State} (hs : σ.Kept s) :
    σ.Answers (execConnDestroy t conn s) := by
  unfold execConnDestroy
  repeat' (first
    | with_reducible assumption
    | with_reducible apply State.connCmd_kept
    | with_reducible apply State.connResult_kept
    | with_reducible apply State.leaveDraining_kept
    | with_reducible apply State.setConn_kept
    | with_reducible apply State.Answers.next
    | with_reducible refine State.Kept.ite (fun _ => ?_) (fun _ => ?_)
    | (intro)
    | lift_lets -underBinder
    | split)

theorem execDrainExit_kept {σ : State} {conn : Nat} {s : State} (hs : σ.Kept s) :
    σ.Answers (execDrainExit conn s) := by
  unfold execDrainExit
  repeat' (first
    | with_reducible assumption
    | with_reducible apply State.leaveDraining_kept
    | with_reducible apply State.Answers.next
    | with_reducible refine State.Answers.ite (fun _ => ?_) (fun _ => ?_)
    | split)

theorem execQuarantineEnd_kept {σ : State} {conn : Nat} {s : State} (hs : σ.Kept s) :
    σ.Answers (execQuarantineEnd conn s) := by
  unfold execQuarantineEnd
  repeat' (first
    | with_reducible assumption
    | with_reducible apply State.Answers.next
    | with_reducible refine State.Answers.ite (fun _ => ?_) (fun _ => ?_)
    | exact State.Kept.of_record (by with_reducible assumption) rfl rfl rfl rfl rfl rfl rfl rfl rfl
    | split)

theorem execConnQuery_kept {σ : State} {t : Nat} {conn : Nat} {s : State} (hs : σ.Kept s) :
    σ.Answers (execConnQuery t conn s) := by
  unfold execConnQuery
  repeat' (first
    | with_reducible assumption
    | with_reducible apply State.connCmd_kept
    | with_reducible apply State.connResult_kept
    | with_reducible apply State.setFn_kept
    | with_reducible apply State.Answers.next
    | (intro)
    | lift_lets -underBinder
    | split)

theorem execConnFlush_kept {σ : State} {t : Nat} {conn : Nat} {s : State} (hs : σ.Kept s) :
    σ.Answers (execConnFlush t conn s) := by
  unfold execConnFlush
  repeat' (first
    | with_reducible assumption
    | with_reducible apply State.connCmd_kept
    | with_reducible apply State.connResult_kept
    | with_reducible apply State.writeBack_kept
    | with_reducible apply State.Answers.next
    | with_reducible refine State.Kept.ite (fun _ => ?_) (fun _ => ?_)
    | (intro)
    | lift_lets -underBinder
    | split
    | with_reducible apply State.KeptIn.fst)

theorem State.handleResult_kept {σ : State} {t : Nat} {code : Nat} {s : State} (hs : σ.Kept s) :
    σ.Kept (State.handleResult t code s) := by
  unfold State.handleResult
  repeat' (first
    | with_reducible assumption
    | with_reducible apply State.setFn_kept)

theorem execHandleWrite_kept {σ : State} {t : Nat} {handle : Nat} {s : State} (hs : σ.Kept s) :
    σ.Answers (execHandleWrite t handle s) := by
  unfold execHandleWrite
  repeat' (first
    | with_reducible assumption
    | with_reducible apply State.connCmd_kept
    | with_reducible apply State.handleResult_kept
    | with_reducible apply State.setHandle_kept
    | with_reducible apply State.Answers.next
    | with_reducible refine State.Kept.ite (fun _ => ?_) (fun _ => ?_)
    | (intro))

theorem execHandleRead_kept {σ : State} {t : Nat} {handle : Nat} {s : State} (hs : σ.Kept s) :
    σ.Answers (execHandleRead t handle s) := by
  unfold execHandleRead
  repeat' (first
    | with_reducible assumption
    | with_reducible apply State.connCmd_kept
    | with_reducible apply State.setFn_kept
    | with_reducible apply State.handleResult_kept
    | with_reducible apply State.Answers.next
    | with_reducible refine State.Kept.ite (fun _ => ?_) (fun _ => ?_)
    | (intro))

theorem execConnCmdUnknown_kept {σ : State} {t : Nat} {value : W64} {s : State} (hs : σ.Kept s) :
    σ.Answers (execConnCmdUnknown t value s) := by
  unfold execConnCmdUnknown
  repeat' (first
    | with_reducible assumption
    | with_reducible apply State.connCmd_kept
    | with_reducible apply State.handleResult_kept
    | with_reducible apply State.Answers.next
    | with_reducible refine State.Answers.ite (fun _ => ?_) (fun _ => ?_))

end Sys2Proof.Machine
end

