-- ==== Sys2Proof/Laws/KeptRealms.lean ====
section
/-! SUPPORT. What every command keeps: the operations of Machine/Realms.lean. -/
namespace Sys2Proof.Machine

theorem State.setRealm_kept {σ : State} {i : Nat} {r : Realm} {s : State} (hs : σ.Kept s) :
    σ.Kept (State.setRealm i r s) := by
  unfold State.setRealm
  repeat' (first
    | exact State.Kept.of_record (by with_reducible assumption) rfl rfl rfl rfl rfl rfl rfl rfl rfl)

theorem State.countLocalRefused_kept {σ : State} {t : Nat} {s : State} (hs : σ.Kept s) :
    σ.Kept (State.countLocalRefused t s) := by
  unfold State.countLocalRefused
  repeat' (first
    | with_reducible assumption
    | with_reducible apply State.setFn_kept)

theorem State.failLocal_kept {σ : State} {t : Nat} {e : EntryRef} {reason : Nat} {s : State} (hs : σ.Kept s) :
    σ.Kept (State.failLocal t e reason s) := by
  unfold State.failLocal
  repeat' (first
    | with_reducible assumption
    | with_reducible apply State.countLocalRefused_kept
    | with_reducible apply State.failEntry_kept)

theorem State.awaitPage_kept {σ : State} {t : Nat} {e : EntryRef} {pasid : Nat} {page : Nat} {write : Bool} {s : State} (hs : σ.Kept s) :
    σ.Kept (State.awaitPage t e pasid page write s) := by
  unfold State.awaitPage
  repeat' (first
    | with_reducible apply State.emit_kept
    | with_reducible apply State.runEntry_kept
    | exact State.Kept.of_record (by with_reducible assumption) rfl rfl rfl rfl rfl rfl rfl rfl rfl)

theorem State.countRemoteRefused_kept {σ : State} {key : W32} {t : Nat} {s : State} (hs : σ.Kept s) :
    σ.Kept (State.countRemoteRefused key t s) := by
  unfold State.countRemoteRefused
  repeat' (first
    | with_reducible assumption
    | with_reducible apply State.setFn_kept)

theorem State.realmCmd_kept {σ : State} {t : Nat} {target : Nat} {f : State → State} {s : State} (hf : ∀ x0, σ.Kept x0 → σ.Kept (f x0)) (hs : σ.Kept s) :
    σ.Kept (State.realmCmd t target f s) := by
  unfold State.realmCmd
  repeat' (first
    | with_reducible assumption
    | apply hf
    | with_reducible apply State.setFn_kept
    | with_reducible refine State.Kept.ite (fun _ => ?_) (fun _ => ?_))

theorem State.realmResult_kept {σ : State} {t : Nat} {code : Nat} {key : W32} {s : State} (hs : σ.Kept s) :
    σ.Kept (State.realmResult t code key s) := by
  unfold State.realmResult
  repeat' (first
    | with_reducible assumption
    | with_reducible apply State.setFn_kept)

theorem execRealmCreate_kept {σ : State} {t : Nat} {s : State} (hs : σ.Kept s) :
    σ.Answers (execRealmCreate t s) := by
  unfold execRealmCreate
  repeat' (first
    | with_reducible assumption
    | with_reducible apply State.realmCmd_kept
    | with_reducible apply State.realmResult_kept
    | with_reducible apply State.Answers.next
    | with_reducible refine State.Kept.ite (fun _ => ?_) (fun _ => ?_)
    | (intro)
    | exact State.Kept.of_record (by with_reducible assumption) rfl rfl rfl rfl rfl rfl rfl rfl rfl
    | lift_lets -underBinder
    | split)

theorem State.withRealm_kept {σ : State} {t : Nat} {i : Nat} {f : Realm → State → State} {s : State} (hf : ∀ x0 x1, σ.Kept x1 → σ.Kept (f x0 x1)) (hs : σ.Kept s) :
    σ.Kept (State.withRealm t i f s) := by
  unfold State.withRealm
  repeat' (first
    | with_reducible assumption
    | apply hf
    | with_reducible apply State.realmResult_kept
    | with_reducible refine State.Kept.ite (fun _ => ?_) (fun _ => ?_)
    | split)

theorem execRealmModify_kept {σ : State} {t : Nat} {realm : Nat} {s : State} (hs : σ.Kept s) :
    σ.Answers (execRealmModify t realm s) := by
  unfold execRealmModify
  repeat' (first
    | with_reducible assumption
    | with_reducible apply State.realmCmd_kept
    | with_reducible apply State.withRealm_kept
    | with_reducible apply State.realmResult_kept
    | with_reducible apply State.setRealm_kept
    | with_reducible apply State.Answers.next
    | with_reducible refine State.Kept.ite (fun _ => ?_) (fun _ => ?_)
    | (intro))

theorem execRealmRevoke_kept {σ : State} {t : Nat} {realm : Nat} {s : State} (hs : σ.Kept s) :
    σ.Answers (execRealmRevoke t realm s) := by
  unfold execRealmRevoke
  repeat' (first
    | with_reducible assumption
    | with_reducible apply State.realmCmd_kept
    | with_reducible apply State.withRealm_kept
    | with_reducible apply State.setRealm_kept
    | with_reducible apply State.Answers.next
    | (intro)
    | exact State.Kept.of_record (by with_reducible assumption) rfl rfl rfl rfl rfl rfl rfl rfl rfl)

theorem execRealmDestroy_kept {σ : State} {t : Nat} {realm : Nat} {s : State} (hs : σ.Kept s) :
    σ.Answers (execRealmDestroy t realm s) := by
  unfold execRealmDestroy
  repeat' (first
    | with_reducible assumption
    | with_reducible apply State.realmCmd_kept
    | with_reducible apply State.withRealm_kept
    | with_reducible apply State.setRealm_kept
    | with_reducible apply State.Answers.next
    | (intro))

theorem execRealmQuery_kept {σ : State} {t : Nat} {realm : Nat} {s : State} (hs : σ.Kept s) :
    σ.Answers (execRealmQuery t realm s) := by
  unfold execRealmQuery
  repeat' (first
    | with_reducible assumption
    | with_reducible apply State.realmCmd_kept
    | with_reducible apply State.withRealm_kept
    | with_reducible apply State.setFn_kept
    | with_reducible apply State.realmResult_kept
    | with_reducible apply State.Answers.next
    | (intro))

theorem execRealmCmdUnknown_kept {σ : State} {t : Nat} {value : W64} {s : State} (hs : σ.Kept s) :
    σ.Answers (execRealmCmdUnknown t value s) := by
  unfold execRealmCmdUnknown
  repeat' (first
    | with_reducible assumption
    | with_reducible apply State.realmCmd_kept
    | with_reducible apply State.realmResult_kept
    | with_reducible apply State.Answers.next
    | with_reducible refine State.Answers.ite (fun _ => ?_) (fun _ => ?_))

end Sys2Proof.Machine
end

