-- ==== Sys2Proof/Laws/KeptSender.lean ====
section
/-! SUPPORT. What every command keeps: the operations of Machine/Sender.lean. -/
namespace Sys2Proof.Machine

theorem State.post_kept {σ : State} {c : Nat} {m : TxMsg} {s : State} (hs : σ.Kept s) :
    σ.Kept (State.post c m s) := by
  unfold State.post
  repeat' (first
    | with_reducible assumption
    | with_reducible apply State.setConn_kept
    | split)

theorem State.voidMsg_kept {σ : State} {c : Nat} {msn : W32} {resp : Bool} {status : Status} {detail : Nat} {s : State} (hs : σ.Kept s) :
    σ.Kept (State.voidMsg c msn resp status detail s) := by
  unfold State.voidMsg
  repeat' (first
    | with_reducible assumption
    | with_reducible apply State.setConn_kept
    | with_reducible apply State.messageFail_kept
    | with_reducible refine State.Kept.ite (fun _ => ?_) (fun _ => ?_)
    | split)

theorem State.confirmTo_kept {σ : State} {c : Nat} {conf : W32} {s : State} (hs : σ.Kept s) :
    σ.Kept (State.confirmTo c conf s) := by
  unfold State.confirmTo
  repeat' (first
    | with_reducible assumption
    | with_reducible apply State.setConn_kept
    | with_reducible apply State.messageDone_kept
    | with_reducible refine State.Kept.ite (fun _ => ?_) (fun _ => ?_)
    | with_reducible apply State.Kept.foldl
    | (intro)
    | split)

theorem State.sample_kept {σ : State} {c : Nat} {path : Nat} {echo : W32} {rx : W32} {ce : Bool} {acked : Nat} {s : State} (hs : σ.Kept s) :
    σ.Kept (State.sample c path echo rx ce acked s) := by
  unfold State.sample
  repeat' (first
    | with_reducible assumption
    | with_reducible apply State.setConn_kept
    | with_reducible apply State.count_kept
    | with_reducible refine State.Kept.ite (fun _ => ?_) (fun _ => ?_)
    | split)

theorem State.takeAck_kept {σ : State} {c : Nat} {p : Packet} {s : State} (hs : σ.Kept s) :
    σ.Kept (State.takeAck c p s) := by
  unfold State.takeAck
  repeat' (first
    | with_reducible assumption
    | with_reducible apply State.bump_kept
    | with_reducible apply State.setConn_kept
    | with_reducible apply State.sample_kept
    | with_reducible refine State.Kept.ite (fun _ => ?_) (fun _ => ?_)
    | split)

theorem State.takeConfirm_kept {σ : State} {c : Nat} {p : Packet} {s : State} (hs : σ.Kept s) :
    σ.Kept (State.takeConfirm c p s) := by
  unfold State.takeConfirm
  repeat' (first
    | with_reducible assumption
    | with_reducible apply State.bump_kept
    | with_reducible apply State.setConn_kept
    | with_reducible apply State.confirmTo_kept
    | with_reducible refine State.Kept.ite (fun _ => ?_) (fun _ => ?_)
    | (intro y; refine State.Kept.cut (a := σ) (s := y) ?_ fun hy => ?_; rotate_left; clear_value y)
    | (intro y; clear_value y)
    | lift_lets -underBinder
    | split)

theorem State.exhausted_kept {σ : State} {c : Nat} {s : State} (hs : σ.Kept s) :
    σ.Kept (State.exhausted c s) := by
  unfold State.exhausted
  repeat' (first
    | with_reducible assumption
    | with_reducible apply State.bump_kept
    | with_reducible apply State.connError_kept
    | split)

theorem State.losePath_kept {σ : State} {c : Nat} {path : Nat} {s : State} (hs : σ.Kept s) :
    σ.Kept (State.losePath c path s) := by
  unfold State.losePath
  repeat' (first
    | with_reducible assumption
    | with_reducible apply State.setConn_kept
    | with_reducible apply State.count_kept
    | with_reducible refine State.Kept.ite (fun _ => ?_) (fun _ => ?_)
    | split)

theorem State.loseRate_kept {σ : State} {c : Nat} {s : State} (hs : σ.Kept s) :
    σ.Kept (State.loseRate c s) := by
  unfold State.loseRate
  repeat' (first
    | with_reducible assumption
    | with_reducible apply State.setConn_kept
    | with_reducible apply State.count_kept
    | with_reducible refine State.Kept.ite (fun _ => ?_) (fun _ => ?_)
    | split)

theorem State.halveRate_kept {σ : State} {c : Nat} {s : State} (hs : σ.Kept s) :
    σ.Kept (State.halveRate c s) := by
  unfold State.halveRate
  repeat' (first
    | with_reducible assumption
    | with_reducible apply State.setConn_kept
    | with_reducible apply State.bump_kept
    | with_reducible refine State.Kept.ite (fun _ => ?_) (fun _ => ?_)
    | split)

theorem State.oweCopy_kept {σ : State} {c : Nat} {psn : W32} {counts : Bool} {s : State} (hs : σ.Kept s) :
    σ.Kept (State.oweCopy c psn counts s) := by
  unfold State.oweCopy
  repeat' (first
    | with_reducible assumption
    | with_reducible apply State.exhausted_kept
    | with_reducible apply State.setConn_kept
    | with_reducible refine State.Kept.ite (fun _ => ?_) (fun _ => ?_)
    | split)

theorem State.declareLost_kept {σ : State} {c : Nat} {p : TxPkt} {s : State} (hs : σ.Kept s) :
    σ.Kept (State.declareLost c p s) := by
  unfold State.declareLost
  repeat' (first
    | with_reducible assumption
    | with_reducible apply State.bump_kept
    | with_reducible apply State.loseRate_kept
    | with_reducible apply State.losePath_kept
    | with_reducible apply State.oweCopy_kept)

theorem execLossDetect_kept {σ : State} {conn : Nat} {psn : W32} {s : State} (hs : σ.Kept s) :
    σ.Answers (execLossDetect conn psn s) := by
  unfold execLossDetect
  repeat' (first
    | with_reducible assumption
    | with_reducible apply State.withCtx_kept
    | with_reducible apply State.declareLost_kept
    | with_reducible apply State.Answers.next
    | with_reducible refine State.Kept.ite (fun _ => ?_) (fun _ => ?_)
    | (intro)
    | lift_lets -underBinder
    | split)

theorem State.countRetry_kept {σ : State} {c : Nat} {s : State} (hs : σ.Kept s) :
    σ.Kept (State.countRetry c s) := by
  unfold State.countRetry
  repeat' (first
    | with_reducible assumption
    | with_reducible apply State.exhausted_kept
    | with_reducible apply State.setConn_kept
    | with_reducible refine State.Kept.ite (fun _ => ?_) (fun _ => ?_)
    | split)

theorem execRtoExpire_kept {σ : State} {conn : Nat} {s : State} (hs : σ.Kept s) :
    σ.Answers (execRtoExpire conn s) := by
  unfold execRtoExpire
  repeat' (first
    | with_reducible assumption
    | with_reducible apply State.withCtx_kept
    | with_reducible apply State.halveRate_kept
    | with_reducible apply State.countRetry_kept
    | with_reducible apply State.setConn_kept
    | with_reducible apply State.bump_kept
    | with_reducible apply State.losePath_kept
    | with_reducible apply State.oweCopy_kept
    | with_reducible apply State.Answers.next
    | with_reducible refine State.Kept.ite (fun _ => ?_) (fun _ => ?_)
    | (intro y; refine State.Kept.cut (a := σ) (s := y) ?_ fun hy => ?_; rotate_left; clear_value y)
    | (intro y; clear_value y)
    | (intro)
    | lift_lets -underBinder
    | split)

theorem State.busyHold_kept {σ : State} {c : Nat} {psn : W32} {backoff : Nat} {s : State} (hs : σ.Kept s) :
    σ.Kept (State.busyHold c psn backoff s) := by
  unfold State.busyHold
  repeat' (first
    | with_reducible assumption
    | with_reducible apply State.setConn_kept
    | with_reducible apply State.exhausted_kept
    | with_reducible refine State.Kept.ite (fun _ => ?_) (fun _ => ?_)
    | split)

theorem State.notReady_kept {σ : State} {c : Nat} {psn : W32} {msn : W32} {backoff : Nat} {s : State} (hs : σ.Kept s) :
    σ.Kept (State.notReady c psn msn backoff s) := by
  unfold State.notReady
  repeat' (first
    | with_reducible assumption
    | with_reducible apply State.setConn_kept
    | with_reducible apply State.voidMsg_kept
    | with_reducible refine State.Kept.ite (fun _ => ?_) (fun _ => ?_)
    | split)

theorem State.takeNak_kept {σ : State} {c : Nat} {p : Packet} {s : State} (hs : σ.Kept s) :
    σ.Kept (State.takeNak c p s) := by
  unfold State.takeNak
  repeat' (first
    | with_reducible assumption
    | with_reducible apply State.busyHold_kept
    | with_reducible apply State.connError_kept
    | with_reducible apply State.bump_kept
    | with_reducible apply State.notReady_kept
    | with_reducible apply State.voidMsg_kept
    | with_reducible refine State.Kept.ite (fun _ => ?_) (fun _ => ?_)
    | split)

theorem execBusyHoldEnd_kept {σ : State} {conn : Nat} {s : State} (hs : σ.Kept s) :
    σ.Answers (execBusyHoldEnd conn s) := by
  unfold execBusyHoldEnd
  repeat' (first
    | with_reducible assumption
    | with_reducible apply State.withCtx_kept
    | with_reducible apply State.setConn_kept
    | with_reducible apply State.oweCopy_kept
    | with_reducible apply State.Answers.next
    | with_reducible refine State.Kept.ite (fun _ => ?_) (fun _ => ?_)
    | (intro)
    | lift_lets -underBinder
    | split)

theorem execRnrResend_kept {σ : State} {conn : Nat} {psn : W32} {s : State} (hs : σ.Kept s) :
    σ.Answers (execRnrResend conn psn s) := by
  unfold execRnrResend
  repeat' (first
    | with_reducible assumption
    | with_reducible apply State.withCtx_kept
    | with_reducible apply State.setConn_kept
    | with_reducible apply State.oweCopy_kept
    | with_reducible apply State.Answers.next
    | with_reducible refine State.Kept.ite (fun _ => ?_) (fun _ => ?_)
    | (intro)
    | lift_lets -underBinder
    | split)

theorem execConfirmQueryTimer_kept {σ : State} {conn : Nat} {s : State} (hs : σ.Kept s) :
    σ.Answers (execConfirmQueryTimer conn s) := by
  unfold execConfirmQueryTimer
  repeat' (first
    | with_reducible assumption
    | with_reducible apply State.withCtx_kept
    | with_reducible apply State.exhausted_kept
    | with_reducible apply State.setConn_kept
    | with_reducible apply State.sendControl_kept
    | with_reducible apply State.Answers.next
    | with_reducible refine State.Kept.ite (fun _ => ?_) (fun _ => ?_)
    | (intro))

end Sys2Proof.Machine
end

