-- ==== Sys2Proof/Laws/KeptTime.lean ====
section
/-! SUPPORT. What every command keeps: the operations of Machine/Time.lean. -/
namespace Sys2Proof.Machine

theorem State.countTicks_kept {σ : State} {n : Nat} {s : State} (hs : σ.Kept s) :
    σ.Kept (State.countTicks n s) := by
  unfold State.countTicks
  repeat' (first
    | with_reducible assumption
    | with_reducible apply State.count_kept
    | with_reducible refine State.Kept.ite (fun _ => ?_) (fun _ => ?_)
    | with_reducible apply State.Kept.foldl
    | (intro))

theorem State.timeTick_kept {σ : State} {s : State} (hs : σ.Kept s) :
    σ.Kept (State.timeTick s) := by
  unfold State.timeTick
  repeat' (first
    | with_reducible assumption
    | with_reducible apply State.countTicks_kept
    | with_reducible refine State.Kept.ite (fun _ => ?_) (fun _ => ?_)
    | (intro y; refine State.Kept.cut (a := σ) (s := y) ?_ fun hy => ?_; rotate_left; clear_value y)
    | (intro y; clear_value y)
    | exact State.Kept.of_record (by with_reducible assumption) rfl rfl rfl rfl rfl rfl rfl rfl rfl
    | lift_lets -underBinder)

theorem State.setTimeMode_kept {σ : State} {m : TimeMode} {s : State} (hs : σ.Kept s) :
    σ.Kept (State.setTimeMode m s) := by
  unfold State.setTimeMode
  repeat' (first
    | with_reducible assumption
    | with_reducible apply State.bump_kept
    | with_reducible apply State.packageEvent_kept
    | with_reducible refine State.Kept.ite (fun _ => ?_) (fun _ => ?_)
    | exact State.Kept.of_record (by with_reducible assumption) rfl rfl rfl rfl rfl rfl rfl rfl rfl
    | lift_lets -underBinder
    | split
    | refine State.Kept.of_record ?_ rfl rfl rfl rfl rfl rfl rfl rfl rfl)

theorem State.setRef_kept {σ : State} {r : TimeRef} {s : State} (hs : σ.Kept s) :
    σ.Kept (State.setRef r s) := by
  unfold State.setRef
  repeat' (first
    | exact State.Kept.of_record (by with_reducible assumption) rfl rfl rfl rfl rfl rfl rfl rfl rfl)

theorem State.acquire_kept {σ : State} {r : TimeRef} {s : State} (hs : σ.Kept s) :
    σ.Kept (State.acquire r s) := by
  unfold State.acquire
  repeat' (first
    | with_reducible assumption
    | with_reducible apply State.setRef_kept
    | with_reducible apply State.setTimeMode_kept)

theorem State.closeLoads_kept {σ : State} {s : State} (hs : σ.Kept s) :
    σ.Kept (State.closeLoads s) := by
  unfold State.closeLoads
  repeat' (first
    | exact State.Kept.of_record (by with_reducible assumption) rfl rfl rfl rfl rfl rfl rfl rfl rfl)

theorem State.repeatSlots_kept {σ : State} {s : State} (hs : σ.Kept s) :
    σ.Kept (State.repeatSlots s) := by
  unfold State.repeatSlots
  repeat' (first
    | with_reducible assumption
    | with_reducible apply State.closeLoads_kept
    | (intro y; refine State.Kept.cut (a := σ) (s := y) ?_ fun hy => ?_; rotate_left; clear_value y)
    | (intro y; clear_value y)
    | exact State.Kept.of_record (by with_reducible assumption) rfl rfl rfl rfl rfl rfl rfl rfl rfl
    | lift_lets -underBinder)

theorem State.stepTime_kept {σ : State} {q : Int} {s : State} (hs : σ.Kept s) :
    σ.Kept (State.stepTime q s) := by
  unfold State.stepTime
  repeat' (first
    | with_reducible assumption
    | with_reducible apply State.bump_kept
    | with_reducible apply State.repeatSlots_kept
    | with_reducible apply State.packageEvent_kept
    | with_reducible refine State.Kept.ite (fun _ => ?_) (fun _ => ?_)
    | (intro y; clear_value y)
    | lift_lets -underBinder
    | refine State.Kept.of_record ?_ rfl rfl rfl rfl rfl rfl rfl rfl rfl)

theorem State.slew_kept {σ : State} {q : Int} {s : State} (hs : σ.Kept s) :
    σ.Kept (State.slew q s) := by
  unfold State.slew
  repeat' (first
    | exact State.Kept.of_record (by with_reducible assumption) rfl rfl rfl rfl rfl rfl rfl rfl rfl)

theorem State.freeEstimate_kept {σ : State} {s : State} (hs : σ.Kept s) :
    σ.Kept (State.freeEstimate s) := by
  unfold State.freeEstimate
  repeat' (first
    | exact State.Kept.of_record (by with_reducible assumption) rfl rfl rfl rfl rfl rfl rfl rfl rfl
    | refine State.Kept.of_record ?_ rfl rfl rfl rfl rfl rfl rfl rfl rfl)

theorem State.countInBand_kept {σ : State} {q : Int} {s : State} (hs : σ.Kept s) :
    σ.Kept (State.countInBand q s) := by
  unfold State.countInBand
  repeat' (first
    | exact State.Kept.of_record (by with_reducible assumption) rfl rfl rfl rfl rfl rfl rfl rfl rfl)

theorem State.lockIfCounted_kept {σ : State} {s : State} (hs : σ.Kept s) :
    σ.Kept (State.lockIfCounted s) := by
  unfold State.lockIfCounted
  repeat' (first
    | with_reducible assumption
    | with_reducible apply State.setTimeMode_kept
    | with_reducible refine State.Kept.ite (fun _ => ?_) (fun _ => ?_))

theorem State.acceptOffset_kept {σ : State} {q : Int} {s : State} (hs : σ.Kept s) :
    σ.Kept (State.acceptOffset q s) := by
  unfold State.acceptOffset
  repeat' (first
    | with_reducible assumption
    | with_reducible apply State.stepTime_kept
    | with_reducible apply State.slew_kept
    | with_reducible apply State.countInBand_kept
    | with_reducible apply State.lockIfCounted_kept
    | with_reducible apply State.setTimeMode_kept
    | with_reducible apply State.freeEstimate_kept
    | with_reducible refine State.Kept.ite (fun _ => ?_) (fun _ => ?_)
    | (intro y; refine State.Kept.cut (a := σ) (s := y) ?_ fun hy => ?_; rotate_left; clear_value y)
    | (intro y; clear_value y)
    | (intro)
    | exact State.Kept.of_record (by with_reducible assumption) rfl rfl rfl rfl rfl rfl rfl rfl rfl
    | lift_lets -underBinder
    | split)

theorem State.loseRef_kept {σ : State} {s : State} (hs : σ.Kept s) :
    σ.Kept (State.loseRef s) := by
  unfold State.loseRef
  repeat' (first
    | with_reducible assumption
    | with_reducible apply State.setRef_kept
    | with_reducible apply State.setTimeMode_kept
    | (intro y; refine State.Kept.cut (a := σ) (s := y) ?_ fun hy => ?_; rotate_left; clear_value y)
    | (intro y; clear_value y)
    | exact State.Kept.of_record (by with_reducible assumption) rfl rfl rfl rfl rfl rfl rfl rfl rfl
    | lift_lets -underBinder
    | split)

theorem State.pickSelf_kept {σ : State} {s : State} (hs : σ.Kept s) :
    σ.Kept (State.pickSelf s) := by
  unfold State.pickSelf
  repeat' (first
    | with_reducible apply State.acquire_kept
    | with_reducible apply State.loseRef_kept
    | with_reducible apply State.setRef_kept
    | with_reducible apply State.setTimeMode_kept
    | with_reducible refine State.Kept.ite (fun _ => ?_) (fun _ => ?_)
    | (intro y; clear_value y)
    | exact State.Kept.of_record (by with_reducible assumption) rfl rfl rfl rfl rfl rfl rfl rfl rfl
    | lift_lets -underBinder
    | split)

theorem State.pickPort_kept {σ : State} {a : Announce} {p : Nat} {s : State} (hs : σ.Kept s) :
    σ.Kept (State.pickPort a p s) := by
  unfold State.pickPort
  repeat' (first
    | with_reducible apply State.acquire_kept
    | with_reducible apply State.setRef_kept
    | with_reducible refine State.Kept.ite (fun _ => ?_) (fun _ => ?_)
    | (intro y; refine State.Kept.cut (a := σ) (s := y) ?_ fun hy => ?_; rotate_left; clear_value y)
    | (intro y; clear_value y)
    | exact State.Kept.of_record (by with_reducible assumption) rfl rfl rfl rfl rfl rfl rfl rfl rfl
    | lift_lets -underBinder
    | split)

theorem State.select_kept {σ : State} {s : State} (hs : σ.Kept s) :
    σ.Kept (State.select s) := by
  unfold State.select
  repeat' (first
    | with_reducible assumption
    | with_reducible apply State.loseRef_kept
    | with_reducible apply State.pickSelf_kept
    | with_reducible apply State.pickPort_kept
    | with_reducible refine State.Kept.ite (fun _ => ?_) (fun _ => ?_)
    | split)

theorem execSyncSend_kept {σ : State} {port : Nat} {frac : Nat} {s : State} (hs : σ.Kept s) :
    σ.Answers (execSyncSend port frac s) := by
  unfold execSyncSend
  repeat' (first
    | with_reducible assumption
    | with_reducible apply State.emit_kept
    | with_reducible apply State.setTimePort_kept
    | with_reducible apply State.Answers.next
    | with_reducible refine State.Answers.ite (fun _ => ?_) (fun _ => ?_)
    | with_reducible refine State.Kept.ite (fun _ => ?_) (fun _ => ?_))

theorem State.answerSync_kept {σ : State} {port : Nat} {y : BitVec 192} {frac : Nat} {turn : Nat} {s : State} (hs : σ.Kept s) :
    σ.Kept (State.answerSync port y frac turn s) := by
  unfold State.answerSync
  repeat' (first
    | with_reducible assumption
    | with_reducible apply State.emit_kept)

theorem execSyncRx_kept {σ : State} {port : Nat} {sym : BitVec 192} {frac : Nat} {turn : Nat} {s : State} (hs : σ.Kept s) :
    σ.Answers (execSyncRx port sym frac turn s) := by
  unfold execSyncRx
  repeat' (first
    | with_reducible assumption
    | with_reducible apply State.answerSync_kept
    | with_reducible apply State.bump_kept
    | with_reducible apply State.Answers.next
    | with_reducible refine State.Answers.ite (fun _ => ?_) (fun _ => ?_)
    | with_reducible refine State.Kept.ite (fun _ => ?_) (fun _ => ?_))

theorem State.exchange_kept {σ : State} {port : Nat} {mean : Int} {offset : Int} {s : State} (hs : σ.Kept s) :
    σ.Kept (State.exchange port mean offset s) := by
  unfold State.exchange
  repeat' (first
    | with_reducible assumption
    | with_reducible apply State.bump_kept
    | with_reducible apply State.setTimePort_kept
    | with_reducible apply State.acceptOffset_kept
    | with_reducible refine State.Kept.ite (fun _ => ?_) (fun _ => ?_))

theorem State.takeEcho_kept {σ : State} {port : Nat} {y : BitVec 192} {frac : Nat} {s : State} (hs : σ.Kept s) :
    σ.Kept (State.takeEcho port y frac s) := by
  unfold State.takeEcho
  repeat' (first
    | with_reducible assumption
    | with_reducible apply State.setTimePort_kept
    | with_reducible apply State.exchange_kept
    | (intro y; clear_value y)
    | lift_lets -underBinder
    | split)

theorem execEchoRx_kept {σ : State} {port : Nat} {sym : BitVec 192} {frac : Nat} {s : State} (hs : σ.Kept s) :
    σ.Answers (execEchoRx port sym frac s) := by
  unfold execEchoRx
  repeat' (first
    | with_reducible assumption
    | with_reducible apply State.takeEcho_kept
    | with_reducible apply State.bump_kept
    | with_reducible apply State.Answers.next
    | with_reducible refine State.Answers.ite (fun _ => ?_) (fun _ => ?_)
    | with_reducible refine State.Kept.ite (fun _ => ?_) (fun _ => ?_))

theorem execSyncAbandon_kept {σ : State} {port : Nat} {seq : BitVec 8} {s : State} (hs : σ.Kept s) :
    σ.Answers (execSyncAbandon port seq s) := by
  unfold execSyncAbandon
  repeat' (first
    | with_reducible assumption
    | with_reducible apply State.setTimePort_kept
    | with_reducible apply State.Answers.next)

theorem State.takeAnnounce_kept {σ : State} {port : Nat} {a : Announce} {s : State} (hs : σ.Kept s) :
    σ.Kept (State.takeAnnounce port a s) := by
  unfold State.takeAnnounce
  repeat' (first
    | with_reducible assumption
    | with_reducible apply State.setTimePort_kept
    | with_reducible apply State.select_kept
    | with_reducible refine State.Kept.ite (fun _ => ?_) (fun _ => ?_))

theorem execAnnounceRx_kept {σ : State} {port : Nat} {sym : BitVec 192} {s : State} (hs : σ.Kept s) :
    σ.Answers (execAnnounceRx port sym s) := by
  unfold execAnnounceRx
  repeat' (first
    | with_reducible assumption
    | with_reducible apply State.takeAnnounce_kept
    | with_reducible apply State.bump_kept
    | with_reducible apply State.Answers.next
    | with_reducible refine State.Answers.ite (fun _ => ?_) (fun _ => ?_)
    | with_reducible refine State.Kept.ite (fun _ => ?_) (fun _ => ?_))

theorem State.withdraw_kept {σ : State} {port : Nat} {s : State} (hs : σ.Kept s) :
    σ.Kept (State.withdraw port s) := by
  unfold State.withdraw
  repeat' (first
    | with_reducible assumption
    | with_reducible apply State.setTimePort_kept
    | with_reducible apply State.loseRef_kept
    | with_reducible apply State.select_kept
    | with_reducible refine State.Kept.ite (fun _ => ?_) (fun _ => ?_))

theorem execAnnounceWithdraw_kept {σ : State} {port : Nat} {s : State} (hs : σ.Kept s) :
    σ.Answers (execAnnounceWithdraw port s) := by
  unfold execAnnounceWithdraw
  repeat' (first
    | with_reducible assumption
    | with_reducible apply State.withdraw_kept
    | with_reducible apply State.Answers.next
    | with_reducible refine State.Answers.ite (fun _ => ?_) (fun _ => ?_)
    | split)

theorem State.timeSymbol_kept {σ : State} {port : Nat} {y : BitVec 192} {frac : Nat} {turn : Nat} {s : State} (hs : σ.Kept s) :
    σ.Kept (State.timeSymbol port y frac turn s) := by
  unfold State.timeSymbol
  repeat' (first
    | with_reducible assumption
    | with_reducible apply State.answerSync_kept
    | with_reducible apply State.takeEcho_kept
    | with_reducible apply State.takeAnnounce_kept
    | with_reducible apply State.bump_kept
    | with_reducible refine State.Kept.ite (fun _ => ?_) (fun _ => ?_))

theorem execTimeSymbolRx_kept {σ : State} {port : Nat} {sym : BitVec 192} {frac : Nat} {turn : Nat} {s : State} (hs : σ.Kept s) :
    σ.Answers (execTimeSymbolRx port sym frac turn s) := by
  unfold execTimeSymbolRx
  repeat' (first
    | with_reducible assumption
    | with_reducible apply State.timeSymbol_kept
    | with_reducible apply State.Answers.next
    | with_reducible refine State.Answers.ite (fun _ => ?_) (fun _ => ?_))

theorem execReferenceLost_kept {σ : State} {s : State} (hs : σ.Kept s) :
    σ.Answers (execReferenceLost s) := by
  unfold execReferenceLost
  repeat' (first
    | with_reducible assumption
    | with_reducible apply State.loseRef_kept
    | with_reducible apply State.Answers.next
    | with_reducible refine State.Answers.ite (fun _ => ?_) (fun _ => ?_)
    | split)

theorem execHoldoverExpire_kept {σ : State} {s : State} (hs : σ.Kept s) :
    σ.Answers (execHoldoverExpire s) := by
  unfold execHoldoverExpire
  repeat' (first
    | with_reducible assumption
    | with_reducible apply State.setRef_kept
    | with_reducible apply State.setTimeMode_kept
    | with_reducible apply State.Answers.next
    | with_reducible refine State.Answers.ite (fun _ => ?_) (fun _ => ?_))

theorem execPpsOutEdge_kept {σ : State} {s : State} (hs : σ.Kept s) :
    σ.Answers (execPpsOutEdge s) := by
  unfold execPpsOutEdge
  repeat' (first
    | with_reducible assumption
    | with_reducible apply State.emit_kept
    | with_reducible apply State.Answers.next
    | with_reducible refine State.Answers.ite (fun _ => ?_) (fun _ => ?_)
    | (intro y; refine State.Kept.cut (a := σ) (s := y) ?_ fun hy => ?_; rotate_left; clear_value y)
    | (intro)
    | exact State.Kept.of_record (by with_reducible assumption) rfl rfl rfl rfl rfl rfl rfl rfl rfl
    | lift_lets -underBinder)

theorem execPpsOutFall_kept {σ : State} {s : State} (hs : σ.Kept s) :
    σ.Answers (execPpsOutFall s) := by
  unfold execPpsOutFall
  repeat' (first
    | with_reducible assumption
    | with_reducible apply State.emit_kept
    | with_reducible apply State.Answers.next
    | with_reducible refine State.Answers.ite (fun _ => ?_) (fun _ => ?_)
    | (intro y; refine State.Kept.cut (a := σ) (s := y) ?_ fun hy => ?_; rotate_left; clear_value y)
    | (intro)
    | exact State.Kept.of_record (by with_reducible assumption) rfl rfl rfl rfl rfl rfl rfl rfl rfl
    | lift_lets -underBinder)

theorem State.acceptPps_kept {σ : State} {q : Int} {s : State} (hs : σ.Kept s) :
    σ.Kept (State.acceptPps q s) := by
  unfold State.acceptPps
  repeat' (first
    | with_reducible apply State.acceptOffset_kept
    | with_reducible apply State.setRef_kept
    | with_reducible apply State.acquire_kept
    | with_reducible refine State.Kept.ite (fun _ => ?_) (fun _ => ?_)
    | (intro y; clear_value y)
    | exact State.Kept.of_record (by with_reducible assumption) rfl rfl rfl rfl rfl rfl rfl rfl rfl
    | lift_lets -underBinder
    | split)

theorem execPpsInEdge_kept {σ : State} {s : State} (hs : σ.Kept s) :
    σ.Answers (execPpsInEdge s) := by
  unfold execPpsInEdge
  repeat' (first
    | with_reducible assumption
    | with_reducible apply State.bump_kept
    | with_reducible apply State.acceptPps_kept
    | with_reducible apply State.Answers.next
    | with_reducible refine State.Answers.ite (fun _ => ?_) (fun _ => ?_)
    | exact State.Kept.of_record (by with_reducible assumption) rfl rfl rfl rfl rfl rfl rfl rfl rfl)

theorem State.losePps_kept {σ : State} {s : State} (hs : σ.Kept s) :
    σ.Kept (State.losePps s) := by
  unfold State.losePps
  repeat' (first
    | with_reducible assumption
    | with_reducible apply State.setRef_kept
    | with_reducible apply State.setTimeMode_kept
    | (intro y; refine State.Kept.cut (a := σ) (s := y) ?_ fun hy => ?_; rotate_left; clear_value y)
    | lift_lets -underBinder
    | split)

theorem execPpsReferenceLost_kept {σ : State} {s : State} (hs : σ.Kept s) :
    σ.Answers (execPpsReferenceLost s) := by
  unfold execPpsReferenceLost
  repeat' (first
    | with_reducible assumption
    | with_reducible apply State.losePps_kept
    | with_reducible apply State.Answers.next
    | with_reducible refine State.Answers.ite (fun _ => ?_) (fun _ => ?_)
    | (intro y; refine State.Kept.cut (a := σ) (s := y) ?_ fun hy => ?_; rotate_left; clear_value y)
    | (intro)
    | exact State.Kept.of_record (by with_reducible assumption) rfl rfl rfl rfl rfl rfl rfl rfl rfl
    | lift_lets -underBinder)

theorem State.ptpSend_kept {σ : State} {port : Nat} {type : Nat} {msg : Bytes} {s : State} (hs : σ.Kept s) :
    σ.Kept (State.ptpSend port type msg s) := by
  unfold State.ptpSend
  repeat' (first
    | with_reducible assumption
    | with_reducible apply State.emit_kept)

theorem State.ptpOffset_kept {σ : State} {port : Nat} {t1 : Int} {t2 : Int} {s : State} (hs : σ.Kept s) :
    σ.Kept (State.ptpOffset port t1 t2 s) := by
  unfold State.ptpOffset
  repeat' (first
    | with_reducible assumption
    | with_reducible apply State.setTimePort_kept
    | with_reducible apply State.exchange_kept
    | (intro y; refine State.Kept.cut (a := σ) (s := y) ?_ fun hy => ?_; rotate_left; clear_value y)
    | (intro y; clear_value y)
    | lift_lets -underBinder
    | split)

theorem State.ptpDelayAnswer_kept {σ : State} {port : Nat} {msg : Bytes} {rx : Nat} {s : State} (hs : σ.Kept s) :
    σ.Kept (State.ptpDelayAnswer port msg rx s) := by
  unfold State.ptpDelayAnswer
  repeat' (first
    | with_reducible assumption
    | with_reducible apply State.setTimePort_kept
    | with_reducible refine State.Kept.ite (fun _ => ?_) (fun _ => ?_)
    | (intro y; clear_value y)
    | lift_lets -underBinder
    | split)

theorem State.takePtp_kept {σ : State} {port : Nat} {msg : Bytes} {frac : Nat} {s : State} (hs : σ.Kept s) :
    σ.Kept (State.takePtp port msg frac s) := by
  unfold State.takePtp
  repeat' (first
    | with_reducible assumption
    | with_reducible apply State.ptpSend_kept
    | with_reducible apply State.setTimePort_kept
    | with_reducible apply State.ptpOffset_kept
    | with_reducible apply State.takeAnnounce_kept
    | with_reducible apply State.ptpDelayAnswer_kept
    | with_reducible refine State.Kept.ite (fun _ => ?_) (fun _ => ?_)
    | lift_lets -underBinder
    | split)

theorem execPtpMessageRx_kept {σ : State} {port : Nat} {msg : Bytes} {frac : Nat} {s : State} (hs : σ.Kept s) :
    σ.Answers (execPtpMessageRx port msg frac s) := by
  unfold execPtpMessageRx
  repeat' (first
    | with_reducible assumption
    | with_reducible apply State.takePtp_kept
    | with_reducible apply State.Answers.next
    | with_reducible refine State.Answers.ite (fun _ => ?_) (fun _ => ?_))

theorem execPtpSyncSend_kept {σ : State} {port : Nat} {frac : Nat} {s : State} (hs : σ.Kept s) :
    σ.Answers (execPtpSyncSend port frac s) := by
  unfold execPtpSyncSend
  repeat' (first
    | with_reducible assumption
    | with_reducible apply State.ptpSend_kept
    | with_reducible apply State.setTimePort_kept
    | with_reducible apply State.Answers.next
    | with_reducible refine State.Answers.ite (fun _ => ?_) (fun _ => ?_)
    | with_reducible refine State.Kept.ite (fun _ => ?_) (fun _ => ?_))

theorem execTriggerFire_kept {σ : State} {s : State} (hs : σ.Kept s) :
    σ.Answers (execTriggerFire s) := by
  unfold execTriggerFire
  repeat' (first
    | with_reducible assumption
    | with_reducible apply State.bump_kept
    | with_reducible apply State.setRing_kept
    | with_reducible apply State.Answers.next
    | with_reducible refine State.Kept.ite (fun _ => ?_) (fun _ => ?_)
    | (intro y; refine State.Kept.cut (a := σ) (s := y) ?_ fun hy => ?_; rotate_left; clear_value y)
    | (intro y; clear_value y)
    | exact State.Kept.of_record (by with_reducible assumption) rfl rfl rfl rfl rfl rfl rfl rfl rfl
    | lift_lets -underBinder
    | split)

end Sys2Proof.Machine
end

