-- ==== Sys2Proof/Laws/KeptForward.lean ====
section
/-! SUPPORT. What every command keeps: the operations of Machine/Forward.lean. -/
namespace Sys2Proof.Machine

theorem State.freeIngress_kept {σ : State} {port : Nat} {vc : Nat} {cls : Nat} {len : Nat} {s : State} (hs : σ.Kept s) :
    σ.Kept (State.freeIngress port vc cls len s) := by
  unfold State.freeIngress
  repeat' (first
    | with_reducible assumption
    | with_reducible apply State.setPort_kept)

theorem State.holdIngress_kept {σ : State} {port : Nat} {vc : Nat} {len : Nat} {s : State} (hs : σ.Kept s) :
    σ.Kept (State.holdIngress port vc len s) := by
  unfold State.holdIngress
  repeat' (first
    | with_reducible assumption
    | with_reducible apply State.setPort_kept)

theorem State.sendDatagram_kept {σ : State} {type : Nat} {dst : Nat} {path : Nat} {payload : Bytes} {s : State} (hs : σ.Kept s) :
    σ.KeptIn holdsFst (State.sendDatagram type dst path payload s) := by
  unfold State.sendDatagram
  repeat' (first
    | with_reducible assumption
    | with_reducible apply State.enqueue_kept
    | with_reducible refine State.KeptIn.ite (fun _ => ?_) (fun _ => ?_)
    | lift_lets -underBinder
    | split
    | with_reducible apply State.KeptIn.mkFst)

theorem State.armedTables_kept {σ : State} {k : Nat} {g : Nat} {s : State} (hs : σ.Kept s) :
    σ.KeptIn holdsFst (State.armedTables k g s) := by
  unfold State.armedTables
  repeat' (first
    | with_reducible assumption
    | with_reducible apply State.bump_kept
    | with_reducible refine State.KeptIn.ite (fun _ => ?_) (fun _ => ?_)
    | with_reducible apply State.KeptIn.mkFst)

theorem State.routeTables_kept {σ : State} {k : Nat} {g : Nat} {s : State} (hs : σ.Kept s) :
    σ.KeptIn holdsFst (State.routeTables k g s) := by
  unfold State.routeTables
  repeat' (first
    | with_reducible assumption
    | with_reducible apply State.bump_kept
    | with_reducible apply State.armedTables_kept
    | with_reducible refine State.KeptIn.ite (fun _ => ?_) (fun _ => ?_)
    | lift_lets -underBinder
    | split
    | with_reducible apply State.KeptIn.mkFst)

theorem State.notice_kept {σ : State} {p : Packet} {cause : Nat} {s : State} (hs : σ.Kept s) :
    σ.Kept (State.notice p cause s) := by
  unfold State.notice
  repeat' (first
    | with_reducible assumption
    | with_reducible apply State.sendDatagram_kept
    | with_reducible apply State.bump_kept
    | with_reducible refine State.Kept.ite (fun _ => ?_) (fun _ => ?_)
    | (intro y; refine State.Kept.cut (a := σ) (s := y) ?_ fun hy => ?_; rotate_left; clear_value y)
    | (intro y; clear_value y)
    | exact State.Kept.of_record (by with_reducible assumption) rfl rfl rfl rfl rfl rfl rfl rfl rfl
    | lift_lets -underBinder
    | with_reducible apply State.KeptIn.fst)

theorem State.forwardTo_kept {σ : State} {rx : Rx} {e : PortEntry} {check : Nat} {s : State} (hs : σ.Kept s) :
    σ.KeptIn holdsFst (State.forwardTo rx e check s) := by
  unfold State.forwardTo
  repeat' (first
    | with_reducible assumption
    | with_reducible apply State.bump_kept
    | with_reducible apply State.holdIngress_kept
    | with_reducible apply State.enqueue_kept
    | with_reducible refine State.KeptIn.ite (fun _ => ?_) (fun _ => ?_)
    | (intro y; clear_value y)
    | lift_lets -underBinder
    | with_reducible apply State.KeptIn.mkFst)

theorem State.transit_kept {σ : State} {rx : Rx} {set : ParamSet} {check : Nat} {s : State} (hs : σ.Kept s) :
    σ.Kept (State.transit rx set check s) := by
  unfold State.transit
  repeat' (first
    | with_reducible assumption
    | with_reducible apply State.freeIngress_kept
    | with_reducible apply State.bump_kept
    | with_reducible apply State.notice_kept
    | with_reducible apply State.forwardTo_kept
    | with_reducible refine State.Kept.ite (fun _ => ?_) (fun _ => ?_)
    | lift_lets -underBinder
    | split
    | with_reducible apply State.KeptIn.fst)

theorem execTransitRx_kept {σ : State} {rx : Rx} {check : Nat} {s : State} (hs : σ.Kept s) :
    σ.Answers (execTransitRx rx check s) := by
  unfold execTransitRx
  repeat' (first
    | with_reducible assumption
    | with_reducible apply State.bump_kept
    | with_reducible apply State.freeIngress_kept
    | with_reducible apply State.routeTables_kept
    | with_reducible apply State.transit_kept
    | with_reducible apply State.Answers.next
    | with_reducible refine State.Answers.ite (fun _ => ?_) (fun _ => ?_)
    | refine State.Kept.of_fst (by with_reducible assumption) ?_
    | lift_lets -underBinder
    | split)

theorem execTransitResidenceExpire_kept {σ : State} {port : Nat} {vc : Nat} {s : State} (hs : σ.Kept s) :
    σ.Answers (execTransitResidenceExpire port vc s) := by
  unfold execTransitResidenceExpire
  repeat' (first
    | with_reducible assumption
    | with_reducible apply State.setPort_kept
    | with_reducible apply State.freeIngress_kept
    | with_reducible apply State.bump_kept
    | with_reducible apply State.Answers.next
    | with_reducible refine State.Answers.ite (fun _ => ?_) (fun _ => ?_)
    | (intro y; clear_value y)
    | lift_lets -underBinder
    | split)

theorem State.sendAdvert_kept {σ : State} {port : Nat} {s : State} (hs : σ.Kept s) :
    σ.Kept (State.sendAdvert port s) := by
  unfold State.sendAdvert
  repeat' (first
    | with_reducible assumption
    | with_reducible apply State.emit_kept)

theorem execCreditBlockSend_kept {σ : State} {port : Nat} {s : State} (hs : σ.Kept s) :
    σ.Answers (execCreditBlockSend port s) := by
  unfold execCreditBlockSend
  repeat' (first
    | with_reducible assumption
    | with_reducible apply State.emit_kept
    | with_reducible apply State.setPort_kept
    | with_reducible apply State.Answers.next
    | with_reducible refine State.Answers.ite (fun _ => ?_) (fun _ => ?_))

theorem execCreditRx_kept {σ : State} {port : Nat} {block : Bytes} {s : State} (hs : σ.Kept s) :
    σ.Answers (execCreditRx port block s) := by
  unfold execCreditRx
  repeat' (first
    | with_reducible assumption
    | with_reducible apply State.setPort_kept
    | with_reducible apply State.Answers.next
    | with_reducible refine State.Answers.ite (fun _ => ?_) (fun _ => ?_))

theorem execAdvertRx_kept {σ : State} {port : Nat} {block : Bytes} {s : State} (hs : σ.Kept s) :
    σ.Answers (execAdvertRx port block s) := by
  unfold execAdvertRx
  repeat' (first
    | with_reducible assumption
    | with_reducible apply State.setPort_kept
    | with_reducible apply State.Answers.next
    | with_reducible refine State.Answers.ite (fun _ => ?_) (fun _ => ?_))

theorem State.openDatagram_kept {σ : State} {s : State} {p : Packet} (hs : σ.Kept s) :
    σ.KeptIn holdsError (State.openDatagram s p) := by
  unfold State.openDatagram
  repeat' (first
    | with_reducible assumption
    | with_reducible apply State.bump_kept
    | with_reducible refine State.KeptIn.ite (fun _ => ?_) (fun _ => ?_)
    | with_reducible exact State.KeptIn.notError
    | with_reducible apply State.KeptIn.ofError)

theorem State.takeDatagram_kept {σ : State} {rx : Rx} {f : State → State} {s : State} (hf : ∀ x0, σ.Kept x0 → σ.Kept (f x0)) (hs : σ.Kept s) :
    σ.Kept (State.takeDatagram rx f s) := by
  unfold State.takeDatagram
  repeat' (first
    | with_reducible assumption
    | apply hf
    | with_reducible apply State.freeIngress_kept
    | with_reducible apply State.bump_kept
    | with_reducible apply State.routeTables_kept
    | with_reducible apply State.transit_kept
    | with_reducible refine State.Kept.ite (fun _ => ?_) (fun _ => ?_)
    | refine State.Kept.of_fst (by with_reducible assumption) ?_
    | lift_lets -underBinder
    | split)

theorem State.enterPathDown_kept {σ : State} {key : Nat} {s : State} (hs : σ.Kept s) :
    σ.Kept (State.enterPathDown key s) := by
  unfold State.enterPathDown
  repeat' (first
    | exact State.Kept.of_record (by with_reducible assumption) rfl rfl rfl rfl rfl rfl rfl rfl rfl)

theorem State.takeNotice_kept {σ : State} {p : Packet} {s : State} (hs : σ.Kept s) :
    σ.Kept (State.takeNotice p s) := by
  unfold State.takeNotice
  repeat' (first
    | with_reducible assumption
    | with_reducible apply State.openDatagram_kept
    | with_reducible apply State.bump_kept
    | with_reducible apply State.enterPathDown_kept
    | with_reducible apply State.setConn_kept
    | with_reducible refine State.Kept.ite (fun _ => ?_) (fun _ => ?_)
    | with_reducible apply State.Kept.foldl
    | (intro)
    | refine State.Kept.of_error (by with_reducible assumption) ?_
    | split)

theorem execRouteDownRx_kept {σ : State} {rx : Rx} {s : State} (hs : σ.Kept s) :
    σ.Answers (execRouteDownRx rx s) := by
  unfold execRouteDownRx
  repeat' (first
    | with_reducible assumption
    | with_reducible apply State.takeDatagram_kept
    | with_reducible apply State.takeNotice_kept
    | with_reducible apply State.Answers.next)

theorem State.resetPath_kept {σ : State} {d : Nat} {p : Nat} {s : State} (hs : σ.Kept s) :
    σ.Kept (State.resetPath d p s) := by
  unfold State.resetPath
  repeat' (first
    | with_reducible assumption
    | with_reducible apply State.setConn_kept
    | with_reducible apply State.Kept.foldl
    | (intro))

theorem execPathDownExpire_kept {σ : State} {dst : Nat} {path : Nat} {s : State} (hs : σ.Kept s) :
    σ.Answers (execPathDownExpire dst path s) := by
  unfold execPathDownExpire
  repeat' (first
    | with_reducible assumption
    | with_reducible apply State.resetPath_kept
    | with_reducible apply State.Answers.next
    | with_reducible refine State.Answers.ite (fun _ => ?_) (fun _ => ?_)
    | exact State.Kept.of_record (by with_reducible assumption) rfl rfl rfl rfl rfl rfl rfl rfl rfl
    | split)

theorem execDrainEnd_kept {σ : State} {s : State} (hs : σ.Kept s) :
    σ.Answers (execDrainEnd s) := by
  unfold execDrainEnd
  repeat' (first
    | with_reducible assumption
    | with_reducible apply State.Answers.next
    | with_reducible refine State.Answers.ite (fun _ => ?_) (fun _ => ?_)
    | exact State.Kept.of_record (by with_reducible assumption) rfl rfl rfl rfl rfl rfl rfl rfl rfl)

end Sys2Proof.Machine
end

