-- ==== Sys2Proof/Laws/KeptReceiver.lean ====
section
/-! SUPPORT. What every command keeps: the operations of Machine/Receiver.lean. -/
namespace Sys2Proof.Machine

theorem State.sendAck_kept {σ : State} {c : Nat} {psn : W32} {tag : W32} {rxTag : W32} {echo : BitVec 8} {s : State} (hs : σ.Kept s) :
    σ.Kept (State.sendAck c psn tag rxTag echo s) := by
  unfold State.sendAck
  repeat' (first
    | with_reducible assumption
    | with_reducible apply State.setConn_kept
    | with_reducible apply State.sendControl_kept
    | split)

theorem State.sendConfirm_kept {σ : State} {c : Nat} {s : State} (hs : σ.Kept s) :
    σ.Kept (State.sendConfirm c s) := by
  unfold State.sendConfirm
  repeat' (first
    | with_reducible assumption
    | with_reducible apply State.sendControl_kept
    | split)

theorem State.sendRefusal_kept {σ : State} {c : Nat} {p : Packet} {code : Nat} {reason : Nat} {backoff : Nat} {s : State} (hs : σ.Kept s) :
    σ.Kept (State.sendRefusal c p code reason backoff s) := by
  unfold State.sendRefusal
  repeat' (first
    | with_reducible assumption
    | with_reducible apply State.sendControl_kept)

theorem State.answerBusy_kept {σ : State} {c : Nat} {rx : Rx} {backoff : Nat} {s : State} (hs : σ.Kept s) :
    σ.Kept (State.answerBusy c rx backoff s) := by
  unfold State.answerBusy
  repeat' (first
    | with_reducible assumption
    | with_reducible apply State.bump_kept
    | with_reducible apply State.sendNak_kept)

theorem State.answerStale_kept {σ : State} {c : Nat} {rx : Rx} {s : State} (hs : σ.Kept s) :
    σ.Kept (State.answerStale c rx s) := by
  unfold State.answerStale
  repeat' (first
    | with_reducible assumption
    | with_reducible apply State.bump_kept
    | with_reducible apply State.sendNak_kept)

theorem State.ackAccepted_kept {σ : State} {c : Nat} {before : Conn} {psn : W32} {tag : W32} {rxTag : W32} {echo : BitVec 8} {s : State} (hs : σ.Kept s) :
    σ.Kept (State.ackAccepted c before psn tag rxTag echo s) := by
  unfold State.ackAccepted
  repeat' (first
    | with_reducible assumption
    | with_reducible apply State.setConn_kept
    | with_reducible apply State.sendAck_kept
    | with_reducible refine State.Kept.ite (fun _ => ?_) (fun _ => ?_)
    | split)

theorem execAckTimer_kept {σ : State} {conn : Nat} {s : State} (hs : σ.Kept s) :
    σ.Answers (execAckTimer conn s) := by
  unfold execAckTimer
  repeat' (first
    | with_reducible assumption
    | with_reducible apply State.withCtx_kept
    | with_reducible apply State.sendAck_kept
    | with_reducible apply State.Answers.next
    | with_reducible refine State.Kept.ite (fun _ => ?_) (fun _ => ?_)
    | (intro)
    | lift_lets -underBinder
    | split)

theorem State.unreserve_kept {σ : State} {c : Nat} {msn : W32} {s : State} (hs : σ.Kept s) :
    σ.Kept (State.unreserve c msn s) := by
  unfold State.unreserve
  repeat' (first
    | with_reducible assumption
    | with_reducible apply State.setRing_kept
    | (intro y; clear_value y)
    | lift_lets -underBinder
    | split)

theorem State.raiseRing_kept {σ : State} {k : Nat} {s : State} (hs : σ.Kept s) :
    σ.Kept (State.raiseRing k s) := by
  unfold State.raiseRing
  repeat' (first
    | with_reducible assumption
    | with_reducible apply State.setRing_kept
    | with_reducible apply State.event_kept
    | with_reducible apply State.raiseMsix_kept
    | with_reducible refine State.Kept.ite (fun _ => ?_) (fun _ => ?_)
    | split)

theorem State.notifyWrite_kept {σ : State} {c : Nat} {m : RxMsg} {s : State} (hs : σ.Kept s) :
    σ.Kept (State.notifyWrite c m s) := by
  unfold State.notifyWrite
  repeat' (first
    | with_reducible assumption
    | with_reducible apply State.unreserve_kept
    | with_reducible apply State.placeWrite_kept
    | with_reducible apply State.setRing_kept
    | with_reducible apply State.raiseRing_kept
    | with_reducible refine State.Kept.ite (fun _ => ?_) (fun _ => ?_)
    | with_reducible apply State.Kept.getD
    | (intro y; refine State.Kept.cut (a := σ) (s := y) ?_ fun hy => ?_; rotate_left; clear_value y)
    | (intro y; clear_value y)
    | lift_lets -underBinder
    | split)

theorem execNotifyReservationExpire_kept {σ : State} {t : Nat} {ring : Nat} {conn : Nat} {msn : W32} {s : State} (hs : σ.Kept s) :
    σ.Answers (execNotifyReservationExpire t ring conn msn s) := by
  unfold execNotifyReservationExpire
  repeat' (first
    | with_reducible assumption
    | with_reducible apply State.setRing_kept
    | with_reducible apply State.bump_kept
    | with_reducible apply State.Answers.next
    | with_reducible refine State.Answers.ite (fun _ => ?_) (fun _ => ?_)
    | split)

theorem State.raiseArrived_kept {σ : State} {h : Nat} {d : Bytes} {first : Nat} {n : Nat} {s : State} (hs : σ.Kept s) :
    σ.Kept (State.raiseArrived h d first n s) := by
  unfold State.raiseArrived
  repeat' (first
    | with_reducible assumption
    | with_reducible refine State.Kept.ite (fun _ => ?_) (fun _ => ?_)
    | with_reducible apply State.Kept.foldl
    | (intro)
    | exact State.Kept.of_record (by with_reducible assumption) rfl rfl rfl rfl rfl rfl rfl rfl rfl)

theorem State.countArrived_kept {σ : State} {t : Nat} {m : RxMsg} {s : State} (hs : σ.Kept s) :
    σ.Kept (State.countArrived t m s) := by
  unfold State.countArrived
  repeat' (first
    | with_reducible assumption
    | with_reducible apply State.raiseArrived_kept
    | with_reducible refine State.Kept.ite (fun _ => ?_) (fun _ => ?_)
    | (intro y; clear_value y)
    | lift_lets -underBinder
    | split)

theorem State.announce_kept {σ : State} {c : Nat} {m : RxMsg} {s : State} (hs : σ.Kept s) :
    σ.Kept (State.announce c m s) := by
  unfold State.announce
  repeat' (first
    | with_reducible assumption
    | with_reducible apply State.unreserve_kept
    | with_reducible apply State.notifyWrite_kept
    | with_reducible apply State.countArrived_kept
    | with_reducible refine State.Kept.ite (fun _ => ?_) (fun _ => ?_)
    | lift_lets -underBinder
    | split)

theorem State.closeHead_kept {σ : State} {c : Nat} {m : RxMsg} {s : State} (hs : σ.Kept s) :
    σ.Kept (State.closeHead c m s) := by
  unfold State.closeHead
  repeat' (first
    | with_reducible assumption
    | with_reducible apply State.setConn_kept
    | with_reducible apply State.announce_kept
    | split)

theorem State.closeMany_kept {σ : State} : ∀ {n c : Nat} {s : State}, σ.Kept s → σ.KeptIn holdsFst (State.closeMany n c s)
  | 0, _, _, hs => State.KeptIn.mkFst hs
  | n + 1, c, s, hs => by
    unfold State.closeMany
    split
    · exact State.KeptIn.mkFst hs
    · split
      · exact State.KeptIn.mkFst hs
      · refine State.KeptIn.ite (fun _ => ?_) (fun _ => State.KeptIn.mkFst hs)
        exact State.KeptIn.mkFst (State.closeMany_kept (State.closeHead_kept hs)).fst

theorem State.closeReady_kept {σ : State} {c : Nat} {s : State} (hs : σ.Kept s) :
    σ.Kept (State.closeReady c s) := by
  unfold State.closeReady
  repeat' (first
    | with_reducible assumption
    | with_reducible apply State.closeMany_kept
    | with_reducible apply State.setConn_kept
    | with_reducible apply State.sendConfirm_kept
    | with_reducible refine State.Kept.ite (fun _ => ?_) (fun _ => ?_)
    | lift_lets -underBinder
    | split
    | with_reducible apply State.KeptIn.fst)

theorem State.recordRelaxed_kept {σ : State} {c : Nat} {p : Place} {a : Nat} {cross : Bool} {s : State} (hs : σ.Kept s) :
    σ.Kept (State.recordRelaxed c p a cross s) := by
  unfold State.recordRelaxed
  repeat' (first
    | with_reducible assumption
    | with_reducible apply State.setConn_kept
    | with_reducible refine State.Kept.ite (fun _ => ?_) (fun _ => ?_)
    | split)

theorem State.placementFailed_kept {σ : State} {c : Nat} {addr : Nat} {s : State} (hs : σ.Kept s) :
    σ.Kept (State.placementFailed c addr s) := by
  unfold State.placementFailed
  repeat' (first
    | with_reducible assumption
    | with_reducible apply State.logFault_kept
    | with_reducible apply State.connError_kept
    | split)

theorem State.place_kept {σ : State} {c : Nat} {p : Packet} {r : Realm} {s : State} (hs : σ.Kept s) :
    σ.Kept (State.place c p r s) := by
  unfold State.place
  repeat' (first
    | with_reducible assumption
    | with_reducible apply State.placeWrite_kept
    | with_reducible apply State.countStale_kept
    | with_reducible apply State.placementFailed_kept
    | with_reducible apply State.setConn_kept
    | with_reducible apply State.recordRelaxed_kept
    | with_reducible refine State.Kept.ite (fun _ => ?_) (fun _ => ?_)
    | refine State.Kept.of_some (by with_reducible assumption) ?_
    | lift_lets -underBinder
    | split)

theorem execPlacementWriteFail_kept {σ : State} {conn : Nat} {msn : W32} {own : Bool} {addr : W64} {s : State} (hs : σ.Kept s) :
    σ.Answers (execPlacementWriteFail conn msn own addr s) := by
  unfold execPlacementWriteFail
  repeat' (first
    | with_reducible assumption
    | with_reducible apply State.setConn_kept
    | with_reducible apply State.placementFailed_kept
    | with_reducible apply State.Answers.next
    | with_reducible refine State.Answers.ite (fun _ => ?_) (fun _ => ?_)
    | split)

theorem State.countBad_kept {σ : State} {c : Nat} {p : Packet} {crc : Bool} {s : State} (hs : σ.Kept s) :
    σ.Kept (State.countBad c p crc s) := by
  unfold State.countBad
  repeat' (first
    | with_reducible assumption
    | with_reducible apply State.bump_kept)

theorem State.followEpoch_kept {σ : State} {c : Nat} {s : State} (hs : σ.Kept s) :
    σ.Kept (State.followEpoch c s) := by
  unfold State.followEpoch
  repeat' (first
    | with_reducible assumption
    | with_reducible apply State.setConn_kept
    | with_reducible apply State.bump_kept
    | split)

theorem State.awaitKey_kept {σ : State} {k : KeyName} {arrived : Nat} {rx : Rx} {s : State} (hs : σ.Kept s) :
    σ.Kept (State.awaitKey k arrived rx s) := by
  unfold State.awaitKey
  repeat' (first
    | with_reducible assumption
    | with_reducible apply State.requestKey_kept
    | (intro y; refine State.Kept.cut (a := σ) (s := y) ?_ fun hy => ?_; rotate_left; clear_value y)
    | (intro y; clear_value y)
    | exact State.Kept.of_record (by with_reducible assumption) rfl rfl rfl rfl rfl rfl rfl rfl rfl
    | lift_lets -underBinder)

theorem State.police_kept {σ : State} {c : Nat} {rx : Rx} {s : State} (hs : σ.Kept s) :
    σ.KeptIn holdsFst (State.police c rx s) := by
  unfold State.police
  repeat' (first
    | with_reducible assumption
    | with_reducible apply State.bump_kept
    | with_reducible refine State.KeptIn.ite (fun _ => ?_) (fun _ => ?_)
    | exact State.Kept.of_record (by with_reducible assumption) rfl rfl rfl rfl rfl rfl rfl rfl rfl
    | lift_lets -underBinder
    | split
    | with_reducible apply State.KeptIn.mkFst)

theorem State.refuse_kept {σ : State} {c : Nat} {rx : Rx} {arrived : Nat} {reason : Nat} {s : State} (hs : σ.Kept s) :
    σ.Kept (State.refuse c rx arrived reason s) := by
  unfold State.refuse
  repeat' (first
    | with_reducible assumption
    | with_reducible apply State.setConn_kept
    | with_reducible apply State.countRemoteRefused_kept
    | with_reducible apply State.sendRefusal_kept
    | with_reducible apply State.ackAccepted_kept
    | with_reducible apply State.closeReady_kept
    | split)

theorem State.holdAccum_kept {σ : State} {h : AccHold} {rx : Rx} {s : State} (hs : σ.Kept s) :
    σ.Kept (State.holdAccum h rx s) := by
  unfold State.holdAccum
  repeat' (first
    | with_reducible assumption
    | with_reducible apply State.setPort_kept
    | with_reducible refine State.Kept.ite (fun _ => ?_) (fun _ => ?_)
    | (intro y; refine State.Kept.cut (a := σ) (s := y) ?_ fun hy => ?_; rotate_left; clear_value y)
    | (intro y; clear_value y)
    | (intro)
    | exact State.Kept.of_record (by with_reducible assumption) rfl rfl rfl rfl rfl rfl rfl rfl rfl
    | lift_lets -underBinder)

theorem State.readEnd_kept {σ : State} {c : Nat} {msn : W32} {s : State} (hs : σ.Kept s) :
    σ.Kept (State.readEnd c msn s) := by
  unfold State.readEnd
  repeat' (first
    | with_reducible assumption
    | with_reducible apply State.setConn_kept
    | with_reducible apply State.messageFail_kept
    | with_reducible apply State.messageDone_kept
    | with_reducible refine State.Kept.ite (fun _ => ?_) (fun _ => ?_)
    | split)

theorem State.takeResponse_kept {σ : State} {c : Nat} {rx : Rx} {arrived : Nat} {p : Packet} {s : State} (hs : σ.Kept s) :
    σ.Kept (State.takeResponse c rx arrived p s) := by
  unfold State.takeResponse
  repeat' (first
    | with_reducible assumption
    | with_reducible apply State.setConn_kept
    | with_reducible apply State.readEnd_kept
    | with_reducible apply State.holdAccum_kept
    | with_reducible apply State.countLocalRefused_kept
    | with_reducible apply State.voidMsg_kept
    | with_reducible apply State.placeWrite_kept
    | with_reducible apply State.countStale_kept
    | with_reducible refine State.Kept.ite (fun _ => ?_) (fun _ => ?_)
    | (intro y; clear_value y)
    | refine State.Kept.of_some (by with_reducible assumption) ?_
    | lift_lets -underBinder
    | split)

theorem State.accept_kept {σ : State} {c : Nat} {rx : Rx} {arrived : Nat} {p : Packet} {realm : Option Realm} {s : State} (hs : σ.Kept s) :
    σ.Kept (State.accept c rx arrived p realm s) := by
  unfold State.accept
  repeat' (first
    | with_reducible assumption
    | with_reducible apply State.setConn_kept
    | with_reducible apply State.holdAccum_kept
    | with_reducible apply State.takeResponse_kept
    | with_reducible apply State.place_kept
    | with_reducible apply State.setRing_kept
    | with_reducible apply State.ackAccepted_kept
    | with_reducible apply State.closeReady_kept
    | with_reducible refine State.Kept.ite (fun _ => ?_) (fun _ => ?_)
    | (intro y; clear_value y)
    | lift_lets -underBinder
    | split)

theorem State.dataPacket_kept {σ : State} {c : Nat} {rx : Rx} {arrived : Nat} {resumed : Bool} {s : State} (hs : σ.Kept s) :
    σ.Kept (State.dataPacket c rx arrived resumed s) := by
  unfold State.dataPacket
  repeat' (first
    | with_reducible assumption
    | with_reducible apply State.bump_kept
    | with_reducible apply State.setConn_kept
    | with_reducible apply State.sendAck_kept
    | with_reducible apply State.police_kept
    | with_reducible apply State.refuse_kept
    | with_reducible apply State.answerStale_kept
    | with_reducible apply State.sendRefusal_kept
    | with_reducible apply State.countBad_kept
    | with_reducible apply State.followEpoch_kept
    | with_reducible apply State.awaitKey_kept
    | with_reducible apply State.accept_kept
    | with_reducible refine State.KeptIn.ite (fun _ => ?_) (fun _ => ?_)
    | with_reducible refine State.Kept.ite (fun _ => ?_) (fun _ => ?_)
    | (intro y; refine State.Kept.cut (a := σ) (s := y) ?_ fun hy => ?_; rotate_left; clear_value y)
    | (intro y; clear_value y)
    | lift_lets -underBinder
    | split
    | with_reducible apply State.KeptIn.mkFst
    | with_reducible apply State.KeptIn.fst)

theorem State.controlPacket_kept {σ : State} {c : Nat} {rx : Rx} {arrived : Nat} {s : State} (hs : σ.Kept s) :
    σ.Kept (State.controlPacket c rx arrived s) := by
  unfold State.controlPacket
  repeat' (first
    | with_reducible assumption
    | with_reducible apply State.takeAck_kept
    | with_reducible apply State.takeNak_kept
    | with_reducible apply State.takeConfirm_kept
    | with_reducible apply State.sendConfirm_kept
    | with_reducible apply State.countBad_kept
    | with_reducible apply State.awaitKey_kept
    | with_reducible apply State.followEpoch_kept
    | (intro y; refine State.Kept.cut2 (a := σ) (f := y) ?_ fun hf2 => ?_; rotate_left; clear_value y)
    | with_reducible apply hf2
    | (intro y; clear_value y)
    | (intro)
    | lift_lets -underBinder
    | split
    | refine State.Kept.of_record ?_ rfl rfl rfl rfl rfl rfl rfl rfl rfl)

theorem State.withConn_kept {σ : State} {c : Nat} {rx : Rx} {arrived : Nat} {s : State} (hs : σ.Kept s) :
    σ.Kept (State.withConn c rx arrived s) := by
  unfold State.withConn
  repeat' (first
    | with_reducible assumption
    | with_reducible apply State.answerStale_kept
    | with_reducible apply State.bump_kept
    | with_reducible apply State.controlPacket_kept
    | with_reducible apply State.answerBusy_kept
    | with_reducible apply State.dataPacket_kept
    | with_reducible refine State.Kept.ite (fun _ => ?_) (fun _ => ?_)
    | (intro y; clear_value y)
    | lift_lets -underBinder
    | split)

theorem State.missPacket_kept {σ : State} {c : Nat} {x : Conn} {rx : Rx} {s : State} (hs : σ.Kept s) :
    σ.Kept (State.missPacket c x rx s) := by
  unfold State.missPacket
  repeat' (first
    | with_reducible assumption
    | with_reducible apply State.answerStale_kept
    | with_reducible apply State.fetchCtx_kept
    | with_reducible apply State.setRo_kept
    | with_reducible apply State.answerBusy_kept
    | with_reducible apply State.bump_kept
    | with_reducible refine State.Kept.ite (fun _ => ?_) (fun _ => ?_)
    | exact State.Kept.of_record (by with_reducible assumption) rfl rfl rfl rfl rfl rfl rfl rfl rfl)

theorem State.atHome_kept {σ : State} {rx : Rx} {s : State} (hs : σ.Kept s) :
    σ.Kept (State.atHome rx s) := by
  unfold State.atHome
  repeat' (first
    | with_reducible assumption
    | with_reducible apply State.withConn_kept
    | with_reducible apply State.setConn_kept
    | with_reducible apply State.missPacket_kept
    | with_reducible refine State.Kept.ite (fun _ => ?_) (fun _ => ?_)
    | (intro y; clear_value y)
    | lift_lets -underBinder
    | split)

theorem State.receive_kept {σ : State} {rx : Rx} {s : State} (hs : σ.Kept s) :
    σ.Kept (State.receive rx s) := by
  unfold State.receive
  repeat' (first
    | with_reducible assumption
    | with_reducible apply State.trace_kept
    | with_reducible apply State.freeIngress_kept
    | with_reducible apply State.bump_kept
    | with_reducible apply State.routeTables_kept
    | with_reducible apply State.transit_kept
    | with_reducible apply State.atHome_kept
    | with_reducible refine State.Kept.ite (fun _ => ?_) (fun _ => ?_)
    | refine State.Kept.of_fst (by with_reducible assumption) ?_
    | lift_lets -underBinder
    | split)

theorem State.receiveType_kept {σ : State} {type : Nat} {rx : Rx} {s : State} (hs : σ.Kept s) :
    σ.Kept (State.receiveType type rx s) := by
  unfold State.receiveType
  repeat' (first
    | with_reducible assumption
    | with_reducible apply State.receive_kept
    | with_reducible refine State.Kept.ite (fun _ => ?_) (fun _ => ?_))

theorem execPktWriteRx_kept {σ : State} {rx : Rx} {s : State} (hs : σ.Kept s) :
    σ.Answers (execPktWriteRx rx s) := by
  unfold execPktWriteRx
  repeat' (first
    | with_reducible assumption
    | with_reducible apply State.receiveType_kept
    | with_reducible apply State.Answers.next)

theorem execPktWriteImmRx_kept {σ : State} {rx : Rx} {s : State} (hs : σ.Kept s) :
    σ.Answers (execPktWriteImmRx rx s) := by
  unfold execPktWriteImmRx
  repeat' (first
    | with_reducible assumption
    | with_reducible apply State.receiveType_kept
    | with_reducible apply State.Answers.next)

theorem execPktReadReqRx_kept {σ : State} {rx : Rx} {s : State} (hs : σ.Kept s) :
    σ.Answers (execPktReadReqRx rx s) := by
  unfold execPktReadReqRx
  repeat' (first
    | with_reducible assumption
    | with_reducible apply State.receiveType_kept
    | with_reducible apply State.Answers.next)

theorem execPktReadRespRx_kept {σ : State} {rx : Rx} {s : State} (hs : σ.Kept s) :
    σ.Answers (execPktReadRespRx rx s) := by
  unfold execPktReadRespRx
  repeat' (first
    | with_reducible assumption
    | with_reducible apply State.receiveType_kept
    | with_reducible apply State.Answers.next)

theorem execPktAccumRx_kept {σ : State} {rx : Rx} {s : State} (hs : σ.Kept s) :
    σ.Answers (execPktAccumRx rx s) := by
  unfold execPktAccumRx
  repeat' (first
    | with_reducible assumption
    | with_reducible apply State.receiveType_kept
    | with_reducible apply State.Answers.next)

theorem execPktFlushReqRx_kept {σ : State} {rx : Rx} {s : State} (hs : σ.Kept s) :
    σ.Answers (execPktFlushReqRx rx s) := by
  unfold execPktFlushReqRx
  repeat' (first
    | with_reducible assumption
    | with_reducible apply State.receiveType_kept
    | with_reducible apply State.Answers.next)

theorem execPktVoidRx_kept {σ : State} {rx : Rx} {s : State} (hs : σ.Kept s) :
    σ.Answers (execPktVoidRx rx s) := by
  unfold execPktVoidRx
  repeat' (first
    | with_reducible assumption
    | with_reducible apply State.receiveType_kept
    | with_reducible apply State.Answers.next)

theorem execAckRx_kept {σ : State} {rx : Rx} {s : State} (hs : σ.Kept s) :
    σ.Answers (execAckRx rx s) := by
  unfold execAckRx
  repeat' (first
    | with_reducible assumption
    | with_reducible apply State.receiveType_kept
    | with_reducible apply State.Answers.next)

theorem execNakRx_kept {σ : State} {rx : Rx} {s : State} (hs : σ.Kept s) :
    σ.Answers (execNakRx rx s) := by
  unfold execNakRx
  repeat' (first
    | with_reducible assumption
    | with_reducible apply State.receiveType_kept
    | with_reducible apply State.Answers.next)

theorem execMsgConfirmRx_kept {σ : State} {rx : Rx} {s : State} (hs : σ.Kept s) :
    σ.Answers (execMsgConfirmRx rx s) := by
  unfold execMsgConfirmRx
  repeat' (first
    | with_reducible assumption
    | with_reducible apply State.receiveType_kept
    | with_reducible apply State.Answers.next)

theorem execConfirmQueryRx_kept {σ : State} {rx : Rx} {s : State} (hs : σ.Kept s) :
    σ.Answers (execConfirmQueryRx rx s) := by
  unfold execConfirmQueryRx
  repeat' (first
    | with_reducible assumption
    | with_reducible apply State.receiveType_kept
    | with_reducible apply State.Answers.next)

theorem State.runMisses_kept {σ : State} {c : Nat} {s : State} (hs : σ.Kept s) :
    σ.Kept (State.runMisses c s) := by
  unfold State.runMisses
  repeat' (first
    | with_reducible apply State.withConn_kept
    | with_reducible apply State.Kept.foldl
    | (intro)
    | exact State.Kept.of_record (by with_reducible assumption) rfl rfl rfl rfl rfl rfl rfl rfl rfl)

theorem execContextInstall_kept {σ : State} {conn : Nat} {ans : MemAns} {s : State} (hs : σ.Kept s) :
    σ.Answers (execContextInstall conn ans s) := by
  unfold execContextInstall
  repeat' (first
    | with_reducible assumption
    | with_reducible apply State.setConn_kept
    | with_reducible apply State.backingFailure_kept
    | with_reducible apply State.runMisses_kept
    | with_reducible apply State.readFailed_kept
    | with_reducible apply State.Answers.next
    | with_reducible refine State.Answers.ite (fun _ => ?_) (fun _ => ?_)
    | lift_lets -underBinder
    | split
    | refine State.Kept.of_record ?_ rfl rfl rfl rfl rfl rfl rfl rfl rfl)

theorem execReadStart_kept {σ : State} {conn : Nat} {s : State} (hs : σ.Kept s) :
    σ.Answers (execReadStart conn s) := by
  unfold execReadStart
  repeat' (first
    | with_reducible assumption
    | with_reducible apply State.withCtx_kept
    | with_reducible apply State.setConn_kept
    | with_reducible apply State.closeReady_kept
    | with_reducible apply State.Answers.next
    | with_reducible refine State.Kept.ite (fun _ => ?_) (fun _ => ?_)
    | (intro y; clear_value y)
    | (intro)
    | lift_lets -underBinder
    | split)

theorem State.failResponses_kept {σ : State} {c : Nat} {msn : W32} {addr : Nat} {s : State} (hs : σ.Kept s) :
    σ.Kept (State.failResponses c msn addr s) := by
  unfold State.failResponses
  repeat' (first
    | with_reducible assumption
    | with_reducible apply State.logFault_kept
    | with_reducible apply State.voidMsg_kept
    | with_reducible refine State.Kept.ite (fun _ => ?_) (fun _ => ?_)
    | split)

theorem execTargetReadFail_kept {σ : State} {conn : Nat} {msn : W32} {addr : W64} {s : State} (hs : σ.Kept s) :
    σ.Answers (execTargetReadFail conn msn addr s) := by
  unfold execTargetReadFail
  repeat' (first
    | with_reducible assumption
    | with_reducible apply State.failResponses_kept
    | with_reducible apply State.Answers.next)

theorem State.flushReads_kept {σ : State} {_c : Nat} {x : Conn} {s : State} (hs : σ.Kept s) :
    σ.KeptIn holdsFst (State.flushReads _c x s) := by
  unfold State.flushReads
  repeat' (first
    | with_reducible assumption
    | with_reducible apply State.emit_kept
    | with_reducible apply State.Kept.foldl
    | (intro)
    | with_reducible apply State.KeptIn.mkFst)

theorem State.emitReads_kept {σ : State} {p : Place} {a : Nat} {n : Nat} {s : State} (hs : σ.Kept s) :
    σ.Kept (State.emitReads p a n s) := by
  unfold State.emitReads
  repeat' (first
    | with_reducible assumption
    | with_reducible apply State.emit_kept
    | with_reducible apply State.Kept.foldl
    | (intro))

theorem execReadbackIssue_kept {σ : State} {conn : Nat} {msn : W32} {own : Bool} {s : State} (hs : σ.Kept s) :
    σ.Answers (execReadbackIssue conn msn own s) := by
  unfold execReadbackIssue
  repeat' (first
    | with_reducible assumption
    | with_reducible apply State.setConn_kept
    | with_reducible apply State.countSquashed_kept
    | with_reducible apply State.messageFail_kept
    | with_reducible apply State.emitReads_kept
    | with_reducible apply State.flushReads_kept
    | with_reducible apply State.closeReady_kept
    | with_reducible apply State.Answers.next
    | with_reducible refine State.Answers.ite (fun _ => ?_) (fun _ => ?_)
    | lift_lets -underBinder
    | split
    | with_reducible apply State.KeptIn.fst)

theorem State.ownReadDone_kept {σ : State} {conn : Nat} {msn : W32} {ok : Bool} {s : State} (hs : σ.Kept s) :
    σ.Kept (State.ownReadDone conn msn ok s) := by
  unfold State.ownReadDone
  repeat' (first
    | with_reducible assumption
    | with_reducible apply State.setConn_kept
    | with_reducible apply State.messageFail_kept
    | with_reducible apply State.messageDone_kept
    | with_reducible refine State.Kept.ite (fun _ => ?_) (fun _ => ?_)
    | split)

theorem State.peerReadDone_kept {σ : State} {conn : Nat} {msn : W32} {ok : Bool} {s : State} (hs : σ.Kept s) :
    σ.Kept (State.peerReadDone conn msn ok s) := by
  unfold State.peerReadDone
  repeat' (first
    | with_reducible assumption
    | with_reducible apply State.setConn_kept
    | with_reducible apply State.closeReady_kept
    | with_reducible apply State.placementFailed_kept
    | with_reducible refine State.Kept.ite (fun _ => ?_) (fun _ => ?_)
    | split)

theorem State.runWaits_kept {σ : State} {k : KeyName} {s : State} (hs : σ.Kept s) :
    σ.Kept (State.runWaits k s) := by
  unfold State.runWaits
  repeat' (first
    | with_reducible assumption
    | with_reducible apply State.dataPacket_kept
    | with_reducible apply State.controlPacket_kept
    | with_reducible refine State.Kept.ite (fun _ => ?_) (fun _ => ?_)
    | with_reducible apply State.Kept.foldl
    | (intro)
    | exact State.Kept.of_record (by with_reducible assumption) rfl rfl rfl rfl rfl rfl rfl rfl rfl)

theorem execKeyDerived_kept {σ : State} {tower : Nat} {s : State} (hs : σ.Kept s) :
    σ.Answers (execKeyDerived tower s) := by
  unfold execKeyDerived
  repeat' (first
    | with_reducible assumption
    | with_reducible apply State.installKey_kept
    | with_reducible apply State.runWaits_kept
    | with_reducible apply State.Answers.next
    | split)

end Sys2Proof.Machine
end

