-- ==== Sys2Proof/Laws/KeptEntry.lean ====
section
/-! SUPPORT. What every command keeps: the operations of Machine/Entry.lean. -/
namespace Sys2Proof.Machine

theorem State.withNeeds_kept {σ : State} {t : Nat} {e : EntryRef} {ns : List Need} {f : List Realm → State → State} {s : State} (hf : ∀ x0 x1, σ.Kept x1 → σ.Kept (f x0 x1)) (hs : σ.Kept s) :
    σ.Kept (State.withNeeds t e ns f s) := by
  unfold State.withNeeds
  repeat' (first
    | with_reducible assumption
    | apply hf
    | with_reducible apply State.failLocal_kept
    | with_reducible apply State.awaitPage_kept
    | with_reducible apply State.failEntry_kept
    | with_reducible apply State.countSquashed_kept
    | with_reducible refine State.Kept.ite (fun _ => ?_) (fun _ => ?_)
    | split)

theorem State.endAfterReads_kept {σ : State} {e : EntryRef} {p : Place} {a : Nat} {cross : Bool} {s : State} (hs : σ.Kept s) :
    σ.Kept (State.endAfterReads e p a cross s) := by
  unfold State.endAfterReads
  repeat' (first
    | with_reducible assumption
    | with_reducible apply State.endEntry_kept
    | with_reducible apply State.countSquashed_kept
    | with_reducible apply State.failEntry_kept
    | with_reducible apply State.emitReads_kept
    | with_reducible refine State.Kept.ite (fun _ => ?_) (fun _ => ?_)
    | (intro y; refine State.Kept.cut (a := σ) (s := y) ?_ fun hy => ?_; rotate_left; clear_value y)
    | exact State.Kept.of_record (by with_reducible assumption) rfl rfl rfl rfl rfl rfl rfl rfl rfl
    | lift_lets -underBinder)

theorem State.localReadDone_kept {σ : State} {e : EntryRef} {ok : Bool} {s : State} (hs : σ.Kept s) :
    σ.KeptIn holdsFst (State.localReadDone e ok s) := by
  unfold State.localReadDone
  repeat' (first
    | with_reducible assumption
    | with_reducible apply State.failEntry_kept
    | with_reducible refine State.KeptIn.ite (fun _ => ?_) (fun _ => ?_)
    | exact State.Kept.of_record (by with_reducible assumption) rfl rfl rfl rfl rfl rfl rfl rfl rfl
    | lift_lets -underBinder
    | split
    | with_reducible apply State.KeptIn.mkFst)

end Sys2Proof.Machine
end

