-- ==== Sys2Proof/Laws/KeptCupola.lean ====
section
/-! SUPPORT. What every command keeps: the operations of Machine/Cupola.lean. -/
namespace Sys2Proof.Machine

theorem State.setBays_kept {σ : State} {k : Nat} {b : List Bay} {s : State} (hs : σ.Kept s) :
    σ.Kept (State.setBays k b s) := by
  unfold State.setBays
  repeat' (first
    | exact State.Kept.of_record (by with_reducible assumption) rfl rfl rfl rfl rfl rfl rfl rfl rfl)

theorem State.touchBay_kept {σ : State} {k : Nat} {block : Nat} {changed : Bool} {s : State} (hs : σ.Kept s) :
    σ.Kept (State.touchBay k block changed s) := by
  unfold State.touchBay
  repeat' (first
    | with_reducible assumption
    | with_reducible apply State.setBays_kept
    | (intro y; clear_value y)
    | lift_lets -underBinder
    | split)

theorem State.loadBay_kept {σ : State} {k : Nat} {block : Nat} {s : State} (hs : σ.Kept s) :
    σ.Kept (State.loadBay k block s) := by
  unfold State.loadBay
  repeat' (first
    | with_reducible assumption
    | with_reducible apply State.setBays_kept
    | with_reducible apply State.bump_kept
    | with_reducible apply State.emit_kept)

theorem State.needBay_kept {σ : State} {k : Nat} {block : Nat} {s : State} (hs : σ.Kept s) :
    σ.Kept (State.needBay k block s) := by
  unfold State.needBay
  repeat' (first
    | with_reducible assumption
    | with_reducible apply State.loadBay_kept
    | with_reducible apply State.setBays_kept
    | with_reducible apply State.bump_kept
    | with_reducible refine State.Kept.ite (fun _ => ?_) (fun _ => ?_)
    | (intro y; clear_value y)
    | lift_lets -underBinder
    | split
    | refine State.Kept.of_record ?_ rfl rfl rfl rfl rfl rfl rfl rfl rfl)

theorem State.needBlocks_kept {σ : State} {k : Nat} {bs : List Nat} {s : State} (hs : σ.Kept s) :
    σ.Kept (State.needBlocks k bs s) := by
  unfold State.needBlocks
  repeat' (first
    | with_reducible assumption
    | with_reducible apply State.needBay_kept
    | with_reducible apply State.Kept.foldl
    | (intro))

theorem State.scramble_kept {σ : State} {x : Nat} {n : Nat} {s : State} (hs : σ.Kept s) : σ.Kept (State.scramble x n s) :=
  hs.put_mem rfl rfl rfl memStore_wf id rfl rfl rfl

theorem State.useLanes_kept {σ : State} {k : Nat} {t : Nat} {n : Nat} {s : State} (hs : σ.Kept s) :
    σ.Kept (State.useLanes k t n s) := by
  unfold State.useLanes
  repeat' (first
    | with_reducible assumption
    | with_reducible apply State.count_kept)

theorem State.putAccs_kept {σ : State} {a : Nat} {l : List Acc} {s : State} (hs : σ.Kept s) :
    σ.KeptIn holdsSome (State.putAccs a l s) := by
  unfold State.putAccs
  repeat' (first
    | with_reducible assumption
    | with_reducible apply State.memWrite_kept)

theorem State.countAdds_kept {σ : State} {k : Nat} {old : List Acc} {new : List Acc} {s : State} (hs : σ.Kept s) :
    σ.Kept (State.countAdds k old new s) := by
  unfold State.countAdds
  repeat' (first
    | with_reducible assumption
    | with_reducible apply State.count_kept)

theorem State.applyAccs_kept {σ : State} {k : Nat} {a : Nat} {n : Nat} {f : List Acc → List Acc} {s : State} (hs : σ.Kept s) :
    σ.KeptIn holdsSome (State.applyAccs k a n f s) := by
  unfold State.applyAccs
  repeat' (first
    | with_reducible assumption
    | with_reducible apply State.putAccs_kept
    | with_reducible apply State.touchBay_kept
    | with_reducible apply State.countAdds_kept
    | with_reducible exact State.KeptIn.ofNone
    | with_reducible apply State.KeptIn.ofSome
    | with_reducible apply State.Kept.foldl
    | (intro y; clear_value y)
    | (intro)
    | refine State.Kept.of_some (by with_reducible assumption) ?_
    | lift_lets -underBinder
    | split)

theorem State.dropHold_kept {σ : State} {h : AccHold} {s : State} (hs : σ.Kept s) :
    σ.Kept (State.dropHold h s) := by
  unfold State.dropHold
  repeat' (first
    | with_reducible assumption
    | with_reducible apply State.freeIngress_kept
    | with_reducible refine State.Kept.ite (fun _ => ?_) (fun _ => ?_)
    | with_reducible apply State.Kept.foldl
    | (intro)
    | exact State.Kept.of_record (by with_reducible assumption) rfl rfl rfl rfl rfl rfl rfl rfl rfl
    | lift_lets -underBinder
    | split)

theorem State.accumFailed_kept {σ : State} {c : Nat} {addr : Nat} {len : Nat} {stale : Bool} {s : State} (hs : σ.Kept s) :
    σ.Kept (State.accumFailed c addr len stale s) := by
  unfold State.accumFailed
  repeat' (first
    | with_reducible assumption
    | with_reducible apply State.scramble_kept
    | with_reducible apply State.logFault_kept
    | with_reducible apply State.connError_kept
    | with_reducible refine State.Kept.ite (fun _ => ?_) (fun _ => ?_)
    | split)

theorem State.applyAccum_kept {σ : State} {h : AccHold} {c : Nat} {psn : W32} {msn : W32} {s : State} (hs : σ.Kept s) :
    σ.Kept (State.applyAccum h c psn msn s) := by
  unfold State.applyAccum
  repeat' (first
    | with_reducible assumption
    | with_reducible apply State.setConn_kept
    | with_reducible apply State.sendAck_kept
    | with_reducible apply State.closeReady_kept
    | with_reducible apply State.memWrite_kept
    | with_reducible apply State.applyAccs_kept
    | with_reducible apply State.useLanes_kept
    | with_reducible apply State.accumFailed_kept
    | with_reducible apply State.ackAccepted_kept
    | with_reducible apply State.KeptIn.mapSome
    | with_reducible refine State.KeptIn.ite (fun _ => ?_) (fun _ => ?_)
    | with_reducible refine State.Kept.ite (fun _ => ?_) (fun _ => ?_)
    | (intro y; refine State.KeptIn.cut (a := σ) (P := holdsSome) (r := y) ?_ fun hy => ?_; rotate_left; clear_value y)
    | exact State.Kept.of_some rfl (by with_reducible assumption)
    | lift_lets -underBinder
    | split)

theorem State.loseHold_kept {σ : State} {h : AccHold} {s : State} (hs : σ.Kept s) :
    σ.Kept (State.loseHold h s) := by
  unfold State.loseHold
  repeat' (first
    | with_reducible assumption
    | with_reducible apply State.dropHold_kept
    | with_reducible apply State.accumFailed_kept
    | with_reducible apply State.setConn_kept
    | with_reducible apply State.readEnd_kept
    | (intro y; refine State.Kept.cut (a := σ) (s := y) ?_ fun hy => ?_; rotate_left; clear_value y)
    | (intro y; clear_value y)
    | exact State.Kept.of_record (by with_reducible assumption) rfl rfl rfl rfl rfl rfl rfl rfl rfl
    | lift_lets -underBinder
    | split)

theorem execAccumApply_kept {σ : State} {tower : Nat} {s : State} (hs : σ.Kept s) :
    σ.Answers (execAccumApply tower s) := by
  unfold execAccumApply
  repeat' (first
    | with_reducible assumption
    | with_reducible apply State.bump_kept
    | with_reducible apply State.loseHold_kept
    | with_reducible apply State.applyAccum_kept
    | with_reducible apply State.dropHold_kept
    | with_reducible apply State.needBlocks_kept
    | with_reducible apply State.Answers.next
    | (intro y; clear_value y)
    | lift_lets -underBinder
    | split)

theorem State.eachArrived_kept {σ : State} {w : AccWork} {f : Nat → Nat} {s : State} (hs : σ.Kept s) :
    σ.Kept (State.eachArrived w f s) := by
  unfold State.eachArrived
  repeat' (first
    | with_reducible assumption
    | with_reducible apply State.Kept.foldl
    | (intro)
    | exact State.Kept.of_record (by with_reducible assumption) rfl rfl rfl rfl rfl rfl rfl rfl rfl)

theorem State.putWork_kept {σ : State} {e : EntryRef} {w : Option AccWork} {s : State} (hs : σ.Kept s) :
    σ.Kept (State.putWork e w s) := by
  unfold State.putWork
  repeat' (first
    | exact State.Kept.of_record (by with_reducible assumption) rfl rfl rfl rfl rfl rfl rfl rfl rfl)

theorem State.failWork_kept {σ : State} {w : AccWork} {status : Status} {s : State} (hs : σ.Kept s) :
    σ.Kept (State.failWork w status s) := by
  unfold State.failWork
  repeat' (first
    | with_reducible assumption
    | with_reducible apply State.putWork_kept
    | with_reducible apply State.failEntry_kept)

theorem State.finishWork_kept {σ : State} {w : AccWork} {s : State} (hs : σ.Kept s) :
    σ.Kept (State.finishWork w s) := by
  unfold State.finishWork
  repeat' (first
    | with_reducible assumption
    | with_reducible apply State.putWork_kept
    | with_reducible apply State.eachArrived_kept
    | with_reducible apply State.addBytes_kept
    | with_reducible apply State.endEntry_kept
    | with_reducible apply State.endAfterReads_kept
    | with_reducible apply State.noteFail_kept
    | with_reducible apply State.count_kept
    | with_reducible refine State.Kept.ite (fun _ => ?_) (fun _ => ?_)
    | (intro y; refine State.Kept.cut (a := σ) (s := y) ?_ fun hy => ?_; rotate_left; clear_value y)
    | (intro y; clear_value y)
    | lift_lets -underBinder
    | split)

theorem State.workBlock_kept {σ : State} {w : AccWork} {s : State} (hs : σ.Kept s) :
    σ.KeptIn holdsSomeFst (State.workBlock w s) := by
  unfold State.workBlock
  repeat' (first
    | with_reducible assumption
    | with_reducible apply State.useLanes_kept
    | with_reducible apply State.putAccs_kept
    | with_reducible apply State.touchBay_kept
    | with_reducible apply State.applyAccs_kept
    | with_reducible apply State.placeWrite_kept
    | with_reducible apply State.KeptIn.mapFst
    | with_reducible refine State.KeptIn.ite (fun _ => ?_) (fun _ => ?_)
    | with_reducible exact State.KeptIn.ofNoneFst
    | with_reducible apply State.KeptIn.ofSomeFst
    | (intro y; refine State.Kept.cut (a := σ) (s := y) ?_ fun hy => ?_; rotate_left; clear_value y)
    | (intro y; clear_value y)
    | (intro)
    | refine State.Kept.of_some (by with_reducible assumption) ?_
    | lift_lets -underBinder
    | split
    | with_reducible apply State.KeptIn.mkFst)

theorem State.runWork_kept {σ : State} : ∀ {n : Nat} {w : AccWork} {s : State}, σ.Kept s → σ.Kept (State.runWork n w s)
  | 0, _, _, hs => State.finishWork_kept hs
  | n + 1, w, s, hs => by
    unfold State.runWork
    refine State.Kept.ite (fun _ => State.finishWork_kept hs) (fun _ => ?_)
    refine State.Kept.ite (fun _ => State.failWork_kept (State.bump_kept hs)) (fun _ => ?_)
    refine State.Kept.ite (fun _ => State.failWork_kept (State.countSquashed_kept hs)) (fun _ => ?_)
    refine State.Kept.ite (fun _ => ?_) (fun _ => State.needBay_kept hs)
    split
    · rename_i e
      exact State.runWork_kept (State.putWork_kept (State.Kept.of_someFst e (State.workBlock_kept hs)))
    · exact State.failWork_kept hs

theorem State.runOrdered_kept {σ : State} {w : AccWork} {s : State} (hs : σ.Kept s) :
    σ.Kept (State.runOrdered w s) := by
  unfold State.runOrdered
  repeat' (first
    | with_reducible assumption
    | with_reducible apply State.finishWork_kept
    | with_reducible apply State.memWrite_kept
    | with_reducible apply State.failWork_kept
    | with_reducible apply State.useLanes_kept
    | with_reducible apply State.placeWrite_kept
    | with_reducible refine State.Kept.ite (fun _ => ?_) (fun _ => ?_)
    | (intro y; refine State.Kept.cut (a := σ) (s := y) ?_ fun hy => ?_; rotate_left; clear_value y)
    | (intro y; clear_value y)
    | refine State.Kept.of_some (by with_reducible assumption) ?_
    | lift_lets -underBinder
    | split)

theorem State.startWork_kept {σ : State} {w : AccWork} {s : State} (hs : σ.Kept s) :
    σ.Kept (State.startWork w s) := by
  unfold State.startWork
  repeat' (first
    | with_reducible assumption
    | with_reducible apply State.putWork_kept
    | with_reducible apply State.bump_kept
    | with_reducible apply State.failWork_kept
    | with_reducible apply State.runOrdered_kept
    | with_reducible apply State.runWork_kept
    | with_reducible refine State.Kept.ite (fun _ => ?_) (fun _ => ?_))

theorem State.resumeWorks_kept {σ : State} {k : Nat} {s : State} (hs : σ.Kept s) :
    σ.Kept (State.resumeWorks k s) := by
  unfold State.resumeWorks
  repeat' (first
    | with_reducible assumption
    | with_reducible apply State.runWork_kept
    | with_reducible refine State.Kept.ite (fun _ => ?_) (fun _ => ?_)
    | with_reducible apply State.Kept.foldl
    | (intro))

theorem State.judgeStep_kept {σ : State} {e : EntryRef} {t : Nat} {w : W512} {s : State} (hs : σ.Kept s) :
    σ.KeptIn holdsError (State.judgeStep e t w s) := by
  unfold State.judgeStep
  repeat' (first
    | with_reducible assumption
    | with_reducible apply State.failEntry_kept
    | with_reducible apply State.failLocal_kept
    | with_reducible apply State.awaitPage_kept
    | with_reducible refine State.KeptIn.ite (fun _ => ?_) (fun _ => ?_)
    | with_reducible exact State.KeptIn.notError
    | with_reducible apply State.KeptIn.ofError
    | (intro y; clear_value y)
    | lift_lets -underBinder
    | split)

theorem State.beginStep_kept {σ : State} {w : AccWork} {ans : MemAns} {s : State} (hs : σ.Kept s) :
    σ.Kept (State.beginStep w ans s) := by
  unfold State.beginStep
  repeat' (first
    | with_reducible assumption
    | with_reducible apply State.readFailed_kept
    | with_reducible apply State.failWork_kept
    | with_reducible apply State.putWork_kept
    | with_reducible apply State.startWork_kept
    | with_reducible refine State.Kept.ite (fun _ => ?_) (fun _ => ?_)
    | split)

theorem State.collective_kept {σ : State} {t : Nat} {ring : Nat} {action : Nat} {ans : MemAns} {s : State} (hs : σ.Kept s) :
    σ.Kept (State.collective t ring action ans s) := by
  unfold State.collective
  repeat' (first
    | with_reducible assumption
    | with_reducible apply State.failEntry_kept
    | with_reducible apply State.judgeStep_kept
    | with_reducible apply State.runEntry_kept
    | with_reducible apply State.beginStep_kept
    | with_reducible refine State.Kept.ite (fun _ => ?_) (fun _ => ?_)
    | (intro y; clear_value y)
    | refine State.Kept.of_error (by with_reducible assumption) ?_
    | lift_lets -underBinder
    | split
    | refine State.Kept.of_record ?_ rfl rfl rfl rfl rfl rfl rfl rfl rfl)

theorem execCollectiveClear_kept {σ : State} {t : Nat} {ring : Nat} {s : State} (hs : σ.Kept s) :
    σ.Answers (execCollectiveClear t ring s) := by
  unfold execCollectiveClear
  repeat' (first
    | with_reducible assumption
    | with_reducible apply State.collective_kept
    | with_reducible apply State.Answers.next)

theorem execCollectiveAddLocal_kept {σ : State} {t : Nat} {ring : Nat} {ans : MemAns} {s : State} (hs : σ.Kept s) :
    σ.Answers (execCollectiveAddLocal t ring ans s) := by
  unfold execCollectiveAddLocal
  repeat' (first
    | with_reducible assumption
    | with_reducible apply State.collective_kept
    | with_reducible apply State.Answers.next)

theorem execCollectiveReadout_kept {σ : State} {t : Nat} {ring : Nat} {s : State} (hs : σ.Kept s) :
    σ.Answers (execCollectiveReadout t ring s) := by
  unfold execCollectiveReadout
  repeat' (first
    | with_reducible assumption
    | with_reducible apply State.collective_kept
    | with_reducible apply State.Answers.next)

theorem execReadoutReady_kept {σ : State} {tower : Nat} {s : State} (hs : σ.Kept s) :
    σ.Answers (execReadoutReady tower s) := by
  unfold execReadoutReady
  repeat' (first
    | with_reducible assumption
    | with_reducible apply State.startWork_kept
    | with_reducible apply State.Answers.next
    | split)

theorem State.blockLost_kept {σ : State} {k : Nat} {block : Nat} {stale : Bool} {s : State} (hs : σ.Kept s) :
    σ.Kept (State.blockLost k block stale s) := by
  unfold State.blockLost
  repeat' (first
    | with_reducible assumption
    | with_reducible apply State.failWork_kept
    | with_reducible apply State.loseHold_kept
    | with_reducible apply State.Kept.foldl
    | (intro))

theorem State.blockFailed_kept {σ : State} {k : Nat} {block : Nat} {s : State} (hs : σ.Kept s) :
    σ.Kept (State.blockFailed k block s) := by
  unfold State.blockFailed
  repeat' (first
    | with_reducible assumption
    | with_reducible apply State.scramble_kept
    | with_reducible apply State.logFault_kept
    | with_reducible apply State.blockLost_kept)

theorem State.staleLoad_kept {σ : State} {k : Nat} {block : Nat} {s : State} (hs : σ.Kept s) :
    σ.Kept (State.staleLoad k block s) := by
  unfold State.staleLoad
  repeat' (first
    | with_reducible assumption
    | with_reducible apply State.bump_kept
    | with_reducible apply State.blockLost_kept
    | with_reducible apply State.resumeWorks_kept)

theorem execBayLoadDone_kept {σ : State} {tower : Nat} {block : Nat} {ok : Bool} {s : State} (hs : σ.Kept s) :
    σ.Answers (execBayLoadDone tower block ok s) := by
  unfold execBayLoadDone
  repeat' (first
    | with_reducible assumption
    | with_reducible apply State.setBays_kept
    | with_reducible apply State.staleLoad_kept
    | with_reducible apply State.resumeWorks_kept
    | with_reducible apply State.blockFailed_kept
    | with_reducible apply State.Answers.next
    | with_reducible refine State.Answers.ite (fun _ => ?_) (fun _ => ?_)
    | split)

theorem execBayWritebackDone_kept {σ : State} {tower : Nat} {block : Nat} {ok : Bool} {s : State} (hs : σ.Kept s) :
    σ.Answers (execBayWritebackDone tower block ok s) := by
  unfold execBayWritebackDone
  repeat' (first
    | with_reducible assumption
    | with_reducible apply State.blockFailed_kept
    | with_reducible apply State.loadBay_kept
    | with_reducible apply State.Answers.next
    | with_reducible refine State.Answers.ite (fun _ => ?_) (fun _ => ?_)
    | with_reducible refine State.Kept.ite (fun _ => ?_) (fun _ => ?_)
    | (intro y; refine State.Kept.cut (a := σ) (s := y) ?_ fun hy => ?_; rotate_left; clear_value y)
    | (intro y; clear_value y)
    | exact State.Kept.of_record (by with_reducible assumption) rfl rfl rfl rfl rfl rfl rfl rfl rfl
    | lift_lets -underBinder
    | split)

theorem State.quantize_kept {σ : State} {e : EntryRef} {t : Nat} {w : W512} {rs : List Realm} {input : Bytes} {s : State} (hs : σ.Kept s) :
    σ.Kept (State.quantize e t w rs input s) := by
  unfold State.quantize
  repeat' (first
    | with_reducible assumption
    | with_reducible apply State.readFailed_kept
    | with_reducible apply State.failEntry_kept
    | with_reducible apply State.useLanes_kept
    | with_reducible apply State.placeWrite_kept
    | with_reducible apply State.memWrite_kept
    | with_reducible apply State.noteFail_kept
    | with_reducible apply State.count_kept
    | with_reducible apply State.addBytes_kept
    | with_reducible apply State.endAfterReads_kept
    | with_reducible refine State.Kept.ite (fun _ => ?_) (fun _ => ?_)
    | (intro y; refine State.Kept.cut (a := σ) (s := y) ?_ fun hy => ?_; rotate_left; clear_value y)
    | (intro y; clear_value y)
    | refine State.Kept.of_some (by with_reducible assumption) ?_
    | split
    | lift_lets -underBinder)

theorem execQuantize_kept {σ : State} {t : Nat} {ring : Nat} {ans : MemAns} {s : State} (hs : σ.Kept s) :
    σ.Answers (execQuantize t ring ans s) := by
  unfold execQuantize
  repeat' (first
    | with_reducible assumption
    | with_reducible apply State.failEntry_kept
    | with_reducible apply State.withNeeds_kept
    | with_reducible apply State.runEntry_kept
    | with_reducible apply State.readFailed_kept
    | with_reducible apply State.quantize_kept
    | with_reducible apply State.Answers.next
    | with_reducible refine State.Answers.ite (fun _ => ?_) (fun _ => ?_)
    | with_reducible refine State.Kept.ite (fun _ => ?_) (fun _ => ?_)
    | (intro y; refine State.Kept.cut (a := σ) (s := y) ?_ fun hy => ?_; rotate_left; clear_value y)
    | (intro y; clear_value y)
    | (intro)
    | lift_lets -underBinder
    | split)

end Sys2Proof.Machine
end

