-- ==== Sys2Proof/Laws/KeptEgress.lean ====
section
/-! SUPPORT. What every command keeps: the operations of Machine/Egress.lean. -/
namespace Sys2Proof.Machine

theorem State.emitParts_kept {σ : State} {p : Place} {l : List (Nat × Nat)} {s : State} (hs : σ.Kept s) :
    σ.Kept (State.emitParts p l s) := by
  unfold State.emitParts
  repeat' (first
    | with_reducible assumption
    | with_reducible apply State.emit_kept
    | with_reducible apply State.Kept.foldl
    | (intro))

theorem State.queueData_kept {σ : State} {c : Nat} {x : Conn} {m : TxMsg} {p : TxPkt} {path : Nat} {port : Nat} {s : State} (hs : σ.Kept s) :
    σ.Kept (State.queueData c x m p path port s) := by
  unfold State.queueData
  repeat' (first
    | with_reducible assumption
    | with_reducible apply State.emitParts_kept
    | with_reducible apply State.enqueue_kept
    | with_reducible refine State.Kept.ite (fun _ => ?_) (fun _ => ?_))

theorem State.countFull_kept {σ : State} {ports : List Nat} {s : State} (hs : σ.Kept s) :
    σ.Kept (State.countFull ports s) := by
  unfold State.countFull
  repeat' (first
    | with_reducible assumption
    | with_reducible apply State.bump_kept
    | with_reducible apply State.Kept.foldl
    | (intro))

theorem State.stopRead_kept {σ : State} {c : Nat} {x : Conn} {m : TxMsg} {i : Nat} {r : Status × Nat} {s : State} (hs : σ.Kept s) :
    σ.Kept (State.stopRead c x m i r s) := by
  unfold State.stopRead
  repeat' (first
    | with_reducible assumption
    | with_reducible apply State.failResponses_kept
    | with_reducible apply State.countLocalRefused_kept
    | with_reducible apply State.countSquashed_kept
    | with_reducible apply State.voidMsg_kept
    | with_reducible refine State.Kept.ite (fun _ => ?_) (fun _ => ?_))

theorem State.commit_kept {σ : State} {c : Nat} {x : Conn} {s : State} (hs : σ.Kept s) :
    σ.Kept (State.commit c x s) := by
  unfold State.commit
  repeat' (first
    | with_reducible assumption
    | with_reducible apply State.countFull_kept
    | with_reducible apply State.setConn_kept
    | with_reducible apply State.queueData_kept
    | (intro y; refine State.Kept.cut (a := σ) (s := y) ?_ fun hy => ?_; rotate_left; clear_value y)
    | (intro y; clear_value y)
    | lift_lets -underBinder
    | split)

theorem execPacketCommit_kept {σ : State} {tower : Nat} {s : State} (hs : σ.Kept s) :
    σ.Answers (execPacketCommit tower s) := by
  unfold execPacketCommit
  repeat' (first
    | with_reducible assumption
    | with_reducible apply State.stopRead_kept
    | with_reducible apply State.commit_kept
    | with_reducible apply State.Answers.next
    | split)

theorem State.fillQueued_kept {σ : State} {c : Nat} {msn : W32} {resp : Bool} {index : Nat} {payload : Option Bytes} {s : State} (hs : σ.Kept s) :
    σ.Kept (State.fillQueued c msn resp index payload s) := by
  unfold State.fillQueued
  repeat' (first
    | exact State.Kept.of_record (by with_reducible assumption) rfl rfl rfl rfl rfl rfl rfl rfl rfl)

theorem State.fillStaged_kept {σ : State} {c : Nat} {msn : W32} {resp : Bool} {index : Nat} {b : Bytes} {s : State} (hs : σ.Kept s) :
    σ.Kept (State.fillStaged c msn resp index b s) := by
  unfold State.fillStaged
  repeat' (first
    | exact State.Kept.of_record (by with_reducible assumption) rfl rfl rfl rfl rfl rfl rfl rfl rfl)

theorem execPayloadReadReturn_kept {σ : State} {conn : Nat} {msn : W32} {resp : Bool} {index : Nat} {ans : MemAns} {s : State} (hs : σ.Kept s) :
    σ.Answers (execPayloadReadReturn conn msn resp index ans s) := by
  unfold execPayloadReadReturn
  repeat' (first
    | with_reducible assumption
    | with_reducible apply State.fillQueued_kept
    | with_reducible apply State.fillStaged_kept
    | with_reducible apply State.readFailed_kept
    | with_reducible apply State.failResponses_kept
    | with_reducible apply State.voidMsg_kept
    | with_reducible apply State.Answers.next
    | with_reducible refine State.Kept.ite (fun _ => ?_) (fun _ => ?_)
    | with_reducible apply State.Kept.foldl
    | (intro y; clear_value y)
    | (intro)
    | lift_lets -underBinder
    | split)

theorem State.chargeShaper_kept {σ : State} {t : Nat} {k : Nat} {n : Nat} {s : State} (hs : σ.Kept s) :
    σ.Kept (State.chargeShaper t k n s) := by
  unfold State.chargeShaper
  repeat' (first
    | with_reducible assumption
    | with_reducible refine State.Kept.ite (fun _ => ?_) (fun _ => ?_)
    | exact State.Kept.of_record (by with_reducible assumption) rfl rfl rfl rfl rfl rfl rfl rfl rfl)

theorem State.launch_kept {σ : State} {port : Nat} {vc : Nat} {i : EgressItem} {s : State} (hs : σ.Kept s) :
    σ.Kept (State.launch port vc i s) := by
  unfold State.launch
  repeat' (first
    | with_reducible assumption
    | with_reducible apply State.bump_kept
    | with_reducible apply State.setPort_kept
    | with_reducible apply State.count_kept
    | with_reducible apply State.freeIngress_kept
    | with_reducible apply State.setConn_kept
    | with_reducible apply State.trace_kept
    | with_reducible apply State.emit_kept
    | with_reducible refine State.Kept.ite (fun _ => ?_) (fun _ => ?_)
    | (intro y; refine State.Kept.cut (a := σ) (s := y) ?_ fun hy => ?_; rotate_left; clear_value y)
    | (intro y; clear_value y)
    | lift_lets -underBinder
    | split)

theorem State.tagTenants_kept {σ : State} {port : Nat} {vc : Nat} {s : State} (hs : σ.Kept s) :
    σ.Kept (State.tagTenants port vc s) := by
  unfold State.tagTenants
  repeat' (first
    | with_reducible assumption
    | with_reducible apply State.setPort_kept)

theorem State.tagClass_kept {σ : State} {port : Nat} {vc : Nat} {s : State} (hs : σ.Kept s) :
    σ.Kept (State.tagClass port vc s) := by
  unfold State.tagClass
  repeat' (first
    | with_reducible assumption
    | with_reducible apply State.tagTenants_kept
    | with_reducible apply State.setPort_kept
    | with_reducible refine State.Kept.ite (fun _ => ?_) (fun _ => ?_)
    | (intro y; refine State.Kept.cut (a := σ) (s := y) ?_ fun hy => ?_; rotate_left; clear_value y)
    | (intro y; clear_value y)
    | lift_lets -underBinder
    | split)

theorem State.tagHeads_kept {σ : State} {port : Nat} {s : State} (hs : σ.Kept s) :
    σ.Kept (State.tagHeads port s) := by
  unfold State.tagHeads
  repeat' (first
    | with_reducible assumption
    | with_reducible apply State.tagClass_kept
    | with_reducible apply State.Kept.foldl
    | (intro))

theorem State.serveDome_kept {σ : State} {port : Nat} {vc : Nat} {key : Nat} {q : List EgressItem} {s : State} (hs : σ.Kept s) :
    σ.Kept (State.serveDome port vc key q s) := by
  unfold State.serveDome
  repeat' (first
    | with_reducible assumption
    | with_reducible apply State.setPort_kept
    | with_reducible apply State.chargeShaper_kept
    | with_reducible apply State.launch_kept
    | with_reducible apply State.tagHeads_kept
    | split)

theorem State.markWaits_kept {σ : State} {port : Nat} {s : State} (hs : σ.Kept s) :
    σ.Kept (State.markWaits port s) := by
  unfold State.markWaits
  repeat' (first
    | with_reducible assumption
    | with_reducible apply State.setPort_kept)

theorem execEgressStart_kept {σ : State} {port : Nat} {s : State} (hs : σ.Kept s) :
    σ.Answers (execEgressStart port s) := by
  unfold execEgressStart
  repeat' (first
    | with_reducible assumption
    | with_reducible apply State.markWaits_kept
    | with_reducible apply State.tagHeads_kept
    | with_reducible apply State.requestKey_kept
    | with_reducible apply State.setPort_kept
    | with_reducible apply State.launch_kept
    | with_reducible apply State.serveDome_kept
    | with_reducible apply State.Answers.next
    | with_reducible refine State.Answers.ite (fun _ => ?_) (fun _ => ?_)
    | (intro y; refine State.Kept.cut (a := σ) (s := y) ?_ fun hy => ?_; rotate_left; clear_value y)
    | (intro y; clear_value y)
    | lift_lets -underBinder
    | split)

theorem State.sampleQueue_kept {σ : State} {port : Nat} {vc : Nat} {s : State} (hs : σ.Kept s) :
    σ.Kept (State.sampleQueue port vc s) := by
  unfold State.sampleQueue
  repeat' (first
    | with_reducible assumption
    | with_reducible apply State.setPort_kept
    | with_reducible apply State.bump_kept
    | with_reducible refine State.Kept.ite (fun _ => ?_) (fun _ => ?_))

theorem execLanternSample_kept {σ : State} {s : State} (hs : σ.Kept s) :
    σ.Answers (execLanternSample s) := by
  unfold execLanternSample
  repeat' (first
    | with_reducible assumption
    | with_reducible apply State.sampleQueue_kept
    | with_reducible apply State.Answers.next
    | with_reducible refine State.Answers.ite (fun _ => ?_) (fun _ => ?_)
    | with_reducible apply State.Kept.foldl
    | (intro))

end Sys2Proof.Machine
end

