-- ==== Sys2Proof/Laws/KeptLinks.lean ====
section
/-! SUPPORT. What every command keeps: the operations of Machine/Links.lean. -/
namespace Sys2Proof.Machine

theorem State.linkEvent_kept {σ : State} {n : Nat} {m : PortMode} {s : State} (hs : σ.Kept s) :
    σ.Kept (State.linkEvent n m s) := by
  unfold State.linkEvent
  repeat' (first
    | with_reducible assumption
    | with_reducible apply State.packageEvent_kept)

theorem State.dropItem_kept {σ : State} {n : Nat} {i : EgressItem} {s : State} (hs : σ.Kept s) :
    σ.Kept (State.dropItem n i s) := by
  unfold State.dropItem
  repeat' (first
    | with_reducible assumption
    | with_reducible apply State.bump_kept
    | with_reducible apply State.notice_kept
    | with_reducible apply State.freeIngress_kept
    | with_reducible apply State.setConn_kept
    | with_reducible refine State.Kept.ite (fun _ => ?_) (fun _ => ?_)
    | lift_lets -underBinder
    | split)

theorem State.portTimeLost_kept {σ : State} {n : Nat} {s : State} (hs : σ.Kept s) :
    σ.Kept (State.portTimeLost n s) := by
  unfold State.portTimeLost
  repeat' (first
    | with_reducible assumption
    | with_reducible apply State.setTimePort_kept
    | with_reducible apply State.loseRef_kept
    | with_reducible refine State.Kept.ite (fun _ => ?_) (fun _ => ?_))

theorem State.portTo_kept {σ : State} {n : Nat} {m : PortMode} {cause : Nat} {s : State} (hs : σ.Kept s) :
    σ.Kept (State.portTo n m cause s) := by
  unfold State.portTo
  repeat' (first
    | with_reducible assumption
    | with_reducible apply State.setPort_kept
    | with_reducible apply State.dropItem_kept
    | with_reducible apply State.portTimeLost_kept
    | with_reducible apply State.bump_kept
    | with_reducible apply State.linkEvent_kept
    | with_reducible refine State.Kept.ite (fun _ => ?_) (fun _ => ?_)
    | with_reducible apply State.Kept.foldl
    | (intro))

theorem State.settlePort_kept {σ : State} {n : Nat} {s : State} (hs : σ.Kept s) :
    σ.Kept (State.settlePort n s) := by
  unfold State.settlePort
  repeat' (first
    | with_reducible assumption
    | with_reducible apply State.portTo_kept
    | with_reducible refine State.Kept.ite (fun _ => ?_) (fun _ => ?_))

theorem State.settlePorts_kept {σ : State} {s : State} (hs : σ.Kept s) :
    σ.Kept (State.settlePorts s) := by
  unfold State.settlePorts
  repeat' (first
    | with_reducible assumption
    | with_reducible apply State.settlePort_kept
    | with_reducible apply State.Kept.foldl
    | (intro))

theorem State.portsAfterSwap_kept {σ : State} {old : ParamSet} {s : State} (hs : σ.Kept s) :
    σ.Kept (State.portsAfterSwap old s) := by
  unfold State.portsAfterSwap
  repeat' (first
    | with_reducible assumption
    | with_reducible apply State.settlePort_kept
    | with_reducible apply State.portTo_kept
    | with_reducible refine State.Kept.ite (fun _ => ?_) (fun _ => ?_)
    | with_reducible apply State.Kept.foldl
    | (intro))

theorem State.startTrain_kept {σ : State} {n : Nat} {code : Nat} {width : Nat} {s : State} (hs : σ.Kept s) :
    σ.Kept (State.startTrain n code width s) := by
  unfold State.startTrain
  repeat' (first
    | with_reducible assumption
    | with_reducible apply State.setPort_kept
    | with_reducible apply State.sendAdvert_kept
    | with_reducible refine State.Kept.ite (fun _ => ?_) (fun _ => ?_))

theorem execLineCheckDone_kept {σ : State} {port : Nat} {faults : BitVec 16} {s : State} (hs : σ.Kept s) :
    σ.Answers (execLineCheckDone port faults s) := by
  unfold execLineCheckDone
  repeat' (first
    | with_reducible assumption
    | with_reducible apply State.setPort_kept
    | with_reducible apply State.portTo_kept
    | with_reducible apply State.startTrain_kept
    | with_reducible apply State.Answers.next
    | with_reducible refine State.Answers.ite (fun _ => ?_) (fun _ => ?_))

theorem execAnComplete_kept {σ : State} {port : Nat} {fabric : Bool} {width : Nat} {modes : BitVec 8} {s : State} (hs : σ.Kept s) :
    σ.Answers (execAnComplete port fabric width modes s) := by
  unfold execAnComplete
  repeat' (first
    | with_reducible assumption
    | with_reducible apply State.startTrain_kept
    | with_reducible apply State.portTo_kept
    | with_reducible apply State.Answers.next
    | with_reducible refine State.Answers.ite (fun _ => ?_) (fun _ => ?_)
    | lift_lets -underBinder
    | split)

theorem execNegotiateTimeout_kept {σ : State} {port : Nat} {s : State} (hs : σ.Kept s) :
    σ.Answers (execNegotiateTimeout port s) := by
  unfold execNegotiateTimeout
  repeat' (first
    | with_reducible assumption
    | with_reducible apply State.portTo_kept
    | with_reducible apply State.Answers.next
    | with_reducible refine State.Answers.ite (fun _ => ?_) (fun _ => ?_))

theorem State.portUp_kept {σ : State} {n : Nat} {lanes : Nat} {inverted : BitVec 8} {reversed : Bool} {s : State} (hs : σ.Kept s) :
    σ.Kept (State.portUp n lanes inverted reversed s) := by
  unfold State.portUp
  repeat' (first
    | with_reducible assumption
    | with_reducible apply State.setPort_kept
    | with_reducible apply State.bump_kept
    | with_reducible apply State.linkEvent_kept)

theorem execTrainDone_kept {σ : State} {port : Nat} {farFaults : BitVec 8} {inverted : BitVec 8} {reversed : Bool} {s : State} (hs : σ.Kept s) :
    σ.Answers (execTrainDone port farFaults inverted reversed s) := by
  unfold execTrainDone
  repeat' (first
    | with_reducible assumption
    | with_reducible apply State.portTo_kept
    | with_reducible apply State.portUp_kept
    | with_reducible apply State.Answers.next
    | with_reducible refine State.Answers.ite (fun _ => ?_) (fun _ => ?_))

theorem execTrainTimeout_kept {σ : State} {port : Nat} {s : State} (hs : σ.Kept s) :
    σ.Answers (execTrainTimeout port s) := by
  unfold execTrainTimeout
  repeat' (first
    | with_reducible assumption
    | with_reducible apply State.portTo_kept
    | with_reducible apply State.Answers.next
    | with_reducible refine State.Answers.ite (fun _ => ?_) (fun _ => ?_))

theorem execLinkLoss_kept {σ : State} {port : Nat} {silent : Bool} {s : State} (hs : σ.Kept s) :
    σ.Answers (execLinkLoss port silent s) := by
  unfold execLinkLoss
  repeat' (first
    | with_reducible assumption
    | with_reducible apply State.portTo_kept
    | with_reducible apply State.Answers.next
    | with_reducible refine State.Answers.ite (fun _ => ?_) (fun _ => ?_))

theorem execFaultRetry_kept {σ : State} {port : Nat} {s : State} (hs : σ.Kept s) :
    σ.Answers (execFaultRetry port s) := by
  unfold execFaultRetry
  repeat' (first
    | with_reducible assumption
    | with_reducible apply State.portTo_kept
    | with_reducible apply State.Answers.next
    | with_reducible refine State.Answers.ite (fun _ => ?_) (fun _ => ?_))

theorem State.sendStatus_kept {σ : State} {n : Nat} {refuse : Bool} {s : State} (hs : σ.Kept s) :
    σ.Kept (State.sendStatus n refuse s) := by
  unfold State.sendStatus
  repeat' (first
    | with_reducible assumption
    | with_reducible apply State.emit_kept
    | with_reducible apply State.setPort_kept)

theorem State.statusChange_kept {σ : State} {n : Nat} {s : State} (hs : σ.Kept s) :
    σ.Kept (State.statusChange n s) := by
  unfold State.statusChange
  repeat' (first
    | with_reducible assumption
    | with_reducible apply State.sendStatus_kept
    | with_reducible refine State.Kept.ite (fun _ => ?_) (fun _ => ?_))

theorem execStatusSend_kept {σ : State} {port : Nat} {s : State} (hs : σ.Kept s) :
    σ.Answers (execStatusSend port s) := by
  unfold execStatusSend
  repeat' (first
    | with_reducible assumption
    | with_reducible apply State.sendStatus_kept
    | with_reducible apply State.Answers.next
    | with_reducible refine State.Answers.ite (fun _ => ?_) (fun _ => ?_))

theorem State.setShed_kept {σ : State} {n : Nat} {h : Shed} {s : State} (hs : σ.Kept s) :
    σ.Kept (State.setShed n h s) := by
  unfold State.setShed
  repeat' (first
    | with_reducible assumption
    | with_reducible apply State.setPort_kept)

theorem State.takeShedReq_kept {σ : State} {n : Nat} {width : Nat} {peer : Nat} {s : State} (hs : σ.Kept s) :
    σ.Kept (State.takeShedReq n width peer s) := by
  unfold State.takeShedReq
  repeat' (first
    | with_reducible assumption
    | with_reducible apply State.setShed_kept
    | with_reducible apply State.statusChange_kept
    | with_reducible apply State.sendStatus_kept
    | with_reducible refine State.Kept.ite (fun _ => ?_) (fun _ => ?_)
    | (intro y; refine State.Kept.cut (a := σ) (s := y) ?_ fun hy => ?_; rotate_left; clear_value y)
    | (intro y; clear_value y)
    | lift_lets -underBinder
    | split)

theorem State.takeRestoreReq_kept {σ : State} {n : Nat} {peer : Nat} {s : State} (hs : σ.Kept s) :
    σ.Kept (State.takeRestoreReq n peer s) := by
  unfold State.takeRestoreReq
  repeat' (first
    | with_reducible assumption
    | with_reducible apply State.setShed_kept
    | with_reducible apply State.statusChange_kept
    | with_reducible refine State.Kept.ite (fun _ => ?_) (fun _ => ?_))

theorem State.restoreTick_kept {σ : State} {n : Nat} {s : State} (hs : σ.Kept s) :
    σ.Kept (State.restoreTick n s) := by
  unfold State.restoreTick
  repeat' (first
    | with_reducible assumption
    | with_reducible apply State.setShed_kept
    | with_reducible refine State.Kept.ite (fun _ => ?_) (fun _ => ?_))

theorem State.takeAnswers_kept {σ : State} {n : Nat} {flags : Nat} {width : Nat} {tick : Nat} {s : State} (hs : σ.Kept s) :
    σ.Kept (State.takeAnswers n flags width tick s) := by
  unfold State.takeAnswers
  repeat' (first
    | with_reducible assumption
    | with_reducible apply State.setShed_kept
    | with_reducible apply State.bump_kept
    | with_reducible apply State.restoreTick_kept
    | with_reducible refine State.Kept.ite (fun _ => ?_) (fun _ => ?_)
    | lift_lets -underBinder
    | split)

theorem State.takeStatus_kept {σ : State} {n : Nat} {b : Bytes} {s : State} (hs : σ.Kept s) :
    σ.Kept (State.takeStatus n b s) := by
  unfold State.takeStatus
  repeat' (first
    | with_reducible assumption
    | with_reducible apply State.setPort_kept
    | with_reducible apply State.takeAnswers_kept
    | with_reducible apply State.takeShedReq_kept
    | with_reducible apply State.takeRestoreReq_kept
    | with_reducible apply State.statusChange_kept
    | with_reducible refine State.Kept.ite (fun _ => ?_) (fun _ => ?_))

theorem execStatusRx_kept {σ : State} {port : Nat} {block : Bytes} {s : State} (hs : σ.Kept s) :
    σ.Answers (execStatusRx port block s) := by
  unfold execStatusRx
  repeat' (first
    | with_reducible assumption
    | with_reducible apply State.takeStatus_kept
    | with_reducible apply State.Answers.next)

theorem execShedReqRx_kept {σ : State} {port : Nat} {block : Bytes} {s : State} (hs : σ.Kept s) :
    σ.Answers (execShedReqRx port block s) := by
  unfold execShedReqRx
  repeat' (first
    | with_reducible assumption
    | with_reducible apply State.takeStatus_kept
    | with_reducible apply State.Answers.next
    | with_reducible refine State.Answers.ite (fun _ => ?_) (fun _ => ?_))

theorem execRestoreReqRx_kept {σ : State} {port : Nat} {block : Bytes} {s : State} (hs : σ.Kept s) :
    σ.Answers (execRestoreReqRx port block s) := by
  unfold execRestoreReqRx
  repeat' (first
    | with_reducible assumption
    | with_reducible apply State.takeStatus_kept
    | with_reducible apply State.Answers.next
    | with_reducible refine State.Answers.ite (fun _ => ?_) (fun _ => ?_))

theorem execShedPeriodEnd_kept {σ : State} {port : Nat} {s : State} (hs : σ.Kept s) :
    σ.Answers (execShedPeriodEnd port s) := by
  unfold execShedPeriodEnd
  repeat' (first
    | with_reducible assumption
    | with_reducible apply State.setShed_kept
    | with_reducible apply State.statusChange_kept
    | with_reducible apply State.Answers.next
    | with_reducible refine State.Answers.ite (fun _ => ?_) (fun _ => ?_))

theorem execWidthSwitch_kept {σ : State} {port : Nat} {s : State} (hs : σ.Kept s) :
    σ.Answers (execWidthSwitch port s) := by
  unfold execWidthSwitch
  repeat' (first
    | with_reducible assumption
    | with_reducible apply State.setShed_kept
    | with_reducible apply State.setPort_kept
    | with_reducible apply State.bump_kept
    | with_reducible apply State.Answers.next
    | with_reducible refine State.Answers.ite (fun _ => ?_) (fun _ => ?_)
    | with_reducible refine State.Kept.ite (fun _ => ?_) (fun _ => ?_)
    | (intro y; clear_value y)
    | lift_lets -underBinder
    | split)

theorem execRestoreReq_kept {σ : State} {port : Nat} {s : State} (hs : σ.Kept s) :
    σ.Answers (execRestoreReq port s) := by
  unfold execRestoreReq
  repeat' (first
    | with_reducible assumption
    | with_reducible apply State.setShed_kept
    | with_reducible apply State.statusChange_kept
    | with_reducible apply State.Answers.next
    | with_reducible refine State.Answers.ite (fun _ => ?_) (fun _ => ?_))

theorem execLanesReady_kept {σ : State} {port : Nat} {s : State} (hs : σ.Kept s) :
    σ.Answers (execLanesReady port s) := by
  unfold execLanesReady
  repeat' (first
    | with_reducible assumption
    | with_reducible apply State.setShed_kept
    | with_reducible apply State.restoreTick_kept
    | with_reducible apply State.statusChange_kept
    | with_reducible apply State.Answers.next
    | with_reducible refine State.Answers.ite (fun _ => ?_) (fun _ => ?_))

theorem execCodewordDecodeFail_kept {σ : State} {port : Nat} {s : State} (hs : σ.Kept s) :
    σ.Answers (execCodewordDecodeFail port s) := by
  unfold execCodewordDecodeFail
  repeat' (first
    | with_reducible assumption
    | with_reducible apply State.bump_kept
    | with_reducible apply State.Answers.next
    | with_reducible refine State.Answers.ite (fun _ => ?_) (fun _ => ?_)
    | with_reducible refine State.Kept.ite (fun _ => ?_) (fun _ => ?_))

theorem State.setPause_kept {σ : State} {n : Nat} {prio : Nat} {quanta : Nat} {s : State} (hs : σ.Kept s) :
    σ.Kept (State.setPause n prio quanta s) := by
  unfold State.setPause
  repeat' (first
    | with_reducible assumption
    | with_reducible apply State.setPort_kept)

theorem State.takePause_kept {σ : State} {n : Nat} {quanta : Nat} {s : State} (hs : σ.Kept s) :
    σ.Kept (State.takePause n quanta s) := by
  unfold State.takePause
  repeat' (first
    | with_reducible assumption
    | with_reducible apply State.setPause_kept
    | with_reducible apply State.bump_kept
    | with_reducible refine State.Kept.ite (fun _ => ?_) (fun _ => ?_))

theorem State.takePfc_kept {σ : State} {n : Nat} {enable : BitVec 8} {quanta : List Nat} {s : State} (hs : σ.Kept s) :
    σ.Kept (State.takePfc n enable quanta s) := by
  unfold State.takePfc
  repeat' (first
    | with_reducible assumption
    | with_reducible apply State.setPause_kept
    | with_reducible apply State.bump_kept
    | with_reducible refine State.Kept.ite (fun _ => ?_) (fun _ => ?_)
    | with_reducible apply State.Kept.foldl
    | (intro))

theorem execPauseRx_kept {σ : State} {port : Nat} {quanta : BitVec 16} {s : State} (hs : σ.Kept s) :
    σ.Answers (execPauseRx port quanta s) := by
  unfold execPauseRx
  repeat' (first
    | with_reducible assumption
    | with_reducible apply State.takePause_kept
    | with_reducible apply State.Answers.next)

theorem execPfcRx_kept {σ : State} {port : Nat} {enable : BitVec 8} {quanta : List Nat} {s : State} (hs : σ.Kept s) :
    σ.Answers (execPfcRx port enable quanta s) := by
  unfold execPfcRx
  repeat' (first
    | with_reducible assumption
    | with_reducible apply State.takePfc_kept
    | with_reducible apply State.Answers.next)

theorem execPauseExpire_kept {σ : State} {port : Nat} {s : State} (hs : σ.Kept s) :
    σ.Answers (execPauseExpire port s) := by
  unfold execPauseExpire
  repeat' (first
    | with_reducible assumption
    | with_reducible apply State.setPort_kept
    | with_reducible apply State.Answers.next)

theorem State.sendFlow_kept {σ : State} {n : Nat} {vc : Nat} {quanta : Nat} {s : State} (hs : σ.Kept s) :
    σ.Kept (State.sendFlow n vc quanta s) := by
  unfold State.sendFlow
  repeat' (first
    | with_reducible assumption
    | with_reducible apply State.emit_kept
    | with_reducible apply State.bump_kept
    | with_reducible apply State.setPort_kept)

theorem execFlowXoffSend_kept {σ : State} {port : Nat} {vc : Nat} {s : State} (hs : σ.Kept s) :
    σ.Answers (execFlowXoffSend port vc s) := by
  unfold execFlowXoffSend
  repeat' (first
    | with_reducible assumption
    | with_reducible apply State.sendFlow_kept
    | with_reducible apply State.Answers.next
    | with_reducible refine State.Answers.ite (fun _ => ?_) (fun _ => ?_))

theorem execFlowRepeat_kept {σ : State} {port : Nat} {vc : Nat} {s : State} (hs : σ.Kept s) :
    σ.Answers (execFlowRepeat port vc s) := by
  unfold execFlowRepeat
  repeat' (first
    | with_reducible assumption
    | with_reducible apply State.sendFlow_kept
    | with_reducible apply State.Answers.next
    | with_reducible refine State.Answers.ite (fun _ => ?_) (fun _ => ?_)
    | split)

theorem execFlowXonSend_kept {σ : State} {port : Nat} {vc : Nat} {s : State} (hs : σ.Kept s) :
    σ.Answers (execFlowXonSend port vc s) := by
  unfold execFlowXonSend
  repeat' (first
    | with_reducible assumption
    | with_reducible apply State.sendFlow_kept
    | with_reducible apply State.Answers.next
    | with_reducible refine State.Answers.ite (fun _ => ?_) (fun _ => ?_))

end Sys2Proof.Machine
end

