-- ==== Sys2Proof/Laws/KeptHalt.lean ====
section
/-! SUPPORT. What every command keeps: the operations of Machine/Halt.lean. -/
namespace Sys2Proof.Machine

theorem State.driveFault_kept {σ : State} {s : State} (hs : σ.Kept s) :
    σ.Kept (State.driveFault s) := by
  unfold State.driveFault
  repeat' (first
    | with_reducible assumption
    | with_reducible apply State.emit_kept
    | with_reducible refine State.Kept.ite (fun _ => ?_) (fun _ => ?_)
    | exact State.Kept.of_record (by with_reducible assumption) rfl rfl rfl rfl rfl rfl rfl rfl rfl)

theorem State.orphan_kept {σ : State} {c : Nat} {m : TxMsg} {s : State} (hs : σ.Kept s) :
    σ.Kept (State.orphan c m s) := by
  unfold State.orphan
  repeat' (first
    | with_reducible assumption
    | with_reducible apply State.setConn_kept
    | with_reducible apply State.voidMsg_kept
    | split)

theorem State.dropAllWork_kept {σ : State} {s : State} (hs : σ.Kept s) :
    σ.Kept (State.dropAllWork s) := by
  unfold State.dropAllWork
  repeat' (first
    | with_reducible assumption
    | with_reducible apply State.orphan_kept
    | with_reducible apply State.Kept.foldl
    | (intro y; refine State.Kept.cut (a := σ) (s := y) ?_ fun hy => ?_; rotate_left; clear_value y)
    | (intro y; clear_value y)
    | (intro)
    | exact State.Kept.of_record (by with_reducible assumption) rfl rfl rfl rfl rfl rfl rfl rfl rfl
    | lift_lets -underBinder)

theorem State.fatalFault_kept {σ : State} {src : FaultSource} {loc : W64} {object : Nat} {address : Nat} {detail : Nat} {s : State}
    (hs : σ.Kept s) : σ.Kept (State.fatalFault src loc object address detail s) := by
  have h1 : σ.Kept { s with pkg := { s.pkg with fatal := true } } := .of_record hs rfl rfl rfl rfl rfl rfl rfl rfl rfl
  have h2 := State.dropAllWork_kept h1
  unfold State.fatalFault
  apply State.driveFault_kept
  apply State.logFault_kept
  apply State.aer_kept
  apply State.aer_kept
  apply State.settlePorts_kept
  exact .of_record h2 rfl rfl rfl rfl rfl rfl rfl rfl rfl

theorem State.halt_kept {σ : State} {k : Nat} {index : W32} {s : State} (hs : σ.Kept s) : σ.Kept (State.halt k index s) := by
  have h1 : σ.Kept { s with pkg := { s.pkg with halted := true } } := .of_record hs rfl rfl rfl rfl rfl rfl rfl rfl rfl
  have h2 := State.dropAllWork_kept h1
  unfold State.halt
  apply State.driveFault_kept
  apply State.logFault_kept
  apply State.aer_kept
  apply State.settlePorts_kept
  exact .of_record h2 rfl rfl rfl rfl rfl rfl rfl rfl rfl

theorem State.lateMalformed_kept {σ : State} {t : Nat} {e : EntryRef} {off : Nat} {s : State} (hs : σ.Kept s) :
    σ.Kept (State.lateMalformed t e off s) := by
  unfold State.lateMalformed
  repeat' (first
    | with_reducible assumption
    | with_reducible apply State.bump_kept
    | with_reducible apply State.failEntry_kept
    | with_reducible apply State.halt_kept
    | with_reducible refine State.Kept.ite (fun _ => ?_) (fun _ => ?_))

end Sys2Proof.Machine
end

