-- ==== Sys2Proof/Laws/KeptLookaside.lean ====
section
/-! SUPPORT. What every command keeps: the operations of Machine/Lookaside.lean. -/
namespace Sys2Proof.Machine

theorem State.keyOutcome_kept {σ : State} {t : Nat} {code : Nat} {s : State} (hs : σ.Kept s) :
    σ.Kept (State.keyOutcome t code s) := by
  unfold State.keyOutcome
  repeat' (first
    | with_reducible assumption
    | with_reducible apply State.setRo_kept
    | with_reducible apply State.bump_kept
    | with_reducible refine State.Kept.ite (fun _ => ?_) (fun _ => ?_))

theorem State.keyLoad_kept {σ : State} {t : Nat} {b : Bytes} {s : State} (hs : σ.Kept s) :
    σ.Kept (State.keyLoad t b s) := by
  unfold State.keyLoad
  repeat' (first
    | with_reducible assumption
    | with_reducible apply State.keyOutcome_kept
    | with_reducible apply State.eraseSlot_kept
    | with_reducible apply State.putSlot_kept
    | with_reducible refine State.Kept.ite (fun _ => ?_) (fun _ => ?_)
    | lift_lets -underBinder
    | split)

theorem execKeyLoadLoad_kept {σ : State} {t : Nat} {record : Bytes} {s : State} (hs : σ.Kept s) :
    σ.Answers (execKeyLoadLoad t record s) := by
  unfold execKeyLoadLoad
  repeat' (first
    | with_reducible assumption
    | with_reducible apply State.keyLoad_kept
    | with_reducible apply State.Answers.next
    | with_reducible refine State.Answers.ite (fun _ => ?_) (fun _ => ?_))

theorem execKeyLoadErase_kept {σ : State} {t : Nat} {record : Bytes} {s : State} (hs : σ.Kept s) :
    σ.Answers (execKeyLoadErase t record s) := by
  unfold execKeyLoadErase
  repeat' (first
    | with_reducible assumption
    | with_reducible apply State.keyLoad_kept
    | with_reducible apply State.Answers.next
    | with_reducible refine State.Answers.ite (fun _ => ?_) (fun _ => ?_))

theorem State.ensureKey_kept {σ : State} {k : KeyName} {s : State} (hs : σ.Kept s) :
    σ.Kept (State.ensureKey k s) := by
  unfold State.ensureKey
  repeat' (first
    | with_reducible assumption
    | with_reducible apply State.installKey_kept
    | with_reducible refine State.Kept.ite (fun _ => ?_) (fun _ => ?_))

theorem execKeyPrederive_kept {σ : State} {tower : Nat} {s : State} (hs : σ.Kept s) :
    σ.Answers (execKeyPrederive tower s) := by
  unfold execKeyPrederive
  repeat' (first
    | with_reducible assumption
    | with_reducible apply State.ensureKey_kept
    | with_reducible apply State.Answers.next
    | with_reducible refine State.Answers.ite (fun _ => ?_) (fun _ => ?_)
    | with_reducible refine State.Kept.ite (fun _ => ?_) (fun _ => ?_)
    | with_reducible apply State.Kept.foldl
    | (intro))

theorem State.cipherAuth_kept {σ : State} {t : Nat} {e : EntryRef} {s : State} (hs : σ.Kept s) :
    σ.Kept (State.cipherAuth t e s) := by
  unfold State.cipherAuth
  repeat' (first
    | with_reducible assumption
    | with_reducible apply State.failEntry_kept
    | with_reducible apply State.bump_kept)

theorem State.zeroPlace_kept {σ : State} {t : Nat} {p : Place} {a : Nat} {n : Nat} {s : State} (hs : σ.Kept s) :
    σ.Kept (State.zeroPlace t p a n s) := by
  unfold State.zeroPlace
  repeat' (first
    | with_reducible assumption
    | with_reducible apply State.placeWrite_kept
    | with_reducible refine State.Kept.ite (fun _ => ?_) (fun _ => ?_)
    | with_reducible apply State.Kept.getD)

theorem State.cipherFinish_kept {σ : State} {e : EntryRef} {t : Nat} {tower : Nat} {w : W512} {place : Place} {cross : Bool} {r : CipherRec} {data : Bytes} {tagIn : Bytes} {s : State} (hs : σ.Kept s) :
    σ.Kept (State.cipherFinish e t tower w place cross r data tagIn s) := by
  unfold State.cipherFinish
  repeat' (first
    | with_reducible apply State.zeroPlace_kept
    | with_reducible apply State.cipherAuth_kept
    | with_reducible apply State.placeWrite_kept
    | with_reducible apply State.failEntry_kept
    | with_reducible apply State.addBytes_kept
    | with_reducible apply State.endEntry_kept
    | with_reducible apply State.endAfterReads_kept
    | with_reducible refine State.KeptIn.ite (fun _ => ?_) (fun _ => ?_)
    | with_reducible apply State.KeptIn.ofSome
    | with_reducible refine State.Kept.ite (fun _ => ?_) (fun _ => ?_)
    | (intro y; clear_value y)
    | exact State.Kept.of_record (by with_reducible assumption) rfl rfl rfl rfl rfl rfl rfl rfl rfl
    | refine State.Kept.of_some (by with_reducible assumption) ?_
    | lift_lets -underBinder
    | split
    | refine State.Kept.of_record ?_ rfl rfl rfl rfl rfl rfl rfl rfl rfl)

theorem State.cipherInput_kept {σ : State} {e : EntryRef} {t : Nat} {tower : Nat} {w : W512} {place : Place} {cross : Bool} {b : Bytes} {s : State} (hs : σ.Kept s) :
    σ.Kept (State.cipherInput e t tower w place cross b s) := by
  unfold State.cipherInput
  repeat' (first
    | with_reducible assumption
    | with_reducible apply State.bump_kept
    | with_reducible apply State.installKey_kept
    | with_reducible apply State.zeroPlace_kept
    | with_reducible apply State.cipherAuth_kept
    | with_reducible apply State.lateMalformed_kept
    | with_reducible apply State.failEntry_kept
    | with_reducible apply State.cipherFinish_kept
    | with_reducible refine State.Kept.ite (fun _ => ?_) (fun _ => ?_)
    | (intro y; clear_value y)
    | lift_lets -underBinder
    | split)

theorem State.cipherEntry_kept {σ : State} {mode : Nat} {t : Nat} {ring : Nat} {ans : MemAns} {s : State} (hs : σ.Kept s) :
    σ.Kept (State.cipherEntry mode t ring ans s) := by
  unfold State.cipherEntry
  repeat' (first
    | with_reducible assumption
    | with_reducible apply State.failEntry_kept
    | with_reducible apply State.withNeeds_kept
    | with_reducible apply State.runEntry_kept
    | with_reducible apply State.readFailed_kept
    | with_reducible apply State.cipherInput_kept
    | with_reducible refine State.Kept.ite (fun _ => ?_) (fun _ => ?_)
    | (intro y; refine State.Kept.cut (a := σ) (s := y) ?_ fun hy => ?_; rotate_left; clear_value y)
    | (intro y; clear_value y)
    | (intro)
    | lift_lets -underBinder
    | split)

theorem execCipherGcmEnc_kept {σ : State} {t : Nat} {ring : Nat} {ans : MemAns} {s : State} (hs : σ.Kept s) :
    σ.Answers (execCipherGcmEnc t ring ans s) := by
  unfold execCipherGcmEnc
  repeat' (first
    | with_reducible assumption
    | with_reducible apply State.cipherEntry_kept
    | with_reducible apply State.Answers.next)

theorem execCipherGcmDec_kept {σ : State} {t : Nat} {ring : Nat} {ans : MemAns} {s : State} (hs : σ.Kept s) :
    σ.Answers (execCipherGcmDec t ring ans s) := by
  unfold execCipherGcmDec
  repeat' (first
    | with_reducible assumption
    | with_reducible apply State.cipherEntry_kept
    | with_reducible apply State.Answers.next)

theorem execCipherXtsEnc_kept {σ : State} {t : Nat} {ring : Nat} {ans : MemAns} {s : State} (hs : σ.Kept s) :
    σ.Answers (execCipherXtsEnc t ring ans s) := by
  unfold execCipherXtsEnc
  repeat' (first
    | with_reducible assumption
    | with_reducible apply State.cipherEntry_kept
    | with_reducible apply State.Answers.next)

theorem execCipherXtsDec_kept {σ : State} {t : Nat} {ring : Nat} {ans : MemAns} {s : State} (hs : σ.Kept s) :
    σ.Answers (execCipherXtsDec t ring ans s) := by
  unfold execCipherXtsDec
  repeat' (first
    | with_reducible assumption
    | with_reducible apply State.cipherEntry_kept
    | with_reducible apply State.Answers.next)

end Sys2Proof.Machine
end

