-- ==== Sys2Proof/Laws/KeptRemote.lean ====
section
/-! SUPPORT. What every command keeps: the operations of Machine/Remote.lean. -/
namespace Sys2Proof.Machine

theorem State.onConn_kept {σ : State} {t : Nat} {c : Nat} {e : EntryRef} {f : Conn → State → State} {s : State} (hf : ∀ x0 x1, σ.Kept x1 → σ.Kept (f x0 x1)) (hs : σ.Kept s) :
    σ.Kept (State.onConn t c e f s) := by
  unfold State.onConn
  repeat' (first
    | with_reducible assumption
    | with_reducible apply State.failEntry_kept
    | with_reducible apply State.withCtx_kept
    | split)

theorem State.recordRelaxedEntry_kept {σ : State} {e : EntryRef} {c : Nat} {want : Bool} {s : State} (hs : σ.Kept s) :
    σ.KeptIn holdsFst (State.recordRelaxedEntry e c want s) := by
  unfold State.recordRelaxedEntry
  repeat' (first
    | with_reducible assumption
    | with_reducible apply State.setRing_kept
    | with_reducible refine State.KeptIn.ite (fun _ => ?_) (fun _ => ?_)
    | lift_lets -underBinder
    | split
    | with_reducible apply State.KeptIn.mkFst)

theorem State.recordRelaxedRead_kept {σ : State} {e : EntryRef} {p : Place} {a : Nat} {n : Nat} {s : State} (hs : σ.Kept s) :
    σ.Kept (State.recordRelaxedRead e p a n s) := by
  unfold State.recordRelaxedRead
  repeat' (first
    | with_reducible assumption
    | with_reducible apply State.setRing_kept
    | split)

theorem State.remoteEntry_kept {σ : State} {op : Nat} {t : Nat} {ring : Nat} {s : State} (hs : σ.Kept s) :
    σ.Kept (State.remoteEntry op t ring s) := by
  unfold State.remoteEntry
  repeat' (first
    | with_reducible assumption
    | with_reducible apply State.onConn_kept
    | with_reducible apply State.withNeeds_kept
    | with_reducible apply State.recordRelaxedEntry_kept
    | with_reducible apply State.runEntry_kept
    | with_reducible apply State.recordRelaxedRead_kept
    | with_reducible apply State.post_kept
    | with_reducible refine State.Kept.ite (fun _ => ?_) (fun _ => ?_)
    | (intro)
    | lift_lets -underBinder
    | split
    | with_reducible apply State.KeptIn.fst)

theorem execWrite_kept {σ : State} {t : Nat} {ring : Nat} {s : State} (hs : σ.Kept s) :
    σ.Answers (execWrite t ring s) := by
  unfold execWrite
  repeat' (first
    | with_reducible assumption
    | with_reducible apply State.remoteEntry_kept
    | with_reducible apply State.Answers.next)

theorem execWriteImm_kept {σ : State} {t : Nat} {ring : Nat} {s : State} (hs : σ.Kept s) :
    σ.Answers (execWriteImm t ring s) := by
  unfold execWriteImm
  repeat' (first
    | with_reducible assumption
    | with_reducible apply State.remoteEntry_kept
    | with_reducible apply State.Answers.next)

theorem execRead_kept {σ : State} {t : Nat} {ring : Nat} {s : State} (hs : σ.Kept s) :
    σ.Answers (execRead t ring s) := by
  unfold execRead
  repeat' (first
    | with_reducible assumption
    | with_reducible apply State.remoteEntry_kept
    | with_reducible apply State.Answers.next)

theorem execAccum_kept {σ : State} {t : Nat} {ring : Nat} {s : State} (hs : σ.Kept s) :
    σ.Answers (execAccum t ring s) := by
  unfold execAccum
  repeat' (first
    | with_reducible assumption
    | with_reducible apply State.remoteEntry_kept
    | with_reducible apply State.Answers.next)

theorem execNop_kept {σ : State} {t : Nat} {ring : Nat} {s : State} (hs : σ.Kept s) :
    σ.Answers (execNop t ring s) := by
  unfold execNop
  repeat' (first
    | with_reducible assumption
    | with_reducible apply State.endEntry_kept
    | with_reducible apply State.Answers.next
    | split)

theorem State.flushOn_kept {σ : State} {t : Nat} {e : EntryRef} {c : Nat} {s : State} (hs : σ.Kept s) :
    σ.Kept (State.flushOn t e c s) := by
  unfold State.flushOn
  repeat' (first
    | with_reducible assumption
    | with_reducible apply State.fetchCtx_kept
    | with_reducible apply State.post_kept
    | with_reducible apply State.noteFail_kept
    | (intro y; refine State.Kept.cut1 (a := σ) (f := y) ?_ fun hf1 => ?_; rotate_left; clear_value y)
    | with_reducible apply hf1
    | (intro)
    | lift_lets -underBinder
    | split)

theorem execFenceFlush_kept {σ : State} {t : Nat} {ring : Nat} {s : State} (hs : σ.Kept s) :
    σ.Answers (execFenceFlush t ring s) := by
  unfold execFenceFlush
  repeat' (first
    | with_reducible assumption
    | with_reducible apply State.setRing_kept
    | with_reducible apply State.runEntry_kept
    | with_reducible apply State.flushOn_kept
    | with_reducible apply State.emitReads_kept
    | with_reducible apply State.endEntry_kept
    | with_reducible apply State.Answers.next
    | with_reducible refine State.Answers.ite (fun _ => ?_) (fun _ => ?_)
    | with_reducible refine State.Kept.ite (fun _ => ?_) (fun _ => ?_)
    | with_reducible apply State.Kept.foldl
    | (intro)
    | lift_lets -underBinder
    | split
    | refine State.Kept.of_record ?_ rfl rfl rfl rfl rfl rfl rfl rfl rfl)

end Sys2Proof.Machine
end

