-- ==== Sys2Proof/Laws/KeptExperts.lean ====
section
/-! SUPPORT. What every command keeps: the operations of Machine/Experts.lean. -/
namespace Sys2Proof.Machine

theorem State.putShare_kept {σ : State} {e : EntryRef} {t : Nat} {d : Bytes} {x : Nat} {b : Bytes} {s : State} (hs : σ.Kept s) :
    σ.Kept (State.putShare e t d x b s) := by
  unfold State.putShare
  repeat' (first
    | with_reducible assumption
    | with_reducible apply State.placeWrite_kept
    | with_reducible apply State.noteFail_kept
    | refine State.Kept.of_some (by with_reducible assumption) ?_
    | split)

theorem State.putRecord_kept {σ : State} {d : Dispatch} {c : Contribution} {s : State} (hs : σ.Kept s) :
    σ.Kept (State.putRecord d c s) := by
  unfold State.putRecord
  repeat' (first
    | with_reducible assumption
    | with_reducible apply State.placeWrite_kept
    | with_reducible apply State.noteFail_kept
    | (intro y; clear_value y)
    | refine State.Kept.of_some (by with_reducible assumption) ?_
    | lift_lets -underBinder
    | split)

theorem State.putRecords_kept {σ : State} {d : Dispatch} {s : State} (hs : σ.Kept s) :
    σ.Kept (State.putRecords d s) := by
  unfold State.putRecords
  repeat' (first
    | with_reducible assumption
    | with_reducible apply State.putRecord_kept
    | with_reducible apply State.Kept.foldl
    | (intro))

theorem State.takeSlot_kept {σ : State} {d : Dispatch} {owner : EntryRef} {tok : Nat} {k : Nat} {choice : W32} {fresh : Bool} {s : State} (hs : σ.Kept s) :
    σ.KeptIn holdsFst (State.takeSlot d owner tok k choice fresh s) := by
  unfold State.takeSlot
  repeat' (first
    | with_reducible assumption
    | with_reducible apply State.noteFail_kept
    | with_reducible apply State.putShare_kept
    | with_reducible apply State.bump_kept
    | with_reducible refine State.KeptIn.ite (fun _ => ?_) (fun _ => ?_)
    | with_reducible refine State.Kept.ite (fun _ => ?_) (fun _ => ?_)
    | (intro y; refine State.Kept.cut (a := σ) (s := y) ?_ fun hy => ?_; rotate_left; clear_value y)
    | (intro y; clear_value y)
    | lift_lets -underBinder
    | split
    | with_reducible apply State.KeptIn.mkFst)

theorem State.homeWrite_kept {σ : State} {t : Nat} {h : Home} {a : Nat} {b : Bytes} {s : State} (hs : σ.Kept s) :
    σ.KeptIn holdsFst (State.homeWrite t h a b s) := by
  unfold State.homeWrite
  repeat' (first
    | with_reducible assumption
    | with_reducible apply State.countRemoteRefused_kept
    | with_reducible apply State.placeWrite_kept
    | refine State.Kept.of_some (by with_reducible assumption) ?_
    | split
    | with_reducible apply State.KeptIn.mkFst)

theorem State.homePost_kept {σ : State} {t : Nat} {owner : EntryRef} {c : Nat} {m : TxMsg} {s : State} (hs : σ.Kept s) :
    σ.KeptIn holdsFst (State.homePost t owner c m s) := by
  unfold State.homePost
  repeat' (first
    | with_reducible assumption
    | with_reducible apply State.noteFail_kept
    | with_reducible apply State.fetchCtx_kept
    | with_reducible apply State.post_kept
    | (intro y; clear_value y)
    | lift_lets -underBinder
    | split
    | with_reducible apply State.KeptIn.mkFst)

theorem State.sendRun_kept {σ : State} {owner : EntryRef} {ans : MemAns} {acc : State × Dispatch × Nat} {g : List Contribution} (hacc : σ.KeptIn holdsFst acc) :
    σ.KeptIn holdsFst (State.sendRun owner ans acc g) := by
  unfold State.sendRun
  repeat' (first
    | with_reducible assumption
    | with_reducible apply State.useLanes_kept
    | with_reducible apply State.readFailed_kept
    | with_reducible apply State.noteFail_kept
    | with_reducible apply State.homeWrite_kept
    | with_reducible apply State.addBytes_kept
    | with_reducible apply State.homePost_kept
    | with_reducible refine State.KeptIn.ite (fun _ => ?_) (fun _ => ?_)
    | with_reducible apply State.Kept.foldl
    | with_reducible apply State.KeptIn.foldl
    | (intro y; refine State.Kept.cut (a := σ) (s := y) ?_ fun hy => ?_; rotate_left; clear_value y)
    | (intro y; refine State.KeptIn.cut (a := σ) (P := holdsFst) (r := y) ?_ fun hy => ?_; rotate_left; clear_value y)
    | (intro y; clear_value y)
    | (intro)
    | exact State.Kept.of_fst rfl (by with_reducible assumption)
    | refine State.Kept.of_fst (by with_reducible assumption) ?_
    | lift_lets -underBinder
    | split
    | with_reducible apply State.KeptIn.mkFst)

theorem State.sendRows_kept {σ : State} {owner : EntryRef} {d : Dispatch} {cs : List Contribution} {ans : MemAns} {s : State} (hs : σ.Kept s) :
    σ.KeptIn holdsFst (State.sendRows owner d cs ans s) := by
  unfold State.sendRows
  repeat' (first
    | with_reducible assumption
    | with_reducible apply State.sendRun_kept
    | with_reducible apply State.KeptIn.foldl
    | (intro y; refine State.KeptIn.cut (a := σ) (P := holdsFst) (r := y) ?_ fun hy => ?_; rotate_left; clear_value y)
    | exact State.Kept.of_fst rfl (by with_reducible assumption)
    | lift_lets -underBinder
    | with_reducible apply State.KeptIn.mkFst)

theorem State.toHome_kept {σ : State} {d : Dispatch} {owner : EntryRef} {h : Home} {kind : MsgKind} {a : Nat} {imm : W32} {b : Bytes} {s : State} (hs : σ.Kept s) :
    σ.KeptIn holdsFst (State.toHome d owner h kind a imm b s) := by
  unfold State.toHome
  repeat' (first
    | with_reducible assumption
    | with_reducible apply State.homeWrite_kept
    | with_reducible apply State.noteFail_kept
    | with_reducible apply State.homePost_kept
    | with_reducible refine State.KeptIn.ite (fun _ => ?_) (fun _ => ?_)
    | (intro)
    | refine State.Kept.of_fst (by with_reducible assumption) ?_
    | lift_lets -underBinder
    | split
    | with_reducible apply State.KeptIn.mkFst)

theorem State.publishMap_kept {σ : State} {owner : EntryRef} {d : Dispatch} {h : Home} {cs : List Contribution} {s : State} (hs : σ.Kept s) :
    σ.Kept (State.publishMap owner d h cs s) := by
  unfold State.publishMap
  repeat' (first
    | with_reducible assumption
    | with_reducible apply State.toHome_kept
    | with_reducible apply State.Kept.foldl
    | (intro)
    | lift_lets -underBinder
    | split
    | with_reducible apply State.KeptIn.fst)

theorem State.publishShare_kept {σ : State} {owner : EntryRef} {d : Dispatch} {x : Nat} {share : Nat} {cs : List Contribution} {s : State} (hs : σ.Kept s) :
    σ.KeptIn holdsFst (State.publishShare owner d x share cs s) := by
  unfold State.publishShare
  repeat' (first
    | with_reducible assumption
    | with_reducible apply State.publishMap_kept
    | with_reducible apply State.putShare_kept
    | with_reducible apply State.toHome_kept
    | (intro y; refine State.Kept.cut (a := σ) (s := y) ?_ fun hy => ?_; rotate_left; clear_value y)
    | (intro y; refine State.KeptIn.cut (a := σ) (P := holdsFst) (r := y) ?_ fun hy => ?_; rotate_left; clear_value y)
    | (intro y; clear_value y)
    | exact State.Kept.of_fst rfl (by with_reducible assumption)
    | lift_lets -underBinder
    | split
    | with_reducible apply State.KeptIn.mkFst)

theorem State.publishAll_kept {σ : State} {owner : EntryRef} {d : Dispatch} {cs : List Contribution} {s : State} (hs : σ.Kept s) :
    σ.KeptIn holdsFst (State.publishAll owner d cs s) := by
  unfold State.publishAll
  repeat' (first
    | with_reducible assumption
    | with_reducible apply State.publishShare_kept
    | with_reducible apply State.KeptIn.foldl
    | (intro)
    | exact State.Kept.of_fst rfl (by with_reducible assumption)
    | lift_lets -underBinder
    | with_reducible apply State.KeptIn.mkFst)

theorem State.putDispatch_kept {σ : State} {d : Dispatch} {s : State} (hs : σ.Kept s) :
    σ.Kept (State.putDispatch d s) := by
  unfold State.putDispatch
  repeat' (first
    | exact State.Kept.of_record (by with_reducible assumption) rfl rfl rfl rfl rfl rfl rfl rfl rfl)

theorem State.dropDispatch_kept {σ : State} {d : Dispatch} {s : State} (hs : σ.Kept s) :
    σ.Kept (State.dropDispatch d s) := by
  unfold State.dropDispatch
  repeat' (first
    | exact State.Kept.of_record (by with_reducible assumption) rfl rfl rfl rfl rfl rfl rfl rfl rfl)

theorem State.noteDrops_kept {σ : State} {e : EntryRef} {n : Nat} {s : State} (hs : σ.Kept s) :
    σ.Kept (State.noteDrops e n s) := by
  unfold State.noteDrops
  repeat' (first
    | with_reducible assumption
    | with_reducible apply State.noteFail_kept
    | with_reducible refine State.Kept.ite (fun _ => ?_) (fun _ => ?_))

theorem State.endDispatch_kept {σ : State} {d : Dispatch} {s : State} (hs : σ.Kept s) :
    σ.Kept (State.endDispatch d s) := by
  unfold State.endDispatch
  repeat' (first
    | with_reducible assumption
    | with_reducible apply State.putRecords_kept
    | with_reducible apply State.dropDispatch_kept
    | with_reducible apply State.noteDrops_kept
    | with_reducible apply State.noteFail_kept
    | with_reducible apply State.endEntry_kept
    | with_reducible refine State.Kept.ite (fun _ => ?_) (fun _ => ?_)
    | (intro y; refine State.Kept.cut (a := σ) (s := y) ?_ fun hy => ?_; rotate_left; clear_value y)
    | (intro y; clear_value y)
    | lift_lets -underBinder
    | split)

theorem execPublish_kept {σ : State} {ring : Nat} {first : W32} {pos : Nat} {s : State} (hs : σ.Kept s) :
    σ.Answers (execPublish ring first pos s) := by
  unfold execPublish
  repeat' (first
    | with_reducible assumption
    | with_reducible apply State.publishAll_kept
    | with_reducible apply State.putDispatch_kept
    | with_reducible apply State.putRecords_kept
    | with_reducible apply State.endDispatch_kept
    | with_reducible apply State.Answers.next
    | with_reducible refine State.Answers.ite (fun _ => ?_) (fun _ => ?_)
    | with_reducible refine State.Kept.ite (fun _ => ?_) (fun _ => ?_)
    | lift_lets -underBinder
    | split
    | with_reducible apply State.KeptIn.fst)

theorem State.refuseSpec_kept {σ : State} {e : EntryRef} {why : Nat} {s : State} (hs : σ.Kept s) :
    σ.Kept (State.refuseSpec e why s) := by
  unfold State.refuseSpec
  repeat' (first
    | with_reducible apply State.failEntry_kept
    | exact State.Kept.of_record (by with_reducible assumption) rfl rfl rfl rfl rfl rfl rfl rfl rfl)

theorem State.reuseSpec_kept {σ : State} {t : Nat} {w : W512} {s : State} (hs : σ.Kept s) :
    σ.Kept (State.reuseSpec t w s) := by
  unfold State.reuseSpec
  repeat' (first
    | with_reducible assumption
    | with_reducible refine State.Kept.ite (fun _ => ?_) (fun _ => ?_)
    | exact State.Kept.of_record (by with_reducible assumption) rfl rfl rfl rfl rfl rfl rfl rfl rfl)

theorem State.takeSlots_kept {σ : State} {d : Dispatch} {owner : EntryRef} {fresh : Bool} {l : List (Nat × Nat × W32)} {s : State} (hs : σ.Kept s) :
    σ.KeptIn holdsFst (State.takeSlots d owner fresh l s) := by
  unfold State.takeSlots
  repeat' (first
    | with_reducible assumption
    | with_reducible apply State.takeSlot_kept
    | with_reducible apply State.KeptIn.foldl
    | (intro y; refine State.KeptIn.cut (a := σ) (P := holdsFst) (r := y) ?_ fun hy => ?_; rotate_left; clear_value y)
    | (intro)
    | exact State.Kept.of_fst rfl (by with_reducible assumption)
    | lift_lets -underBinder
    | with_reducible apply State.KeptIn.mkFst)

theorem execDispatchTokens_kept {σ : State} {t : Nat} {ring : Nat} {router : MemAns} {rows : MemAns} {s : State} (hs : σ.Kept s) :
    σ.Answers (execDispatchTokens t ring router rows s) := by
  unfold execDispatchTokens
  repeat' (first
    | with_reducible assumption
    | with_reducible apply State.failEntry_kept
    | with_reducible apply State.withNeeds_kept
    | with_reducible apply State.refuseSpec_kept
    | with_reducible apply State.reuseSpec_kept
    | with_reducible apply State.runEntry_kept
    | with_reducible apply State.readFailed_kept
    | with_reducible apply State.takeSlots_kept
    | with_reducible apply State.sendRows_kept
    | with_reducible apply State.putRecords_kept
    | with_reducible apply State.Answers.next
    | with_reducible refine State.Answers.ite (fun _ => ?_) (fun _ => ?_)
    | (intro y; refine State.Kept.cut (a := σ) (s := y) ?_ fun hy => ?_; rotate_left; clear_value y)
    | (intro y; clear_value y)
    | (intro)
    | exact State.Kept.of_record (by with_reducible assumption) rfl rfl rfl rfl rfl rfl rfl rfl rfl
    | lift_lets -underBinder
    | split
    | with_reducible apply State.KeptIn.fst)

theorem State.releaseShare_kept {σ : State} {t : Nat} {expert : Nat} {share : Nat} {s : State} (hs : σ.Kept s) :
    σ.Kept (State.releaseShare t expert share s) := by
  unfold State.releaseShare
  repeat' (first
    | with_reducible assumption
    | with_reducible apply State.placeWrite_kept
    | with_reducible refine State.Kept.ite (fun _ => ?_) (fun _ => ?_)
    | with_reducible apply State.Kept.getD
    | (intro y; clear_value y)
    | exact State.Kept.of_record (by with_reducible assumption) rfl rfl rfl rfl rfl rfl rfl rfl rfl
    | lift_lets -underBinder
    | split)

theorem State.freeSlots_kept {σ : State} {t : Nat} {l : List FreedSlot} {s : State} (hs : σ.Kept s) :
    σ.Kept (State.freeSlots t l s) := by
  unfold State.freeSlots
  repeat' (first
    | with_reducible apply State.count_kept
    | with_reducible apply State.releaseShare_kept
    | with_reducible apply State.Kept.foldl
    | (intro)
    | exact State.Kept.of_record (by with_reducible assumption) rfl rfl rfl rfl rfl rfl rfl rfl rfl)

theorem State.cancelSpec_kept {σ : State} {t : Nat} {id : W32} {status : Option Status} {s : State} (hs : σ.Kept s) :
    σ.Kept (State.cancelSpec t id status s) := by
  unfold State.cancelSpec
  repeat' (first
    | with_reducible assumption
    | with_reducible apply State.failEntry_kept
    | with_reducible apply State.putRecords_kept
    | with_reducible apply State.freeSlots_kept
    | with_reducible apply State.dropDispatch_kept
    | (intro y; refine State.Kept.cut1 (a := σ) (f := y) ?_ fun hf1 => ?_; rotate_left; clear_value y)
    | (intro y; refine State.Kept.cut2 (a := σ) (f := y) ?_ fun hf2 => ?_; rotate_left; clear_value y)
    | with_reducible apply hf1
    | with_reducible apply hf2
    | (intro)
    | exact State.Kept.of_record (by with_reducible assumption) rfl rfl rfl rfl rfl rfl rfl rfl rfl
    | lift_lets -underBinder
    | split
    | refine State.Kept.of_record ?_ rfl rfl rfl rfl rfl rfl rfl rfl rfl)

theorem State.expireSpec_kept {σ : State} {t : Nat} {id : W32} {s : State} (hs : σ.Kept s) :
    σ.Kept (State.expireSpec t id s) := by
  unfold State.expireSpec
  repeat' (first
    | with_reducible assumption
    | with_reducible apply State.bump_kept
    | with_reducible apply State.cancelSpec_kept
    | with_reducible refine State.Kept.ite (fun _ => ?_) (fun _ => ?_))

theorem execSpecDeadline_kept {σ : State} {t : Nat} {id : W32} {s : State} (hs : σ.Kept s) :
    σ.Answers (execSpecDeadline t id s) := by
  unfold execSpecDeadline
  repeat' (first
    | with_reducible assumption
    | with_reducible apply State.expireSpec_kept
    | with_reducible apply State.Answers.next)

theorem State.abandonExpert_kept {σ : State} {e : EntryRef} {s : State} (hs : σ.Kept s) :
    σ.Kept (State.abandonExpert e s) := by
  unfold State.abandonExpert
  repeat' (first
    | with_reducible assumption
    | with_reducible apply State.cancelSpec_kept
    | with_reducible apply State.dropDispatch_kept
    | with_reducible refine State.Kept.ite (fun _ => ?_) (fun _ => ?_)
    | exact State.Kept.of_record (by with_reducible assumption) rfl rfl rfl rfl rfl rfl rfl rfl rfl
    | split)

theorem execSlotRelease_kept {σ : State} {t : Nat} {expert : Nat} {share : Nat} {s : State} (hs : σ.Kept s) :
    σ.Answers (execSlotRelease t expert share s) := by
  unfold execSlotRelease
  repeat' (first
    | with_reducible assumption
    | with_reducible apply State.releaseShare_kept
    | with_reducible apply State.Answers.next)

theorem State.unknownSpec_kept {σ : State} {t : Nat} {e : EntryRef} {s : State} (hs : σ.Kept s) :
    σ.Kept (State.unknownSpec t e s) := by
  unfold State.unknownSpec
  repeat' (first
    | with_reducible assumption
    | with_reducible apply State.lateMalformed_kept)

theorem State.startSpec_kept {σ : State} {t : Nat} {id : W32} {s : State} (hs : σ.Kept s) :
    σ.Kept (State.startSpec t id s) := by
  unfold State.startSpec
  repeat' (first
    | exact State.Kept.of_record (by with_reducible assumption) rfl rfl rfl rfl rfl rfl rfl rfl rfl)

theorem State.confirmDispatch_kept {σ : State} {e : EntryRef} {d : Dispatch} {final : Option Bytes} {rows : MemAns} {s : State} (hs : σ.Kept s) :
    σ.Kept (State.confirmDispatch e d final rows s) := by
  unfold State.confirmDispatch
  repeat' (first
    | with_reducible assumption
    | with_reducible apply State.freeSlots_kept
    | with_reducible apply State.takeSlots_kept
    | with_reducible apply State.sendRows_kept
    | with_reducible apply State.putDispatch_kept
    | with_reducible apply State.runEntry_kept
    | (intro y; clear_value y)
    | lift_lets -underBinder
    | split
    | with_reducible apply State.KeptIn.fst)

theorem State.writePub_kept {σ : State} {p : Prefetch} {expert : W32} {next : Nat} {s : State} (hs : σ.Kept s) :
    σ.Kept (State.writePub p expert next s) := by
  unfold State.writePub
  repeat' (first
    | with_reducible assumption
    | with_reducible apply State.placeWrite_kept
    | with_reducible apply State.failEntry_kept
    | with_reducible apply State.emitReads_kept
    | (intro y; refine State.Kept.cut (a := σ) (s := y) ?_ fun hy => ?_; rotate_left; clear_value y)
    | (intro y; refine State.Kept.cut1 (a := σ) (f := y) ?_ fun hf1 => ?_; rotate_left; clear_value y)
    | with_reducible apply hf1
    | (intro y; clear_value y)
    | (intro)
    | exact State.Kept.of_record (by with_reducible assumption) rfl rfl rfl rfl rfl rfl rfl rfl rfl
    | refine State.Kept.of_some (by with_reducible assumption) ?_
    | lift_lets -underBinder
    | split)

theorem execConfirm_kept {σ : State} {t : Nat} {ring : Nat} {final : MemAns} {rows : MemAns} {s : State} (hs : σ.Kept s) :
    σ.Answers (execConfirm t ring final rows s) := by
  unfold execConfirm
  repeat' (first
    | with_reducible assumption
    | with_reducible apply State.expireSpec_kept
    | with_reducible apply State.startSpec_kept
    | with_reducible apply State.confirmDispatch_kept
    | with_reducible apply State.withNeeds_kept
    | with_reducible apply State.readFailed_kept
    | with_reducible apply State.failEntry_kept
    | with_reducible apply State.runEntry_kept
    | with_reducible apply State.writePub_kept
    | with_reducible apply State.unknownSpec_kept
    | with_reducible apply State.Answers.next
    | with_reducible refine State.Answers.ite (fun _ => ?_) (fun _ => ?_)
    | (intro y; refine State.Kept.cut (a := σ) (s := y) ?_ fun hy => ?_; rotate_left; clear_value y)
    | (intro y; clear_value y)
    | (intro)
    | exact State.Kept.of_record (by with_reducible assumption) rfl rfl rfl rfl rfl rfl rfl rfl rfl
    | lift_lets -underBinder
    | split)

theorem execCancel_kept {σ : State} {t : Nat} {ring : Nat} {s : State} (hs : σ.Kept s) :
    σ.Answers (execCancel t ring s) := by
  unfold execCancel
  repeat' (first
    | with_reducible assumption
    | with_reducible apply State.expireSpec_kept
    | with_reducible apply State.cancelSpec_kept
    | with_reducible apply State.endEntry_kept
    | with_reducible apply State.unknownSpec_kept
    | with_reducible apply State.Answers.next
    | with_reducible refine State.Answers.ite (fun _ => ?_) (fun _ => ?_)
    | split)

theorem execDispatchWeights_kept {σ : State} {t : Nat} {ring : Nat} {ans : MemAns} {s : State} (hs : σ.Kept s) :
    σ.Answers (execDispatchWeights t ring ans s) := by
  unfold execDispatchWeights
  repeat' (first
    | with_reducible assumption
    | with_reducible apply State.failEntry_kept
    | with_reducible apply State.withNeeds_kept
    | with_reducible apply State.refuseSpec_kept
    | with_reducible apply State.reuseSpec_kept
    | with_reducible apply State.runEntry_kept
    | with_reducible apply State.writePub_kept
    | with_reducible apply State.Answers.next
    | with_reducible refine State.Answers.ite (fun _ => ?_) (fun _ => ?_)
    | (intro y; refine State.Kept.cut (a := σ) (s := y) ?_ fun hy => ?_; rotate_left; clear_value y)
    | (intro y; clear_value y)
    | (intro)
    | exact State.Kept.of_record (by with_reducible assumption) rfl rfl rfl rfl rfl rfl rfl rfl rfl
    | lift_lets -underBinder
    | split)

theorem State.copyWeights_kept {σ : State} {p : Prefetch} {s : State} (hs : σ.Kept s) :
    σ.Kept (State.copyWeights p s) := by
  unfold State.copyWeights
  repeat' (first
    | with_reducible assumption
    | with_reducible apply State.readFailed_kept
    | with_reducible apply State.failEntry_kept
    | with_reducible apply State.placeWrite_kept
    | with_reducible apply State.emitReads_kept
    | with_reducible apply State.addBytes_kept
    | (intro y; refine State.Kept.cut (a := σ) (s := y) ?_ fun hy => ?_; rotate_left; clear_value y)
    | (intro y; refine State.Kept.cut1 (a := σ) (f := y) ?_ fun hf1 => ?_; rotate_left; clear_value y)
    | with_reducible apply hf1
    | (intro y; clear_value y)
    | (intro)
    | exact State.Kept.of_record (by with_reducible assumption) rfl rfl rfl rfl rfl rfl rfl rfl rfl
    | refine State.Kept.of_some (by with_reducible assumption) ?_
    | lift_lets -underBinder
    | split)

theorem State.weightsCopied_kept {σ : State} {p : Prefetch} {s : State} (hs : σ.Kept s) :
    σ.Kept (State.weightsCopied p s) := by
  unfold State.weightsCopied
  repeat' (first
    | with_reducible apply State.writePub_kept
    | with_reducible refine State.Kept.ite (fun _ => ?_) (fun _ => ?_)
    | exact State.Kept.of_record (by with_reducible assumption) rfl rfl rfl rfl rfl rfl rfl rfl rfl)

theorem State.endPrefetch_kept {σ : State} {p : Prefetch} {s : State} (hs : σ.Kept s) :
    σ.Kept (State.endPrefetch p s) := by
  unfold State.endPrefetch
  repeat' (first
    | with_reducible assumption
    | with_reducible apply State.endEntry_kept
    | (intro y; refine State.Kept.cut (a := σ) (s := y) ?_ fun hy => ?_; rotate_left; clear_value y)
    | (intro y; clear_value y)
    | exact State.Kept.of_record (by with_reducible assumption) rfl rfl rfl rfl rfl rfl rfl rfl rfl
    | lift_lets -underBinder
    | split)

theorem State.entryReadDone_kept {σ : State} {e : EntryRef} {ok : Bool} {s : State} (hs : σ.Kept s) :
    σ.Kept (State.entryReadDone e ok s) := by
  unfold State.entryReadDone
  repeat' (first
    | with_reducible assumption
    | with_reducible apply State.noteFail_kept
    | with_reducible apply State.endEntry_kept
    | with_reducible apply State.localReadDone_kept
    | with_reducible apply State.endPrefetch_kept
    | with_reducible apply State.copyWeights_kept
    | with_reducible apply State.weightsCopied_kept
    | with_reducible refine State.Kept.ite (fun _ => ?_) (fun _ => ?_)
    | (intro y; clear_value y)
    | exact State.Kept.of_record (by with_reducible assumption) rfl rfl rfl rfl rfl rfl rfl rfl rfl
    | refine State.Kept.of_fst (by with_reducible assumption) ?_
    | lift_lets -underBinder
    | split
    | refine State.Kept.of_record ?_ rfl rfl rfl rfl rfl rfl rfl rfl rfl)

theorem execReadbackDone_kept {σ : State} {target : ReadFor} {ok : Bool} {s : State} (hs : σ.Kept s) :
    σ.Answers (execReadbackDone target ok s) := by
  unfold execReadbackDone
  repeat' (first
    | with_reducible assumption
    | with_reducible apply State.peerReadDone_kept
    | with_reducible apply State.ownReadDone_kept
    | with_reducible apply State.entryReadDone_kept
    | with_reducible apply State.Answers.next
    | split)

theorem State.combineOne_kept {σ : State} {e : EntryRef} {_d : Dispatch} {w : W512} {router : Bytes} {recs : Bytes} {acc : State × Combine × Dispatch × Nat} {i : Nat} {rows : MemAns} (hacc : σ.KeptIn holdsFst acc) :
    σ.KeptIn holdsFst (State.combineOne e _d w router recs acc i rows) := by
  unfold State.combineOne
  repeat' (first
    | with_reducible assumption
    | with_reducible apply State.bump_kept
    | with_reducible apply State.countRemoteRefused_kept
    | with_reducible apply State.readFailed_kept
    | with_reducible apply State.fetchCtx_kept
    | with_reducible apply State.post_kept
    | with_reducible refine State.KeptIn.ite (fun _ => ?_) (fun _ => ?_)
    | (intro)
    | exact State.Kept.of_fst rfl (by with_reducible assumption)
    | lift_lets -underBinder
    | split
    | refine State.Kept.of_record ?_ rfl rfl rfl rfl rfl rfl rfl rfl rfl
    | with_reducible apply State.KeptIn.mkFst)

theorem execCombine_kept {σ : State} {t : Nat} {ring : Nat} {router : MemAns} {recs : MemAns} {rows : MemAns} {s : State} (hs : σ.Kept s) :
    σ.Answers (execCombine t ring router recs rows s) := by
  unfold execCombine
  repeat' (first
    | with_reducible assumption
    | with_reducible apply State.failEntry_kept
    | with_reducible apply State.withNeeds_kept
    | with_reducible apply State.runEntry_kept
    | with_reducible apply State.combineOne_kept
    | with_reducible apply State.readFailed_kept
    | with_reducible apply State.Answers.next
    | with_reducible refine State.Answers.ite (fun _ => ?_) (fun _ => ?_)
    | with_reducible refine State.Kept.ite (fun _ => ?_) (fun _ => ?_)
    | with_reducible apply State.KeptIn.foldl
    | (intro y; refine State.Kept.cut (a := σ) (s := y) ?_ fun hy => ?_; rotate_left; clear_value y)
    | (intro y; refine State.KeptIn.cut (a := σ) (P := holdsFst) (r := y) ?_ fun hy => ?_; rotate_left; clear_value y)
    | (intro)
    | exact State.Kept.of_record (by with_reducible assumption) rfl rfl rfl rfl rfl rfl rfl rfl rfl
    | exact State.Kept.of_fst rfl (by with_reducible assumption)
    | lift_lets -underBinder
    | split
    | with_reducible apply State.KeptIn.mkFst)

theorem State.addRow_kept {σ : State} {h : AccHold} {a : Nat} {j : Nat} {b : Bytes} {s : State} (hs : σ.Kept s) :
    σ.KeptIn holdsSome (State.addRow h a j b s) := by
  unfold State.addRow
  repeat' (first
    | with_reducible assumption
    | with_reducible apply State.applyAccs_kept
    | with_reducible apply State.useLanes_kept
    | with_reducible apply State.KeptIn.mapSome
    | with_reducible refine State.KeptIn.ite (fun _ => ?_) (fun _ => ?_)
    | with_reducible apply State.KeptIn.ofSome)

theorem State.applyResponse_kept {σ : State} {h : AccHold} {c : Nat} {psn : W32} {msn : W32} {index : Nat} {s : State} (hs : σ.Kept s) :
    σ.Kept (State.applyResponse h c psn msn index s) := by
  unfold State.applyResponse
  repeat' (first
    | with_reducible assumption
    | with_reducible apply State.setConn_kept
    | with_reducible apply State.sendAck_kept
    | with_reducible apply State.addRow_kept
    | with_reducible apply State.ackAccepted_kept
    | with_reducible apply State.readEnd_kept
    | with_reducible apply State.KeptIn.foldlBind
    | with_reducible apply State.KeptIn.ofSome
    | with_reducible refine State.Kept.ite (fun _ => ?_) (fun _ => ?_)
    | with_reducible apply State.Kept.getD
    | (intro)
    | split)

theorem State.endCombine_kept {σ : State} {k : Combine} {s : State} (hs : σ.Kept s) :
    σ.Kept (State.endCombine k s) := by
  unfold State.endCombine
  repeat' (first
    | with_reducible assumption
    | with_reducible apply State.modifyChain_kept
    | with_reducible apply State.raiseArrived_kept
    | with_reducible apply State.endEntry_kept
    | (intro y; refine State.Kept.cut (a := σ) (s := y) ?_ fun hy => ?_; rotate_left; clear_value y)
    | (intro y; clear_value y)
    | exact State.Kept.of_record (by with_reducible assumption) rfl rfl rfl rfl rfl rfl rfl rfl rfl
    | lift_lets -underBinder
    | split)

theorem execCombineResponseApply_kept {σ : State} {tower : Nat} {s : State} (hs : σ.Kept s) :
    σ.Answers (execCombineResponseApply tower s) := by
  unfold execCombineResponseApply
  repeat' (first
    | with_reducible assumption
    | with_reducible apply State.endCombine_kept
    | with_reducible apply State.bump_kept
    | with_reducible apply State.loseHold_kept
    | with_reducible apply State.applyResponse_kept
    | with_reducible apply State.dropHold_kept
    | with_reducible apply State.addRow_kept
    | with_reducible apply State.addBytes_kept
    | with_reducible apply State.needBlocks_kept
    | with_reducible apply State.Answers.next
    | with_reducible apply State.Kept.getD
    | (intro y; clear_value y)
    | lift_lets -underBinder
    | split
    | refine State.Kept.of_record ?_ rfl rfl rfl rfl rfl rfl rfl rfl rfl)

end Sys2Proof.Machine
end

