-- ==== Sys2Proof/Laws/KeptSpire.lean ====
section
/-! SUPPORT. What every command keeps: the operations of Machine/Spire.lean. -/
namespace Sys2Proof.Machine

theorem State.dropInstance_kept {σ : State} {i : SlotInstance} {s : State} (hs : σ.Kept s) :
    σ.Kept (State.dropInstance i s) := by
  unfold State.dropInstance
  repeat' (first
    | exact State.Kept.of_record (by with_reducible assumption) rfl rfl rfl rfl rfl rfl rfl rfl rfl)

theorem State.putInstance_kept {σ : State} {i : SlotInstance} {s : State} (hs : σ.Kept s) :
    σ.Kept (State.putInstance i s) := by
  unfold State.putInstance
  repeat' (first
    | exact State.Kept.of_record (by with_reducible assumption) rfl rfl rfl rfl rfl rfl rfl rfl rfl)

theorem State.markStaging_kept {σ : State} {tower : Nat} {s : State} (hs : σ.Kept s) :
    σ.Kept (State.markStaging tower s) := by
  unfold State.markStaging
  repeat' (first
    | with_reducible assumption
    | with_reducible apply State.setRo_kept
    | with_reducible refine State.Kept.ite (fun _ => ?_) (fun _ => ?_))

theorem State.readLoads_kept {σ : State} {x : Conn} {l : List LoadPkt} {s : State} (hs : σ.Kept s) :
    σ.Kept (State.readLoads x l s) := by
  unfold State.readLoads
  repeat' (first
    | with_reducible assumption
    | with_reducible apply State.stopRead_kept
    | with_reducible apply State.emitParts_kept
    | with_reducible apply State.Kept.foldl
    | (intro)
    | lift_lets -underBinder
    | split)

theorem State.growLoad_kept {σ : State} {i : SlotInstance} {w : Nat} {s : State} (hs : σ.Kept s) :
    σ.Kept (State.growLoad i w s) := by
  unfold State.growLoad
  repeat' (first
    | with_reducible assumption
    | with_reducible apply State.putInstance_kept
    | with_reducible apply State.readLoads_kept
    | with_reducible apply State.markStaging_kept
    | exact State.Kept.of_record (by with_reducible assumption) rfl rfl rfl rfl rfl rfl rfl rfl rfl
    | split)

theorem State.regrow_kept {σ : State} {s : State} {i : SlotInstance} (hs : σ.Kept s) :
    σ.Kept (State.regrow s i) := by
  unfold State.regrow
  repeat' (first
    | with_reducible assumption
    | with_reducible apply State.growLoad_kept
    | with_reducible refine State.Kept.ite (fun _ => ?_) (fun _ => ?_)
    | split)

theorem State.growLoads_kept {σ : State} {s : State} (hs : σ.Kept s) :
    σ.Kept (State.growLoads s) := by
  unfold State.growLoads
  repeat' (first
    | with_reducible assumption
    | with_reducible apply State.regrow_kept
    | with_reducible apply State.Kept.foldl)

theorem State.requeue_kept {σ : State} {c : Nat} {l : List LoadPkt} {s : State} (hs : σ.Kept s) :
    σ.Kept (State.requeue c l s) := by
  unfold State.requeue
  repeat' (first
    | with_reducible apply State.regrow_kept
    | with_reducible apply State.Kept.foldl
    | exact State.Kept.of_record (by with_reducible assumption) rfl rfl rfl rfl rfl rfl rfl rfl rfl)

theorem execTimeClockTick_kept {σ : State} {s : State} (hs : σ.Kept s) :
    σ.Answers (execTimeClockTick s) := by
  unfold execTimeClockTick
  repeat' (first
    | with_reducible assumption
    | with_reducible apply State.flushDoorbells_kept
    | with_reducible apply State.timeTick_kept
    | with_reducible apply State.growLoads_kept
    | with_reducible apply State.Answers.next)

theorem execSlotFetchOpen_kept {σ : State} {tower : Nat} {entry : Nat} {s : State} (hs : σ.Kept s) :
    σ.Answers (execSlotFetchOpen tower entry s) := by
  unfold execSlotFetchOpen
  repeat' (first
    | with_reducible assumption
    | with_reducible apply State.putInstance_kept
    | with_reducible apply State.growLoad_kept
    | with_reducible apply State.Answers.next
    | with_reducible refine State.Answers.ite (fun _ => ?_) (fun _ => ?_)
    | exact State.Kept.of_record (by with_reducible assumption) rfl rfl rfl rfl rfl rfl rfl rfl rfl
    | split)

theorem State.fallBehind_kept {σ : State} {c : Nat} {round : Nat} {s : State} (hs : σ.Kept s) :
    σ.Kept (State.fallBehind c round s) := by
  unfold State.fallBehind
  repeat' (first
    | with_reducible assumption
    | with_reducible apply State.setConn_kept
    | split)

theorem State.fixLoad_kept {σ : State} {i : SlotInstance} {expect : Bool} {s : State} (hs : σ.Kept s) :
    σ.Kept (State.fixLoad i expect s) := by
  unfold State.fixLoad
  repeat' (first
    | with_reducible assumption
    | with_reducible apply State.putInstance_kept
    | with_reducible apply State.requeue_kept
    | with_reducible apply State.setConn_kept
    | with_reducible apply State.fallBehind_kept
    | with_reducible apply State.bump_kept
    | with_reducible apply State.setRo_kept
    | with_reducible apply State.event_kept
    | with_reducible refine State.Kept.ite (fun _ => ?_) (fun _ => ?_)
    | split)

theorem execSlotReadyDeadline_kept {σ : State} {tower : Nat} {entry : Nat} {s : State} (hs : σ.Kept s) :
    σ.Answers (execSlotReadyDeadline tower entry s) := by
  unfold execSlotReadyDeadline
  repeat' (first
    | with_reducible assumption
    | with_reducible apply State.fixLoad_kept
    | with_reducible apply State.Answers.next
    | with_reducible refine State.Answers.ite (fun _ => ?_) (fun _ => ?_)
    | split)

theorem State.sendLoads_kept {σ : State} {port c : Nat} :
    ∀ {l : List LoadPkt} {off : Nat} {s : State}, σ.Kept s → σ.KeptIn holdsFst (State.sendLoads port c l off s)
  | [], _, _, hs => State.KeptIn.mkFst hs
  | q :: qs, off, s, hs => by
    unfold State.sendLoads
    split
    · exact State.sendLoads_kept hs
    · refine State.KeptIn.ite (fun _ => ?_) (fun _ => State.KeptIn.mkFst hs)
      refine State.sendLoads_kept (State.Kept.of_record ?_ rfl rfl rfl rfl rfl rfl rfl rfl rfl)
      refine State.launch_kept (State.Kept.of_record ?_ rfl rfl rfl rfl rfl rfl rfl rfl rfl)
      exact State.Kept.ite (fun _ => State.bump_kept (State.setConn_kept hs)) (fun _ => State.setConn_kept hs)

theorem State.endBehind_kept {σ : State} {c : Nat} {s : State} (hs : σ.Kept s) :
    σ.Kept (State.endBehind c s) := by
  unfold State.endBehind
  repeat' (first
    | with_reducible assumption
    | with_reducible apply State.setConn_kept
    | with_reducible refine State.Kept.ite (fun _ => ?_) (fun _ => ?_)
    | split)

theorem State.portUntil_kept {σ : State} {port : Nat} {start : Nat} {off : Nat} {s : State} (hs : σ.Kept s) :
    σ.Kept (State.portUntil port start off s) := by
  unfold State.portUntil
  repeat' (first
    | with_reducible assumption
    | with_reducible apply State.setPort_kept
    | with_reducible refine State.Kept.ite (fun _ => ?_) (fun _ => ?_))

theorem State.skipLoad_kept {σ : State} {i : SlotInstance} {s : State} (hs : σ.Kept s) :
    σ.Kept (State.skipLoad i s) := by
  unfold State.skipLoad
  repeat' (first
    | with_reducible assumption
    | with_reducible apply State.dropInstance_kept
    | with_reducible apply State.requeue_kept
    | with_reducible apply State.fallBehind_kept
    | with_reducible refine State.Kept.ite (fun _ => ?_) (fun _ => ?_))

theorem State.countSkipped_kept {σ : State} {tower : Nat} {n : Nat} {due : Nat} {s : State} (hs : σ.Kept s) :
    σ.Kept (State.countSkipped tower n due s) := by
  unfold State.countSkipped
  repeat' (first
    | with_reducible assumption
    | with_reducible apply State.count_kept
    | with_reducible apply State.setRo_kept
    | with_reducible refine State.Kept.ite (fun _ => ?_) (fun _ => ?_))

theorem State.fireSlot_kept {σ : State} {x : Slot} {i : SlotInstance} {s : State} (hs : σ.Kept s) :
    σ.Kept (State.fireSlot x i s) := by
  unfold State.fireSlot
  refine State.Kept.ite (fun _ => ?_) (fun _ => State.countSkipped_kept (State.skipLoad_kept hs))
  have h := (State.sendLoads_kept (port := x.egress) (c := i.conn) (l := i.load) (off := 0)
    (State.bump_kept (p := d7_0100) (i0 := i.tower) (State.dropInstance_kept (i := i) hs))).fst
  exact State.Kept.ite (fun _ => State.endBehind_kept (State.portUntil_kept h)) (fun _ => State.requeue_kept (State.portUntil_kept h))

theorem execSlotDue_kept {σ : State} {tower : Nat} {entry : Nat} {s : State} (hs : σ.Kept s) :
    σ.Answers (execSlotDue tower entry s) := by
  unfold execSlotDue
  repeat' (first
    | with_reducible assumption
    | with_reducible apply State.skipLoad_kept
    | with_reducible apply State.countSkipped_kept
    | with_reducible apply State.fixLoad_kept
    | with_reducible apply State.fireSlot_kept
    | with_reducible apply State.Answers.next
    | with_reducible refine State.Answers.ite (fun _ => ?_) (fun _ => ?_)
    | with_reducible refine State.Kept.ite (fun _ => ?_) (fun _ => ?_)
    | with_reducible apply State.Kept.foldl
    | (intro)
    | exact State.Kept.of_record (by with_reducible assumption) rfl rfl rfl rfl rfl rfl rfl rfl rfl
    | split)

end Sys2Proof.Machine
end

