-- ==== Sys2Proof/Laws/KeptMovers.lean ====
section
/-! SUPPORT. What every command keeps: the operations of Machine/Movers.lean. -/
namespace Sys2Proof.Machine

theorem State.setChan_kept {σ : State} {tower : Nat} {c : Nat} {x : Channel} {s : State} (hs : σ.Kept s) :
    σ.Kept (State.setChan tower c x s) := by
  unfold State.setChan
  repeat' (first
    | exact State.Kept.of_record (by with_reducible assumption) rfl rfl rfl rfl rfl rfl rfl rfl rfl)

theorem State.modifyHead_kept {σ : State} {tower : Nat} {c : Nat} {f : Descriptor → Descriptor} {s : State} (hs : σ.Kept s) :
    σ.Kept (State.modifyHead tower c f s) := by
  unfold State.modifyHead
  repeat' (first
    | with_reducible assumption
    | with_reducible apply State.setChan_kept
    | (intro y; clear_value y)
    | lift_lets -underBinder
    | split)

theorem State.queueMove_kept {σ : State} {op : Nat} {t : Nat} {ring : Nat} {s : State} (hs : σ.Kept s) :
    σ.Kept (State.queueMove op t ring s) := by
  unfold State.queueMove
  repeat' (first
    | with_reducible assumption
    | with_reducible apply State.failEntry_kept
    | with_reducible apply State.withNeeds_kept
    | with_reducible apply State.runEntry_kept
    | with_reducible apply State.setChan_kept
    | with_reducible refine State.Kept.ite (fun _ => ?_) (fun _ => ?_)
    | (intro)
    | split)

theorem execMove_kept {σ : State} {t : Nat} {ring : Nat} {s : State} (hs : σ.Kept s) :
    σ.Answers (execMove t ring s) := by
  unfold execMove
  repeat' (first
    | with_reducible assumption
    | with_reducible apply State.queueMove_kept
    | with_reducible apply State.Answers.next)

theorem execFill_kept {σ : State} {t : Nat} {ring : Nat} {s : State} (hs : σ.Kept s) :
    σ.Answers (execFill t ring s) := by
  unfold execFill
  repeat' (first
    | with_reducible assumption
    | with_reducible apply State.queueMove_kept
    | with_reducible apply State.Answers.next)

theorem State.popHead_kept {σ : State} {tower : Nat} {c : Nat} {f : Descriptor → State → State} {s : State} (hf : ∀ x0 x1, σ.Kept x1 → σ.Kept (f x0 x1)) (hs : σ.Kept s) :
    σ.Kept (State.popHead tower c f s) := by
  unfold State.popHead
  repeat' (first
    | with_reducible assumption
    | apply hf
    | with_reducible apply State.setChan_kept
    | with_reducible apply State.bump_kept
    | (intro y; clear_value y)
    | lift_lets -underBinder
    | split)

theorem execDescriptorStart_kept {σ : State} {tower : Nat} {chan : Nat} {s : State} (hs : σ.Kept s) :
    σ.Answers (execDescriptorStart tower chan s) := by
  unfold execDescriptorStart
  repeat' (first
    | with_reducible assumption
    | with_reducible apply State.popHead_kept
    | with_reducible apply State.failEntry_kept
    | with_reducible apply State.modifyHead_kept
    | with_reducible apply State.bump_kept
    | with_reducible apply State.endEntry_kept
    | with_reducible apply State.countLocalRefused_kept
    | with_reducible apply State.Answers.next
    | with_reducible refine State.Answers.ite (fun _ => ?_) (fun _ => ?_)
    | (intro)
    | lift_lets -underBinder
    | split)

theorem execBurstIssue_kept {σ : State} {tower : Nat} {s : State} (hs : σ.Kept s) :
    σ.Answers (execBurstIssue tower s) := by
  unfold execBurstIssue
  repeat' (first
    | with_reducible assumption
    | with_reducible apply State.countLocalRefused_kept
    | with_reducible apply State.modifyHead_kept
    | with_reducible apply State.countSquashed_kept
    | with_reducible apply State.emit_kept
    | with_reducible apply State.Answers.next
    | with_reducible refine State.Answers.ite (fun _ => ?_) (fun _ => ?_)
    | with_reducible refine State.Kept.ite (fun _ => ?_) (fun _ => ?_)
    | (intro y; refine State.Kept.cut (a := σ) (s := y) ?_ fun hy => ?_; rotate_left; clear_value y)
    | (intro y; clear_value y)
    | exact State.Kept.of_record (by with_reducible assumption) rfl rfl rfl rfl rfl rfl rfl rfl rfl
    | lift_lets -underBinder
    | split
    | refine State.Kept.of_record ?_ rfl rfl rfl rfl rfl rfl rfl rfl rfl)

theorem State.moveReads_kept {σ : State} {tower : Nat} {c : Nat} {s : State} (hs : σ.Kept s) :
    σ.Kept (State.moveReads tower c s) := by
  unfold State.moveReads
  repeat' (first
    | with_reducible assumption
    | with_reducible apply State.countSquashed_kept
    | with_reducible apply State.modifyHead_kept
    | with_reducible apply State.emitReads_kept
    | with_reducible refine State.Kept.ite (fun _ => ?_) (fun _ => ?_)
    | split)

theorem State.badBurst_kept {σ : State} {tower : Nat} {c : Nat} {off : Nat} {s : State} (hs : σ.Kept s) :
    σ.Kept (State.badBurst tower c off s) := by
  unfold State.badBurst
  repeat' (first
    | with_reducible assumption
    | with_reducible apply State.modifyHead_kept)

theorem execBurstDone_kept {σ : State} {tower : Nat} {chan : Nat} {off : Nat} {ans : MemAns} {s : State} (hs : σ.Kept s) :
    σ.Answers (execBurstDone tower chan off ans s) := by
  unfold execBurstDone
  repeat' (first
    | with_reducible assumption
    | with_reducible apply State.modifyHead_kept
    | with_reducible apply State.readFailed_kept
    | with_reducible apply State.badBurst_kept
    | with_reducible apply State.moveReads_kept
    | with_reducible apply State.placeWrite_kept
    | with_reducible apply State.countStale_kept
    | with_reducible apply State.count_kept
    | with_reducible apply State.Answers.next
    | with_reducible refine State.Kept.ite (fun _ => ?_) (fun _ => ?_)
    | (intro y; refine State.Kept.cut (a := σ) (s := y) ?_ fun hy => ?_; rotate_left; clear_value y)
    | (intro y; clear_value y)
    | exact State.Kept.of_record (by with_reducible assumption) rfl rfl rfl rfl rfl rfl rfl rfl rfl
    | refine State.Kept.of_some (by with_reducible assumption) ?_
    | lift_lets -underBinder
    | split)

theorem State.writeEvent_kept {σ : State} {tower : Nat} {c : Nat} {d : Descriptor} {full : Bool} {s : State} (hs : σ.Kept s) :
    σ.Kept (State.writeEvent tower c d full s) := by
  unfold State.writeEvent
  repeat' (first
    | with_reducible assumption
    | with_reducible apply State.placeWrite_kept
    | with_reducible apply State.noteFail_kept
    | refine State.Kept.of_some (by with_reducible assumption) ?_
    | split)

theorem execHalfEvent_kept {σ : State} {tower : Nat} {chan : Nat} {ok : Bool} {s : State} (hs : σ.Kept s) :
    σ.Answers (execHalfEvent tower chan ok s) := by
  unfold execHalfEvent
  repeat' (first
    | with_reducible assumption
    | with_reducible apply State.modifyHead_kept
    | with_reducible apply State.writeEvent_kept
    | with_reducible apply State.badBurst_kept
    | with_reducible apply State.Answers.next
    | with_reducible refine State.Answers.ite (fun _ => ?_) (fun _ => ?_)
    | with_reducible refine State.Kept.ite (fun _ => ?_) (fun _ => ?_)
    | split)

theorem State.endBad_kept {σ : State} {tower : Nat} {c : Nat} {off : Nat} {s : State} (hs : σ.Kept s) :
    σ.Kept (State.endBad tower c off s) := by
  unfold State.endBad
  repeat' (first
    | with_reducible assumption
    | with_reducible apply State.bump_kept
    | with_reducible apply State.setChan_kept
    | with_reducible apply State.popHead_kept
    | with_reducible apply State.addBytes_kept
    | with_reducible apply State.modifyChain_kept
    | with_reducible apply State.failEntry_kept
    | with_reducible refine State.Kept.ite (fun _ => ?_) (fun _ => ?_)
    | (intro y; refine State.Kept.cut (a := σ) (s := y) ?_ fun hy => ?_; rotate_left; clear_value y)
    | (intro)
    | lift_lets -underBinder
    | split)

theorem execDescriptorDone_kept {σ : State} {tower : Nat} {chan : Nat} {ok : Bool} {s : State} (hs : σ.Kept s) :
    σ.Answers (execDescriptorDone tower chan ok s) := by
  unfold execDescriptorDone
  repeat' (first
    | with_reducible assumption
    | with_reducible apply State.endBad_kept
    | with_reducible apply State.writeEvent_kept
    | with_reducible apply State.popHead_kept
    | with_reducible apply State.addBytes_kept
    | with_reducible apply State.endEntry_kept
    | with_reducible apply State.Answers.next
    | with_reducible refine State.Answers.ite (fun _ => ?_) (fun _ => ?_)
    | with_reducible refine State.Kept.ite (fun _ => ?_) (fun _ => ?_)
    | (intro)
    | lift_lets -underBinder
    | split)

theorem State.noteLate_kept {σ : State} {key : Nat} {due : Nat} {s : State} (hs : σ.Kept s) :
    σ.Kept (State.noteLate key due s) := by
  unfold State.noteLate
  repeat' (first
    | exact State.Kept.of_record (by with_reducible assumption) rfl rfl rfl rfl rfl rfl rfl rfl rfl)

theorem State.useLate_kept {σ : State} {key : Nat} {s : State} (hs : σ.Kept s) :
    σ.Kept (State.useLate key s) := by
  unfold State.useLate
  repeat' (first
    | exact State.Kept.of_record (by with_reducible assumption) rfl rfl rfl rfl rfl rfl rfl rfl rfl)

theorem State.emptyStep_kept {σ : State} {tower : Nat} {x : Slot} {due : Nat} {t : Nat} {s : State} (hs : σ.Kept s) :
    σ.Kept (State.emptyStep tower x due t s) := by
  unfold State.emptyStep
  repeat' (first
    | with_reducible assumption
    | with_reducible apply State.bump_kept
    | with_reducible apply State.event_kept
    | with_reducible refine State.Kept.ite (fun _ => ?_) (fun _ => ?_))

theorem State.takeInstance_kept {σ : State} {tower : Nat} {entry : Nat} {x : Slot} {s : State} (hs : σ.Kept s) :
    σ.KeptIn holdsSomeSnd (State.takeInstance tower entry x s) := by
  unfold State.takeInstance
  repeat' (first
    | with_reducible assumption
    | with_reducible apply State.countSkipped_kept
    | with_reducible refine State.KeptIn.ite (fun _ => ?_) (fun _ => ?_)
    | with_reducible exact State.KeptIn.ofNoneSnd
    | with_reducible apply State.KeptIn.ofSomeSnd
    | (intro y; clear_value y)
    | lift_lets -underBinder
    | split
    | refine State.Kept.of_record ?_ rfl rfl rfl rfl rfl rfl rfl rfl rfl)

theorem execMoveSlotDue_kept {σ : State} {tower : Nat} {entry : Nat} {s : State} (hs : σ.Kept s) :
    σ.Answers (execMoveSlotDue tower entry s) := by
  unfold execMoveSlotDue
  repeat' (first
    | with_reducible assumption
    | with_reducible apply State.takeInstance_kept
    | with_reducible apply State.countSkipped_kept
    | with_reducible apply State.bump_kept
    | with_reducible apply State.setChan_kept
    | with_reducible apply State.noteLate_kept
    | with_reducible apply State.emptyStep_kept
    | with_reducible apply State.Answers.next
    | with_reducible refine State.Answers.ite (fun _ => ?_) (fun _ => ?_)
    | (intro y; refine State.Kept.cut (a := σ) (s := y) ?_ fun hy => ?_; rotate_left; clear_value y)
    | refine State.Kept.of_someSnd (by with_reducible assumption) ?_
    | lift_lets -underBinder
    | split)

theorem State.startBound_kept {σ : State} {w : AccWork} {ans : MemAns} {s : State} (hs : σ.Kept s) :
    σ.Kept (State.startBound w ans s) := by
  unfold State.startBound
  repeat' (first
    | with_reducible assumption
    | with_reducible apply State.putWork_kept
    | with_reducible apply State.judgeStep_kept
    | with_reducible apply State.beginStep_kept
    | exact State.Kept.of_record (by with_reducible assumption) rfl rfl rfl rfl rfl rfl rfl rfl rfl
    | refine State.Kept.of_error (by with_reducible assumption) ?_
    | split)

theorem execReduceSlotDue_kept {σ : State} {tower : Nat} {entry : Nat} {ans : MemAns} {s : State} (hs : σ.Kept s) :
    σ.Answers (execReduceSlotDue tower entry ans s) := by
  unfold execReduceSlotDue
  repeat' (first
    | with_reducible assumption
    | with_reducible apply State.takeInstance_kept
    | with_reducible apply State.countSkipped_kept
    | with_reducible apply State.bump_kept
    | with_reducible apply State.startBound_kept
    | with_reducible apply State.noteLate_kept
    | with_reducible apply State.emptyStep_kept
    | with_reducible apply State.Answers.next
    | with_reducible refine State.Answers.ite (fun _ => ?_) (fun _ => ?_)
    | (intro y; refine State.Kept.cut (a := σ) (s := y) ?_ fun hy => ?_; rotate_left; clear_value y)
    | refine State.Kept.of_someSnd (by with_reducible assumption) ?_
    | lift_lets -underBinder
    | split)

theorem execStepLateStart_kept {σ : State} {move : Bool} {target : Nat} {ans : MemAns} {s : State} (hs : σ.Kept s) :
    σ.Answers (execStepLateStart move target ans s) := by
  unfold execStepLateStart
  repeat' (first
    | with_reducible assumption
    | with_reducible apply State.useLate_kept
    | with_reducible apply State.setChan_kept
    | with_reducible apply State.noteFail_kept
    | with_reducible apply State.bump_kept
    | with_reducible apply State.startBound_kept
    | with_reducible apply State.Answers.next
    | with_reducible refine State.Answers.ite (fun _ => ?_) (fun _ => ?_)
    | (intro y; clear_value y)
    | lift_lets -underBinder
    | split)

end Sys2Proof.Machine
end

