-- ==== Sys2Proof/Laws/KeptRings.lean ====
section
/-! SUPPORT. What every command keeps: the operations of Machine/Rings.lean. -/
namespace Sys2Proof.Machine

theorem State.ringWrite_kept {σ : State} {k : Nat} {r : Ring} {a : Nat} {b : Bytes} {s : State} (hs : σ.Kept s) :
    σ.KeptIn holdsSome (State.ringWrite k r a b s) := by
  unfold State.ringWrite
  repeat' (first
    | with_reducible assumption
    | with_reducible apply State.placeWrite_kept
    | with_reducible refine State.KeptIn.ite (fun _ => ?_) (fun _ => ?_)
    | with_reducible exact State.KeptIn.ofNone)

theorem State.writeMirror_kept {σ : State} {k : Nat} {s : State} (hs : σ.Kept s) :
    σ.Kept (State.writeMirror k s) := by
  unfold State.writeMirror
  repeat' (first
    | with_reducible assumption
    | with_reducible apply State.setRing_kept
    | with_reducible apply State.ringWrite_kept
    | with_reducible apply State.raiseRing_kept
    | with_reducible refine State.Kept.ite (fun _ => ?_) (fun _ => ?_)
    | with_reducible apply State.Kept.getD
    | split)

theorem State.ringCmd_kept {σ : State} {t : Nat} {ring : Nat} {f : State → State} {s : State} (hf : ∀ x0, σ.Kept x0 → σ.Kept (f x0)) (hs : σ.Kept s) :
    σ.Kept (State.ringCmd t ring f s) := by
  unfold State.ringCmd
  repeat' (first
    | with_reducible assumption
    | apply hf
    | with_reducible apply State.setFn_kept
    | with_reducible refine State.Kept.ite (fun _ => ?_) (fun _ => ?_))

theorem State.ringResult_kept {σ : State} {t : Nat} {code : Nat} {s : State} (hs : σ.Kept s) :
    σ.Kept (State.ringResult t code s) := by
  unfold State.ringResult
  repeat' (first
    | with_reducible assumption
    | with_reducible apply State.setFn_kept)

theorem State.endRingCmd_kept {σ : State} {k : Nat} {s : State} (hs : σ.Kept s) :
    σ.Kept (State.endRingCmd k s) := by
  unfold State.endRingCmd
  repeat' (first
    | with_reducible assumption
    | with_reducible apply State.ringResult_kept
    | with_reducible refine State.Kept.ite (fun _ => ?_) (fun _ => ?_))

theorem State.withRing_kept {σ : State} {t : Nat} {ring : Nat} {f : Ring → State → State} {s : State} (hf : ∀ x0 x1, σ.Kept x1 → σ.Kept (f x0 x1)) (hs : σ.Kept s) :
    σ.Kept (State.withRing t ring f s) := by
  unfold State.withRing
  repeat' (first
    | with_reducible assumption
    | apply hf
    | with_reducible apply State.ringResult_kept
    | split)

theorem execRingCreate_kept {σ : State} {t : Nat} {ring : Nat} {s : State} (hs : σ.Kept s) :
    σ.Answers (execRingCreate t ring s) := by
  unfold execRingCreate
  repeat' (first
    | with_reducible assumption
    | with_reducible apply State.ringCmd_kept
    | with_reducible apply State.ringResult_kept
    | with_reducible apply State.setRing_kept
    | with_reducible apply State.writeMirror_kept
    | with_reducible apply State.Answers.next
    | with_reducible refine State.Kept.ite (fun _ => ?_) (fun _ => ?_)
    | (intro))

theorem execRingQuery_kept {σ : State} {t : Nat} {ring : Nat} {s : State} (hs : σ.Kept s) :
    σ.Answers (execRingQuery t ring s) := by
  unfold execRingQuery
  repeat' (first
    | with_reducible assumption
    | with_reducible apply State.ringCmd_kept
    | with_reducible apply State.withRing_kept
    | with_reducible apply State.setFn_kept
    | with_reducible apply State.ringResult_kept
    | with_reducible apply State.Answers.next
    | (intro))

theorem execRingCmdUnknown_kept {σ : State} {t : Nat} {value : W64} {s : State} (hs : σ.Kept s) :
    σ.Answers (execRingCmdUnknown t value s) := by
  unfold execRingCmdUnknown
  repeat' (first
    | with_reducible assumption
    | with_reducible apply State.ringCmd_kept
    | with_reducible apply State.ringResult_kept
    | with_reducible apply State.Answers.next
    | with_reducible refine State.Answers.ite (fun _ => ?_) (fun _ => ?_))

theorem State.abandonEntry_kept {σ : State} {e : EntryRef} {s : State} (hs : σ.Kept s) :
    σ.Kept (State.abandonEntry e s) := by
  unfold State.abandonEntry
  repeat' (first
    | with_reducible assumption
    | with_reducible apply State.orphan_kept
    | with_reducible apply State.abandonExpert_kept
    | with_reducible apply State.Kept.foldl
    | (intro y; refine State.Kept.cut (a := σ) (s := y) ?_ fun hy => ?_; rotate_left; clear_value y)
    | (intro y; clear_value y)
    | (intro)
    | exact State.Kept.of_record (by with_reducible assumption) rfl rfl rfl rfl rfl rfl rfl rfl rfl
    | lift_lets -underBinder)

theorem State.abandonChain_kept {σ : State} {k : Nat} {c : Chain} {status : Status} {s : State} (hs : σ.Kept s) :
    σ.Kept (State.abandonChain k c status s) := by
  unfold State.abandonChain
  repeat' (first
    | with_reducible assumption
    | with_reducible apply State.abandonEntry_kept
    | with_reducible apply State.modifyChain_kept
    | with_reducible apply State.Kept.foldl
    | (intro))

theorem State.stopAbort_kept {σ : State} {k : Nat} {s : State} (hs : σ.Kept s) :
    σ.Kept (State.stopAbort k s) := by
  unfold State.stopAbort
  repeat' (first
    | with_reducible assumption
    | with_reducible apply State.setRing_kept
    | with_reducible apply State.writeMirror_kept
    | with_reducible apply State.endRingCmd_kept
    | split)

theorem State.stopDrain_kept {σ : State} {k : Nat} {s : State} (hs : σ.Kept s) :
    σ.Kept (State.stopDrain k s) := by
  unfold State.stopDrain
  repeat' (first
    | with_reducible assumption
    | with_reducible apply State.setRing_kept
    | with_reducible apply State.writeMirror_kept
    | with_reducible apply State.endRingCmd_kept
    | with_reducible refine State.Kept.ite (fun _ => ?_) (fun _ => ?_)
    | split)

theorem State.shutdownRing_kept {σ : State} {k : Nat} {s : State} (hs : σ.Kept s) :
    σ.Kept (State.shutdownRing k s) := by
  unfold State.shutdownRing
  repeat' (first
    | with_reducible assumption
    | with_reducible apply State.setRing_kept
    | with_reducible apply State.stopDrain_kept
    | with_reducible refine State.Kept.ite (fun _ => ?_) (fun _ => ?_)
    | split)

theorem execRingShutdown_kept {σ : State} {t : Nat} {ring : Nat} {s : State} (hs : σ.Kept s) :
    σ.Answers (execRingShutdown t ring s) := by
  unfold execRingShutdown
  repeat' (first
    | with_reducible assumption
    | with_reducible apply State.ringCmd_kept
    | with_reducible apply State.withRing_kept
    | with_reducible apply State.shutdownRing_kept
    | with_reducible apply State.ringResult_kept
    | with_reducible apply State.Answers.next
    | with_reducible refine State.Kept.ite (fun _ => ?_) (fun _ => ?_)
    | (intro))

theorem execRingAbort_kept {σ : State} {t : Nat} {ring : Nat} {s : State} (hs : σ.Kept s) :
    σ.Answers (execRingAbort t ring s) := by
  unfold execRingAbort
  repeat' (first
    | with_reducible assumption
    | with_reducible apply State.ringCmd_kept
    | with_reducible apply State.withRing_kept
    | with_reducible apply State.abandonChain_kept
    | with_reducible apply State.setRing_kept
    | with_reducible apply State.stopAbort_kept
    | with_reducible apply State.ringResult_kept
    | with_reducible apply State.Answers.next
    | with_reducible refine State.Kept.ite (fun _ => ?_) (fun _ => ?_)
    | with_reducible apply State.Kept.foldl
    | (intro y; refine State.Kept.cut (a := σ) (s := y) ?_ fun hy => ?_; rotate_left; clear_value y)
    | (intro)
    | lift_lets -underBinder
    | split)

theorem execRingResume_kept {σ : State} {t : Nat} {ring : Nat} {s : State} (hs : σ.Kept s) :
    σ.Answers (execRingResume t ring s) := by
  unfold execRingResume
  repeat' (first
    | with_reducible assumption
    | with_reducible apply State.ringCmd_kept
    | with_reducible apply State.withRing_kept
    | with_reducible apply State.setRing_kept
    | with_reducible apply State.ringResult_kept
    | with_reducible apply State.Answers.next
    | with_reducible refine State.Kept.ite (fun _ => ?_) (fun _ => ?_)
    | (intro))

theorem State.freeRing_kept {σ : State} {k : Nat} {s : State} (hs : σ.Kept s) :
    σ.Kept (State.freeRing k s) := by
  unfold State.freeRing
  repeat' (first
    | with_reducible assumption
    | with_reducible apply State.abandonChain_kept
    | with_reducible apply State.delRing_kept
    | with_reducible apply State.Kept.foldl
    | (intro)
    | split)

theorem execRingDestroy_kept {σ : State} {t : Nat} {ring : Nat} {s : State} (hs : σ.Kept s) :
    σ.Answers (execRingDestroy t ring s) := by
  unfold execRingDestroy
  repeat' (first
    | with_reducible assumption
    | with_reducible apply State.ringCmd_kept
    | with_reducible apply State.withRing_kept
    | with_reducible apply State.freeRing_kept
    | with_reducible apply State.ringResult_kept
    | with_reducible apply State.Answers.next
    | with_reducible refine State.Kept.ite (fun _ => ?_) (fun _ => ?_)
    | (intro))

theorem State.discardDoorbell_kept {σ : State} {t : Nat} {ring : Nat} {s : State} (hs : σ.Kept s) :
    σ.Kept (State.discardDoorbell t ring s) := by
  unfold State.discardDoorbell
  repeat' (first
    | with_reducible assumption
    | with_reducible apply State.bump_kept
    | with_reducible apply State.event_kept)

theorem State.consume_kept {σ : State} {t : Nat} {ring : Nat} {r : Ring} {v : W32} {s : State} (hs : σ.Kept s) :
    σ.Kept (State.consume t ring r v s) := by
  unfold State.consume
  repeat' (first
    | with_reducible assumption
    | with_reducible apply State.setRing_kept
    | with_reducible apply State.raiseRing_kept
    | with_reducible apply State.discardDoorbell_kept
    | with_reducible refine State.Kept.ite (fun _ => ?_) (fun _ => ?_))

theorem State.moveTail_kept {σ : State} {t : Nat} {ring : Nat} {r : Ring} {v : W32} {s : State} (hs : σ.Kept s) :
    σ.Kept (State.moveTail t ring r v s) := by
  unfold State.moveTail
  repeat' (first
    | with_reducible assumption
    | with_reducible apply State.discardDoorbell_kept
    | with_reducible apply State.setRing_kept
    | with_reducible refine State.Kept.ite (fun _ => ?_) (fun _ => ?_))

theorem State.consumeEvents_kept {σ : State} {t : Nat} {v : W32} {s : State} (hs : σ.Kept s) :
    σ.Kept (State.consumeEvents t v s) := by
  unfold State.consumeEvents
  repeat' (first
    | with_reducible assumption
    | with_reducible apply State.setTenant_kept
    | with_reducible apply State.discardDoorbell_kept
    | with_reducible refine State.Kept.ite (fun _ => ?_) (fun _ => ?_))

theorem State.takeDoorbell_kept {σ : State} {t : Nat} {value : W64} {width : Nat} {via : Via} {f : State → State} {s : State} (hf : ∀ x0, σ.Kept x0 → σ.Kept (f x0)) (hs : σ.Kept s) :
    σ.Kept (State.takeDoorbell t value width via f s) := by
  unfold State.takeDoorbell
  repeat' (first
    | with_reducible assumption
    | apply hf
    | with_reducible apply State.bump_kept
    | with_reducible apply State.discardDoorbell_kept
    | with_reducible refine State.Kept.ite (fun _ => ?_) (fun _ => ?_)
    | lift_lets -underBinder
    | split)

theorem execDoorbell_kept {σ : State} {t : Nat} {value : W64} {width : Nat} {via : Via} {s : State} (hs : σ.Kept s) :
    σ.Answers (execDoorbell t value width via s) := by
  unfold execDoorbell
  repeat' (first
    | with_reducible assumption
    | with_reducible apply State.takeDoorbell_kept
    | with_reducible apply State.discardDoorbell_kept
    | with_reducible apply State.moveTail_kept
    | with_reducible apply State.Answers.next
    | with_reducible refine State.Kept.ite (fun _ => ?_) (fun _ => ?_)
    | (intro)
    | lift_lets -underBinder
    | split)

theorem execNotifyConsumeDoorbell_kept {σ : State} {t : Nat} {value : W64} {width : Nat} {via : Via} {s : State} (hs : σ.Kept s) :
    σ.Answers (execNotifyConsumeDoorbell t value width via s) := by
  unfold execNotifyConsumeDoorbell
  repeat' (first
    | with_reducible assumption
    | with_reducible apply State.takeDoorbell_kept
    | with_reducible apply State.discardDoorbell_kept
    | with_reducible apply State.consume_kept
    | with_reducible apply State.Answers.next
    | with_reducible refine State.Answers.ite (fun _ => ?_) (fun _ => ?_)
    | with_reducible refine State.Kept.ite (fun _ => ?_) (fun _ => ?_)
    | (intro y; clear_value y)
    | (intro)
    | lift_lets -underBinder
    | split)

theorem execEventRingConsumeDoorbell_kept {σ : State} {t : Nat} {value : W64} {width : Nat} {via : Via} {s : State} (hs : σ.Kept s) :
    σ.Answers (execEventRingConsumeDoorbell t value width via s) := by
  unfold execEventRingConsumeDoorbell
  repeat' (first
    | with_reducible assumption
    | with_reducible apply State.takeDoorbell_kept
    | with_reducible apply State.consumeEvents_kept
    | with_reducible apply State.Answers.next
    | with_reducible refine State.Answers.ite (fun _ => ?_) (fun _ => ?_))

theorem State.noteTag_kept {σ : State} {late : Bool} {w : W512} {s : State} (hs : σ.Kept s) :
    σ.Kept (State.noteTag late w s) := by
  unfold State.noteTag
  repeat' (first
    | with_reducible assumption
    | with_reducible apply State.bump_kept
    | with_reducible refine State.Kept.ite (fun _ => ?_) (fun _ => ?_)
    | (intro y; refine State.Kept.cut (a := σ) (s := y) ?_ fun hy => ?_; rotate_left; clear_value y)
    | lift_lets -underBinder
    | split)

theorem State.noteMalformed_kept {σ : State} {k : Nat} {i : W32} {s : State} (hs : σ.Kept s) :
    σ.Kept (State.noteMalformed k i s) := by
  unfold State.noteMalformed
  repeat' (first
    | with_reducible assumption
    | with_reducible apply State.bump_kept
    | with_reducible apply State.halt_kept
    | with_reducible refine State.Kept.ite (fun _ => ?_) (fun _ => ?_))

theorem State.acceptEntry_kept {σ : State} {k : Nat} {i : W32} {w : W512} {re : Bool} {s : State} (hs : σ.Kept s) :
    σ.Kept (State.acceptEntry k i w re s) := by
  unfold State.acceptEntry
  repeat' (first
    | with_reducible assumption
    | with_reducible apply State.trace_kept
    | with_reducible apply State.noteMalformed_kept
    | with_reducible apply State.noteTag_kept
    | with_reducible apply State.setRing_kept
    | with_reducible refine State.Kept.ite (fun _ => ?_) (fun _ => ?_)
    | (intro y; refine State.Kept.cut (a := σ) (s := y) ?_ fun hy => ?_; rotate_left; clear_value y)
    | (intro y; clear_value y)
    | lift_lets -underBinder
    | split
    | refine State.Kept.of_record ?_ rfl rfl rfl rfl rfl rfl rfl rfl rfl)

theorem State.staleEntry_kept {σ : State} {k : Nat} {i : W32} {w : W512} {s : State} (hs : σ.Kept s) :
    σ.Kept (State.staleEntry k i w s) := by
  unfold State.staleEntry
  repeat' (first
    | with_reducible assumption
    | with_reducible apply State.bump_kept
    | with_reducible apply State.setRing_kept
    | (intro y; refine State.Kept.cut (a := σ) (s := y) ?_ fun hy => ?_; rotate_left; clear_value y)
    | (intro y; clear_value y)
    | lift_lets -underBinder
    | split)

theorem State.holdEntries_kept {σ : State} {k : Nat} {l : List (W32 × W512)} {f : Ring → Ring} {s : State} (hs : σ.Kept s) :
    σ.Kept (State.holdEntries k l f s) := by
  unfold State.holdEntries
  repeat' (first
    | with_reducible assumption
    | with_reducible apply State.setRing_kept
    | split)

theorem State.acceptHeld_kept {σ : State} {k : Nat} :
    ∀ {l : List (W32 × W512)} {s : State}, σ.Kept s → σ.Kept (State.acceptHeld k l s)
  | [], _, hs => State.holdEntries_kept hs
  | (i, w) :: rest, s, hs => by
    unfold State.acceptHeld
    split
    · exact hs
    · refine State.Kept.ite (fun _ => State.holdEntries_kept hs) (fun _ => ?_)
      refine State.Kept.ite (fun _ => State.acceptHeld_kept (State.acceptEntry_kept hs)) (fun _ => ?_)
      exact State.Kept.ite (fun _ => State.acceptHeld_kept (State.staleEntry_kept hs)) (fun _ => State.holdEntries_kept hs)

theorem State.resumeRing_kept {σ : State} {k : Nat} {s : State} (hs : σ.Kept s) :
    σ.Kept (State.resumeRing k s) := by
  unfold State.resumeRing
  repeat' (first
    | with_reducible assumption
    | with_reducible apply State.acceptHeld_kept
    | with_reducible apply State.setRing_kept
    | with_reducible apply State.stopDrain_kept
    | (intro y; refine State.Kept.cut (a := σ) (s := y) ?_ fun hy => ?_; rotate_left; clear_value y)
    | lift_lets -underBinder
    | split)

theorem State.fetchRound_kept {σ : State} {k : Nat} {r : Ring} {s : State} (hs : σ.Kept s) :
    σ.Kept (State.fetchRound k r s) := by
  unfold State.fetchRound
  repeat' (first
    | with_reducible assumption
    | with_reducible refine State.Kept.ite (fun _ => ?_) (fun _ => ?_)
    | exact State.Kept.of_record (by with_reducible assumption) rfl rfl rfl rfl rfl rfl rfl rfl rfl)

theorem State.fetchFailed_kept {σ : State} {k : Nat} {s : State} (hs : σ.Kept s) :
    σ.Kept (State.fetchFailed k s) := by
  unfold State.fetchFailed
  repeat' (first
    | with_reducible assumption
    | with_reducible apply State.setRing_kept
    | with_reducible apply State.event_kept
    | with_reducible refine State.Kept.ite (fun _ => ?_) (fun _ => ?_)
    | split)

theorem execFetchIssue_kept {σ : State} {t : Nat} {ring : Nat} {s : State} (hs : σ.Kept s) :
    σ.Answers (execFetchIssue t ring s) := by
  unfold execFetchIssue
  repeat' (first
    | with_reducible assumption
    | with_reducible apply State.resumeRing_kept
    | with_reducible apply State.fetchRound_kept
    | with_reducible apply State.setRing_kept
    | with_reducible apply State.emit_kept
    | with_reducible apply State.Answers.next
    | with_reducible refine State.Answers.ite (fun _ => ?_) (fun _ => ?_)
    | (intro y; refine State.Kept.cut (a := σ) (s := y) ?_ fun hy => ?_; rotate_left; clear_value y)
    | lift_lets -underBinder
    | split)

theorem execFetchReturn_kept {σ : State} {t : Nat} {ring : Nat} {index : W32} {ans : MemAns} {s : State} (hs : σ.Kept s) :
    σ.Answers (execFetchReturn t ring index ans s) := by
  unfold execFetchReturn
  repeat' (first
    | with_reducible assumption
    | with_reducible apply State.setRing_kept
    | with_reducible apply State.readFailed_kept
    | with_reducible apply State.fetchFailed_kept
    | with_reducible apply State.resumeRing_kept
    | with_reducible apply State.Answers.next
    | (intro y; refine State.Kept.cut (a := σ) (s := y) ?_ fun hy => ?_; rotate_left; clear_value y)
    | (intro y; clear_value y)
    | lift_lets -underBinder
    | split)

theorem execRefetchIssue_kept {σ : State} {t : Nat} {ring : Nat} {s : State} (hs : σ.Kept s) :
    σ.Answers (execRefetchIssue t ring s) := by
  unfold execRefetchIssue
  repeat' (first
    | with_reducible assumption
    | with_reducible apply State.setRing_kept
    | with_reducible apply State.emit_kept
    | with_reducible apply State.Answers.next
    | with_reducible refine State.Answers.ite (fun _ => ?_) (fun _ => ?_)
    | (intro y; clear_value y)
    | lift_lets -underBinder
    | split)

theorem execRefetchReturn_kept {σ : State} {t : Nat} {ring : Nat} {index : W32} {ans : MemAns} {s : State} (hs : σ.Kept s) :
    σ.Answers (execRefetchReturn t ring index ans s) := by
  unfold execRefetchReturn
  repeat' (first
    | with_reducible assumption
    | with_reducible apply State.readFailed_kept
    | with_reducible apply State.fetchFailed_kept
    | with_reducible apply State.setRing_kept
    | with_reducible apply State.bump_kept
    | with_reducible apply State.acceptEntry_kept
    | with_reducible apply State.resumeRing_kept
    | with_reducible apply State.staleEntry_kept
    | with_reducible apply State.Answers.next
    | with_reducible refine State.Answers.ite (fun _ => ?_) (fun _ => ?_)
    | (intro y; clear_value y)
    | lift_lets -underBinder
    | split)

theorem execChainStart_kept {σ : State} {t : Nat} {ring : Nat} {s : State} (hs : σ.Kept s) :
    σ.Answers (execChainStart t ring s) := by
  unfold execChainStart
  repeat' (first
    | with_reducible assumption
    | with_reducible apply State.modifyChain_kept
    | with_reducible apply State.noteMalformed_kept
    | with_reducible apply State.bump_kept
    | with_reducible apply State.Answers.next
    | with_reducible refine State.Answers.ite (fun _ => ?_) (fun _ => ?_)
    | with_reducible refine State.Kept.ite (fun _ => ?_) (fun _ => ?_)
    | (intro y; clear_value y)
    | lift_lets -underBinder
    | split)

theorem State.dropTriggers_kept {σ : State} {k : Nat} {first : W32} {s : State} (hs : σ.Kept s) :
    σ.Kept (State.dropTriggers k first s) := by
  unfold State.dropTriggers
  repeat' (first
    | exact State.Kept.of_record (by with_reducible assumption) rfl rfl rfl rfl rfl rfl rfl rfl rfl)

theorem State.recordChain_kept {σ : State} {k : Nat} {c : Chain} {s : State} (hs : σ.Kept s) :
    σ.Kept (State.recordChain k c s) := by
  unfold State.recordChain
  repeat' (first
    | with_reducible assumption
    | with_reducible apply State.dropTriggers_kept
    | with_reducible apply State.trace_kept
    | with_reducible apply State.ringWrite_kept
    | with_reducible apply State.bump_kept
    | with_reducible apply State.setRing_kept
    | with_reducible refine State.Kept.ite (fun _ => ?_) (fun _ => ?_)
    | with_reducible apply State.Kept.getD
    | split)

theorem State.afterRecord_kept {σ : State} {k : Nat} {s : State} (hs : σ.Kept s) :
    σ.Kept (State.afterRecord k s) := by
  unfold State.afterRecord
  repeat' (first
    | with_reducible assumption
    | with_reducible apply State.stopAbort_kept
    | with_reducible apply State.stopDrain_kept
    | with_reducible refine State.Kept.ite (fun _ => ?_) (fun _ => ?_)
    | split)

theorem execCompletionWrite_kept {σ : State} {t : Nat} {ring : Nat} {s : State} (hs : σ.Kept s) :
    σ.Answers (execCompletionWrite t ring s) := by
  unfold execCompletionWrite
  repeat' (first
    | with_reducible assumption
    | with_reducible apply State.recordChain_kept
    | with_reducible apply State.afterRecord_kept
    | with_reducible apply State.Answers.next
    | with_reducible refine State.Answers.ite (fun _ => ?_) (fun _ => ?_)
    | (intro y; clear_value y)
    | lift_lets -underBinder
    | split)

theorem execAbortDeadline_kept {σ : State} {t : Nat} {ring : Nat} {s : State} (hs : σ.Kept s) :
    σ.Answers (execAbortDeadline t ring s) := by
  unfold execAbortDeadline
  repeat' (first
    | with_reducible assumption
    | with_reducible apply State.recordChain_kept
    | with_reducible apply State.stopAbort_kept
    | with_reducible apply State.Answers.next
    | with_reducible refine State.Answers.ite (fun _ => ?_) (fun _ => ?_)
    | with_reducible apply State.Kept.foldl
    | (intro y; clear_value y)
    | (intro)
    | lift_lets -underBinder
    | split)

theorem execMirrorWrite_kept {σ : State} {t : Nat} {ring : Nat} {s : State} (hs : σ.Kept s) :
    σ.Answers (execMirrorWrite t ring s) := by
  unfold execMirrorWrite
  repeat' (first
    | with_reducible assumption
    | with_reducible apply State.writeMirror_kept
    | with_reducible apply State.Answers.next
    | with_reducible refine State.Answers.ite (fun _ => ?_) (fun _ => ?_)
    | (intro y; clear_value y)
    | lift_lets -underBinder
    | split)

theorem execRingEventTimer_kept {σ : State} {t : Nat} {ring : Nat} {s : State} (hs : σ.Kept s) :
    σ.Answers (execRingEventTimer t ring s) := by
  unfold execRingEventTimer
  repeat' (first
    | with_reducible assumption
    | with_reducible apply State.setRing_kept
    | with_reducible apply State.writeMirror_kept
    | with_reducible apply State.raiseRing_kept
    | with_reducible apply State.Answers.next
    | with_reducible refine State.Answers.ite (fun _ => ?_) (fun _ => ?_)
    | with_reducible refine State.Kept.ite (fun _ => ?_) (fun _ => ?_)
    | (intro y; clear_value y)
    | lift_lets -underBinder
    | split)

theorem execRealmChangeDone_kept {σ : State} {realm : Nat} {s : State} (hs : σ.Kept s) :
    σ.Answers (execRealmChangeDone realm s) := by
  unfold execRealmChangeDone
  repeat' (first
    | with_reducible assumption
    | with_reducible apply State.setRealm_kept
    | with_reducible apply State.realmResult_kept
    | with_reducible apply State.Answers.next
    | with_reducible refine State.Answers.ite (fun _ => ?_) (fun _ => ?_)
    | with_reducible refine State.Kept.ite (fun _ => ?_) (fun _ => ?_)
    | exact State.Kept.of_record (by with_reducible assumption) rfl rfl rfl rfl rfl rfl rfl rfl rfl
    | split)

end Sys2Proof.Machine
end

