-- ==== Sys2Proof/Laws/KeptTenants.lean ====
section
/-! SUPPORT. What every command keeps: the operations of Machine/Tenants.lean. -/
namespace Sys2Proof.Machine

theorem State.squashWork_kept {σ : State} {t : Nat} {s : State} (hs : σ.Kept s) :
    σ.Kept (State.squashWork t s) := by
  unfold State.squashWork
  repeat' (first
    | with_reducible assumption
    | with_reducible apply State.abandonChain_kept
    | with_reducible apply State.voidMsg_kept
    | with_reducible apply State.Kept.foldl
    | (intro))

theorem State.scrambleStep_kept {σ : State} {w : AccWork} {s : State} (hs : σ.Kept s) :
    σ.Kept (State.scrambleStep w s) := by
  unfold State.scrambleStep
  repeat' (first
    | with_reducible assumption
    | with_reducible apply State.scramble_kept
    | with_reducible refine State.Kept.ite (fun _ => ?_) (fun _ => ?_))

theorem State.squashTenant_kept {σ : State} {t : Nat} {s : State} (hs : σ.Kept s) :
    σ.Kept (State.squashTenant t s) := by
  unfold State.squashTenant
  repeat' (first
    | with_reducible assumption
    | with_reducible apply State.scrambleStep_kept
    | with_reducible apply State.scramble_kept
    | with_reducible apply State.squashWork_kept
    | with_reducible apply State.setConn_kept
    | with_reducible apply State.releaseReservations_kept
    | with_reducible apply State.countSquashed_kept
    | with_reducible refine State.Kept.ite (fun _ => ?_) (fun _ => ?_)
    | with_reducible apply State.Kept.foldl
    | (intro y; clear_value y)
    | (intro)
    | lift_lets -underBinder
    | split
    | refine State.Kept.of_record ?_ rfl rfl rfl rfl rfl rfl rfl rfl rfl)

theorem State.cancelSpecs_kept {σ : State} {t : Nat} {s : State} (hs : σ.Kept s) :
    σ.Kept (State.cancelSpecs t s) := by
  unfold State.cancelSpecs
  repeat' (first
    | with_reducible assumption
    | with_reducible apply State.cancelSpec_kept
    | with_reducible apply State.Kept.foldl
    | (intro))

theorem State.startReset_kept {σ : State} {t : Nat} {cause : Nat} {squash : Bool} {s : State} (hs : σ.Kept s) :
    σ.Kept (State.startReset t cause squash s) := by
  unfold State.startReset
  repeat' (first
    | with_reducible assumption
    | with_reducible apply State.setTenant_kept
    | with_reducible apply State.squashTenant_kept
    | with_reducible apply State.bump_kept
    | with_reducible apply State.cancelSpecs_kept
    | with_reducible apply State.resetMaster_kept
    | with_reducible refine State.Kept.ite (fun _ => ?_) (fun _ => ?_)
    | (intro y; clear_value y)
    | lift_lets -underBinder
    | split)

theorem execTenantReset_kept {σ : State} {t : Nat} {s : State} (hs : σ.Kept s) :
    σ.Answers (execTenantReset t s) := by
  unfold execTenantReset
  repeat' (first
    | with_reducible assumption
    | with_reducible apply State.startReset_kept
    | with_reducible apply State.Answers.next)

theorem execDrainLimitExpire_kept {σ : State} {t : Nat} {s : State} (hs : σ.Kept s) :
    σ.Answers (execDrainLimitExpire t s) := by
  unfold execDrainLimitExpire
  repeat' (first
    | with_reducible assumption
    | with_reducible apply State.setTenant_kept
    | with_reducible apply State.bump_kept
    | with_reducible apply State.squashTenant_kept
    | with_reducible apply State.Answers.next
    | with_reducible refine State.Answers.ite (fun _ => ?_) (fun _ => ?_)
    | (intro y; clear_value y)
    | lift_lets -underBinder
    | split)

theorem State.recordSquashed_kept {σ : State} {k : Nat} {r : Ring} {s : State} (hs : σ.Kept s) :
    σ.Kept (State.recordSquashed k r s) := by
  unfold State.recordSquashed
  repeat' (first
    | with_reducible assumption
    | with_reducible apply State.recordChain_kept
    | with_reducible apply State.writeMirror_kept
    | with_reducible refine State.Kept.ite (fun _ => ?_) (fun _ => ?_)
    | with_reducible apply State.Kept.foldl
    | (intro))

theorem State.clearArrived_kept {σ : State} {t : Nat} {s : State} (hs : σ.Kept s) :
    σ.Kept (State.clearArrived t s) := by
  unfold State.clearArrived
  repeat' (first
    | exact State.Kept.of_record (by with_reducible assumption) rfl rfl rfl rfl rfl rfl rfl rfl rfl)

theorem State.fillBuckets_kept {σ : State} {t : Nat} {s : State} (hs : σ.Kept s) :
    σ.Kept (State.fillBuckets t s) := by
  unfold State.fillBuckets
  repeat' (first
    | exact State.Kept.of_record (by with_reducible assumption) rfl rfl rfl rfl rfl rfl rfl rfl rfl)

theorem State.quarantineAll_kept {σ : State} {t : Nat} {s : State} (hs : σ.Kept s) :
    σ.Kept (State.quarantineAll t s) := by
  unfold State.quarantineAll
  repeat' (first
    | with_reducible assumption
    | with_reducible apply State.quarantine_kept
    | with_reducible apply State.dropWork_kept
    | with_reducible refine State.Kept.ite (fun _ => ?_) (fun _ => ?_)
    | with_reducible apply State.Kept.foldl
    | (intro))

theorem State.setLive_kept {σ : State} {p : Param} {i v : Nat} {s : State} (hs : σ.Kept s) : σ.Kept (State.setLive p i v s) :=
  hs.put_sets rfl rfl rfl rfl rfl rfl (fun h1 h2 => ⟨ParamSet.putInt_wf h1, ParamSet.putInt_wf h2⟩)

theorem State.eraseSlots_kept {σ : State} {t : Nat} {s : State} (hs : σ.Kept s) :
    σ.Kept (State.eraseSlots t s) := by
  unfold State.eraseSlots
  repeat' (first
    | with_reducible assumption
    | with_reducible apply State.eraseSlot_kept
    | with_reducible apply State.Kept.foldl
    | (intro))

theorem State.freeTenant_kept {σ : State} {t : Nat} {s : State} (hs : σ.Kept s) : σ.Kept (State.freeTenant t s) := by
  have h1 : σ.Kept ((s.tenantRings t).foldl (fun s e => (s.recordSquashed e.1 e.2).freeRing e.1) s) :=
    State.Kept.foldl (fun _ _ h => State.freeRing_kept (State.recordSquashed_kept h)) _ hs
  have h2 := State.quarantineAll_kept (t := t) h1
  unfold State.freeTenant
  apply State.setLive_kept
  apply State.clearCounters_kept
  apply State.fillBuckets_kept
  apply State.clearArrived_kept
  apply State.eraseSlots_kept
  exact h2.put_handles rfl rfl rfl rfl rfl rfl (twfD_filter _)

theorem execTenantResetDone_kept {σ : State} {t : Nat} {s : State} (hs : σ.Kept s) :
    σ.Answers (execTenantResetDone t s) := by
  unfold execTenantResetDone
  repeat' (first
    | with_reducible assumption
    | with_reducible apply State.freeTenant_kept
    | with_reducible apply State.setTenant_kept
    | with_reducible apply State.event_kept
    | with_reducible apply State.Answers.next
    | with_reducible refine State.Answers.ite (fun _ => ?_) (fun _ => ?_)
    | with_reducible refine State.Kept.ite (fun _ => ?_) (fun _ => ?_)
    | split)

theorem State.quiesce_kept {σ : State} {t : Nat} {s : State} (hs : σ.Kept s) :
    σ.Kept (State.quiesce t s) := by
  unfold State.quiesce
  repeat' (first
    | with_reducible assumption
    | with_reducible apply State.setTenant_kept
    | with_reducible apply State.setLive_kept)

theorem State.unquiesce_kept {σ : State} {t : Nat} {s : State} (hs : σ.Kept s) :
    σ.Kept (State.unquiesce t s) := by
  unfold State.unquiesce
  repeat' (first
    | with_reducible assumption
    | with_reducible apply State.setTenant_kept
    | with_reducible apply State.setLive_kept)

theorem execQuiesceSet_kept {σ : State} {t : Nat} {s : State} (hs : σ.Kept s) :
    σ.Answers (execQuiesceSet t s) := by
  unfold execQuiesceSet
  repeat' (first
    | with_reducible assumption
    | with_reducible apply State.quiesce_kept
    | with_reducible apply State.Answers.next)

theorem execQuiesceClear_kept {σ : State} {t : Nat} {s : State} (hs : σ.Kept s) :
    σ.Answers (execQuiesceClear t s) := by
  unfold execQuiesceClear
  repeat' (first
    | with_reducible assumption
    | with_reducible apply State.unquiesce_kept
    | with_reducible apply State.Answers.next)

theorem execQuiesced_kept {σ : State} {t : Nat} {s : State} (hs : σ.Kept s) :
    σ.Answers (execQuiesced t s) := by
  unfold execQuiesced
  repeat' (first
    | with_reducible assumption
    | with_reducible apply State.setTenant_kept
    | with_reducible apply State.Answers.next
    | with_reducible refine State.Answers.ite (fun _ => ?_) (fun _ => ?_))

theorem execQuiesceLimit_kept {σ : State} {t : Nat} {s : State} (hs : σ.Kept s) :
    σ.Answers (execQuiesceLimit t s) := by
  unfold execQuiesceLimit
  repeat' (first
    | with_reducible assumption
    | with_reducible apply State.abandonChain_kept
    | with_reducible apply State.squashWork_kept
    | with_reducible apply State.Answers.next
    | with_reducible refine State.Answers.ite (fun _ => ?_) (fun _ => ?_)
    | with_reducible apply State.Kept.foldl
    | (intro y; clear_value y)
    | (intro)
    | lift_lets -underBinder
    | split)

end Sys2Proof.Machine
end

