-- ==== Sys2Proof/Laws/KeptMigration.lean ====
section
/-! SUPPORT. What every command keeps: the operations of Machine/Migration.lean. -/
namespace Sys2Proof.Machine

theorem State.takeRebind_kept {σ : State} {p : Packet} {s : State} (hs : σ.Kept s) : σ.Kept (State.takeRebind p s) := by
  unfold State.takeRebind
  refine State.Kept.ite (fun _ => State.bump_kept hs) (fun _ => ?_)
  refine State.Kept.ite (fun _ => ?_) (fun _ => State.bump_kept hs)
  refine hs.put_handles rfl rfl rfl rfl rfl rfl (fun hw => ?_)
  show twfD {} (tmap (fun _ h => if s.rebinds h _ p.trailer then h.rebind s.now _ else h) s.handles) = true
  refine twfD_tmap (fun k h hh => ?_) hw
  split
  · intro e
    have := congrArg Handle.rebound e
    simp [Handle.rebind] at this
  · exact hh

theorem execPathRebindRx_kept {σ : State} {rx : Rx} {s : State} (hs : σ.Kept s) :
    σ.Answers (execPathRebindRx rx s) := by
  unfold execPathRebindRx
  repeat' (first
    | with_reducible assumption
    | with_reducible apply State.takeDatagram_kept
    | with_reducible apply State.takeRebind_kept
    | with_reducible apply State.Answers.next)

theorem State.sendRebinds_kept {σ : State} {t : Nat} {s : State} (hs : σ.Kept s) :
    σ.Kept (State.sendRebinds t s) := by
  unfold State.sendRebinds
  repeat' (first
    | with_reducible assumption
    | with_reducible apply State.enqueue_kept
    | with_reducible apply State.bump_kept
    | with_reducible refine State.Kept.ite (fun _ => ?_) (fun _ => ?_)
    | with_reducible apply State.Kept.foldl
    | (intro y; clear_value y)
    | (intro)
    | lift_lets -underBinder
    | split)

theorem execPathRebindRepeat_kept {σ : State} {t : Nat} {s : State} (hs : σ.Kept s) :
    σ.Answers (execPathRebindRepeat t s) := by
  unfold execPathRebindRepeat
  repeat' (first
    | with_reducible assumption
    | with_reducible apply State.setTenant_kept
    | with_reducible apply State.sendRebinds_kept
    | with_reducible apply State.Answers.next
    | with_reducible refine State.Answers.ite (fun _ => ?_) (fun _ => ?_))

theorem State.migResult_kept {σ : State} {t : Nat} {code : Nat} {s : State} (hs : σ.Kept s) :
    σ.Kept (State.migResult t code s) := by
  unfold State.migResult
  repeat' (first
    | with_reducible assumption
    | with_reducible apply State.setTenant_kept)

theorem State.setMig_kept {σ : State} {t : Nat} {f : Migration → Migration} {s : State} (hs : σ.Kept s) :
    σ.Kept (State.setMig t f s) := by
  unfold State.setMig
  repeat' (first
    | with_reducible assumption
    | with_reducible apply State.setTenant_kept)

theorem State.writeBays_kept {σ : State} {t : Nat} {s : State} (hs : σ.Kept s) :
    σ.Kept (State.writeBays t s) := by
  unfold State.writeBays
  repeat' (first
    | with_reducible assumption
    | with_reducible apply State.setBays_kept
    | with_reducible apply State.bump_kept
    | with_reducible apply State.Kept.foldl
    | (intro)
    | exact State.Kept.of_record (by with_reducible assumption) rfl rfl rfl rfl rfl rfl rfl rfl rfl)

theorem State.migFreeze_kept {σ : State} {t : Nat} {s : State} (hs : σ.Kept s) :
    σ.Kept (State.migFreeze t s) := by
  unfold State.migFreeze
  repeat' (first
    | with_reducible assumption
    | with_reducible apply State.migResult_kept
    | with_reducible apply State.setTenant_kept
    | with_reducible apply State.freeze_kept
    | with_reducible apply State.cancelSpecs_kept
    | with_reducible apply State.writeBays_kept
    | with_reducible refine State.Kept.ite (fun _ => ?_) (fun _ => ?_)
    | with_reducible apply State.Kept.foldl
    | (intro))

theorem execMigFreeze_kept {σ : State} {t : Nat} {s : State} (hs : σ.Kept s) :
    σ.Answers (execMigFreeze t s) := by
  unfold execMigFreeze
  repeat' (first
    | with_reducible assumption
    | with_reducible apply State.migFreeze_kept
    | with_reducible apply State.Answers.next)

theorem execMigFrozen_kept {σ : State} {t : Nat} {s : State} (hs : σ.Kept s) :
    σ.Answers (execMigFrozen t s) := by
  unfold execMigFrozen
  repeat' (first
    | with_reducible assumption
    | with_reducible apply State.setMig_kept
    | with_reducible apply State.Answers.next
    | with_reducible refine State.Answers.ite (fun _ => ?_) (fun _ => ?_))

theorem State.migSave_kept {σ : State} {t : Nat} {s : State} (hs : σ.Kept s) :
    σ.Kept (State.migSave t s) := by
  unfold State.migSave
  repeat' (first
    | with_reducible assumption
    | with_reducible apply State.migResult_kept
    | with_reducible apply State.setMig_kept
    | with_reducible refine State.Kept.ite (fun _ => ?_) (fun _ => ?_))

theorem execMigSave_kept {σ : State} {t : Nat} {s : State} (hs : σ.Kept s) :
    σ.Answers (execMigSave t s) := by
  unfold execMigSave
  repeat' (first
    | with_reducible assumption
    | with_reducible apply State.migSave_kept
    | with_reducible apply State.Answers.next)

theorem execMigSaveDone_kept {σ : State} {t : Nat} {s : State} (hs : σ.Kept s) :
    σ.Answers (execMigSaveDone t s) := by
  unfold execMigSaveDone
  repeat' (first
    | with_reducible assumption
    | with_reducible apply State.setMig_kept
    | with_reducible apply State.placeWrite_kept
    | with_reducible apply State.migResult_kept
    | with_reducible apply State.Answers.next
    | with_reducible refine State.Answers.ite (fun _ => ?_) (fun _ => ?_)
    | with_reducible refine State.KeptIn.ite (fun _ => ?_) (fun _ => ?_)
    | with_reducible exact State.KeptIn.ofNone
    | (intro y; refine State.Kept.cut (a := σ) (s := y) ?_ fun hy => ?_; rotate_left; clear_value y)
    | (intro y; clear_value y)
    | refine State.Kept.of_some (by with_reducible assumption) ?_
    | lift_lets -underBinder
    | split)

theorem State.placeChain_kept {σ : State} {t : Nat} {base : Nat} {ring : Nat} {body : Bytes} {s : State} (hs : σ.Kept s) :
    σ.Kept (State.placeChain t base ring body s) := by
  unfold State.placeChain
  repeat' (first
    | with_reducible assumption
    | with_reducible apply State.setRing_kept
    | with_reducible apply State.setConn_kept
    | with_reducible apply State.Kept.foldl
    | (intro y; clear_value y)
    | (intro)
    | lift_lets -underBinder
    | split)

theorem State.placeRecord_kept {σ : State} {t : Nat} {base : Nat} {r : Nat × Nat × Bytes} {s : State} (hs : σ.Kept s) :
    σ.Kept (State.placeRecord t base r s) := by
  unfold State.placeRecord
  repeat' (first
    | with_reducible assumption
    | with_reducible apply State.setRing_kept
    | with_reducible apply State.setInc_kept
    | with_reducible apply State.setConn_kept
    | with_reducible apply State.setHandle_kept
    | with_reducible apply State.placeChain_kept
    | (intro y; clear_value y)
    | exact State.Kept.of_record (by with_reducible assumption) rfl rfl rfl rfl rfl rfl rfl rfl rfl
    | lift_lets -underBinder
    | split)

theorem State.placeRecords_kept {σ : State} {t base : Nat} :
    ∀ {l : List (Nat × Nat × Bytes)} {s : State}, σ.Kept s → σ.KeptIn holdsOk (State.placeRecords t base l s)
  | [], _, hs => State.KeptIn.ofOk hs
  | r :: rs, s, hs => by
    unfold State.placeRecords
    split
    · exact State.KeptIn.notOk
    · exact State.placeRecords_kept (State.placeRecord_kept hs)

theorem State.migRestore_kept {σ : State} {t : Nat} {s : State} (hs : σ.Kept s) :
    σ.Kept (State.migRestore t s) := by
  unfold State.migRestore
  repeat' (first
    | with_reducible assumption
    | with_reducible apply State.migResult_kept
    | with_reducible apply State.setTenant_kept
    | with_reducible apply State.placeRecords_kept
    | with_reducible apply State.setMig_kept
    | with_reducible refine State.Kept.ite (fun _ => ?_) (fun _ => ?_)
    | (intro y; refine State.Kept.cut2 (a := σ) (f := y) ?_ fun hf2 => ?_; rotate_left; clear_value y)
    | with_reducible apply hf2
    | (intro)
    | refine State.Kept.of_ok (by with_reducible assumption) ?_
    | lift_lets -underBinder
    | split)

theorem execMigRestore_kept {σ : State} {t : Nat} {s : State} (hs : σ.Kept s) :
    σ.Answers (execMigRestore t s) := by
  unfold execMigRestore
  repeat' (first
    | with_reducible assumption
    | with_reducible apply State.migRestore_kept
    | with_reducible apply State.Answers.next)

theorem execMigRestoreDone_kept {σ : State} {t : Nat} {s : State} (hs : σ.Kept s) :
    σ.Answers (execMigRestoreDone t s) := by
  unfold execMigRestoreDone
  repeat' (first
    | with_reducible assumption
    | with_reducible apply State.setTenant_kept
    | with_reducible apply State.setMig_kept
    | with_reducible apply State.Answers.next
    | with_reducible refine State.Answers.ite (fun _ => ?_) (fun _ => ?_)
    | lift_lets -underBinder
    | split)

theorem State.migResume_kept {σ : State} {t : Nat} {s : State} (hs : σ.Kept s) :
    σ.Kept (State.migResume t s) := by
  unfold State.migResume
  repeat' (first
    | with_reducible assumption
    | with_reducible apply State.migResult_kept
    | with_reducible apply State.setTenant_kept
    | with_reducible apply State.thaw_kept
    | with_reducible apply State.setMig_kept
    | with_reducible apply State.sendRebinds_kept
    | with_reducible refine State.Kept.ite (fun _ => ?_) (fun _ => ?_)
    | with_reducible apply State.Kept.foldl
    | (intro y; clear_value y)
    | (intro)
    | lift_lets -underBinder
    | refine State.Kept.of_record ?_ rfl rfl rfl rfl rfl rfl rfl rfl rfl)

theorem execMigResume_kept {σ : State} {t : Nat} {s : State} (hs : σ.Kept s) :
    σ.Answers (execMigResume t s) := by
  unfold execMigResume
  repeat' (first
    | with_reducible assumption
    | with_reducible apply State.migResume_kept
    | with_reducible apply State.Answers.next)

theorem State.migDiscard_kept {σ : State} {t : Nat} {s : State} (hs : σ.Kept s) :
    σ.Kept (State.migDiscard t s) := by
  unfold State.migDiscard
  repeat' (first
    | with_reducible assumption
    | with_reducible apply State.migResult_kept
    | with_reducible apply State.startReset_kept
    | with_reducible refine State.Kept.ite (fun _ => ?_) (fun _ => ?_))

theorem execMigDiscard_kept {σ : State} {t : Nat} {s : State} (hs : σ.Kept s) :
    σ.Answers (execMigDiscard t s) := by
  unfold execMigDiscard
  repeat' (first
    | with_reducible assumption
    | with_reducible apply State.migDiscard_kept
    | with_reducible apply State.Answers.next)

end Sys2Proof.Machine
end

