-- ==== Sys2Proof/Laws/KeptHostPorts.lean ====
section
/-! SUPPORT. What every command keeps: the operations of Machine/HostPorts.lean. -/
namespace Sys2Proof.Machine

theorem State.clearVfs_kept {σ : State} {h : Nat} {s : State} (hs : σ.Kept s) :
    σ.Kept (State.clearVfs h s) := by
  unfold State.clearVfs
  repeat' (first
    | with_reducible assumption
    | with_reducible apply State.setHost_kept)

theorem State.resetMsix_kept {σ : State} {t : Nat} {s : State} (hs : σ.Kept s) :
    σ.Kept (State.resetMsix t s) := by
  unfold State.resetMsix
  repeat' (first
    | exact State.Kept.of_record (by with_reducible assumption) rfl rfl rfl rfl rfl rfl rfl rfl rfl)

theorem State.resetHost_kept {σ : State} {h : Nat} {s : State} (hs : σ.Kept s) :
    σ.Kept (State.resetHost h s) := by
  unfold State.resetHost
  repeat' (first
    | with_reducible assumption
    | with_reducible apply State.clearVfs_kept
    | with_reducible apply State.startReset_kept
    | with_reducible apply State.resetMsix_kept
    | with_reducible apply State.Kept.foldl
    | (intro))

theorem State.hostDown_kept {σ : State} {h : Nat} {s : State} (hs : σ.Kept s) :
    σ.Kept (State.hostDown h s) := by
  unfold State.hostDown
  repeat' (first
    | with_reducible assumption
    | with_reducible apply State.resetHost_kept
    | with_reducible apply State.setHost_kept)

theorem execHostLinkTrained_kept {σ : State} {host : Nat} {rate : Nat} {width : Nat} {s : State} (hs : σ.Kept s) :
    σ.Answers (execHostLinkTrained host rate width s) := by
  unfold execHostLinkTrained
  repeat' (first
    | with_reducible assumption
    | with_reducible apply State.setHost_kept
    | with_reducible apply State.event_kept
    | with_reducible apply State.Answers.next
    | with_reducible refine State.Answers.ite (fun _ => ?_) (fun _ => ?_)
    | with_reducible refine State.Kept.ite (fun _ => ?_) (fun _ => ?_))

theorem execHostLinkDown_kept {σ : State} {host : Nat} {s : State} (hs : σ.Kept s) :
    σ.Answers (execHostLinkDown host s) := by
  unfold execHostLinkDown
  repeat' (first
    | with_reducible assumption
    | with_reducible apply State.hostDown_kept
    | with_reducible apply State.Answers.next
    | with_reducible refine State.Answers.ite (fun _ => ?_) (fun _ => ?_))

theorem execPerstAssert_kept {σ : State} {host : Nat} {s : State} (hs : σ.Kept s) :
    σ.Answers (execPerstAssert host s) := by
  unfold execPerstAssert
  repeat' (first
    | with_reducible assumption
    | with_reducible apply State.hostDown_kept
    | with_reducible apply State.setHost_kept
    | with_reducible apply State.Answers.next
    | with_reducible refine State.Answers.ite (fun _ => ?_) (fun _ => ?_)
    | with_reducible refine State.Kept.ite (fun _ => ?_) (fun _ => ?_))

theorem execPerstDeassert_kept {σ : State} {host : Nat} {s : State} (hs : σ.Kept s) :
    σ.Answers (execPerstDeassert host s) := by
  unfold execPerstDeassert
  repeat' (first
    | with_reducible assumption
    | with_reducible apply State.setHost_kept
    | with_reducible apply State.Answers.next
    | with_reducible refine State.Answers.ite (fun _ => ?_) (fun _ => ?_))

theorem State.endHalt_kept {σ : State} {s : State} (hs : σ.Kept s) :
    σ.Kept (State.endHalt s) := by
  unfold State.endHalt
  repeat' (first
    | with_reducible assumption
    | with_reducible apply State.emit_kept
    | with_reducible apply State.freeRing_kept
    | with_reducible apply State.settlePorts_kept
    | with_reducible refine State.Kept.ite (fun _ => ?_) (fun _ => ?_)
    | with_reducible apply State.Kept.foldl
    | (intro)
    | exact State.Kept.of_record (by with_reducible assumption) rfl rfl rfl rfl rfl rfl rfl rfl rfl)

theorem execFlr_kept {σ : State} {t : Nat} {s : State} (hs : σ.Kept s) :
    σ.Answers (execFlr t s) := by
  unfold execFlr
  repeat' (first
    | with_reducible assumption
    | with_reducible apply State.endHalt_kept
    | with_reducible apply State.startReset_kept
    | with_reducible apply State.resetMsix_kept
    | with_reducible apply State.clearVfs_kept
    | with_reducible apply State.setHost_kept
    | with_reducible apply State.Answers.next
    | with_reducible refine State.Answers.ite (fun _ => ?_) (fun _ => ?_)
    | with_reducible refine State.Kept.ite (fun _ => ?_) (fun _ => ?_)
    | with_reducible apply State.Kept.foldl
    | (intro))

theorem State.enableTenant_kept {σ : State} {t : Nat} {s : State} (hs : σ.Kept s) :
    σ.Kept (State.enableTenant t s) := by
  unfold State.enableTenant
  repeat' (first
    | with_reducible assumption
    | with_reducible apply State.setTenant_kept
    | with_reducible refine State.Kept.ite (fun _ => ?_) (fun _ => ?_))

theorem execVfEnableSet_kept {σ : State} {host : Nat} {numVfs : Nat} {s : State} (hs : σ.Kept s) :
    σ.Answers (execVfEnableSet host numVfs s) := by
  unfold execVfEnableSet
  repeat' (first
    | with_reducible assumption
    | with_reducible apply State.setHost_kept
    | with_reducible apply State.setLive_kept
    | with_reducible apply State.logFault_kept
    | with_reducible apply State.enableTenant_kept
    | with_reducible apply State.Answers.next
    | with_reducible refine State.Answers.ite (fun _ => ?_) (fun _ => ?_)
    | with_reducible refine State.Kept.ite (fun _ => ?_) (fun _ => ?_)
    | with_reducible apply State.Kept.foldl
    | (intro))

theorem execVfEnableClear_kept {σ : State} {host : Nat} {s : State} (hs : σ.Kept s) :
    σ.Answers (execVfEnableClear host s) := by
  unfold execVfEnableClear
  repeat' (first
    | with_reducible assumption
    | with_reducible apply State.startReset_kept
    | with_reducible apply State.clearVfs_kept
    | with_reducible apply State.Answers.next
    | with_reducible refine State.Answers.ite (fun _ => ?_) (fun _ => ?_)
    | with_reducible apply State.Kept.foldl
    | (intro))

theorem execD3hotEntry_kept {σ : State} {t : Nat} {s : State} (hs : σ.Kept s) :
    σ.Answers (execD3hotEntry t s) := by
  unfold execD3hotEntry
  repeat' (first
    | with_reducible assumption
    | with_reducible apply State.shutdownRing_kept
    | with_reducible apply State.Answers.next
    | with_reducible apply State.Kept.foldl
    | (intro))

theorem State.modifyWaits_kept {σ : State} {t : Nat} {pasid : Nat} {page : Nat} {f : AtsWait → AtsWait} {s : State} (hs : σ.Kept s) :
    σ.Kept (State.modifyWaits t pasid page f s) := by
  unfold State.modifyWaits
  repeat' (first
    | exact State.Kept.of_record (by with_reducible assumption) rfl rfl rfl rfl rfl rfl rfl rfl rfl)

theorem State.dropWait_kept {σ : State} {w : AtsWait} {s : State} (hs : σ.Kept s) :
    σ.Kept (State.dropWait w s) := by
  unfold State.dropWait
  repeat' (first
    | exact State.Kept.of_record (by with_reducible assumption) rfl rfl rfl rfl rfl rfl rfl rfl rfl)

theorem State.wakeEntry_kept {σ : State} {w : AtsWait} {s : State} (hs : σ.Kept s) :
    σ.Kept (State.wakeEntry w s) := by
  unfold State.wakeEntry
  repeat' (first
    | with_reducible assumption
    | with_reducible apply State.dropWait_kept
    | with_reducible apply State.modifyChain_kept)

theorem State.requestPage_kept {σ : State} {w : AtsWait} {s : State} (hs : σ.Kept s) :
    σ.Kept (State.requestPage w s) := by
  unfold State.requestPage
  repeat' (first
    | with_reducible assumption
    | with_reducible apply State.modifyWaits_kept
    | with_reducible apply State.emit_kept
    | with_reducible apply State.bump_kept
    | with_reducible refine State.Kept.ite (fun _ => ?_) (fun _ => ?_))

theorem execAtsTranslationResponse_kept {σ : State} {t : Nat} {pasid : Nat} {page : Nat} {read : Bool} {write : Bool} {s : State} (hs : σ.Kept s) :
    σ.Answers (execAtsTranslationResponse t pasid page read write s) := by
  unfold execAtsTranslationResponse
  repeat' (first
    | with_reducible assumption
    | with_reducible apply State.wakeEntry_kept
    | with_reducible apply State.requestPage_kept
    | with_reducible apply State.Answers.next
    | with_reducible refine State.Answers.ite (fun _ => ?_) (fun _ => ?_)
    | with_reducible refine State.Kept.ite (fun _ => ?_) (fun _ => ?_)
    | with_reducible apply State.Kept.foldl
    | (intro)
    | exact State.Kept.of_record (by with_reducible assumption) rfl rfl rfl rfl rfl rfl rfl rfl rfl)

theorem State.pageFailed_kept {σ : State} {w : AtsWait} {s : State} (hs : σ.Kept s) :
    σ.Kept (State.pageFailed w s) := by
  unfold State.pageFailed
  repeat' (first
    | with_reducible assumption
    | with_reducible apply State.dropWait_kept
    | with_reducible apply State.bump_kept
    | with_reducible apply State.failLocal_kept)

theorem execPriResponse_kept {σ : State} {t : Nat} {pasid : Nat} {page : Nat} {ok : Bool} {s : State} (hs : σ.Kept s) :
    σ.Answers (execPriResponse t pasid page ok s) := by
  unfold execPriResponse
  repeat' (first
    | with_reducible assumption
    | with_reducible apply State.modifyWaits_kept
    | with_reducible apply State.emit_kept
    | with_reducible apply State.pageFailed_kept
    | with_reducible apply State.Answers.next
    | with_reducible refine State.Kept.ite (fun _ => ?_) (fun _ => ?_)
    | with_reducible apply State.Kept.foldl
    | (intro))

theorem execPriTimeout_kept {σ : State} {t : Nat} {pasid : Nat} {page : Nat} {s : State} (hs : σ.Kept s) :
    σ.Answers (execPriTimeout t pasid page s) := by
  unfold execPriTimeout
  repeat' (first
    | with_reducible assumption
    | with_reducible apply State.pageFailed_kept
    | with_reducible apply State.Answers.next
    | with_reducible apply State.Kept.foldl
    | (intro))

theorem execAtsInvalidate_kept {σ : State} {t : Nat} {pasid : Nat} {first : Nat} {pages : Nat} {s : State} (hs : σ.Kept s) :
    σ.Answers (execAtsInvalidate t pasid first pages s) := by
  unfold execAtsInvalidate
  repeat' (first
    | with_reducible assumption
    | with_reducible apply State.emit_kept
    | with_reducible apply State.bump_kept
    | with_reducible apply State.Answers.next
    | with_reducible refine State.Answers.ite (fun _ => ?_) (fun _ => ?_)
    | exact State.Kept.of_record (by with_reducible assumption) rfl rfl rfl rfl rfl rfl rfl rfl rfl)

theorem execWindowWrite_kept {σ : State} {host : Nat} {reqId : Nat} {offset : Nat} {data : Bytes} {s : State} (hs : σ.Kept s) :
    σ.Answers (execWindowWrite host reqId offset data s) := by
  unfold execWindowWrite
  repeat' (first
    | with_reducible assumption
    | with_reducible apply State.bump_kept
    | with_reducible apply State.placeWrite_kept
    | with_reducible apply State.setHost_kept
    | with_reducible apply State.Answers.next
    | with_reducible refine State.Answers.ite (fun _ => ?_) (fun _ => ?_)
    | refine State.Kept.of_some (by with_reducible assumption) ?_
    | lift_lets -underBinder
    | split)

theorem State.flushWindow_kept {σ : State} {host : Nat} {r : Region} {a : Nat} {s : State} (hs : σ.Kept s) :
    σ.Kept (State.flushWindow host r a s) := by
  unfold State.flushWindow
  repeat' (first
    | with_reducible assumption
    | with_reducible apply State.emitReads_kept
    | with_reducible apply State.setHost_kept
    | with_reducible refine State.Kept.ite (fun _ => ?_) (fun _ => ?_)
    | with_reducible apply State.Kept.foldl
    | (intro))

theorem execWindowRead_kept {σ : State} {host : Nat} {reqId : Nat} {offset : Nat} {len : Nat} {ok : Bool} {ans : MemAns} {s : State} (hs : σ.Kept s) :
    σ.Answers (execWindowRead host reqId offset len ok ans s) := by
  unfold execWindowRead
  repeat' (first
    | with_reducible assumption
    | with_reducible apply State.bump_kept
    | with_reducible apply State.aer_kept
    | with_reducible apply State.emit_kept
    | with_reducible apply State.flushWindow_kept
    | with_reducible apply State.readFailed_kept
    | with_reducible apply State.Answers.next
    | with_reducible refine State.Answers.ite (fun _ => ?_) (fun _ => ?_)
    | with_reducible refine State.Kept.ite (fun _ => ?_) (fun _ => ?_)
    | (intro y; refine State.Kept.cut (a := σ) (s := y) ?_ fun hy => ?_; rotate_left; clear_value y)
    | lift_lets -underBinder
    | split)

theorem State.attachTo_kept {σ : State} {a : Nat} {m : AttachMode} {width : Nat} {bytes : Nat} {s : State} (hs : σ.Kept s) :
    σ.Kept (State.attachTo a m width bytes s) := by
  unfold State.attachTo
  repeat' (first
    | with_reducible assumption
    | with_reducible apply State.setAttach_kept
    | with_reducible apply State.packageEvent_kept)

theorem State.startAttach_kept {σ : State} {a : Nat} {s : State} (hs : σ.Kept s) :
    σ.Kept (State.startAttach a s) := by
  unfold State.startAttach
  repeat' (first
    | with_reducible assumption
    | with_reducible apply State.attachTo_kept
    | with_reducible refine State.Kept.ite (fun _ => ?_) (fun _ => ?_))

theorem execAttachTrain_kept {σ : State} {port : Nat} {native : Bool} {cxl : Bool} {width : Nat} {bytes : Nat} {s : State} (hs : σ.Kept s) :
    σ.Answers (execAttachTrain port native cxl width bytes s) := by
  unfold execAttachTrain
  repeat' (first
    | with_reducible assumption
    | with_reducible apply State.attachTo_kept
    | with_reducible apply State.Answers.next
    | with_reducible refine State.Answers.ite (fun _ => ?_) (fun _ => ?_))

theorem execAttachFaultRetry_kept {σ : State} {port : Nat} {s : State} (hs : σ.Kept s) :
    σ.Answers (execAttachFaultRetry port s) := by
  unfold execAttachFaultRetry
  repeat' (first
    | with_reducible assumption
    | with_reducible apply State.startAttach_kept
    | with_reducible apply State.bump_kept
    | with_reducible apply State.Answers.next
    | with_reducible refine State.Answers.ite (fun _ => ?_) (fun _ => ?_))

theorem execAttachLinkLoss_kept {σ : State} {port : Nat} {s : State} (hs : σ.Kept s) :
    σ.Answers (execAttachLinkLoss port s) := by
  unfold execAttachLinkLoss
  repeat' (first
    | with_reducible assumption
    | with_reducible apply State.attachTo_kept
    | with_reducible apply State.startAttach_kept
    | with_reducible apply State.bump_kept
    | with_reducible apply State.Answers.next
    | with_reducible refine State.Answers.ite (fun _ => ?_) (fun _ => ?_))

theorem State.ringDoorbell_kept {σ : State} {t : Nat} {v : W64} {width : Nat} {via : Via} {s : State} (hs : σ.Kept s) :
    σ.Kept (State.ringDoorbell t v width via s) := by
  unfold State.ringDoorbell
  repeat' (first
    | with_reducible assumption
    | with_reducible apply State.takeDoorbell_kept
    | with_reducible apply State.consumeEvents_kept
    | with_reducible apply State.discardDoorbell_kept
    | with_reducible apply State.consume_kept
    | with_reducible apply State.moveTail_kept
    | with_reducible refine State.Kept.ite (fun _ => ?_) (fun _ => ?_)
    | (intro)
    | lift_lets -underBinder
    | split)

theorem State.accelError_kept {σ : State} {port : Nat} {write : Bool} {s : State} (hs : σ.Kept s) :
    σ.Kept (State.accelError port write s) := by
  unfold State.accelError
  repeat' (first
    | with_reducible assumption
    | with_reducible apply State.emit_kept
    | with_reducible refine State.Kept.ite (fun _ => ?_) (fun _ => ?_))

theorem State.refuseAperture_kept {σ : State} {port : Nat} {write : Bool} {s : State} (hs : σ.Kept s) :
    σ.Kept (State.refuseAperture port write s) := by
  unfold State.refuseAperture
  repeat' (first
    | with_reducible assumption
    | with_reducible apply State.bump_kept
    | with_reducible apply State.accelError_kept)

theorem State.answerAccel_kept {σ : State} {port : Nat} {write : Bool} {r : Option State} {b : Option Bytes} {s : State} (hr : σ.KeptIn holdsSome r) (hs : σ.Kept s) :
    σ.Kept (State.answerAccel port write r b s) := by
  unfold State.answerAccel
  repeat' (first
    | with_reducible assumption
    | with_reducible apply State.accelError_kept
    | with_reducible apply State.emit_kept
    | with_reducible refine State.Kept.ite (fun _ => ?_) (fun _ => ?_)
    | exact State.Kept.of_some rfl (by with_reducible assumption)
    | lift_lets -underBinder
    | split)

theorem State.accessPackage_kept {σ : State} {port : Nat} {a : Nat} {write : Bool} {len : Nat} {data : Bytes} {s : State} (hs : σ.Kept s) :
    σ.Kept (State.accessPackage port a write len data s) := by
  unfold State.accessPackage
  repeat' (first
    | with_reducible assumption
    | with_reducible apply State.refuseAperture_kept
    | with_reducible apply State.accelError_kept
    | with_reducible apply State.countPoison_kept
    | with_reducible apply State.answerAccel_kept
    | with_reducible apply State.memWrite_kept
    | with_reducible refine State.Kept.ite (fun _ => ?_) (fun _ => ?_))

theorem State.accessPeer_kept {σ : State} {port : Nat} {u : Nat} {a : Nat} {write : Bool} {len : Nat} {data : Bytes} {ans : MemAns} {s : State} (hs : σ.Kept s) :
    σ.Kept (State.accessPeer port u a write len data ans s) := by
  unfold State.accessPeer
  repeat' (first
    | with_reducible assumption
    | with_reducible apply State.refuseAperture_kept
    | with_reducible apply State.accelError_kept
    | with_reducible apply State.emit_kept
    | with_reducible apply State.answerAccel_kept
    | with_reducible exact State.KeptIn.ofNone
    | with_reducible refine State.Kept.ite (fun _ => ?_) (fun _ => ?_))

theorem execApertureAccess_kept {σ : State} {port : Nat} {addr : Nat} {write : Bool} {len : Nat} {data : Bytes} {ans : MemAns} {s : State} (hs : σ.Kept s) :
    σ.Answers (execApertureAccess port addr write len data ans s) := by
  unfold execApertureAccess
  repeat' (first
    | with_reducible assumption
    | with_reducible apply State.accessPackage_kept
    | with_reducible apply State.accessPeer_kept
    | with_reducible apply State.refuseAperture_kept
    | with_reducible apply State.ringDoorbell_kept
    | with_reducible apply State.emit_kept
    | with_reducible apply State.Answers.next
    | with_reducible refine State.Answers.ite (fun _ => ?_) (fun _ => ?_))

end Sys2Proof.Machine
end

