-- ==== Sys2Proof/Laws/KeptMemory.lean ====
section
/-! SUPPORT. What every command keeps: the operations of Machine/Memory.lean. -/
namespace Sys2Proof.Machine

theorem State.endZeroing_kept {σ : State} {x : Nat} {s : State} (hs : σ.Kept s) :
    σ.Kept (State.endZeroing x s) := by
  unfold State.endZeroing
  repeat' (first
    | with_reducible assumption
    | with_reducible apply State.setExtent_kept
    | with_reducible apply State.event_kept)

theorem State.zeroBlock_kept {σ : State} {x b : Nat} {s : State} (hs : σ.Kept s) : σ.Kept (State.zeroBlock x b s) :=
  hs.put_mem rfl rfl rfl memErase_wf id rfl rfl rfl

theorem State.zeroTo_kept {σ : State} {x : Nat} {b : Nat} {s : State} (hs : σ.Kept s) :
    σ.Kept (State.zeroTo x b s) := by
  unfold State.zeroTo
  repeat' (first
    | with_reducible assumption
    | with_reducible apply State.endZeroing_kept
    | with_reducible apply State.setExtent_kept
    | with_reducible refine State.Kept.ite (fun _ => ?_) (fun _ => ?_))

theorem execZeroBlock_kept {σ : State} {extent : Nat} {s : State} (hs : σ.Kept s) :
    σ.Answers (execZeroBlock extent s) := by
  unfold execZeroBlock
  repeat' (first
    | with_reducible assumption
    | with_reducible apply State.endZeroing_kept
    | with_reducible apply State.zeroBlock_kept
    | with_reducible apply State.zeroTo_kept
    | with_reducible apply State.Answers.next
    | with_reducible refine State.Answers.ite (fun _ => ?_) (fun _ => ?_))

theorem Outcome.orElse_kept {σ : State} {o : Outcome} {s : State} (ho : σ.Answers o) : σ.Kept (o.orElse s) := by
  obtain ⟨t, rfl, ht⟩ := ho
  exact ht

theorem failEntryRead_kept {σ : State} {t : Nat} {ring : Nat} {op : Nat} {w : W512} {s : State} (hs : σ.Kept s) :
    σ.Answers (failEntryRead t ring op w s) := by
  unfold failEntryRead
  repeat' (first
    | with_reducible assumption
    | with_reducible apply execCollectiveAddLocal_kept
    | with_reducible apply execQuantize_kept
    | with_reducible apply execDispatchWeights_kept
    | with_reducible apply execDispatchTokens_kept
    | with_reducible apply execCombine_kept
    | with_reducible apply execConfirm_kept
    | with_reducible apply execCipherGcmEnc_kept
    | with_reducible apply execCipherGcmDec_kept
    | with_reducible apply execCipherXtsEnc_kept
    | with_reducible apply execCipherXtsDec_kept
    | with_reducible refine State.Answers.ite (fun _ => ?_) (fun _ => ?_)
    | lift_lets -underBinder
    | split)

theorem failRequest_kept {σ : State} {r : ReadOf} {s : State} (hs : σ.Kept s) :
    σ.Answers (failRequest r s) := by
  unfold failRequest
  repeat' (first
    | with_reducible assumption
    | with_reducible apply execFetchReturn_kept
    | with_reducible apply execRefetchReturn_kept
    | with_reducible apply execPayloadReadReturn_kept
    | with_reducible apply execPlacementWriteFail_kept
    | with_reducible apply execContextInstall_kept
    | with_reducible apply execBackingWritebackError_kept
    | with_reducible apply execBayLoadDone_kept
    | with_reducible apply execBayWritebackDone_kept
    | with_reducible apply execBurstDone_kept
    | with_reducible apply execReadbackDone_kept
    | with_reducible apply failEntryRead_kept
    | with_reducible apply State.Answers.next
    | split)

theorem execCompletionTimeout_kept {σ : State} {request : ReadOf} {s : State} (hs : σ.Kept s) :
    σ.Answers (execCompletionTimeout request s) := by
  unfold execCompletionTimeout
  repeat' (first
    | with_reducible assumption
    | with_reducible apply State.bump_kept
    | with_reducible apply State.aer_kept
    | with_reducible apply failRequest_kept
    | with_reducible apply State.Answers.next
    | with_reducible refine State.Kept.ite (fun _ => ?_) (fun _ => ?_)
    | split)

theorem execStaleRequestDiscard_kept {σ : State} {request : ReadOf} {s : State} (hs : σ.Kept s) :
    σ.Answers (execStaleRequestDiscard request s) := by
  unfold execStaleRequestDiscard
  repeat' (first
    | with_reducible assumption
    | with_reducible apply failRequest_kept
    | with_reducible apply State.bump_kept
    | with_reducible apply State.Answers.next
    | with_reducible refine State.Answers.ite (fun _ => ?_) (fun _ => ?_)
    | split)

theorem State.loseRecords_kept {σ : State} {port : Nat} {pos : Nat} {s : State} (hs : σ.Kept s) :
    σ.Kept (State.loseRecords port pos s) := by
  unfold State.loseRecords
  repeat' (first
    | with_reducible assumption
    | with_reducible apply State.setPort_kept)

theorem State.reservedError_kept {σ : State} {a : Nat} {s : State} (hs : σ.Kept s) :
    σ.Kept (State.reservedError a s) := by
  unfold State.reservedError
  repeat' (first
    | with_reducible assumption
    | with_reducible apply State.backingFailure_kept
    | with_reducible apply State.loseRecords_kept
    | with_reducible apply State.fatalFault_kept
    | with_reducible refine State.Kept.ite (fun _ => ?_) (fun _ => ?_)
    | lift_lets -underBinder
    | split)

theorem State.reportPoison_kept {σ : State} {a : Nat} {s : State} (hs : σ.Kept s) :
    σ.Kept (State.reportPoison a s) := by
  unfold State.reportPoison
  repeat' (first
    | with_reducible assumption
    | with_reducible apply State.logFault_kept
    | with_reducible apply State.event_kept)

theorem execUncorrectableError_kept {σ : State} {addr : Nat} {s : State} (hs : σ.Kept s) :
    σ.Answers (execUncorrectableError addr s) := by
  unfold execUncorrectableError
  repeat' (first
    | with_reducible assumption
    | with_reducible apply State.bump_kept
    | with_reducible apply State.reservedError_kept
    | with_reducible apply State.setExtent_kept
    | with_reducible apply State.reportPoison_kept
    | with_reducible apply State.Answers.next
    | with_reducible refine State.Answers.ite (fun _ => ?_) (fun _ => ?_)
    | (intro)
    | lift_lets -underBinder
    | split
    | refine State.Kept.of_record ?_ rfl rfl rfl rfl rfl rfl rfl rfl rfl)

theorem execRefresh_kept {σ : State} {tower : Nat} {slice : Nat} {bank : Nat} {s : State} (hs : σ.Kept s) :
    σ.Answers (execRefresh tower slice bank s) := by
  unfold execRefresh
  repeat' (first
    | with_reducible assumption
    | with_reducible apply State.Answers.next
    | with_reducible refine State.Answers.ite (fun _ => ?_) (fun _ => ?_)
    | exact State.Kept.of_record (by with_reducible assumption) rfl rfl rfl rfl rfl rfl rfl rfl rfl)

theorem execPatrolStart_kept {σ : State} {tower : Nat} {s : State} (hs : σ.Kept s) :
    σ.Answers (execPatrolStart tower s) := by
  unfold execPatrolStart
  repeat' (first
    | with_reducible assumption
    | with_reducible apply State.Answers.next
    | with_reducible refine State.Answers.ite (fun _ => ?_) (fun _ => ?_)
    | exact State.Kept.of_record (by with_reducible assumption) rfl rfl rfl rfl rfl rfl rfl rfl rfl)

theorem State.logBank_kept {σ : State} {a : Nat} {s : State} (hs : σ.Kept s) :
    σ.Kept (State.logBank a s) := by
  unfold State.logBank
  repeat' (first
    | with_reducible apply State.logFault_kept
    | exact State.Kept.of_record (by with_reducible assumption) rfl rfl rfl rfl rfl rfl rfl rfl rfl)

theorem State.correctedError_kept {σ : State} {s : State} {a : Nat} (hs : σ.Kept s) :
    σ.Kept (State.correctedError s a) := by
  unfold State.correctedError
  repeat' (first
    | with_reducible assumption
    | with_reducible apply State.bump_kept
    | with_reducible apply State.logBank_kept
    | with_reducible refine State.Kept.ite (fun _ => ?_) (fun _ => ?_)
    | (intro y; refine State.Kept.cut (a := σ) (s := y) ?_ fun hy => ?_; rotate_left; clear_value y)
    | lift_lets -underBinder
    | split)

theorem execPatrolDone_kept {σ : State} {tower : Nat} {corrected : List Nat} {s : State} (hs : σ.Kept s) :
    σ.Answers (execPatrolDone tower corrected s) := by
  unfold execPatrolDone
  repeat' (first
    | with_reducible assumption
    | with_reducible apply State.correctedError_kept
    | with_reducible apply State.bump_kept
    | with_reducible apply State.Answers.next
    | with_reducible refine State.Answers.ite (fun _ => ?_) (fun _ => ?_)
    | with_reducible apply State.Kept.foldl
    | exact State.Kept.of_record (by with_reducible assumption) rfl rfl rfl rfl rfl rfl rfl rfl rfl)

end Sys2Proof.Machine
end

