-- ==== Sys2Proof/Laws/KeptPower.lean ====
section
/-! SUPPORT. What every command keeps: the operations of Machine/Power.lean. -/
namespace Sys2Proof.Machine

theorem State.setDomain_kept {σ : State} {d : Nat} {x : Domain} {reason : Nat} {s : State} (hs : σ.Kept s) :
    σ.Kept (State.setDomain d x reason s) := by
  unfold State.setDomain
  repeat' (first
    | with_reducible apply State.packageEvent_kept
    | exact State.Kept.of_record (by with_reducible assumption) rfl rfl rfl rfl rfl rfl rfl rfl rfl)

theorem State.powerResult_kept {σ : State} {r : Nat} {s : State} (hs : σ.Kept s) :
    σ.Kept (State.powerResult r s) := by
  unfold State.powerResult
  repeat' (first
    | exact State.Kept.of_record (by with_reducible assumption) rfl rfl rfl rfl rfl rfl rfl rfl rfl)

theorem State.powerClose_kept {σ : State} {cmd : Bytes} {s : State} (hs : σ.Kept s) :
    σ.Kept (State.powerClose cmd s) := by
  unfold State.powerClose
  repeat' (first
    | with_reducible assumption
    | with_reducible apply State.powerResult_kept
    | with_reducible apply State.setDomain_kept
    | with_reducible refine State.Kept.ite (fun _ => ?_) (fun _ => ?_)
    | split)

theorem State.wakeDomain_kept {σ : State} {d : Nat} {s : State} (hs : σ.Kept s) :
    σ.Kept (State.wakeDomain d s) := by
  unfold State.wakeDomain
  repeat' (first
    | with_reducible assumption
    | with_reducible apply State.startAttach_kept
    | with_reducible apply State.settlePorts_kept
    | with_reducible refine State.Kept.ite (fun _ => ?_) (fun _ => ?_)
    | split)

theorem State.powerOpen_kept {σ : State} {cmd : Bytes} {s : State} (hs : σ.Kept s) :
    σ.Kept (State.powerOpen cmd s) := by
  unfold State.powerOpen
  repeat' (first
    | with_reducible assumption
    | with_reducible apply State.powerResult_kept
    | with_reducible apply State.setDomain_kept
    | exact State.Kept.of_record (by with_reducible assumption) rfl rfl rfl rfl rfl rfl rfl rfl rfl
    | split)

theorem execPowerClose_kept {σ : State} {cmd : Bytes} {s : State} (hs : σ.Kept s) :
    σ.Answers (execPowerClose cmd s) := by
  unfold execPowerClose
  repeat' (first
    | with_reducible assumption
    | with_reducible apply State.powerClose_kept
    | with_reducible apply State.Answers.next
    | with_reducible refine State.Answers.ite (fun _ => ?_) (fun _ => ?_))

theorem execPowerOpen_kept {σ : State} {cmd : Bytes} {s : State} (hs : σ.Kept s) :
    σ.Answers (execPowerOpen cmd s) := by
  unfold execPowerOpen
  repeat' (first
    | with_reducible assumption
    | with_reducible apply State.powerOpen_kept
    | with_reducible apply State.Answers.next
    | with_reducible refine State.Answers.ite (fun _ => ?_) (fun _ => ?_))

theorem State.dropBays_kept {σ : State} {k : Nat} {s : State} (hs : σ.Kept s) :
    σ.Kept (State.dropBays k s) := by
  unfold State.dropBays
  repeat' (first
    | with_reducible assumption
    | with_reducible apply State.setBays_kept
    | (intro y; refine State.Kept.cut (a := σ) (s := y) ?_ fun hy => ?_; rotate_left; clear_value y)
    | (intro)
    | exact State.Kept.of_record (by with_reducible assumption) rfl rfl rfl rfl rfl rfl rfl rfl rfl
    | lift_lets -underBinder)

theorem State.closeDomain_kept {σ : State} {d : Nat} {s : State} (hs : σ.Kept s) :
    σ.Kept (State.closeDomain d s) := by
  unfold State.closeDomain
  repeat' (first
    | with_reducible assumption
    | with_reducible apply State.setDomain_kept
    | with_reducible apply State.bump_kept
    | with_reducible apply State.dropBays_kept
    | with_reducible apply State.attachTo_kept
    | with_reducible apply State.settlePorts_kept
    | with_reducible refine State.Kept.ite (fun _ => ?_) (fun _ => ?_)
    | (intro y; refine State.Kept.cut (a := σ) (s := y) ?_ fun hy => ?_; rotate_left; clear_value y)
    | lift_lets -underBinder
    | split)

theorem execDomainClosed_kept {σ : State} {domain : Nat} {s : State} (hs : σ.Kept s) :
    σ.Answers (execDomainClosed domain s) := by
  unfold execDomainClosed
  repeat' (first
    | with_reducible assumption
    | with_reducible apply State.closeDomain_kept
    | with_reducible apply State.Answers.next
    | with_reducible refine State.Answers.ite (fun _ => ?_) (fun _ => ?_))

theorem State.settleMove_kept {σ : State} {e : EntryRef} {s : State} (hs : σ.Kept s) :
    σ.Kept (State.settleMove e s) := by
  unfold State.settleMove
  repeat' (first
    | with_reducible assumption
    | with_reducible apply State.emitReads_kept
    | with_reducible apply State.addBytes_kept
    | with_reducible refine State.Kept.ite (fun _ => ?_) (fun _ => ?_)
    | with_reducible apply State.Kept.foldl
    | (intro))

theorem State.powerDown_kept {σ : State} {s : State} {e : EntryRef} (hs : σ.Kept s) :
    σ.Kept (State.powerDown s e) := by
  unfold State.powerDown
  repeat' (first
    | with_reducible assumption
    | with_reducible apply State.settleMove_kept
    | with_reducible apply State.abandonEntry_kept
    | with_reducible apply State.failEntry_kept)

theorem State.giveUpHold_kept {σ : State} {s : State} {h : AccHold} (hs : σ.Kept s) :
    σ.Kept (State.giveUpHold s h) := by
  unfold State.giveUpHold
  repeat' (first
    | with_reducible assumption
    | with_reducible apply State.dropHold_kept
    | with_reducible apply State.setConn_kept
    | (intro y; refine State.Kept.cut (a := σ) (s := y) ?_ fun hy => ?_; rotate_left; clear_value y)
    | lift_lets -underBinder
    | split)

theorem State.abandonDomain_kept {σ : State} {d : Nat} {s : State} (hs : σ.Kept s) :
    σ.Kept (State.abandonDomain d s) := by
  unfold State.abandonDomain
  repeat' (first
    | with_reducible assumption
    | with_reducible apply State.powerDown_kept
    | with_reducible apply State.voidMsg_kept
    | with_reducible apply State.giveUpHold_kept
    | with_reducible apply State.Kept.foldl
    | (intro))

theorem execDomainCloseDeadline_kept {σ : State} {domain : Nat} {s : State} (hs : σ.Kept s) :
    σ.Answers (execDomainCloseDeadline domain s) := by
  unfold execDomainCloseDeadline
  repeat' (first
    | with_reducible assumption
    | with_reducible apply State.abandonDomain_kept
    | with_reducible apply State.closeDomain_kept
    | with_reducible apply State.logFault_kept
    | with_reducible apply State.Answers.next
    | with_reducible refine State.Answers.ite (fun _ => ?_) (fun _ => ?_))

theorem execDomainOpened_kept {σ : State} {domain : Nat} {s : State} (hs : σ.Kept s) :
    σ.Answers (execDomainOpened domain s) := by
  unfold execDomainOpened
  repeat' (first
    | with_reducible assumption
    | with_reducible apply State.setDomain_kept
    | with_reducible apply State.wakeDomain_kept
    | with_reducible apply State.Answers.next
    | with_reducible refine State.Answers.ite (fun _ => ?_) (fun _ => ?_))

theorem State.measureTower_kept {σ : State} {k : Nat} {logic : Int} {stack : Int} {s : State} (hs : σ.Kept s) :
    σ.Kept (State.measureTower k logic stack s) := by
  unfold State.measureTower
  repeat' (first
    | with_reducible apply State.logFault_kept
    | with_reducible refine State.Kept.ite (fun _ => ?_) (fun _ => ?_)
    | exact State.Kept.of_record (by with_reducible assumption) rfl rfl rfl rfl rfl rfl rfl rfl rfl)

theorem State.throttleEvents_kept {σ : State} {old : List Nat} {s : State} (hs : σ.Kept s) :
    σ.Kept (State.throttleEvents old s) := by
  unfold State.throttleEvents
  repeat' (first
    | with_reducible assumption
    | with_reducible apply State.packageEvent_kept
    | with_reducible refine State.Kept.ite (fun _ => ?_) (fun _ => ?_)
    | with_reducible apply State.Kept.foldl
    | (intro))

theorem execPowerControl_kept {σ : State} {power : Nat} {temps : List (Int × Int)} {s : State} (hs : σ.Kept s) :
    σ.Answers (execPowerControl power temps s) := by
  unfold execPowerControl
  repeat' (first
    | with_reducible assumption
    | with_reducible apply State.bump_kept
    | with_reducible apply State.measureTower_kept
    | with_reducible apply State.throttleEvents_kept
    | with_reducible apply State.Answers.next
    | with_reducible refine State.Answers.ite (fun _ => ?_) (fun _ => ?_)
    | with_reducible refine State.Kept.ite (fun _ => ?_) (fun _ => ?_)
    | with_reducible apply State.Kept.foldl
    | (intro)
    | exact State.Kept.of_record (by with_reducible assumption) rfl rfl rfl rfl rfl rfl rfl rfl rfl)

theorem execThermalTrip_kept {σ : State} {tower : Nat} {stack : Bool} {temp : Int} {s : State} (hs : σ.Kept s) :
    σ.Answers (execThermalTrip tower stack temp s) := by
  unfold execThermalTrip
  refine State.Answers.ite (fun _ => ?_) (fun _ => State.Answers.next hs)
  extract_lets s1
  have h : σ.Kept s1 := State.fatalFault_kept hs
  clear_value s1
  refine State.Answers.ite (fun _ => State.Answers.next h) (fun _ => State.Answers.next (State.emit_kept ?_))
  exact State.Kept.of_record h rfl rfl rfl rfl rfl rfl rfl rfl rfl

end Sys2Proof.Machine
end

