-- ==== Sys2Proof/Laws/KeptSegment.lean ====
section
/-! SUPPORT. What every command keeps: the operations of Machine/Segment.lean. -/
namespace Sys2Proof.Machine

theorem State.segSend_kept {σ : State} {collisions : Nat} {frame : Bytes} {s : State} (hs : σ.Kept s) :
    σ.Kept (State.segSend collisions frame s) := by
  unfold State.segSend
  repeat' (first
    | with_reducible assumption
    | with_reducible apply State.emit_kept
    | with_reducible apply State.count_kept
    | with_reducible apply State.bump_kept
    | with_reducible refine State.Kept.ite (fun _ => ?_) (fun _ => ?_))

theorem State.segStart_kept {σ : State} {s : State} (hs : σ.Kept s) :
    σ.Kept (State.segStart s) := by
  unfold State.segStart
  repeat' (first
    | with_reducible assumption
    | with_reducible apply State.segSend_kept
    | with_reducible refine State.Kept.ite (fun _ => ?_) (fun _ => ?_)
    | exact State.Kept.of_record (by with_reducible assumption) rfl rfl rfl rfl rfl rfl rfl rfl rfl)

end Sys2Proof.Machine
end

