-- ==== Sys2Proof/Laws/KeptPackage.lean ====
section
/-! SUPPORT. What every command keeps: the operations of Machine/Package.lean. -/
namespace Sys2Proof.Machine

theorem State.runSlot_kept {σ : State} {b : Bool} {status : Nat} {s : State} (hs : σ.Kept s) :
    σ.Kept (State.runSlot b status s) := by
  unfold State.runSlot
  repeat' (first
    | exact State.Kept.of_record (by with_reducible assumption) rfl rfl rfl rfl rfl rfl rfl rfl rfl)

theorem State.boot_kept {σ : State} {s : State} (hs : σ.Kept s) :
    σ.Kept (State.boot s) := by
  unfold State.boot
  repeat' (first
    | with_reducible assumption
    | with_reducible apply State.runSlot_kept
    | with_reducible refine State.Kept.ite (fun _ => ?_) (fun _ => ?_)
    | exact State.Kept.of_record (by with_reducible assumption) rfl rfl rfl rfl rfl rfl rfl rfl rfl)

theorem State.releasePins_kept {σ : State} {s : State} (hs : σ.Kept s) :
    σ.Kept (State.releasePins s) := by
  unfold State.releasePins
  repeat' (first
    | with_reducible assumption
    | with_reducible apply State.emit_kept
    | with_reducible refine State.Kept.ite (fun _ => ?_) (fun _ => ?_))

theorem State.packageReset_kept {σ : State} {phase : Phase} {s : State} (hs : σ.Kept s) : σ.Kept (State.packageReset phase s) := by
  have h := State.releasePins_kept hs
  refine ⟨h.part, h.fuses, h.pending, fun _ => ?_⟩
  rfl

theorem State.release_kept {σ : State} {straps : BitVec 4} {s : State} (hs : σ.Kept s) :
    σ.Kept (State.release straps s) := by
  unfold State.release
  repeat' (first
    | with_reducible apply State.boot_kept
    | with_reducible refine State.Kept.ite (fun _ => ?_) (fun _ => ?_)
    | (intro)
    | exact State.Kept.of_record (by with_reducible assumption) rfl rfl rfl rfl rfl rfl rfl rfl rfl
    | lift_lets -underBinder
    | refine State.Kept.of_record ?_ rfl rfl rfl rfl rfl rfl rfl rfl rfl)

theorem execPackageReset_kept {σ : State} {s : State} (hs : σ.Kept s) :
    σ.Answers (execPackageReset s) := by
  unfold execPackageReset
  repeat' (first
    | with_reducible assumption
    | with_reducible apply State.packageReset_kept
    | with_reducible apply State.Answers.next)

theorem execPackageResetRelease_kept {σ : State} {straps : BitVec 4} {s : State} (hs : σ.Kept s) :
    σ.Answers (execPackageResetRelease straps s) := by
  unfold execPackageResetRelease
  repeat' (first
    | with_reducible assumption
    | with_reducible apply State.release_kept
    | with_reducible apply State.Answers.next
    | with_reducible refine State.Answers.ite (fun _ => ?_) (fun _ => ?_))

theorem State.lostFatal_kept {σ : State} {s : State} (hs : σ.Kept s) :
    σ.Kept (State.lostFatal s) := by
  unfold State.lostFatal
  repeat' (first
    | exact State.Kept.of_record (by with_reducible assumption) rfl rfl rfl rfl rfl rfl rfl rfl rfl)

theorem execSupplyFault_kept {σ : State} {io : Bool} {s : State} (hs : σ.Kept s) :
    σ.Answers (execSupplyFault io s) := by
  unfold execSupplyFault
  repeat' (first
    | with_reducible assumption
    | with_reducible apply State.lostFatal_kept
    | with_reducible apply State.packageReset_kept
    | with_reducible apply State.Answers.next
    | with_reducible refine State.Answers.ite (fun _ => ?_) (fun _ => ?_)
    | with_reducible refine State.Kept.ite (fun _ => ?_) (fun _ => ?_)
    | exact State.Kept.of_record (by with_reducible assumption) rfl rfl rfl rfl rfl rfl rfl rfl rfl)

theorem execSupplyRestored_kept {σ : State} {straps : BitVec 4} {s : State} (hs : σ.Kept s) :
    σ.Answers (execSupplyRestored straps s) := by
  unfold execSupplyRestored
  repeat' (first
    | with_reducible assumption
    | with_reducible apply State.release_kept
    | with_reducible apply State.Answers.next
    | with_reducible refine State.Answers.ite (fun _ => ?_) (fun _ => ?_))

theorem execJtagTrst_kept {σ : State} {s : State} (hs : σ.Kept s) :
    σ.Answers (execJtagTrst s) := by
  unfold execJtagTrst
  repeat' (first
    | with_reducible apply State.Answers.next
    | exact State.Kept.of_record (by with_reducible assumption) rfl rfl rfl rfl rfl rfl rfl rfl rfl)

theorem State.bridgesUp_kept {σ : State} {trained : BitVec 10} {s : State} (hs : σ.Kept s) :
    σ.Kept (State.bridgesUp trained s) := by
  unfold State.bridgesUp
  repeat' (first
    | with_reducible assumption
    | with_reducible apply State.setRo_kept)

theorem State.enableAll_kept {σ : State} {s : State} (hs : σ.Kept s) :
    σ.Kept (State.enableAll s) := by
  unfold State.enableAll
  repeat' (first
    | with_reducible apply State.enableTenant_kept
    | with_reducible apply State.settlePorts_kept
    | with_reducible apply State.startAttach_kept
    | with_reducible apply State.segStart_kept
    | with_reducible apply State.Kept.foldl
    | (intro)
    | exact State.Kept.of_record (by with_reducible assumption) rfl rfl rfl rfl rfl rfl rfl rfl rfl)

theorem execFunctionsEnable_kept {σ : State} {trained : BitVec 10} {s : State} (hs : σ.Kept s) :
    σ.Answers (execFunctionsEnable trained s) := by
  unfold execFunctionsEnable
  repeat' (first
    | with_reducible assumption
    | with_reducible apply State.bridgesUp_kept
    | with_reducible apply State.enableAll_kept
    | with_reducible apply State.Answers.next
    | with_reducible refine State.Answers.ite (fun _ => ?_) (fun _ => ?_)
    | (intro)
    | lift_lets -underBinder
    | refine State.Kept.of_record ?_ rfl rfl rfl rfl rfl rfl rfl rfl rfl)

theorem execBridgeFatal_kept {σ : State} {bridge : Nat} {s : State} (hs : σ.Kept s) :
    σ.Answers (execBridgeFatal bridge s) := by
  unfold execBridgeFatal
  repeat' (first
    | with_reducible assumption
    | with_reducible apply State.fatalFault_kept
    | with_reducible apply State.Answers.next
    | with_reducible refine State.Answers.ite (fun _ => ?_) (fun _ => ?_))

theorem execBridgeRetraining_kept {σ : State} {bridge : Nat} {s : State} (hs : σ.Kept s) :
    σ.Answers (execBridgeRetraining bridge s) := by
  unfold execBridgeRetraining
  repeat' (first
    | with_reducible assumption
    | with_reducible apply State.logFault_kept
    | with_reducible apply State.Answers.next
    | with_reducible refine State.Answers.ite (fun _ => ?_) (fun _ => ?_))

end Sys2Proof.Machine
end

