-- ==== Sys2Proof/Laws/KeptRequests.lean ====
section
/-! SUPPORT. What every command keeps: the operations of Machine/Requests.lean. -/
namespace Sys2Proof.Machine

theorem State.segAnswer_kept {σ : State} {mac : BitVec 48} {ip : BitVec 128} {port : BitVec 16} {payload : Bytes} {collisions : Nat} {s : State} (hs : σ.Kept s) :
    σ.Kept (State.segAnswer mac ip port payload collisions s) := by
  unfold State.segAnswer
  repeat' (first
    | with_reducible assumption
    | with_reducible apply State.segSend_kept)

theorem State.linkAnswer_kept {σ : State} {port : Nat} {dst : Nat} {payload : Bytes} {s : State} (hs : σ.Kept s) :
    σ.Kept (State.linkAnswer port dst payload s) := by
  unfold State.linkAnswer
  repeat' (first
    | with_reducible assumption
    | with_reducible apply State.enqueue_kept
    | with_reducible refine State.Kept.ite (fun _ => ?_) (fun _ => ?_))

theorem State.mgmtReply_kept {σ : State} {r : Route} {mstatus : Nat} {seq : W32} {body : Bytes} {collisions : Nat} {s : State} (hs : σ.Kept s) :
    σ.Kept (State.mgmtReply r mstatus seq body collisions s) := by
  unfold State.mgmtReply
  repeat' (first
    | with_reducible assumption
    | with_reducible apply State.segAnswer_kept
    | with_reducible apply State.sendDatagram_kept
    | with_reducible apply State.linkAnswer_kept
    | (intro y; clear_value y)
    | lift_lets -underBinder
    | split
    | with_reducible apply State.KeptIn.fst)

theorem State.answer_kept {σ : State} {r : Route} {resp : Bytes} {s : State} (hs : σ.Kept s) :
    σ.Kept (State.answer r resp s) := by
  unfold State.answer
  repeat' (first
    | with_reducible assumption
    | with_reducible apply State.setFn_kept
    | with_reducible apply State.emit_kept
    | with_reducible apply State.mgmtReply_kept
    | split)

theorem State.queueRequest_kept {σ : State} {r : Route} {b : Bytes} {s : State} (hs : σ.Kept s) :
    σ.Kept (State.queueRequest r b s) := by
  unfold State.queueRequest
  repeat' (first
    | with_reducible assumption
    | with_reducible apply State.bump_kept
    | with_reducible apply State.answer_kept
    | with_reducible refine State.Kept.ite (fun _ => ?_) (fun _ => ?_)
    | exact State.Kept.of_record (by with_reducible assumption) rfl rfl rfl rfl rfl rfl rfl rfl rfl)

theorem execDictRequestQueue_kept {σ : State} {route : Route} {record : Bytes} {s : State} (hs : σ.Kept s) :
    σ.Answers (execDictRequestQueue route record s) := by
  unfold execDictRequestQueue
  repeat' (first
    | with_reducible assumption
    | with_reducible apply State.queueRequest_kept
    | with_reducible apply State.Answers.next
    | with_reducible refine State.Answers.ite (fun _ => ?_) (fun _ => ?_))

theorem execMbGo_kept {σ : State} {t : Nat} {s : State} (hs : σ.Kept s) :
    σ.Answers (execMbGo t s) := by
  unfold execMbGo
  repeat' (first
    | with_reducible assumption
    | with_reducible apply State.setFn_kept
    | with_reducible apply State.queueRequest_kept
    | with_reducible apply State.Answers.next
    | with_reducible refine State.Answers.ite (fun _ => ?_) (fun _ => ?_))

theorem execMbResponseDone_kept {σ : State} {t : Nat} {s : State} (hs : σ.Kept s) :
    σ.Answers (execMbResponseDone t s) := by
  unfold execMbResponseDone
  repeat' (first
    | with_reducible assumption
    | with_reducible apply State.setFn_kept
    | with_reducible apply State.raiseMsix_kept
    | with_reducible apply State.Answers.next
    | with_reducible refine State.Kept.ite (fun _ => ?_) (fun _ => ?_)
    | (intro y; clear_value y)
    | lift_lets -underBinder
    | split)

theorem State.takeSegment_kept {σ : State} {f : Bytes} {collisions : Nat} {s : State} (hs : σ.Kept s) :
    σ.Kept (State.takeSegment f collisions s) := by
  unfold State.takeSegment
  repeat' (first
    | with_reducible assumption
    | with_reducible apply State.bump_kept
    | with_reducible apply State.mgmtReply_kept
    | with_reducible apply State.queueRequest_kept
    | with_reducible refine State.Kept.ite (fun _ => ?_) (fun _ => ?_)
    | exact State.Kept.of_record (by with_reducible assumption) rfl rfl rfl rfl rfl rfl rfl rfl rfl
    | lift_lets -underBinder
    | split)

theorem execSegRequestRx_kept {σ : State} {frame : Bytes} {collisions : Nat} {s : State} (hs : σ.Kept s) :
    σ.Answers (execSegRequestRx frame collisions s) := by
  unfold execSegRequestRx
  repeat' (first
    | with_reducible assumption
    | with_reducible apply State.takeSegment_kept
    | with_reducible apply State.Answers.next
    | with_reducible refine State.Answers.ite (fun _ => ?_) (fun _ => ?_))

theorem execSegFrameRx_kept {σ : State} {frame : Bytes} {collisions : Nat} {s : State} (hs : σ.Kept s) :
    σ.Answers (execSegFrameRx frame collisions s) := by
  unfold execSegFrameRx
  repeat' (first
    | with_reducible assumption
    | with_reducible apply State.takeSegment_kept
    | with_reducible apply State.segSend_kept
    | with_reducible apply State.bump_kept
    | with_reducible apply State.Answers.next
    | with_reducible refine State.Answers.ite (fun _ => ?_) (fun _ => ?_)
    | lift_lets -underBinder
    | split)

theorem execSegLineCheck_kept {σ : State} {line : Nat} {inverted : Bool} {s : State} (hs : σ.Kept s) :
    σ.Answers (execSegLineCheck line inverted s) := by
  unfold execSegLineCheck
  repeat' (first
    | with_reducible assumption
    | with_reducible apply State.packageEvent_kept
    | with_reducible apply State.bump_kept
    | with_reducible apply State.Answers.next
    | with_reducible refine State.Answers.ite (fun _ => ?_) (fun _ => ?_)
    | with_reducible refine State.Kept.ite (fun _ => ?_) (fun _ => ?_)
    | exact State.Kept.of_record (by with_reducible assumption) rfl rfl rfl rfl rfl rfl rfl rfl rfl)

theorem execPlcaBeaconTimeout_kept {σ : State} {beacon : Bool} {s : State} (hs : σ.Kept s) :
    σ.Answers (execPlcaBeaconTimeout beacon s) := by
  unfold execPlcaBeaconTimeout
  repeat' (first
    | with_reducible assumption
    | with_reducible apply State.Answers.next
    | with_reducible refine State.Answers.ite (fun _ => ?_) (fun _ => ?_)
    | exact State.Kept.of_record (by with_reducible assumption) rfl rfl rfl rfl rfl rfl rfl rfl rfl)

theorem execMctpMessageRx_kept {σ : State} {type : Nat} {body : Bytes} {s : State} (hs : σ.Kept s) :
    σ.Answers (execMctpMessageRx type body s) := by
  unfold execMctpMessageRx
  repeat' (first
    | with_reducible assumption
    | with_reducible apply State.queueRequest_kept
    | with_reducible apply State.bump_kept
    | with_reducible apply State.Answers.next
    | with_reducible refine State.Answers.ite (fun _ => ?_) (fun _ => ?_))

theorem execI3cAddressAssignment_kept {σ : State} {kind : Nat} {target : Nat} {value : Nat} {s : State} (hs : σ.Kept s) :
    σ.Answers (execI3cAddressAssignment kind target value s) := by
  unfold execI3cAddressAssignment
  repeat' (first
    | with_reducible assumption
    | with_reducible apply State.Answers.next
    | with_reducible refine State.Answers.ite (fun _ => ?_) (fun _ => ?_)
    | exact State.Kept.of_record (by with_reducible assumption) rfl rfl rfl rfl rfl rfl rfl rfl rfl
    | lift_lets -underBinder
    | split)

theorem State.takeDictRequest_kept {σ : State} {p : Packet} {r : W32 → Route} {s : State} (hs : σ.Kept s) :
    σ.Kept (State.takeDictRequest p r s) := by
  unfold State.takeDictRequest
  repeat' (first
    | with_reducible assumption
    | with_reducible apply State.bump_kept
    | with_reducible apply State.mgmtReply_kept
    | with_reducible apply State.queueRequest_kept
    | with_reducible refine State.Kept.ite (fun _ => ?_) (fun _ => ?_)
    | exact State.Kept.of_record (by with_reducible assumption) rfl rfl rfl rfl rfl rfl rfl rfl rfl
    | lift_lets -underBinder
    | split)

theorem execDictRequestRx_kept {σ : State} {rx : Rx} {s : State} (hs : σ.Kept s) :
    σ.Answers (execDictRequestRx rx s) := by
  unfold execDictRequestRx
  repeat' (first
    | with_reducible assumption
    | with_reducible apply State.bump_kept
    | with_reducible apply State.freeIngress_kept
    | with_reducible apply State.takeDatagram_kept
    | with_reducible apply State.takeDictRequest_kept
    | with_reducible apply State.Answers.next
    | with_reducible refine State.Answers.ite (fun _ => ?_) (fun _ => ?_))

theorem execLinkScopedRequestRx_kept {σ : State} {rx : Rx} {s : State} (hs : σ.Kept s) :
    σ.Answers (execLinkScopedRequestRx rx s) := by
  unfold execLinkScopedRequestRx
  repeat' (first
    | with_reducible assumption
    | with_reducible apply State.freeIngress_kept
    | with_reducible apply State.bump_kept
    | with_reducible apply State.takeDictRequest_kept
    | with_reducible apply State.Answers.next
    | with_reducible refine State.Answers.ite (fun _ => ?_) (fun _ => ?_))

theorem State.takeDictResponse_kept {σ : State} {port : Nat} {p : Packet} {s : State} (hs : σ.Kept s) :
    σ.Kept (State.takeDictResponse port p s) := by
  unfold State.takeDictResponse
  repeat' (first
    | with_reducible assumption
    | with_reducible apply State.openDatagram_kept
    | with_reducible apply State.bump_kept
    | with_reducible refine State.Kept.ite (fun _ => ?_) (fun _ => ?_)
    | exact State.Kept.of_record (by with_reducible assumption) rfl rfl rfl rfl rfl rfl rfl rfl rfl
    | refine State.Kept.of_error (by with_reducible assumption) ?_
    | lift_lets -underBinder
    | split)

theorem execDictResponseRx_kept {σ : State} {rx : Rx} {s : State} (hs : σ.Kept s) :
    σ.Answers (execDictResponseRx rx s) := by
  unfold execDictResponseRx
  repeat' (first
    | with_reducible assumption
    | with_reducible apply State.takeDatagram_kept
    | with_reducible apply State.takeDictResponse_kept
    | with_reducible apply State.Answers.next
    | with_reducible refine State.Answers.ite (fun _ => ?_) (fun _ => ?_))

theorem State.linkMgmtSend_kept {σ : State} {b : Bytes} {s : State} (hs : σ.Kept s) :
    σ.KeptIn holdsSome (State.linkMgmtSend b s) := by
  unfold State.linkMgmtSend
  repeat' (first
    | with_reducible assumption
    | with_reducible apply State.enqueue_kept
    | with_reducible refine State.KeptIn.ite (fun _ => ?_) (fun _ => ?_)
    | with_reducible exact State.KeptIn.ofNone
    | with_reducible apply State.KeptIn.ofSome)

theorem execLinkMgmtSend_kept {σ : State} {value : Bytes} {s : State} (hs : σ.Kept s) :
    σ.Answers (execLinkMgmtSend value s) := by
  unfold execLinkMgmtSend
  repeat' (first
    | with_reducible assumption
    | with_reducible apply State.linkMgmtSend_kept
    | with_reducible apply State.Answers.next
    | with_reducible apply State.Kept.getD)

end Sys2Proof.Machine
end

