-- ==== Sys2Proof/Laws/KeptFirmware.lean ====
section
/-! SUPPORT. What every command keeps: the operations of Machine/Firmware.lean. -/
namespace Sys2Proof.Machine

theorem State.fwStart_kept {σ : State} {outcome : Nat} {s : State} (hs : σ.Kept s) :
    σ.Kept (State.fwStart outcome s) := by
  unfold State.fwStart
  repeat' (first
    | exact State.Kept.of_record (by with_reducible assumption) rfl rfl rfl rfl rfl rfl rfl rfl rfl)

theorem State.fwErase_kept {σ : State} {s : State} (hs : σ.Kept s) :
    σ.Kept (State.fwErase s) := by
  unfold State.fwErase
  repeat' (first
    | with_reducible assumption
    | with_reducible apply State.fwStart_kept
    | (intro y; refine State.Kept.cut (a := σ) (s := y) ?_ fun hy => ?_; rotate_left; clear_value y)
    | (intro y; clear_value y)
    | exact State.Kept.of_record (by with_reducible assumption) rfl rfl rfl rfl rfl rfl rfl rfl rfl
    | lift_lets -underBinder)

theorem State.fwVerify_kept {σ : State} {s : State} (hs : σ.Kept s) :
    σ.Kept (State.fwVerify s) := by
  unfold State.fwVerify
  repeat' (first
    | with_reducible assumption
    | with_reducible apply State.fwStart_kept
    | (intro y; refine State.Kept.cut (a := σ) (s := y) ?_ fun hy => ?_; rotate_left; clear_value y)
    | (intro y; clear_value y)
    | exact State.Kept.of_record (by with_reducible assumption) rfl rfl rfl rfl rfl rfl rfl rfl rfl
    | lift_lets -underBinder)

theorem State.fwPrefer_kept {σ : State} {s : State} (hs : σ.Kept s) :
    σ.Kept (State.fwPrefer s) := by
  unfold State.fwPrefer
  repeat' (first
    | with_reducible assumption
    | with_reducible apply State.fwStart_kept
    | with_reducible refine State.Kept.ite (fun _ => ?_) (fun _ => ?_)
    | (intro y; refine State.Kept.cut (a := σ) (s := y) ?_ fun hy => ?_; rotate_left; clear_value y)
    | (intro y; clear_value y)
    | exact State.Kept.of_record (by with_reducible assumption) rfl rfl rfl rfl rfl rfl rfl rfl rfl
    | lift_lets -underBinder)

theorem State.fwCommit_kept {σ : State} {s : State} (hs : σ.Kept s) : σ.Kept (State.fwCommit s) := by
  unfold State.fwCommit
  refine State.Kept.ite (fun _ => State.fwStart_kept hs) (fun _ => ?_)
  have h : σ.Kept (s.fwStart 2) := State.fwStart_kept hs
  generalize s.fwStart 2 = s1 at h
  refine ⟨h.part, ?_, h.pending, h.canon⟩
  obtain ⟨h1, h2, h3⟩ := h.fuses
  refine ⟨Nat.le_trans h1 (Nat.le_max_left _ _), h2, ?_⟩
  simp only
  rw [h3]

theorem State.fwRevoke_kept {σ : State} {key : Nat} {s : State} (hs : σ.Kept s) : σ.Kept (State.fwRevoke key s) := by
  unfold State.fwRevoke
  refine State.Kept.ite (fun _ => State.fwStart_kept hs) (fun _ => ?_)
  have h : σ.Kept (s.fwStart 2) := State.fwStart_kept hs
  generalize s.fwStart 2 = s1 at h
  refine ⟨h.part, ?_, h.pending, h.canon⟩
  obtain ⟨h1, h2, h3⟩ := h.fuses
  refine ⟨h1, revoked_more h2, ?_⟩
  simp only
  rw [h3]

theorem execFwErase_kept {σ : State} {s : State} (hs : σ.Kept s) :
    σ.Answers (execFwErase s) := by
  unfold execFwErase
  repeat' (first
    | with_reducible assumption
    | with_reducible apply State.fwErase_kept
    | with_reducible apply State.Answers.next
    | with_reducible refine State.Answers.ite (fun _ => ?_) (fun _ => ?_))

theorem execFwVerify_kept {σ : State} {s : State} (hs : σ.Kept s) :
    σ.Answers (execFwVerify s) := by
  unfold execFwVerify
  repeat' (first
    | with_reducible assumption
    | with_reducible apply State.fwVerify_kept
    | with_reducible apply State.Answers.next
    | with_reducible refine State.Answers.ite (fun _ => ?_) (fun _ => ?_))

theorem execFwPrefer_kept {σ : State} {s : State} (hs : σ.Kept s) :
    σ.Answers (execFwPrefer s) := by
  unfold execFwPrefer
  repeat' (first
    | with_reducible assumption
    | with_reducible apply State.fwPrefer_kept
    | with_reducible apply State.Answers.next
    | with_reducible refine State.Answers.ite (fun _ => ?_) (fun _ => ?_))

theorem execFwCommitSvn_kept {σ : State} {s : State} (hs : σ.Kept s) :
    σ.Answers (execFwCommitSvn s) := by
  unfold execFwCommitSvn
  repeat' (first
    | with_reducible assumption
    | with_reducible apply State.fwCommit_kept
    | with_reducible apply State.Answers.next
    | with_reducible refine State.Answers.ite (fun _ => ?_) (fun _ => ?_))

theorem execFwRevokeKey_kept {σ : State} {key : Nat} {s : State} (hs : σ.Kept s) :
    σ.Answers (execFwRevokeKey key s) := by
  unfold execFwRevokeKey
  repeat' (first
    | with_reducible assumption
    | with_reducible apply State.fwRevoke_kept
    | with_reducible apply State.Answers.next
    | with_reducible refine State.Answers.ite (fun _ => ?_) (fun _ => ?_))

theorem State.fwCommand_kept {σ : State} {v : Nat} {s : State} (hs : σ.Kept s) :
    σ.KeptIn holdsOk (State.fwCommand v s) := by
  unfold State.fwCommand
  repeat' (first
    | with_reducible assumption
    | with_reducible apply State.fwErase_kept
    | with_reducible apply State.fwVerify_kept
    | with_reducible apply State.fwPrefer_kept
    | with_reducible apply State.fwCommit_kept
    | with_reducible apply State.fwRevoke_kept
    | with_reducible refine State.KeptIn.ite (fun _ => ?_) (fun _ => ?_)
    | with_reducible exact State.KeptIn.notOk
    | with_reducible apply State.KeptIn.ofOk
    | lift_lets -underBinder
    | split)

theorem State.fwChunk_kept {σ : State} {b : Bytes} {s : State} (hs : σ.Kept s) :
    σ.KeptIn holdsOk (State.fwChunk b s) := by
  unfold State.fwChunk
  repeat' (first
    | with_reducible refine State.KeptIn.ite (fun _ => ?_) (fun _ => ?_)
    | with_reducible exact State.KeptIn.notOk
    | with_reducible apply State.KeptIn.ofOk
    | exact State.Kept.of_record (by with_reducible assumption) rfl rfl rfl rfl rfl rfl rfl rfl rfl)

theorem execFwChunk_kept {σ : State} {value : Bytes} {s : State} (hs : σ.Kept s) :
    σ.Answers (execFwChunk value s) := by
  unfold execFwChunk
  repeat' (first
    | with_reducible assumption
    | with_reducible apply State.fwChunk_kept
    | with_reducible apply State.Answers.next
    | with_reducible refine State.Answers.ite (fun _ => ?_) (fun _ => ?_)
    | refine State.Kept.of_ok (by with_reducible assumption) ?_
    | lift_lets -underBinder
    | split)

theorem execFwCommandDone_kept {σ : State} {s : State} (hs : σ.Kept s) :
    σ.Answers (execFwCommandDone s) := by
  unfold execFwCommandDone
  repeat' (first
    | with_reducible assumption
    | with_reducible apply State.Answers.next
    | with_reducible refine State.Answers.ite (fun _ => ?_) (fun _ => ?_)
    | exact State.Kept.of_record (by with_reducible assumption) rfl rfl rfl rfl rfl rfl rfl rfl rfl)

theorem State.setSpdm_kept {σ : State} {path : Nat} {c : SpdmChunks} {s : State} (hs : σ.Kept s) :
    σ.Kept (State.setSpdm path c s) := by
  unfold State.setSpdm
  repeat' (first
    | exact State.Kept.of_record (by with_reducible assumption) rfl rfl rfl rfl rfl rfl rfl rfl rfl)

theorem State.spdmWrap_kept {σ : State} {path : Nat} {b : Bytes} {s : State} (hs : σ.Kept s) :
    σ.KeptIn holdsSnd (State.spdmWrap path b s) := by
  unfold State.spdmWrap
  repeat' (first
    | with_reducible assumption
    | with_reducible apply State.setSpdm_kept
    | with_reducible refine State.KeptIn.ite (fun _ => ?_) (fun _ => ?_)
    | (intro y; clear_value y)
    | lift_lets -underBinder
    | with_reducible apply State.KeptIn.mkSnd)

theorem State.spdmAnswer_kept {σ : State} {path : Nat} {b : Bytes} {s : State} (hs : σ.Kept s) :
    σ.KeptIn holdsSnd (State.spdmAnswer path b s) := by
  unfold State.spdmAnswer
  repeat' (first
    | with_reducible assumption
    | with_reducible apply State.bump_kept
    | split
    | with_reducible apply State.KeptIn.mkSnd)

theorem State.spdmReply_kept {σ : State} {path : Nat} {r : Bytes × State} (hr : σ.KeptIn holdsSnd r) :
    σ.Kept (State.spdmReply path r) := by
  unfold State.spdmReply
  repeat' (first
    | with_reducible apply State.spdmWrap_kept
    | with_reducible apply State.emit_kept
    | exact State.Kept.of_snd rfl (by with_reducible assumption)
    | lift_lets -underBinder
    | with_reducible apply State.KeptIn.snd)

theorem State.spdmTake_kept {σ : State} {path : Nat} {req : Bytes} {kind : SpdmKind} {s : State} (hs : σ.Kept s) :
    σ.Kept (State.spdmTake path req kind s) := by
  unfold State.spdmTake
  repeat' (first
    | with_reducible assumption
    | with_reducible apply State.spdmReply_kept
    | with_reducible apply State.spdmAnswer_kept
    | with_reducible refine State.Kept.ite (fun _ => ?_) (fun _ => ?_))

theorem execSpdmGetVersion_kept {σ : State} {path : Nat} {req : Bytes} {s : State} (hs : σ.Kept s) :
    σ.Answers (execSpdmGetVersion path req s) := by
  unfold execSpdmGetVersion
  repeat' (first
    | with_reducible assumption
    | with_reducible apply State.spdmTake_kept
    | with_reducible apply State.Answers.next)

theorem execSpdmGetCapabilities_kept {σ : State} {path : Nat} {req : Bytes} {s : State} (hs : σ.Kept s) :
    σ.Answers (execSpdmGetCapabilities path req s) := by
  unfold execSpdmGetCapabilities
  repeat' (first
    | with_reducible assumption
    | with_reducible apply State.spdmTake_kept
    | with_reducible apply State.Answers.next)

theorem execSpdmUnsupported_kept {σ : State} {path : Nat} {req : Bytes} {s : State} (hs : σ.Kept s) :
    σ.Answers (execSpdmUnsupported path req s) := by
  unfold execSpdmUnsupported
  repeat' (first
    | with_reducible assumption
    | with_reducible apply State.spdmTake_kept
    | with_reducible apply State.Answers.next)

theorem execGetLog_kept {σ : State} {path : Nat} {req : Bytes} {s : State} (hs : σ.Kept s) :
    σ.Answers (execGetLog path req s) := by
  unfold execGetLog
  repeat' (first
    | with_reducible assumption
    | with_reducible apply State.spdmTake_kept
    | with_reducible apply State.Answers.next)

theorem execGetIdentity_kept {σ : State} {path : Nat} {req : Bytes} {s : State} (hs : σ.Kept s) :
    σ.Answers (execGetIdentity path req s) := by
  unfold execGetIdentity
  repeat' (first
    | with_reducible assumption
    | with_reducible apply State.spdmTake_kept
    | with_reducible apply State.Answers.next)

theorem execQuote_kept {σ : State} {path : Nat} {req : Bytes} {waiting : Nat} {s : State} (hs : σ.Kept s) :
    σ.Answers (execQuote path req waiting s) := by
  unfold execQuote
  repeat' (first
    | with_reducible assumption
    | with_reducible apply State.spdmTake_kept
    | with_reducible apply State.emit_kept
    | with_reducible apply State.Answers.next
    | with_reducible refine State.Answers.ite (fun _ => ?_) (fun _ => ?_))

theorem State.spdmChunkGet_kept {σ : State} {path : Nat} {b : Bytes} {s : State} (hs : σ.Kept s) :
    σ.Kept (State.spdmChunkGet path b s) := by
  unfold State.spdmChunkGet
  repeat' (first
    | with_reducible assumption
    | with_reducible apply State.emit_kept
    | with_reducible apply State.setSpdm_kept
    | with_reducible refine State.Kept.ite (fun _ => ?_) (fun _ => ?_))

theorem State.spdmChunkSend_kept {σ : State} {path : Nat} {b : Bytes} {s : State} (hs : σ.Kept s) :
    σ.Kept (State.spdmChunkSend path b s) := by
  unfold State.spdmChunkSend
  repeat' (first
    | with_reducible assumption
    | with_reducible apply State.setSpdm_kept
    | with_reducible apply State.emit_kept
    | with_reducible apply State.spdmAnswer_kept
    | with_reducible apply State.spdmWrap_kept
    | with_reducible refine State.Kept.ite (fun _ => ?_) (fun _ => ?_)
    | lift_lets -underBinder
    | split
    | with_reducible apply State.KeptIn.snd)

theorem execSpdmChunking_kept {σ : State} {path : Nat} {req : Bytes} {s : State} (hs : σ.Kept s) :
    σ.Answers (execSpdmChunking path req s) := by
  unfold execSpdmChunking
  repeat' (first
    | with_reducible assumption
    | with_reducible apply State.spdmChunkGet_kept
    | with_reducible apply State.spdmChunkSend_kept
    | with_reducible apply State.Answers.next
    | with_reducible refine State.Answers.ite (fun _ => ?_) (fun _ => ?_)
    | with_reducible refine State.Kept.ite (fun _ => ?_) (fun _ => ?_))

end Sys2Proof.Machine
end

