-- ==== Sys2Proof/Laws/KeptSwap.lean ====
section
/-! SUPPORT. What every command keeps: the operations of Machine/Swap.lean. -/
namespace Sys2Proof.Machine

theorem State.swapRoutes_kept {σ : State} {old : ParamSet} {s : State} (hs : σ.Kept s) :
    σ.Kept (State.swapRoutes old s) := by
  unfold State.swapRoutes
  repeat' (first
    | with_reducible assumption
    | with_reducible apply State.resetPath_kept
    | with_reducible refine State.Kept.ite (fun _ => ?_) (fun _ => ?_)
    | with_reducible apply State.Kept.foldl
    | (intro y; clear_value y)
    | (intro)
    | exact State.Kept.of_record (by with_reducible assumption) rfl rfl rfl rfl rfl rfl rfl rfl rfl
    | lift_lets -underBinder
    | refine State.Kept.of_record ?_ rfl rfl rfl rfl rfl rfl rfl rfl rfl)

theorem State.swapSlots_kept {σ : State} {old : ParamSet} {s : State} (hs : σ.Kept s) :
    σ.Kept (State.swapSlots old s) := by
  unfold State.swapSlots
  repeat' (first
    | with_reducible assumption
    | with_reducible apply State.closeLoads_kept
    | with_reducible refine State.Kept.ite (fun _ => ?_) (fun _ => ?_)
    | (intro y; refine State.Kept.cut (a := σ) (s := y) ?_ fun hy => ?_; rotate_left; clear_value y)
    | (intro y; clear_value y)
    | exact State.Kept.of_record (by with_reducible assumption) rfl rfl rfl rfl rfl rfl rfl rfl rfl
    | lift_lets -underBinder)

theorem State.freeStep_kept {σ : State} {w : AccWork} {s : State} (hs : σ.Kept s) :
    σ.Kept (State.freeStep w s) := by
  unfold State.freeStep
  repeat' (first
    | with_reducible assumption
    | with_reducible apply State.putWork_kept
    | with_reducible apply State.modifyChain_kept)

theorem State.swapSteps_kept {σ : State} {s : State} (hs : σ.Kept s) :
    σ.Kept (State.swapSteps s) := by
  unfold State.swapSteps
  repeat' (first
    | with_reducible apply State.freeStep_kept
    | with_reducible apply State.Kept.foldl
    | (intro)
    | exact State.Kept.of_record (by with_reducible assumption) rfl rfl rfl rfl rfl rfl rfl rfl rfl)

theorem State.swapBuckets_kept {σ : State} {old : ParamSet} {s : State} (hs : σ.Kept s) :
    σ.Kept (State.swapBuckets old s) := by
  unfold State.swapBuckets
  repeat' (first
    | exact State.Kept.of_record (by with_reducible assumption) rfl rfl rfl rfl rfl rfl rfl rfl rfl)

theorem State.swapArrived_kept {σ : State} {old : ParamSet} {s : State} (hs : σ.Kept s) :
    σ.Kept (State.swapArrived old s) := by
  unfold State.swapArrived
  repeat' (first
    | exact State.Kept.of_record (by with_reducible assumption) rfl rfl rfl rfl rfl rfl rfl rfl rfl)

theorem State.swapStages_kept {σ : State} {old : ParamSet} {s : State} (hs : σ.Kept s) :
    σ.Kept (State.swapStages old s) := by
  unfold State.swapStages
  repeat' (first
    | exact State.Kept.of_record (by with_reducible assumption) rfl rfl rfl rfl rfl rfl rfl rfl rfl)

theorem State.swapChans_kept {σ : State} {old : ParamSet} {s : State} (hs : σ.Kept s) :
    σ.Kept (State.swapChans old s) := by
  unfold State.swapChans
  repeat' (first
    | exact State.Kept.of_record (by with_reducible assumption) rfl rfl rfl rfl rfl rfl rfl rfl rfl)

theorem State.emptyBays_kept {σ : State} {x : Nat} {s : State} (hs : σ.Kept s) :
    σ.Kept (State.emptyBays x s) := by
  unfold State.emptyBays
  repeat' (first
    | with_reducible assumption
    | with_reducible apply State.setBays_kept
    | with_reducible apply State.loadBay_kept
    | with_reducible apply State.resumeWorks_kept
    | with_reducible apply State.Kept.foldl
    | (intro y; clear_value y)
    | (intro)
    | lift_lets -underBinder
    | refine State.Kept.of_record ?_ rfl rfl rfl rfl rfl rfl rfl rfl rfl)

theorem State.rebind_kept {σ : State} {x : Nat} {s : State} (hs : σ.Kept s) :
    σ.Kept (State.rebind x s) := by
  unfold State.rebind
  repeat' (first
    | with_reducible assumption
    | with_reducible apply State.setExtent_kept
    | with_reducible apply State.emptyBays_kept)

theorem State.swapExtents_kept {σ : State} {changes : List Nat} {s : State} (hs : σ.Kept s) :
    σ.Kept (State.swapExtents changes s) := by
  unfold State.swapExtents
  repeat' (first
    | with_reducible assumption
    | with_reducible apply State.rebind_kept
    | with_reducible apply State.Kept.foldl
    | (intro))

theorem State.swapBoxes_kept {σ : State} {old : ParamSet} {s : State} (hs : σ.Kept s) :
    σ.Kept (State.swapBoxes old s) := by
  unfold State.swapBoxes
  repeat' (first
    | with_reducible assumption
    | with_reducible apply State.resetReceiver_kept
    | with_reducible refine State.Kept.ite (fun _ => ?_) (fun _ => ?_)
    | with_reducible apply State.Kept.foldl
    | (intro))

theorem State.swapPorts_kept {σ : State} {old : ParamSet} {s : State} (hs : σ.Kept s) :
    σ.Kept (State.swapPorts old s) := by
  unfold State.swapPorts
  repeat' (first
    | with_reducible assumption
    | with_reducible apply State.portsAfterSwap_kept
    | with_reducible apply State.statusChange_kept
    | with_reducible refine State.Kept.ite (fun _ => ?_) (fun _ => ?_)
    | with_reducible apply State.Kept.foldl
    | (intro))

theorem State.swapSegment_kept {σ : State} {old : ParamSet} {s : State} (hs : σ.Kept s) :
    σ.Kept (State.swapSegment old s) := by
  unfold State.swapSegment
  repeat' (first
    | with_reducible assumption
    | with_reducible apply State.segStart_kept
    | with_reducible refine State.Kept.ite (fun _ => ?_) (fun _ => ?_))

theorem State.traceSwap_kept {σ : State} {s : State} (hs : σ.Kept s) :
    σ.Kept (State.traceSwap s) := by
  unfold State.traceSwap
  repeat' (first
    | with_reducible assumption
    | with_reducible apply State.trace_kept
    | with_reducible refine State.Kept.ite (fun _ => ?_) (fun _ => ?_)
    | with_reducible apply State.Kept.foldl
    | (intro)
    | exact State.Kept.of_record (by with_reducible assumption) rfl rfl rfl rfl rfl rfl rfl rfl rfl)

theorem State.activate_kept {σ : State} {a : ArmedSwap} {s : State} (hs : σ.Kept s) : σ.Kept (State.activate a s) := by
  unfold State.activate
  extract_lets d0 s1 s2
  have h1 : σ.Kept s1 := hs.put_sets rfl rfl rfl rfl rfl rfl (fun _ h => ⟨h, h⟩)
  clear_value s1
  have h2 : σ.Kept s2 := State.Kept.ite (fun _ => State.bump_kept h1) (fun _ => h1)
  exact State.packageEvent_kept h2

theorem State.performSwap_kept {σ : State} {a : ArmedSwap} {s : State} (hs : σ.Kept s) :
    σ.Kept (State.performSwap a s) := by
  unfold State.performSwap
  repeat' (first
    | with_reducible assumption
    | with_reducible apply State.activate_kept
    | with_reducible apply State.traceSwap_kept
    | with_reducible apply State.swapRoutes_kept
    | with_reducible apply State.swapSlots_kept
    | with_reducible apply State.swapSteps_kept
    | with_reducible apply State.swapBuckets_kept
    | with_reducible apply State.swapArrived_kept
    | with_reducible apply State.swapStages_kept
    | with_reducible apply State.swapChans_kept
    | with_reducible apply State.swapExtents_kept
    | with_reducible apply State.swapBoxes_kept
    | with_reducible apply State.swapPorts_kept
    | with_reducible apply State.swapSegment_kept)

theorem State.refuseSwap_kept {σ : State} {a : ArmedSwap} {key : Nat} {s : State} (hs : σ.Kept s) :
    σ.Kept (State.refuseSwap a key s) := by
  unfold State.refuseSwap
  repeat' (first
    | with_reducible apply State.bump_kept
    | with_reducible apply State.packageEvent_kept
    | exact State.Kept.of_record (by with_reducible assumption) rfl rfl rfl rfl rfl rfl rfl rfl rfl)

theorem execSwap_kept {σ : State} {s : State} (hs : σ.Kept s) :
    σ.Answers (execSwap s) := by
  unfold execSwap
  repeat' (first
    | with_reducible assumption
    | with_reducible apply State.refuseSwap_kept
    | with_reducible apply State.performSwap_kept
    | with_reducible apply State.Answers.next
    | with_reducible refine State.Answers.ite (fun _ => ?_) (fun _ => ?_)
    | lift_lets -underBinder
    | split)

theorem execShadowCopyDone_kept {σ : State} {s : State} (hs : σ.Kept s) : σ.Answers (execShadowCopyDone s) := by
  unfold execShadowCopyDone
  refine State.Answers.ite (fun _ => State.Answers.next ?_) (fun _ => State.Answers.next hs)
  exact hs.put_sets rfl rfl rfl rfl rfl rfl (fun h _ => ⟨h, h⟩)

end Sys2Proof.Machine
end

