-- ==== Sys2Proof/Laws/KeptDict.lean ====
section
/-! SUPPORT. What every command keeps: the operations of Machine/Dict.lean. -/
namespace Sys2Proof.Machine

abbrev holdsNext (r : DictResult) (t : State) : Prop := r.next = t

theorem State.KeptIn.ofNext {σ s : State} {r : Reason} {d : Option Nat} {v : Bytes} (h : σ.Kept s) :
    σ.KeptIn holdsNext ⟨r, d, v, s⟩ := ⟨fun _ e => e ▸ h⟩

theorem State.KeptIn.next {σ : State} {r : DictResult} (h : σ.KeptIn holdsNext r) : σ.Kept r.next := h.all _ rfl

theorem State.turnAway_kept {σ : State} {s : State} {r : Reason} (hs : σ.Kept s) :
    σ.KeptIn holdsNext (State.turnAway s r) := by
  unfold State.turnAway
  repeat' (first
    | with_reducible assumption
    | with_reducible apply State.KeptIn.ofNext)

theorem State.readClears_kept {σ : State} {p : Param} {i0 : Nat} {s : State} (hs : σ.Kept s) :
    σ.Kept (State.readClears p i0 s) := by
  unfold State.readClears
  repeat' (first
    | with_reducible assumption
    | with_reducible apply State.setRo_kept
    | with_reducible apply State.markStaging_kept
    | with_reducible refine State.Kept.ite (fun _ => ?_) (fun _ => ?_))

theorem State.dictRead_kept {σ : State} {c : ReqClass} {b : Bytes} {ps : ParamSet} {s : State} (hs : σ.Kept s) :
    σ.KeptIn holdsNext (State.dictRead c b ps s) := by
  unfold State.dictRead
  repeat' (first
    | with_reducible assumption
    | with_reducible apply State.turnAway_kept
    | with_reducible apply State.readClears_kept
    | with_reducible refine State.KeptIn.ite (fun _ => ?_) (fun _ => ?_)
    | lift_lets -underBinder
    | split
    | with_reducible apply State.KeptIn.ofNext)

theorem State.dictDescribe_kept {σ : State} {c : ReqClass} {b : Bytes} {s : State} (hs : σ.Kept s) :
    σ.KeptIn holdsNext (State.dictDescribe c b s) := by
  unfold State.dictDescribe
  repeat' (first
    | with_reducible assumption
    | with_reducible apply State.turnAway_kept
    | with_reducible refine State.KeptIn.ite (fun _ => ?_) (fun _ => ?_)
    | lift_lets -underBinder
    | split
    | with_reducible apply State.KeptIn.ofNext)

theorem State.dictEnumerate_kept {σ : State} {c : ReqClass} {b : Bytes} {s : State} (hs : σ.Kept s) :
    σ.KeptIn holdsNext (State.dictEnumerate c b s) := by
  unfold State.dictEnumerate
  repeat' (first
    | with_reducible assumption
    | (intro y; clear_value y)
    | lift_lets -underBinder
    | with_reducible apply State.KeptIn.ofNext)

theorem State.setLiveBlob_kept {σ : State} {p : Param} {i0 : Nat} {b : Bytes} {s : State} (hs : σ.Kept s) :
    σ.Kept (State.setLiveBlob p i0 b s) :=
  hs.put_sets rfl rfl rfl rfl rfl rfl (fun h1 h2 => ⟨ParamSet.putBlob_wf h1, ParamSet.putBlob_wf h2⟩)

theorem State.eventRingSetup_kept {σ : State} {t : Nat} {b : Bytes} {s : State} (hs : σ.Kept s) :
    σ.KeptIn holdsFst (State.eventRingSetup t b s) := by
  unfold State.eventRingSetup
  repeat' (first
    | with_reducible assumption
    | with_reducible apply State.setTenant_kept
    | with_reducible apply State.setLiveBlob_kept
    | with_reducible refine State.KeptIn.ite (fun _ => ?_) (fun _ => ?_)
    | (intro y; refine State.Kept.cut (a := σ) (s := y) ?_ fun hy => ?_; rotate_left; clear_value y)
    | (intro y; clear_value y)
    | lift_lets -underBinder
    | split
    | with_reducible apply State.KeptIn.mkFst)

theorem execEventRingSetup_kept {σ : State} {t : Nat} {desc : Bytes} {s : State} (hs : σ.Kept s) :
    σ.Answers (execEventRingSetup t desc s) := by
  unfold execEventRingSetup
  repeat' (first
    | with_reducible assumption
    | with_reducible apply State.eventRingSetup_kept
    | with_reducible apply State.Answers.next
    | with_reducible refine State.Answers.ite (fun _ => ?_) (fun _ => ?_)
    | with_reducible apply State.KeptIn.fst)

theorem State.migCommand_kept {σ : State} {t : Nat} {v : Nat} {s : State} (hs : σ.Kept s) :
    σ.Kept (State.migCommand t v s) := by
  unfold State.migCommand
  repeat' (first
    | with_reducible assumption
    | with_reducible apply State.migFreeze_kept
    | with_reducible apply State.migSave_kept
    | with_reducible apply State.migRestore_kept
    | with_reducible apply State.migResume_kept
    | with_reducible apply State.migDiscard_kept
    | split)

theorem State.freezeCounters_kept {σ : State} {v : Nat} {s : State} (hs : σ.Kept s) :
    σ.Kept (State.freezeCounters v s) := by
  unfold State.freezeCounters
  repeat' (first
    | with_reducible apply State.setLive_kept
    | exact State.Kept.of_record (by with_reducible assumption) rfl rfl rfl rfl rfl rfl rfl rfl rfl)

theorem DictResult.ofExcept_kept {σ : State} {s : State} {r : Except Reason State} (hs : σ.Kept s) (hr : σ.KeptIn holdsOk r) :
    σ.KeptIn holdsNext (DictResult.ofExcept s r) := by
  cases r with
  | ok t => exact State.KeptIn.ofNext (hr.all t rfl)
  | error e => exact State.turnAway_kept hs

theorem State.writeOnly_kept {σ : State} {p : Param} {i0 : Nat} {v : Nat} {b : Bytes} {s : State} (hs : σ.Kept s) :
    σ.KeptIn holdsNext (State.writeOnly p i0 v b s) := by
  unfold State.writeOnly
  repeat' (first
    | with_reducible assumption
    | with_reducible apply State.startReset_kept
    | with_reducible apply State.migCommand_kept
    | with_reducible apply State.keyLoad_kept
    | with_reducible apply State.turnAway_kept
    | with_reducible apply DictResult.ofExcept_kept
    | with_reducible apply State.fwChunk_kept
    | with_reducible apply State.fwCommand_kept
    | with_reducible apply State.linkMgmtSend_kept
    | with_reducible apply State.powerClose_kept
    | with_reducible apply State.powerOpen_kept
    | with_reducible refine State.KeptIn.ite (fun _ => ?_) (fun _ => ?_)
    | with_reducible exact State.KeptIn.notOk
    | with_reducible apply State.KeptIn.ofOk
    | (intro)
    | exact State.Kept.of_record (by with_reducible assumption) rfl rfl rfl rfl rfl rfl rfl rfl rfl
    | refine State.Kept.of_some (by with_reducible assumption) ?_
    | lift_lets -underBinder
    | split
    | with_reducible apply State.KeptIn.ofNext)

theorem State.writeLive_kept {σ : State} {p : Param} {i0 : Nat} {v : Nat} {b : Bytes} {s : State} (hs : σ.Kept s) :
    σ.KeptIn holdsNext (State.writeLive p i0 v b s) := by
  unfold State.writeLive
  repeat' (first
    | with_reducible assumption
    | with_reducible apply State.eventRingSetup_kept
    | with_reducible apply State.quiesce_kept
    | with_reducible apply State.unquiesce_kept
    | with_reducible apply State.freezeCounters_kept
    | with_reducible apply State.setLive_kept
    | with_reducible apply State.setLiveBlob_kept
    | with_reducible refine State.KeptIn.ite (fun _ => ?_) (fun _ => ?_)
    | (intro y; refine State.KeptIn.cut (a := σ) (P := holdsFst) (r := y) ?_ fun hy => ?_; rotate_left; clear_value y)
    | exact State.Kept.of_fst rfl (by with_reducible assumption)
    | lift_lets -underBinder
    | split
    | with_reducible apply State.KeptIn.ofNext)

theorem State.writeShadow_kept {σ : State} {p : Param} {i0 v off : Nat} {b : Bytes} {s : State} (hs : σ.Kept s) :
    σ.Kept (State.writeShadow p i0 v off b s) := by
  refine hs.put_sets rfl rfl rfl rfl rfl rfl (fun h1 h2 => ⟨h1, ?_⟩)
  show ParamSet.wf (if _ then _ else _)
  split
  · exact ParamSet.putInt_wf h2
  · exact ParamSet.putBlob_wf h2

theorem State.dictWrite_kept {σ : State} {c : ReqClass} {b : Bytes} {s : State} (hs : σ.Kept s) :
    σ.KeptIn holdsNext (State.dictWrite c b s) := by
  unfold State.dictWrite
  repeat' (first
    | with_reducible assumption
    | with_reducible apply State.turnAway_kept
    | with_reducible apply State.writeOnly_kept
    | with_reducible apply State.writeShadow_kept
    | with_reducible apply State.writeLive_kept
    | with_reducible refine State.KeptIn.ite (fun _ => ?_) (fun _ => ?_)
    | lift_lets -underBinder
    | split
    | with_reducible apply State.KeptIn.ofNext)

theorem State.recordRefusal_kept {σ : State} {r : Reason} {detail : Option Nat} {s : State} (hs : σ.Kept s) :
    σ.KeptIn holdsNext (State.recordRefusal r detail s) := by
  unfold State.recordRefusal
  repeat' (first
    | (intro)
    | exact State.Kept.of_record (by with_reducible assumption) rfl rfl rfl rfl rfl rfl rfl rfl rfl
    | lift_lets -underBinder
    | with_reducible apply State.KeptIn.ofNext)

theorem State.dictValidate_kept {σ : State} {c : ReqClass} {s : State} (hs : σ.Kept s) :
    σ.KeptIn holdsNext (State.dictValidate c s) := by
  unfold State.dictValidate
  repeat' (first
    | with_reducible assumption
    | with_reducible apply State.recordRefusal_kept
    | with_reducible refine State.KeptIn.ite (fun _ => ?_) (fun _ => ?_)
    | lift_lets -underBinder
    | split
    | with_reducible apply State.KeptIn.ofNext)

theorem State.armAt_kept {σ : State} {tick : Nat} {swapId : W32} {late : Bool} {s : State} (hs : σ.Kept s) :
    σ.KeptIn holdsNext (State.armAt tick swapId late s) := by
  unfold State.armAt
  repeat' (first
    | with_reducible assumption
    | with_reducible apply State.recordRefusal_kept
    | with_reducible refine State.KeptIn.ite (fun _ => ?_) (fun _ => ?_)
    | (intro)
    | exact State.Kept.of_record (by with_reducible assumption) rfl rfl rfl rfl rfl rfl rfl rfl rfl
    | lift_lets -underBinder
    | with_reducible apply State.KeptIn.ofNext)

theorem State.dictArm_kept {σ : State} {c : ReqClass} {b : Bytes} {s : State} (hs : σ.Kept s) :
    σ.KeptIn holdsNext (State.dictArm c b s) := by
  unfold State.dictArm
  repeat' (first
    | with_reducible assumption
    | with_reducible apply State.recordRefusal_kept
    | with_reducible apply State.armAt_kept
    | with_reducible refine State.KeptIn.ite (fun _ => ?_) (fun _ => ?_)
    | lift_lets -underBinder
    | split)

theorem State.dictCancel_kept {σ : State} {c : ReqClass} {s : State} (hs : σ.Kept s) :
    σ.KeptIn holdsNext (State.dictCancel c s) := by
  unfold State.dictCancel
  repeat' (first
    | with_reducible assumption
    | with_reducible apply State.turnAway_kept
    | with_reducible refine State.KeptIn.ite (fun _ => ?_) (fun _ => ?_)
    | (intro)
    | exact State.Kept.of_record (by with_reducible assumption) rfl rfl rfl rfl rfl rfl rfl rfl rfl
    | lift_lets -underBinder
    | split
    | with_reducible apply State.KeptIn.ofNext)

theorem State.dictDiscard_kept {σ : State} {c : ReqClass} {s : State} (hs : σ.Kept s) :
    σ.KeptIn holdsNext (State.dictDiscard c s) := by
  unfold State.dictDiscard
  refine State.KeptIn.ite (fun _ => State.turnAway_kept hs) (fun _ => ?_)
  refine State.KeptIn.ite (fun _ => State.turnAway_kept hs) (fun _ => State.KeptIn.ofNext ?_)
  exact hs.put_sets rfl rfl rfl rfl rfl rfl (fun h _ => ⟨h, h⟩)

theorem State.serve_kept {σ : State} {op : Nat} {f : ReqClass → Bytes → State → DictResult} {s : State}
    (hf : ∀ c b s, σ.Kept s → σ.KeptIn holdsNext (f c b s)) (hs : σ.Kept s) : σ.Kept (State.serve op f s) := by
  unfold State.serve
  split
  · exact hs
  · refine State.Kept.ite (fun _ => hs) (fun _ => State.answer_kept (State.KeptIn.next (hf _ _ _ ?_)))
    exact State.Kept.of_record hs rfl rfl rfl rfl rfl rfl rfl rfl rfl

theorem execDictRead_kept {σ : State} {s : State} (hs : σ.Kept s) :
    σ.Answers (execDictRead s) := by
  unfold execDictRead
  repeat' (first
    | with_reducible assumption
    | with_reducible apply State.serve_kept
    | with_reducible apply State.dictRead_kept
    | with_reducible apply State.Answers.next
    | (intro))

theorem execDictReadShadow_kept {σ : State} {s : State} (hs : σ.Kept s) :
    σ.Answers (execDictReadShadow s) := by
  unfold execDictReadShadow
  repeat' (first
    | with_reducible assumption
    | with_reducible apply State.serve_kept
    | with_reducible apply State.dictRead_kept
    | with_reducible apply State.Answers.next
    | (intro))

theorem execDictWrite_kept {σ : State} {s : State} (hs : σ.Kept s) :
    σ.Answers (execDictWrite s) := by
  unfold execDictWrite
  repeat' (first
    | with_reducible assumption
    | with_reducible apply State.serve_kept
    | with_reducible apply State.dictWrite_kept
    | with_reducible apply State.Answers.next)

theorem execDictDescribe_kept {σ : State} {s : State} (hs : σ.Kept s) :
    σ.Answers (execDictDescribe s) := by
  unfold execDictDescribe
  repeat' (first
    | with_reducible assumption
    | with_reducible apply State.serve_kept
    | with_reducible apply State.dictDescribe_kept
    | with_reducible apply State.Answers.next)

theorem execDictEnumerate_kept {σ : State} {s : State} (hs : σ.Kept s) :
    σ.Answers (execDictEnumerate s) := by
  unfold execDictEnumerate
  repeat' (first
    | with_reducible assumption
    | with_reducible apply State.serve_kept
    | with_reducible apply State.dictEnumerate_kept
    | with_reducible apply State.Answers.next)

theorem execDictValidate_kept {σ : State} {s : State} (hs : σ.Kept s) :
    σ.Answers (execDictValidate s) := by
  unfold execDictValidate
  repeat' (first
    | with_reducible assumption
    | with_reducible apply State.serve_kept
    | with_reducible apply State.dictValidate_kept
    | with_reducible apply State.Answers.next
    | (intro))

theorem execDictArmSwap_kept {σ : State} {s : State} (hs : σ.Kept s) :
    σ.Answers (execDictArmSwap s) := by
  unfold execDictArmSwap
  repeat' (first
    | with_reducible assumption
    | with_reducible apply State.serve_kept
    | with_reducible apply State.dictArm_kept
    | with_reducible apply State.Answers.next)

theorem execDictCancelSwap_kept {σ : State} {s : State} (hs : σ.Kept s) :
    σ.Answers (execDictCancelSwap s) := by
  unfold execDictCancelSwap
  repeat' (first
    | with_reducible assumption
    | with_reducible apply State.serve_kept
    | with_reducible apply State.dictCancel_kept
    | with_reducible apply State.Answers.next
    | (intro))

theorem execDictDiscardShadow_kept {σ : State} {s : State} (hs : σ.Kept s) :
    σ.Answers (execDictDiscardShadow s) := by
  unfold execDictDiscardShadow
  repeat' (first
    | with_reducible assumption
    | with_reducible apply State.serve_kept
    | with_reducible apply State.dictDiscard_kept
    | with_reducible apply State.Answers.next
    | (intro))

end Sys2Proof.Machine
end

