-- ==== Sys2Proof/Laws/KeptFrames.lean ====
section
/-! SUPPORT. What every command keeps: the operations of Machine/Frames.lean. -/
namespace Sys2Proof.Machine

theorem State.takeSilus_kept {σ : State} {rx : Rx} {s : State} (hs : σ.Kept s) :
    σ.Kept (State.takeSilus rx s) := by
  unfold State.takeSilus
  repeat' (first
    | with_reducible assumption
    | with_reducible apply State.receive_kept
    | with_reducible apply State.freeIngress_kept
    | with_reducible apply State.bump_kept
    | with_reducible apply State.takeDatagram_kept
    | with_reducible apply State.takeDictRequest_kept
    | with_reducible apply State.takeDictResponse_kept
    | with_reducible apply State.takeNotice_kept
    | with_reducible apply State.takeRebind_kept
    | with_reducible refine State.Kept.ite (fun _ => ?_) (fun _ => ?_)
    | lift_lets -underBinder
    | split)

theorem State.frameSilus_kept {σ : State} {port : Nat} {outer : Bytes} {b : Bytes} {translates : Bool} {s : State} (hs : σ.Kept s) :
    σ.Kept (State.frameSilus port outer b translates s) := by
  unfold State.frameSilus
  repeat' (first
    | with_reducible assumption
    | with_reducible apply State.bump_kept
    | with_reducible apply State.takeSilus_kept
    | split)

theorem State.takeFrame_kept {σ : State} {port : Nat} {f : Bytes} {frac : Nat} {translates : Bool} {s : State} (hs : σ.Kept s) :
    σ.Kept (State.takeFrame port f frac translates s) := by
  unfold State.takeFrame
  repeat' (first
    | with_reducible assumption
    | with_reducible apply State.bump_kept
    | with_reducible apply State.frameSilus_kept
    | with_reducible apply State.takePtp_kept
    | with_reducible apply State.takePause_kept
    | with_reducible apply State.takePfc_kept
    | with_reducible refine State.Kept.ite (fun _ => ?_) (fun _ => ?_)
    | lift_lets -underBinder
    | split)

theorem execEthFrameRx_kept {σ : State} {port : Nat} {frame : Bytes} {fcs : Bool} {frac : Nat} {translates : Bool} {s : State} (hs : σ.Kept s) :
    σ.Answers (execEthFrameRx port frame fcs frac translates s) := by
  unfold execEthFrameRx
  repeat' (first
    | with_reducible assumption
    | with_reducible apply State.bump_kept
    | with_reducible apply State.takeFrame_kept
    | with_reducible apply State.Answers.next
    | with_reducible refine State.Answers.ite (fun _ => ?_) (fun _ => ?_))

end Sys2Proof.Machine
end

