-- ==== Sys2Proof/Laws/KeptRegisters.lean ====
section
/-! SUPPORT. What every command keeps: the operations of Machine/Registers.lean. -/
namespace Sys2Proof.Machine

theorem State.msixWord_kept {σ : State} {t : Nat} {v : Nat} {word : Nat} {value : W32} {s : State} (hs : σ.Kept s) :
    σ.Kept (State.msixWord t v word value s) := by
  unfold State.msixWord
  repeat' (first
    | with_reducible assumption
    | with_reducible apply State.emit_kept
    | with_reducible refine State.Kept.ite (fun _ => ?_) (fun _ => ?_)
    | (intro y; refine State.Kept.cut2' (a := σ) (f := y) ?_ fun hf3 => ?_; rotate_left; clear_value y)
    | with_reducible apply hf3
    | (intro y; clear_value y)
    | (intro)
    | exact State.Kept.of_record (by with_reducible assumption) rfl rfl rfl rfl rfl rfl rfl rfl rfl
    | lift_lets -underBinder
    | split)

theorem State.msixWrite_kept {σ : State} {t : Nat} {off : Nat} {width : Nat} {value : W64} {s : State} (hs : σ.Kept s) :
    σ.Kept (State.msixWrite t off width value s) := by
  unfold State.msixWrite
  repeat' (first
    | with_reducible assumption
    | with_reducible apply State.msixWord_kept
    | with_reducible refine State.Kept.ite (fun _ => ?_) (fun _ => ?_))

theorem execRegisterWrite_kept {σ : State} {fn : Nat} {offset : Nat} {width : Nat} {value : W64} {s : State} (hs : σ.Kept s) :
    σ.Answers (execRegisterWrite fn offset width value s) := by
  unfold execRegisterWrite
  repeat' (first
    | with_reducible assumption
    | with_reducible apply State.setFn_kept
    | with_reducible apply State.msixWrite_kept
    | with_reducible apply State.Answers.next
    | with_reducible refine State.Answers.ite (fun _ => ?_) (fun _ => ?_))

end Sys2Proof.Machine
end

