-- ==== Sys2Proof/Laws/Memory.lean ====
section
/-! SUPPORT. Laws of package memory (R484, R497, R503): what a byte reads as after the operations that write memory. -/
namespace Sys2Proof.Machine

/-- The zeroed range reads zero, every other byte as before. -/
theorem tgetD_memErase {lo hi a : Nat} {m : Memory} (h : Memory.wf m = true) :
    tgetD (memErase lo hi m) a 0 = if lo ≤ a ∧ a < hi then 0 else tgetD m a 0 := by
  have hr : risingFrom 0 m = true := by simp only [Memory.wf, twfD, Bool.and_eq_true] at h; exact h.1
  clear h
  generalize 0 = lo' at hr
  unfold tgetD
  induction m generalizing lo' with
  | nil => simp [memErase]
  | cons e m ih =>
    obtain ⟨j, u⟩ := e
    simp only [risingFrom, Bool.and_eq_true, decide_eq_true_eq] at hr
    have ih' := ih (j + 1) hr.2
    by_cases hj : lo ≤ j ∧ j < hi
    · have hf : memErase lo hi ((j, u) :: m) = memErase lo hi m := by simp [memErase, hj]
      rw [hf, ih']
      by_cases ha : a = j
      · subst ha; simp [hj]
      · simp [tget, ha]
    · have hf : memErase lo hi ((j, u) :: m) = (j, u) :: memErase lo hi m := by
        simp only [memErase, List.filter_cons]
        rw [if_pos]; simp; omega
      rw [hf]
      by_cases ha : a = j
      · subst ha; simp [tget, hj]
      · simp only [tget, ha, if_false]; exact ih'

/-- A stored byte reads as it was stored, every other byte as before. -/
theorem tgetD_memStore {bs : Bytes} {a x : Nat} {m : Memory} (h : Memory.wf m = true) :
    tgetD (memStore a bs m) x 0 = if a ≤ x ∧ x < a + bs.length then bs.getD (x - a) 0 else tgetD m x 0 := by
  induction bs generalizing a m with
  | nil => rw [if_neg (by rw [List.length_nil]; omega)]; rfl
  | cons b bs ih =>
    simp only [memStore]
    rw [ih (twfD_tput a b h)]
    by_cases h1 : a + 1 ≤ x ∧ x < a + 1 + bs.length
    · rw [if_pos h1, if_pos (by simp; omega), show x - a = (x - (a + 1)) + 1 by omega]; simp
    · rw [if_neg h1]
      by_cases hx : x = a
      · subst hx; rw [tgetD_tput_self _ _ h, if_pos (by simp)]; simp
      · rw [tgetD_tput_ne hx, if_neg (by simp; omega)]

/-- The block of 16 KiB of an address, counted over all of package memory. -/
theorem block_eq {a b : Nat} :
    (extentOf a = extentOf b ∧ a % 1073741824 / 16384 = b % 1073741824 / 16384) ↔ a / 16384 = b / 16384 := by
  unfold extentOf; omega

/-- Zeroing a pending block changes what no byte reads as, and leaves no other block pending or clean than before. -/
theorem cleanBlock_reads {s : State} {a : Nat} (hm : Memory.wf s.memory.mem = true) (he : twfD {} s.memory.extents = true) :
    (s.cleanBlock a).blockPending a = false ∧
    (∀ x, x / 16384 ≠ a / 16384 → (s.cleanBlock a).blockPending x = s.blockPending x) ∧
    (∀ x, (s.cleanBlock a).memByte x = s.memByte x) := by
  unfold State.cleanBlock
  by_cases hp : s.blockPending a = true
  · rw [if_pos hp]
    have hext : ∀ x, State.extent (((({ s with memory := { s.memory with
          mem := memErase (extentOf a * 1073741824 + a % 1073741824 / 16384 * 16384)
            (extentOf a * 1073741824 + a % 1073741824 / 16384 * 16384 + 16384) s.memory.mem
          poison := s.memory.poison.filter (fun c => !(extentOf a * 1073741824 + a % 1073741824 / 16384 * 16384 ≤ c * 64 &&
            c * 64 < extentOf a * 1073741824 + a % 1073741824 / 16384 * 16384 + 16384)) } } : State).setExtent (extentOf a)
          { s.extent (extentOf a) with clean := (s.extent (extentOf a)).clean ++ [a % 1073741824 / 16384] }).bump d12_0107
          (extentTower (extentOf a)))) x =
        if x = extentOf a then { s.extent (extentOf a) with clean := (s.extent (extentOf a)).clean ++ [a % 1073741824 / 16384] }
        else s.extent x := by
      intro x
      show tgetD (tput {} (extentOf a) _ s.memory.extents) x {} = _
      by_cases hx : x = extentOf a
      · rw [hx, tgetD_tput_self _ _ he, if_pos rfl]
      · rw [tgetD_tput_ne hx, if_neg hx]; rfl
    simp only [State.blockPending, Bool.and_eq_true, decide_eq_true_eq, Bool.not_eq_true'] at hp
    obtain ⟨⟨hz, hn⟩, hc⟩ := hp
    have hpend : ∀ x, State.blockPending (((({ s with memory := { s.memory with
          mem := memErase (extentOf a * 1073741824 + a % 1073741824 / 16384 * 16384)
            (extentOf a * 1073741824 + a % 1073741824 / 16384 * 16384 + 16384) s.memory.mem
          poison := s.memory.poison.filter (fun c => !(extentOf a * 1073741824 + a % 1073741824 / 16384 * 16384 ≤ c * 64 &&
            c * 64 < extentOf a * 1073741824 + a % 1073741824 / 16384 * 16384 + 16384)) } } : State).setExtent (extentOf a)
          { s.extent (extentOf a) with clean := (s.extent (extentOf a)).clean ++ [a % 1073741824 / 16384] }).bump d12_0107
          (extentTower (extentOf a)))) x = if x / 16384 = a / 16384 then false else s.blockPending x := by
      intro x
      simp only [State.blockPending, hext]
      by_cases hx : extentOf x = extentOf a
      · rw [if_pos hx]
        by_cases hb : x % 1073741824 / 16384 = a % 1073741824 / 16384
        · rw [if_pos (block_eq.mp ⟨hx, hb⟩), hb]; simp
        · rw [if_neg (fun h => hb (block_eq.mpr h).2), hx]
          simp [hb]
      · rw [if_neg hx, if_neg (fun h => hx (block_eq.mpr h).1)]
    refine ⟨by rw [hpend, if_pos rfl], fun x hx => by rw [hpend, if_neg hx], fun x => ?_⟩
    simp only [State.memByte, hpend]
    show (if (if x / 16384 = a / 16384 then false else s.blockPending x) = true then 0 else
      tgetD (memErase _ _ s.memory.mem) x 0) = _
    rw [tgetD_memErase hm]
    by_cases hx : x / 16384 = a / 16384
    · have hb := block_eq.mpr hx
      have : s.blockPending x = true := by
        simp only [State.blockPending, hb.1, hb.2, hz, hc, Bool.true_and, Bool.not_false, Bool.and_true, decide_eq_true_eq]
        exact hn
      rw [if_neg (by simp [hx]), if_pos (by unfold extentOf; omega), if_pos this]
    · rw [if_neg hx]
      by_cases hq : s.blockPending x = true
      · rw [if_pos hq, if_pos hq]
      · rw [if_neg hq, if_neg hq, if_neg (by unfold extentOf; omega)]
  · rw [if_neg hp]
    exact ⟨by simpa using hp, fun _ _ => rfl, fun _ => rfl⟩

/-- Zeroing a pending block clears the poison of its cells, and no other. -/
theorem cleanBlock_poison {s : State} {a c : Nat} :
    (s.cleanBlock a).memory.poison.contains c =
      (s.memory.poison.contains c && !(s.blockPending a && decide (c * 64 / 16384 = a / 16384))) := by
  unfold State.cleanBlock
  by_cases hp : s.blockPending a = true
  · rw [if_pos hp, hp]
    show (s.memory.poison.filter _).contains c = _
    have hb : (extentOf a * 1073741824 + a % 1073741824 / 16384 * 16384 ≤ c * 64 ∧
        c * 64 < extentOf a * 1073741824 + a % 1073741824 / 16384 * 16384 + 16384) ↔ c * 64 / 16384 = a / 16384 := by
      unfold extentOf; omega
    rw [Bool.eq_iff_iff]
    simp only [List.contains_iff_mem, List.mem_filter, Bool.and_eq_true, Bool.not_eq_true', Bool.true_and,
      ← Bool.not_eq_true, decide_eq_true_eq, hb]
  · rw [if_neg hp]
    simp only [Bool.not_eq_true] at hp
    simp [hp]

/-- Zeroing leaves the tables that reads depend on in canonical form. -/
theorem cleanBlock_wf {s : State} {a : Nat} (hm : Memory.wf s.memory.mem = true) (he : twfD {} s.memory.extents = true) :
    Memory.wf (s.cleanBlock a).memory.mem = true ∧ twfD {} (s.cleanBlock a).memory.extents = true := by
  unfold State.cleanBlock
  split
  · exact ⟨twfD_filter _ hm, twfD_tput _ _ he⟩
  · exact ⟨hm, he⟩

/-- The same over several blocks. -/
theorem cleanBlocks_reads (l : List Nat) {s : State} (hm : Memory.wf s.memory.mem = true) (he : twfD {} s.memory.extents = true) :
    (∀ x, (l.foldl State.cleanBlock s).blockPending x = (s.blockPending x && !l.any (fun a => a / 16384 = x / 16384))) ∧
    (∀ x, (l.foldl State.cleanBlock s).memByte x = s.memByte x) ∧
    (∀ c, (l.foldl State.cleanBlock s).memory.poison.contains c =
      (s.memory.poison.contains c && !(s.blockPending (c * 64) && l.any (fun a => a / 16384 = c * 64 / 16384)))) ∧
    Memory.wf (l.foldl State.cleanBlock s).memory.mem = true := by
  induction l generalizing s with
  | nil => simp [hm]
  | cons a l ih =>
    obtain ⟨w1, w2⟩ := cleanBlock_wf (a := a) hm he
    obtain ⟨c1, c2, c3⟩ := cleanBlock_reads (a := a) hm he
    obtain ⟨i1, i2, i3, i4⟩ := ih w1 w2
    have hp : ∀ x, (s.cleanBlock a).blockPending x = (s.blockPending x && !decide (a / 16384 = x / 16384)) := by
      intro x
      by_cases hx : x / 16384 = a / 16384
      · have : (s.cleanBlock a).blockPending x = (s.cleanBlock a).blockPending a := by
          have hb := block_eq.mpr hx
          simp only [State.blockPending, hb.1, hb.2]
        rw [this, c1]; simp [hx]
      · have h' : ¬ a / 16384 = x / 16384 := fun e => hx e.symm
        rw [c2 x hx]; simp [h']
    refine ⟨fun x => ?_, fun x => (i2 x).trans (c3 x), fun c => ?_, i4⟩
    · rw [List.foldl_cons, i1, hp, List.any_cons, Bool.not_or, Bool.and_assoc]
    · rw [List.foldl_cons, i3, cleanBlock_poison, hp, List.any_cons]
      have hsame : c * 64 / 16384 = a / 16384 → s.blockPending a = s.blockPending (c * 64) := by
        intro h
        have hb := block_eq.mpr h
        simp only [State.blockPending, hb.1, hb.2]
      by_cases h : c * 64 / 16384 = a / 16384
      · rw [hsame h]
        cases s.blockPending (c * 64) <;> simp [h]
      · have h' : ¬ a / 16384 = c * 64 / 16384 := fun e => h e.symm
        simp [h, h']

end Sys2Proof.Machine
end

