-- ==== Sys2Proof/Laws/State.lean ====
section
/-! SUPPORT. What each update of Machine/Ops.lean leaves in each field of the state, and what reading back after one gives. -/
namespace Sys2Proof.Machine

/-! ### setTenant -/

@[simp] theorem State.setTenant_pkg (s : State) (t : Nat) (x : Tenant) : (s.setTenant t x).pkg = s.pkg := rfl
@[simp] theorem State.setTenant_time (s : State) (t : Nat) (x : Tenant) : (s.setTenant t x).time = s.time := rfl
@[simp] theorem State.setTenant_dict (s : State) (t : Nat) (x : Tenant) : (s.setTenant t x).dict = s.dict := rfl
@[simp] theorem State.setTenant_ro (s : State) (t : Nat) (x : Tenant) : (s.setTenant t x).ro = s.ro := rfl
@[simp] theorem State.setTenant_fns (s : State) (t : Nat) (x : Tenant) : (s.setTenant t x).fns = s.fns := rfl
@[simp] theorem State.setTenant_rings (s : State) (t : Nat) (x : Tenant) : (s.setTenant t x).rings = s.rings := rfl
@[simp] theorem State.setTenant_conns (s : State) (t : Nat) (x : Tenant) : (s.setTenant t x).conns = s.conns := rfl
@[simp] theorem State.setTenant_incs (s : State) (t : Nat) (x : Tenant) : (s.setTenant t x).incs = s.incs := rfl
@[simp] theorem State.setTenant_handles (s : State) (t : Nat) (x : Tenant) : (s.setTenant t x).handles = s.handles := rfl
@[simp] theorem State.setTenant_realms (s : State) (t : Nat) (x : Tenant) : (s.setTenant t x).realms = s.realms := rfl
@[simp] theorem State.setTenant_localReads (s : State) (t : Nat) (x : Tenant) : (s.setTenant t x).localReads = s.localReads := rfl
@[simp] theorem State.setTenant_miss (s : State) (t : Nat) (x : Tenant) : (s.setTenant t x).miss = s.miss := rfl
@[simp] theorem State.setTenant_memory (s : State) (t : Nat) (x : Tenant) : (s.setTenant t x).memory = s.memory := rfl
@[simp] theorem State.setTenant_hosts (s : State) (t : Nat) (x : Tenant) : (s.setTenant t x).hosts = s.hosts := rfl
@[simp] theorem State.setTenant_msix (s : State) (t : Nat) (x : Tenant) : (s.setTenant t x).msix = s.msix := rfl
@[simp] theorem State.setTenant_ats (s : State) (t : Nat) (x : Tenant) : (s.setTenant t x).ats = s.ats := rfl
@[simp] theorem State.setTenant_atsWait (s : State) (t : Nat) (x : Tenant) : (s.setTenant t x).atsWait = s.atsWait := rfl
@[simp] theorem State.setTenant_attach (s : State) (t : Nat) (x : Tenant) : (s.setTenant t x).attach = s.attach := rfl
@[simp] theorem State.setTenant_ports (s : State) (t : Nat) (x : Tenant) : (s.setTenant t x).ports = s.ports := rfl
@[simp] theorem State.setTenant_spire (s : State) (t : Nat) (x : Tenant) : (s.setTenant t x).spire = s.spire := rfl
@[simp] theorem State.setTenant_shapers (s : State) (t : Nat) (x : Tenant) : (s.setTenant t x).shapers = s.shapers := rfl
@[simp] theorem State.setTenant_policers (s : State) (t : Nat) (x : Tenant) : (s.setTenant t x).policers = s.policers := rfl
@[simp] theorem State.setTenant_fwd (s : State) (t : Nat) (x : Tenant) : (s.setTenant t x).fwd = s.fwd := rfl
@[simp] theorem State.setTenant_power (s : State) (t : Nat) (x : Tenant) : (s.setTenant t x).power = s.power := rfl
@[simp] theorem State.setTenant_oculus (s : State) (t : Nat) (x : Tenant) : (s.setTenant t x).oculus = s.oculus := rfl
@[simp] theorem State.setTenant_cipher (s : State) (t : Nat) (x : Tenant) : (s.setTenant t x).cipher = s.cipher := rfl
@[simp] theorem State.setTenant_cupola (s : State) (t : Nat) (x : Tenant) : (s.setTenant t x).cupola = s.cupola := rfl
@[simp] theorem State.setTenant_experts (s : State) (t : Nat) (x : Tenant) : (s.setTenant t x).experts = s.experts := rfl
@[simp] theorem State.setTenant_movers (s : State) (t : Nat) (x : Tenant) : (s.setTenant t x).movers = s.movers := rfl
@[simp] theorem State.setTenant_belfry (s : State) (t : Nat) (x : Tenant) : (s.setTenant t x).belfry = s.belfry := rfl
@[simp] theorem State.setTenant_mgmt (s : State) (t : Nat) (x : Tenant) : (s.setTenant t x).mgmt = s.mgmt := rfl
@[simp] theorem State.setTenant_faults (s : State) (t : Nat) (x : Tenant) : (s.setTenant t x).faults = s.faults := rfl
@[simp] theorem State.setTenant_out (s : State) (t : Nat) (x : Tenant) : (s.setTenant t x).out = s.out := rfl
@[simp] theorem State.setTenant_free (s : State) (t : Nat) (x : Tenant) : (s.setTenant t x).free = s.free := rfl
@[simp] theorem State.setTenant_pending (s : State) (t : Nat) (x : Tenant) : (s.setTenant t x).pending = s.pending := rfl
@[simp] theorem State.setTenant_tenants (s : State) (t : Nat) (x : Tenant) : (s.setTenant t x).tenants = tput {} t x s.tenants := rfl
@[simp] theorem State.setTenant_par (s : State) (t : Nat) (x : Tenant) (q : Param) (i : Nat) : (s.setTenant t x).par q i = s.par q i := rfl

/-! ### setFn -/

@[simp] theorem State.setFn_pkg (s : State) (t : Nat) (x : FnPages) : (s.setFn t x).pkg = s.pkg := rfl
@[simp] theorem State.setFn_time (s : State) (t : Nat) (x : FnPages) : (s.setFn t x).time = s.time := rfl
@[simp] theorem State.setFn_dict (s : State) (t : Nat) (x : FnPages) : (s.setFn t x).dict = s.dict := rfl
@[simp] theorem State.setFn_ro (s : State) (t : Nat) (x : FnPages) : (s.setFn t x).ro = s.ro := rfl
@[simp] theorem State.setFn_tenants (s : State) (t : Nat) (x : FnPages) : (s.setFn t x).tenants = s.tenants := rfl
@[simp] theorem State.setFn_rings (s : State) (t : Nat) (x : FnPages) : (s.setFn t x).rings = s.rings := rfl
@[simp] theorem State.setFn_conns (s : State) (t : Nat) (x : FnPages) : (s.setFn t x).conns = s.conns := rfl
@[simp] theorem State.setFn_incs (s : State) (t : Nat) (x : FnPages) : (s.setFn t x).incs = s.incs := rfl
@[simp] theorem State.setFn_handles (s : State) (t : Nat) (x : FnPages) : (s.setFn t x).handles = s.handles := rfl
@[simp] theorem State.setFn_realms (s : State) (t : Nat) (x : FnPages) : (s.setFn t x).realms = s.realms := rfl
@[simp] theorem State.setFn_localReads (s : State) (t : Nat) (x : FnPages) : (s.setFn t x).localReads = s.localReads := rfl
@[simp] theorem State.setFn_miss (s : State) (t : Nat) (x : FnPages) : (s.setFn t x).miss = s.miss := rfl
@[simp] theorem State.setFn_memory (s : State) (t : Nat) (x : FnPages) : (s.setFn t x).memory = s.memory := rfl
@[simp] theorem State.setFn_hosts (s : State) (t : Nat) (x : FnPages) : (s.setFn t x).hosts = s.hosts := rfl
@[simp] theorem State.setFn_msix (s : State) (t : Nat) (x : FnPages) : (s.setFn t x).msix = s.msix := rfl
@[simp] theorem State.setFn_ats (s : State) (t : Nat) (x : FnPages) : (s.setFn t x).ats = s.ats := rfl
@[simp] theorem State.setFn_atsWait (s : State) (t : Nat) (x : FnPages) : (s.setFn t x).atsWait = s.atsWait := rfl
@[simp] theorem State.setFn_attach (s : State) (t : Nat) (x : FnPages) : (s.setFn t x).attach = s.attach := rfl
@[simp] theorem State.setFn_ports (s : State) (t : Nat) (x : FnPages) : (s.setFn t x).ports = s.ports := rfl
@[simp] theorem State.setFn_spire (s : State) (t : Nat) (x : FnPages) : (s.setFn t x).spire = s.spire := rfl
@[simp] theorem State.setFn_shapers (s : State) (t : Nat) (x : FnPages) : (s.setFn t x).shapers = s.shapers := rfl
@[simp] theorem State.setFn_policers (s : State) (t : Nat) (x : FnPages) : (s.setFn t x).policers = s.policers := rfl
@[simp] theorem State.setFn_fwd (s : State) (t : Nat) (x : FnPages) : (s.setFn t x).fwd = s.fwd := rfl
@[simp] theorem State.setFn_power (s : State) (t : Nat) (x : FnPages) : (s.setFn t x).power = s.power := rfl
@[simp] theorem State.setFn_oculus (s : State) (t : Nat) (x : FnPages) : (s.setFn t x).oculus = s.oculus := rfl
@[simp] theorem State.setFn_cipher (s : State) (t : Nat) (x : FnPages) : (s.setFn t x).cipher = s.cipher := rfl
@[simp] theorem State.setFn_cupola (s : State) (t : Nat) (x : FnPages) : (s.setFn t x).cupola = s.cupola := rfl
@[simp] theorem State.setFn_experts (s : State) (t : Nat) (x : FnPages) : (s.setFn t x).experts = s.experts := rfl
@[simp] theorem State.setFn_movers (s : State) (t : Nat) (x : FnPages) : (s.setFn t x).movers = s.movers := rfl
@[simp] theorem State.setFn_belfry (s : State) (t : Nat) (x : FnPages) : (s.setFn t x).belfry = s.belfry := rfl
@[simp] theorem State.setFn_mgmt (s : State) (t : Nat) (x : FnPages) : (s.setFn t x).mgmt = s.mgmt := rfl
@[simp] theorem State.setFn_faults (s : State) (t : Nat) (x : FnPages) : (s.setFn t x).faults = s.faults := rfl
@[simp] theorem State.setFn_out (s : State) (t : Nat) (x : FnPages) : (s.setFn t x).out = s.out := rfl
@[simp] theorem State.setFn_free (s : State) (t : Nat) (x : FnPages) : (s.setFn t x).free = s.free := rfl
@[simp] theorem State.setFn_pending (s : State) (t : Nat) (x : FnPages) : (s.setFn t x).pending = s.pending := rfl
@[simp] theorem State.setFn_fns (s : State) (t : Nat) (x : FnPages) : (s.setFn t x).fns = tput {} t x s.fns := rfl
@[simp] theorem State.setFn_par (s : State) (t : Nat) (x : FnPages) (q : Param) (i : Nat) : (s.setFn t x).par q i = s.par q i := rfl

/-! ### setHost -/

@[simp] theorem State.setHost_pkg (s : State) (h : Nat) (x : HostPort) : (s.setHost h x).pkg = s.pkg := rfl
@[simp] theorem State.setHost_time (s : State) (h : Nat) (x : HostPort) : (s.setHost h x).time = s.time := rfl
@[simp] theorem State.setHost_dict (s : State) (h : Nat) (x : HostPort) : (s.setHost h x).dict = s.dict := rfl
@[simp] theorem State.setHost_ro (s : State) (h : Nat) (x : HostPort) : (s.setHost h x).ro = s.ro := rfl
@[simp] theorem State.setHost_fns (s : State) (h : Nat) (x : HostPort) : (s.setHost h x).fns = s.fns := rfl
@[simp] theorem State.setHost_tenants (s : State) (h : Nat) (x : HostPort) : (s.setHost h x).tenants = s.tenants := rfl
@[simp] theorem State.setHost_rings (s : State) (h : Nat) (x : HostPort) : (s.setHost h x).rings = s.rings := rfl
@[simp] theorem State.setHost_conns (s : State) (h : Nat) (x : HostPort) : (s.setHost h x).conns = s.conns := rfl
@[simp] theorem State.setHost_incs (s : State) (h : Nat) (x : HostPort) : (s.setHost h x).incs = s.incs := rfl
@[simp] theorem State.setHost_handles (s : State) (h : Nat) (x : HostPort) : (s.setHost h x).handles = s.handles := rfl
@[simp] theorem State.setHost_realms (s : State) (h : Nat) (x : HostPort) : (s.setHost h x).realms = s.realms := rfl
@[simp] theorem State.setHost_localReads (s : State) (h : Nat) (x : HostPort) : (s.setHost h x).localReads = s.localReads := rfl
@[simp] theorem State.setHost_miss (s : State) (h : Nat) (x : HostPort) : (s.setHost h x).miss = s.miss := rfl
@[simp] theorem State.setHost_memory (s : State) (h : Nat) (x : HostPort) : (s.setHost h x).memory = s.memory := rfl
@[simp] theorem State.setHost_msix (s : State) (h : Nat) (x : HostPort) : (s.setHost h x).msix = s.msix := rfl
@[simp] theorem State.setHost_ats (s : State) (h : Nat) (x : HostPort) : (s.setHost h x).ats = s.ats := rfl
@[simp] theorem State.setHost_atsWait (s : State) (h : Nat) (x : HostPort) : (s.setHost h x).atsWait = s.atsWait := rfl
@[simp] theorem State.setHost_attach (s : State) (h : Nat) (x : HostPort) : (s.setHost h x).attach = s.attach := rfl
@[simp] theorem State.setHost_ports (s : State) (h : Nat) (x : HostPort) : (s.setHost h x).ports = s.ports := rfl
@[simp] theorem State.setHost_spire (s : State) (h : Nat) (x : HostPort) : (s.setHost h x).spire = s.spire := rfl
@[simp] theorem State.setHost_shapers (s : State) (h : Nat) (x : HostPort) : (s.setHost h x).shapers = s.shapers := rfl
@[simp] theorem State.setHost_policers (s : State) (h : Nat) (x : HostPort) : (s.setHost h x).policers = s.policers := rfl
@[simp] theorem State.setHost_fwd (s : State) (h : Nat) (x : HostPort) : (s.setHost h x).fwd = s.fwd := rfl
@[simp] theorem State.setHost_power (s : State) (h : Nat) (x : HostPort) : (s.setHost h x).power = s.power := rfl
@[simp] theorem State.setHost_oculus (s : State) (h : Nat) (x : HostPort) : (s.setHost h x).oculus = s.oculus := rfl
@[simp] theorem State.setHost_cipher (s : State) (h : Nat) (x : HostPort) : (s.setHost h x).cipher = s.cipher := rfl
@[simp] theorem State.setHost_cupola (s : State) (h : Nat) (x : HostPort) : (s.setHost h x).cupola = s.cupola := rfl
@[simp] theorem State.setHost_experts (s : State) (h : Nat) (x : HostPort) : (s.setHost h x).experts = s.experts := rfl
@[simp] theorem State.setHost_movers (s : State) (h : Nat) (x : HostPort) : (s.setHost h x).movers = s.movers := rfl
@[simp] theorem State.setHost_belfry (s : State) (h : Nat) (x : HostPort) : (s.setHost h x).belfry = s.belfry := rfl
@[simp] theorem State.setHost_mgmt (s : State) (h : Nat) (x : HostPort) : (s.setHost h x).mgmt = s.mgmt := rfl
@[simp] theorem State.setHost_faults (s : State) (h : Nat) (x : HostPort) : (s.setHost h x).faults = s.faults := rfl
@[simp] theorem State.setHost_out (s : State) (h : Nat) (x : HostPort) : (s.setHost h x).out = s.out := rfl
@[simp] theorem State.setHost_free (s : State) (h : Nat) (x : HostPort) : (s.setHost h x).free = s.free := rfl
@[simp] theorem State.setHost_pending (s : State) (h : Nat) (x : HostPort) : (s.setHost h x).pending = s.pending := rfl
@[simp] theorem State.setHost_hosts (s : State) (h : Nat) (x : HostPort) : (s.setHost h x).hosts = tput {} h x s.hosts := rfl
@[simp] theorem State.setHost_par (s : State) (h : Nat) (x : HostPort) (q : Param) (i : Nat) : (s.setHost h x).par q i = s.par q i := rfl

/-! ### setAttach -/

@[simp] theorem State.setAttach_pkg (s : State) (a : Nat) (x : AttachPort) : (s.setAttach a x).pkg = s.pkg := rfl
@[simp] theorem State.setAttach_time (s : State) (a : Nat) (x : AttachPort) : (s.setAttach a x).time = s.time := rfl
@[simp] theorem State.setAttach_dict (s : State) (a : Nat) (x : AttachPort) : (s.setAttach a x).dict = s.dict := rfl
@[simp] theorem State.setAttach_ro (s : State) (a : Nat) (x : AttachPort) : (s.setAttach a x).ro = s.ro := rfl
@[simp] theorem State.setAttach_fns (s : State) (a : Nat) (x : AttachPort) : (s.setAttach a x).fns = s.fns := rfl
@[simp] theorem State.setAttach_tenants (s : State) (a : Nat) (x : AttachPort) : (s.setAttach a x).tenants = s.tenants := rfl
@[simp] theorem State.setAttach_rings (s : State) (a : Nat) (x : AttachPort) : (s.setAttach a x).rings = s.rings := rfl
@[simp] theorem State.setAttach_conns (s : State) (a : Nat) (x : AttachPort) : (s.setAttach a x).conns = s.conns := rfl
@[simp] theorem State.setAttach_incs (s : State) (a : Nat) (x : AttachPort) : (s.setAttach a x).incs = s.incs := rfl
@[simp] theorem State.setAttach_handles (s : State) (a : Nat) (x : AttachPort) : (s.setAttach a x).handles = s.handles := rfl
@[simp] theorem State.setAttach_realms (s : State) (a : Nat) (x : AttachPort) : (s.setAttach a x).realms = s.realms := rfl
@[simp] theorem State.setAttach_localReads (s : State) (a : Nat) (x : AttachPort) : (s.setAttach a x).localReads = s.localReads := rfl
@[simp] theorem State.setAttach_miss (s : State) (a : Nat) (x : AttachPort) : (s.setAttach a x).miss = s.miss := rfl
@[simp] theorem State.setAttach_memory (s : State) (a : Nat) (x : AttachPort) : (s.setAttach a x).memory = s.memory := rfl
@[simp] theorem State.setAttach_hosts (s : State) (a : Nat) (x : AttachPort) : (s.setAttach a x).hosts = s.hosts := rfl
@[simp] theorem State.setAttach_msix (s : State) (a : Nat) (x : AttachPort) : (s.setAttach a x).msix = s.msix := rfl
@[simp] theorem State.setAttach_ats (s : State) (a : Nat) (x : AttachPort) : (s.setAttach a x).ats = s.ats := rfl
@[simp] theorem State.setAttach_atsWait (s : State) (a : Nat) (x : AttachPort) : (s.setAttach a x).atsWait = s.atsWait := rfl
@[simp] theorem State.setAttach_ports (s : State) (a : Nat) (x : AttachPort) : (s.setAttach a x).ports = s.ports := rfl
@[simp] theorem State.setAttach_spire (s : State) (a : Nat) (x : AttachPort) : (s.setAttach a x).spire = s.spire := rfl
@[simp] theorem State.setAttach_shapers (s : State) (a : Nat) (x : AttachPort) : (s.setAttach a x).shapers = s.shapers := rfl
@[simp] theorem State.setAttach_policers (s : State) (a : Nat) (x : AttachPort) : (s.setAttach a x).policers = s.policers := rfl
@[simp] theorem State.setAttach_fwd (s : State) (a : Nat) (x : AttachPort) : (s.setAttach a x).fwd = s.fwd := rfl
@[simp] theorem State.setAttach_power (s : State) (a : Nat) (x : AttachPort) : (s.setAttach a x).power = s.power := rfl
@[simp] theorem State.setAttach_oculus (s : State) (a : Nat) (x : AttachPort) : (s.setAttach a x).oculus = s.oculus := rfl
@[simp] theorem State.setAttach_cipher (s : State) (a : Nat) (x : AttachPort) : (s.setAttach a x).cipher = s.cipher := rfl
@[simp] theorem State.setAttach_cupola (s : State) (a : Nat) (x : AttachPort) : (s.setAttach a x).cupola = s.cupola := rfl
@[simp] theorem State.setAttach_experts (s : State) (a : Nat) (x : AttachPort) : (s.setAttach a x).experts = s.experts := rfl
@[simp] theorem State.setAttach_movers (s : State) (a : Nat) (x : AttachPort) : (s.setAttach a x).movers = s.movers := rfl
@[simp] theorem State.setAttach_belfry (s : State) (a : Nat) (x : AttachPort) : (s.setAttach a x).belfry = s.belfry := rfl
@[simp] theorem State.setAttach_mgmt (s : State) (a : Nat) (x : AttachPort) : (s.setAttach a x).mgmt = s.mgmt := rfl
@[simp] theorem State.setAttach_faults (s : State) (a : Nat) (x : AttachPort) : (s.setAttach a x).faults = s.faults := rfl
@[simp] theorem State.setAttach_out (s : State) (a : Nat) (x : AttachPort) : (s.setAttach a x).out = s.out := rfl
@[simp] theorem State.setAttach_free (s : State) (a : Nat) (x : AttachPort) : (s.setAttach a x).free = s.free := rfl
@[simp] theorem State.setAttach_pending (s : State) (a : Nat) (x : AttachPort) : (s.setAttach a x).pending = s.pending := rfl
@[simp] theorem State.setAttach_attach (s : State) (a : Nat) (x : AttachPort) : (s.setAttach a x).attach = tput {} a x s.attach := rfl
@[simp] theorem State.setAttach_par (s : State) (a : Nat) (x : AttachPort) (q : Param) (i : Nat) : (s.setAttach a x).par q i = s.par q i := rfl

/-! ### setRing -/

@[simp] theorem State.setRing_pkg (s : State) (k : Nat) (r : Ring) : (s.setRing k r).pkg = s.pkg := rfl
@[simp] theorem State.setRing_time (s : State) (k : Nat) (r : Ring) : (s.setRing k r).time = s.time := rfl
@[simp] theorem State.setRing_dict (s : State) (k : Nat) (r : Ring) : (s.setRing k r).dict = s.dict := rfl
@[simp] theorem State.setRing_ro (s : State) (k : Nat) (r : Ring) : (s.setRing k r).ro = s.ro := rfl
@[simp] theorem State.setRing_fns (s : State) (k : Nat) (r : Ring) : (s.setRing k r).fns = s.fns := rfl
@[simp] theorem State.setRing_tenants (s : State) (k : Nat) (r : Ring) : (s.setRing k r).tenants = s.tenants := rfl
@[simp] theorem State.setRing_conns (s : State) (k : Nat) (r : Ring) : (s.setRing k r).conns = s.conns := rfl
@[simp] theorem State.setRing_incs (s : State) (k : Nat) (r : Ring) : (s.setRing k r).incs = s.incs := rfl
@[simp] theorem State.setRing_handles (s : State) (k : Nat) (r : Ring) : (s.setRing k r).handles = s.handles := rfl
@[simp] theorem State.setRing_realms (s : State) (k : Nat) (r : Ring) : (s.setRing k r).realms = s.realms := rfl
@[simp] theorem State.setRing_localReads (s : State) (k : Nat) (r : Ring) : (s.setRing k r).localReads = s.localReads := rfl
@[simp] theorem State.setRing_miss (s : State) (k : Nat) (r : Ring) : (s.setRing k r).miss = s.miss := rfl
@[simp] theorem State.setRing_memory (s : State) (k : Nat) (r : Ring) : (s.setRing k r).memory = s.memory := rfl
@[simp] theorem State.setRing_hosts (s : State) (k : Nat) (r : Ring) : (s.setRing k r).hosts = s.hosts := rfl
@[simp] theorem State.setRing_msix (s : State) (k : Nat) (r : Ring) : (s.setRing k r).msix = s.msix := rfl
@[simp] theorem State.setRing_ats (s : State) (k : Nat) (r : Ring) : (s.setRing k r).ats = s.ats := rfl
@[simp] theorem State.setRing_atsWait (s : State) (k : Nat) (r : Ring) : (s.setRing k r).atsWait = s.atsWait := rfl
@[simp] theorem State.setRing_attach (s : State) (k : Nat) (r : Ring) : (s.setRing k r).attach = s.attach := rfl
@[simp] theorem State.setRing_ports (s : State) (k : Nat) (r : Ring) : (s.setRing k r).ports = s.ports := rfl
@[simp] theorem State.setRing_spire (s : State) (k : Nat) (r : Ring) : (s.setRing k r).spire = s.spire := rfl
@[simp] theorem State.setRing_shapers (s : State) (k : Nat) (r : Ring) : (s.setRing k r).shapers = s.shapers := rfl
@[simp] theorem State.setRing_policers (s : State) (k : Nat) (r : Ring) : (s.setRing k r).policers = s.policers := rfl
@[simp] theorem State.setRing_fwd (s : State) (k : Nat) (r : Ring) : (s.setRing k r).fwd = s.fwd := rfl
@[simp] theorem State.setRing_power (s : State) (k : Nat) (r : Ring) : (s.setRing k r).power = s.power := rfl
@[simp] theorem State.setRing_oculus (s : State) (k : Nat) (r : Ring) : (s.setRing k r).oculus = s.oculus := rfl
@[simp] theorem State.setRing_cipher (s : State) (k : Nat) (r : Ring) : (s.setRing k r).cipher = s.cipher := rfl
@[simp] theorem State.setRing_cupola (s : State) (k : Nat) (r : Ring) : (s.setRing k r).cupola = s.cupola := rfl
@[simp] theorem State.setRing_experts (s : State) (k : Nat) (r : Ring) : (s.setRing k r).experts = s.experts := rfl
@[simp] theorem State.setRing_movers (s : State) (k : Nat) (r : Ring) : (s.setRing k r).movers = s.movers := rfl
@[simp] theorem State.setRing_belfry (s : State) (k : Nat) (r : Ring) : (s.setRing k r).belfry = s.belfry := rfl
@[simp] theorem State.setRing_mgmt (s : State) (k : Nat) (r : Ring) : (s.setRing k r).mgmt = s.mgmt := rfl
@[simp] theorem State.setRing_faults (s : State) (k : Nat) (r : Ring) : (s.setRing k r).faults = s.faults := rfl
@[simp] theorem State.setRing_out (s : State) (k : Nat) (r : Ring) : (s.setRing k r).out = s.out := rfl
@[simp] theorem State.setRing_free (s : State) (k : Nat) (r : Ring) : (s.setRing k r).free = s.free := rfl
@[simp] theorem State.setRing_pending (s : State) (k : Nat) (r : Ring) : (s.setRing k r).pending = s.pending := rfl
@[simp] theorem State.setRing_rings (s : State) (k : Nat) (r : Ring) : (s.setRing k r).rings = tset k r s.rings := rfl
@[simp] theorem State.setRing_par (s : State) (k : Nat) (r : Ring) (q : Param) (i : Nat) : (s.setRing k r).par q i = s.par q i := rfl

/-! ### delRing -/

@[simp] theorem State.delRing_pkg (s : State) (k : Nat) : (s.delRing k).pkg = s.pkg := rfl
@[simp] theorem State.delRing_time (s : State) (k : Nat) : (s.delRing k).time = s.time := rfl
@[simp] theorem State.delRing_dict (s : State) (k : Nat) : (s.delRing k).dict = s.dict := rfl
@[simp] theorem State.delRing_ro (s : State) (k : Nat) : (s.delRing k).ro = s.ro := rfl
@[simp] theorem State.delRing_fns (s : State) (k : Nat) : (s.delRing k).fns = s.fns := rfl
@[simp] theorem State.delRing_tenants (s : State) (k : Nat) : (s.delRing k).tenants = s.tenants := rfl
@[simp] theorem State.delRing_conns (s : State) (k : Nat) : (s.delRing k).conns = s.conns := rfl
@[simp] theorem State.delRing_incs (s : State) (k : Nat) : (s.delRing k).incs = s.incs := rfl
@[simp] theorem State.delRing_handles (s : State) (k : Nat) : (s.delRing k).handles = s.handles := rfl
@[simp] theorem State.delRing_realms (s : State) (k : Nat) : (s.delRing k).realms = s.realms := rfl
@[simp] theorem State.delRing_localReads (s : State) (k : Nat) : (s.delRing k).localReads = s.localReads := rfl
@[simp] theorem State.delRing_miss (s : State) (k : Nat) : (s.delRing k).miss = s.miss := rfl
@[simp] theorem State.delRing_memory (s : State) (k : Nat) : (s.delRing k).memory = s.memory := rfl
@[simp] theorem State.delRing_hosts (s : State) (k : Nat) : (s.delRing k).hosts = s.hosts := rfl
@[simp] theorem State.delRing_msix (s : State) (k : Nat) : (s.delRing k).msix = s.msix := rfl
@[simp] theorem State.delRing_ats (s : State) (k : Nat) : (s.delRing k).ats = s.ats := rfl
@[simp] theorem State.delRing_atsWait (s : State) (k : Nat) : (s.delRing k).atsWait = s.atsWait := rfl
@[simp] theorem State.delRing_attach (s : State) (k : Nat) : (s.delRing k).attach = s.attach := rfl
@[simp] theorem State.delRing_ports (s : State) (k : Nat) : (s.delRing k).ports = s.ports := rfl
@[simp] theorem State.delRing_spire (s : State) (k : Nat) : (s.delRing k).spire = s.spire := rfl
@[simp] theorem State.delRing_shapers (s : State) (k : Nat) : (s.delRing k).shapers = s.shapers := rfl
@[simp] theorem State.delRing_policers (s : State) (k : Nat) : (s.delRing k).policers = s.policers := rfl
@[simp] theorem State.delRing_fwd (s : State) (k : Nat) : (s.delRing k).fwd = s.fwd := rfl
@[simp] theorem State.delRing_power (s : State) (k : Nat) : (s.delRing k).power = s.power := rfl
@[simp] theorem State.delRing_oculus (s : State) (k : Nat) : (s.delRing k).oculus = s.oculus := rfl
@[simp] theorem State.delRing_cipher (s : State) (k : Nat) : (s.delRing k).cipher = s.cipher := rfl
@[simp] theorem State.delRing_cupola (s : State) (k : Nat) : (s.delRing k).cupola = s.cupola := rfl
@[simp] theorem State.delRing_experts (s : State) (k : Nat) : (s.delRing k).experts = s.experts := rfl
@[simp] theorem State.delRing_movers (s : State) (k : Nat) : (s.delRing k).movers = s.movers := rfl
@[simp] theorem State.delRing_belfry (s : State) (k : Nat) : (s.delRing k).belfry = s.belfry := rfl
@[simp] theorem State.delRing_mgmt (s : State) (k : Nat) : (s.delRing k).mgmt = s.mgmt := rfl
@[simp] theorem State.delRing_faults (s : State) (k : Nat) : (s.delRing k).faults = s.faults := rfl
@[simp] theorem State.delRing_out (s : State) (k : Nat) : (s.delRing k).out = s.out := rfl
@[simp] theorem State.delRing_free (s : State) (k : Nat) : (s.delRing k).free = s.free := rfl
@[simp] theorem State.delRing_pending (s : State) (k : Nat) : (s.delRing k).pending = s.pending := rfl
@[simp] theorem State.delRing_rings (s : State) (k : Nat) : (s.delRing k).rings = terase k s.rings := rfl
@[simp] theorem State.delRing_par (s : State) (k : Nat) (q : Param) (i : Nat) : (s.delRing k).par q i = s.par q i := rfl

/-! ### setConn -/

@[simp] theorem State.setConn_pkg (s : State) (c : Nat) (x : Conn) : (s.setConn c x).pkg = s.pkg := rfl
@[simp] theorem State.setConn_time (s : State) (c : Nat) (x : Conn) : (s.setConn c x).time = s.time := rfl
@[simp] theorem State.setConn_dict (s : State) (c : Nat) (x : Conn) : (s.setConn c x).dict = s.dict := rfl
@[simp] theorem State.setConn_ro (s : State) (c : Nat) (x : Conn) : (s.setConn c x).ro = s.ro := rfl
@[simp] theorem State.setConn_fns (s : State) (c : Nat) (x : Conn) : (s.setConn c x).fns = s.fns := rfl
@[simp] theorem State.setConn_tenants (s : State) (c : Nat) (x : Conn) : (s.setConn c x).tenants = s.tenants := rfl
@[simp] theorem State.setConn_rings (s : State) (c : Nat) (x : Conn) : (s.setConn c x).rings = s.rings := rfl
@[simp] theorem State.setConn_incs (s : State) (c : Nat) (x : Conn) : (s.setConn c x).incs = s.incs := rfl
@[simp] theorem State.setConn_handles (s : State) (c : Nat) (x : Conn) : (s.setConn c x).handles = s.handles := rfl
@[simp] theorem State.setConn_realms (s : State) (c : Nat) (x : Conn) : (s.setConn c x).realms = s.realms := rfl
@[simp] theorem State.setConn_localReads (s : State) (c : Nat) (x : Conn) : (s.setConn c x).localReads = s.localReads := rfl
@[simp] theorem State.setConn_miss (s : State) (c : Nat) (x : Conn) : (s.setConn c x).miss = s.miss := rfl
@[simp] theorem State.setConn_memory (s : State) (c : Nat) (x : Conn) : (s.setConn c x).memory = s.memory := rfl
@[simp] theorem State.setConn_hosts (s : State) (c : Nat) (x : Conn) : (s.setConn c x).hosts = s.hosts := rfl
@[simp] theorem State.setConn_msix (s : State) (c : Nat) (x : Conn) : (s.setConn c x).msix = s.msix := rfl
@[simp] theorem State.setConn_ats (s : State) (c : Nat) (x : Conn) : (s.setConn c x).ats = s.ats := rfl
@[simp] theorem State.setConn_atsWait (s : State) (c : Nat) (x : Conn) : (s.setConn c x).atsWait = s.atsWait := rfl
@[simp] theorem State.setConn_attach (s : State) (c : Nat) (x : Conn) : (s.setConn c x).attach = s.attach := rfl
@[simp] theorem State.setConn_ports (s : State) (c : Nat) (x : Conn) : (s.setConn c x).ports = s.ports := rfl
@[simp] theorem State.setConn_spire (s : State) (c : Nat) (x : Conn) : (s.setConn c x).spire = s.spire := rfl
@[simp] theorem State.setConn_shapers (s : State) (c : Nat) (x : Conn) : (s.setConn c x).shapers = s.shapers := rfl
@[simp] theorem State.setConn_policers (s : State) (c : Nat) (x : Conn) : (s.setConn c x).policers = s.policers := rfl
@[simp] theorem State.setConn_fwd (s : State) (c : Nat) (x : Conn) : (s.setConn c x).fwd = s.fwd := rfl
@[simp] theorem State.setConn_power (s : State) (c : Nat) (x : Conn) : (s.setConn c x).power = s.power := rfl
@[simp] theorem State.setConn_oculus (s : State) (c : Nat) (x : Conn) : (s.setConn c x).oculus = s.oculus := rfl
@[simp] theorem State.setConn_cipher (s : State) (c : Nat) (x : Conn) : (s.setConn c x).cipher = s.cipher := rfl
@[simp] theorem State.setConn_cupola (s : State) (c : Nat) (x : Conn) : (s.setConn c x).cupola = s.cupola := rfl
@[simp] theorem State.setConn_experts (s : State) (c : Nat) (x : Conn) : (s.setConn c x).experts = s.experts := rfl
@[simp] theorem State.setConn_movers (s : State) (c : Nat) (x : Conn) : (s.setConn c x).movers = s.movers := rfl
@[simp] theorem State.setConn_belfry (s : State) (c : Nat) (x : Conn) : (s.setConn c x).belfry = s.belfry := rfl
@[simp] theorem State.setConn_mgmt (s : State) (c : Nat) (x : Conn) : (s.setConn c x).mgmt = s.mgmt := rfl
@[simp] theorem State.setConn_faults (s : State) (c : Nat) (x : Conn) : (s.setConn c x).faults = s.faults := rfl
@[simp] theorem State.setConn_out (s : State) (c : Nat) (x : Conn) : (s.setConn c x).out = s.out := rfl
@[simp] theorem State.setConn_free (s : State) (c : Nat) (x : Conn) : (s.setConn c x).free = s.free := rfl
@[simp] theorem State.setConn_pending (s : State) (c : Nat) (x : Conn) : (s.setConn c x).pending = s.pending := rfl
@[simp] theorem State.setConn_conns (s : State) (c : Nat) (x : Conn) : (s.setConn c x).conns = tset c x s.conns := rfl
@[simp] theorem State.setConn_par (s : State) (c : Nat) (x : Conn) (q : Param) (i : Nat) : (s.setConn c x).par q i = s.par q i := rfl

/-! ### setHandle -/

@[simp] theorem State.setHandle_pkg (s : State) (h : Nat) (x : Handle) : (s.setHandle h x).pkg = s.pkg := rfl
@[simp] theorem State.setHandle_time (s : State) (h : Nat) (x : Handle) : (s.setHandle h x).time = s.time := rfl
@[simp] theorem State.setHandle_dict (s : State) (h : Nat) (x : Handle) : (s.setHandle h x).dict = s.dict := rfl
@[simp] theorem State.setHandle_ro (s : State) (h : Nat) (x : Handle) : (s.setHandle h x).ro = s.ro := rfl
@[simp] theorem State.setHandle_fns (s : State) (h : Nat) (x : Handle) : (s.setHandle h x).fns = s.fns := rfl
@[simp] theorem State.setHandle_tenants (s : State) (h : Nat) (x : Handle) : (s.setHandle h x).tenants = s.tenants := rfl
@[simp] theorem State.setHandle_rings (s : State) (h : Nat) (x : Handle) : (s.setHandle h x).rings = s.rings := rfl
@[simp] theorem State.setHandle_conns (s : State) (h : Nat) (x : Handle) : (s.setHandle h x).conns = s.conns := rfl
@[simp] theorem State.setHandle_incs (s : State) (h : Nat) (x : Handle) : (s.setHandle h x).incs = s.incs := rfl
@[simp] theorem State.setHandle_realms (s : State) (h : Nat) (x : Handle) : (s.setHandle h x).realms = s.realms := rfl
@[simp] theorem State.setHandle_localReads (s : State) (h : Nat) (x : Handle) : (s.setHandle h x).localReads = s.localReads := rfl
@[simp] theorem State.setHandle_miss (s : State) (h : Nat) (x : Handle) : (s.setHandle h x).miss = s.miss := rfl
@[simp] theorem State.setHandle_memory (s : State) (h : Nat) (x : Handle) : (s.setHandle h x).memory = s.memory := rfl
@[simp] theorem State.setHandle_hosts (s : State) (h : Nat) (x : Handle) : (s.setHandle h x).hosts = s.hosts := rfl
@[simp] theorem State.setHandle_msix (s : State) (h : Nat) (x : Handle) : (s.setHandle h x).msix = s.msix := rfl
@[simp] theorem State.setHandle_ats (s : State) (h : Nat) (x : Handle) : (s.setHandle h x).ats = s.ats := rfl
@[simp] theorem State.setHandle_atsWait (s : State) (h : Nat) (x : Handle) : (s.setHandle h x).atsWait = s.atsWait := rfl
@[simp] theorem State.setHandle_attach (s : State) (h : Nat) (x : Handle) : (s.setHandle h x).attach = s.attach := rfl
@[simp] theorem State.setHandle_ports (s : State) (h : Nat) (x : Handle) : (s.setHandle h x).ports = s.ports := rfl
@[simp] theorem State.setHandle_spire (s : State) (h : Nat) (x : Handle) : (s.setHandle h x).spire = s.spire := rfl
@[simp] theorem State.setHandle_shapers (s : State) (h : Nat) (x : Handle) : (s.setHandle h x).shapers = s.shapers := rfl
@[simp] theorem State.setHandle_policers (s : State) (h : Nat) (x : Handle) : (s.setHandle h x).policers = s.policers := rfl
@[simp] theorem State.setHandle_fwd (s : State) (h : Nat) (x : Handle) : (s.setHandle h x).fwd = s.fwd := rfl
@[simp] theorem State.setHandle_power (s : State) (h : Nat) (x : Handle) : (s.setHandle h x).power = s.power := rfl
@[simp] theorem State.setHandle_oculus (s : State) (h : Nat) (x : Handle) : (s.setHandle h x).oculus = s.oculus := rfl
@[simp] theorem State.setHandle_cipher (s : State) (h : Nat) (x : Handle) : (s.setHandle h x).cipher = s.cipher := rfl
@[simp] theorem State.setHandle_cupola (s : State) (h : Nat) (x : Handle) : (s.setHandle h x).cupola = s.cupola := rfl
@[simp] theorem State.setHandle_experts (s : State) (h : Nat) (x : Handle) : (s.setHandle h x).experts = s.experts := rfl
@[simp] theorem State.setHandle_movers (s : State) (h : Nat) (x : Handle) : (s.setHandle h x).movers = s.movers := rfl
@[simp] theorem State.setHandle_belfry (s : State) (h : Nat) (x : Handle) : (s.setHandle h x).belfry = s.belfry := rfl
@[simp] theorem State.setHandle_mgmt (s : State) (h : Nat) (x : Handle) : (s.setHandle h x).mgmt = s.mgmt := rfl
@[simp] theorem State.setHandle_faults (s : State) (h : Nat) (x : Handle) : (s.setHandle h x).faults = s.faults := rfl
@[simp] theorem State.setHandle_out (s : State) (h : Nat) (x : Handle) : (s.setHandle h x).out = s.out := rfl
@[simp] theorem State.setHandle_free (s : State) (h : Nat) (x : Handle) : (s.setHandle h x).free = s.free := rfl
@[simp] theorem State.setHandle_pending (s : State) (h : Nat) (x : Handle) : (s.setHandle h x).pending = s.pending := rfl
@[simp] theorem State.setHandle_handles (s : State) (h : Nat) (x : Handle) : (s.setHandle h x).handles = tput {} h x s.handles := rfl
@[simp] theorem State.setHandle_par (s : State) (h : Nat) (x : Handle) (q : Param) (i : Nat) : (s.setHandle h x).par q i = s.par q i := rfl

/-! ### setExtent -/

@[simp] theorem State.setExtent_pkg (s : State) (x : Nat) (e : Extent) : (s.setExtent x e).pkg = s.pkg := rfl
@[simp] theorem State.setExtent_time (s : State) (x : Nat) (e : Extent) : (s.setExtent x e).time = s.time := rfl
@[simp] theorem State.setExtent_dict (s : State) (x : Nat) (e : Extent) : (s.setExtent x e).dict = s.dict := rfl
@[simp] theorem State.setExtent_ro (s : State) (x : Nat) (e : Extent) : (s.setExtent x e).ro = s.ro := rfl
@[simp] theorem State.setExtent_fns (s : State) (x : Nat) (e : Extent) : (s.setExtent x e).fns = s.fns := rfl
@[simp] theorem State.setExtent_tenants (s : State) (x : Nat) (e : Extent) : (s.setExtent x e).tenants = s.tenants := rfl
@[simp] theorem State.setExtent_rings (s : State) (x : Nat) (e : Extent) : (s.setExtent x e).rings = s.rings := rfl
@[simp] theorem State.setExtent_conns (s : State) (x : Nat) (e : Extent) : (s.setExtent x e).conns = s.conns := rfl
@[simp] theorem State.setExtent_incs (s : State) (x : Nat) (e : Extent) : (s.setExtent x e).incs = s.incs := rfl
@[simp] theorem State.setExtent_handles (s : State) (x : Nat) (e : Extent) : (s.setExtent x e).handles = s.handles := rfl
@[simp] theorem State.setExtent_realms (s : State) (x : Nat) (e : Extent) : (s.setExtent x e).realms = s.realms := rfl
@[simp] theorem State.setExtent_localReads (s : State) (x : Nat) (e : Extent) : (s.setExtent x e).localReads = s.localReads := rfl
@[simp] theorem State.setExtent_miss (s : State) (x : Nat) (e : Extent) : (s.setExtent x e).miss = s.miss := rfl
@[simp] theorem State.setExtent_hosts (s : State) (x : Nat) (e : Extent) : (s.setExtent x e).hosts = s.hosts := rfl
@[simp] theorem State.setExtent_msix (s : State) (x : Nat) (e : Extent) : (s.setExtent x e).msix = s.msix := rfl
@[simp] theorem State.setExtent_ats (s : State) (x : Nat) (e : Extent) : (s.setExtent x e).ats = s.ats := rfl
@[simp] theorem State.setExtent_atsWait (s : State) (x : Nat) (e : Extent) : (s.setExtent x e).atsWait = s.atsWait := rfl
@[simp] theorem State.setExtent_attach (s : State) (x : Nat) (e : Extent) : (s.setExtent x e).attach = s.attach := rfl
@[simp] theorem State.setExtent_ports (s : State) (x : Nat) (e : Extent) : (s.setExtent x e).ports = s.ports := rfl
@[simp] theorem State.setExtent_spire (s : State) (x : Nat) (e : Extent) : (s.setExtent x e).spire = s.spire := rfl
@[simp] theorem State.setExtent_shapers (s : State) (x : Nat) (e : Extent) : (s.setExtent x e).shapers = s.shapers := rfl
@[simp] theorem State.setExtent_policers (s : State) (x : Nat) (e : Extent) : (s.setExtent x e).policers = s.policers := rfl
@[simp] theorem State.setExtent_fwd (s : State) (x : Nat) (e : Extent) : (s.setExtent x e).fwd = s.fwd := rfl
@[simp] theorem State.setExtent_power (s : State) (x : Nat) (e : Extent) : (s.setExtent x e).power = s.power := rfl
@[simp] theorem State.setExtent_oculus (s : State) (x : Nat) (e : Extent) : (s.setExtent x e).oculus = s.oculus := rfl
@[simp] theorem State.setExtent_cipher (s : State) (x : Nat) (e : Extent) : (s.setExtent x e).cipher = s.cipher := rfl
@[simp] theorem State.setExtent_cupola (s : State) (x : Nat) (e : Extent) : (s.setExtent x e).cupola = s.cupola := rfl
@[simp] theorem State.setExtent_experts (s : State) (x : Nat) (e : Extent) : (s.setExtent x e).experts = s.experts := rfl
@[simp] theorem State.setExtent_movers (s : State) (x : Nat) (e : Extent) : (s.setExtent x e).movers = s.movers := rfl
@[simp] theorem State.setExtent_belfry (s : State) (x : Nat) (e : Extent) : (s.setExtent x e).belfry = s.belfry := rfl
@[simp] theorem State.setExtent_mgmt (s : State) (x : Nat) (e : Extent) : (s.setExtent x e).mgmt = s.mgmt := rfl
@[simp] theorem State.setExtent_faults (s : State) (x : Nat) (e : Extent) : (s.setExtent x e).faults = s.faults := rfl
@[simp] theorem State.setExtent_out (s : State) (x : Nat) (e : Extent) : (s.setExtent x e).out = s.out := rfl
@[simp] theorem State.setExtent_free (s : State) (x : Nat) (e : Extent) : (s.setExtent x e).free = s.free := rfl
@[simp] theorem State.setExtent_pending (s : State) (x : Nat) (e : Extent) : (s.setExtent x e).pending = s.pending := rfl
@[simp] theorem State.setExtent_memory (s : State) (x : Nat) (e : Extent) : (s.setExtent x e).memory = { s.memory with extents := tput {} x e s.memory.extents } := rfl
@[simp] theorem State.setExtent_par (s : State) (x : Nat) (e : Extent) (q : Param) (i : Nat) : (s.setExtent x e).par q i = s.par q i := rfl

/-! ### setPort -/

@[simp] theorem State.setPort_pkg (s : State) (n : Nat) (x : Port) : (s.setPort n x).pkg = s.pkg := rfl
@[simp] theorem State.setPort_time (s : State) (n : Nat) (x : Port) : (s.setPort n x).time = s.time := rfl
@[simp] theorem State.setPort_dict (s : State) (n : Nat) (x : Port) : (s.setPort n x).dict = s.dict := rfl
@[simp] theorem State.setPort_ro (s : State) (n : Nat) (x : Port) : (s.setPort n x).ro = s.ro := rfl
@[simp] theorem State.setPort_fns (s : State) (n : Nat) (x : Port) : (s.setPort n x).fns = s.fns := rfl
@[simp] theorem State.setPort_tenants (s : State) (n : Nat) (x : Port) : (s.setPort n x).tenants = s.tenants := rfl
@[simp] theorem State.setPort_rings (s : State) (n : Nat) (x : Port) : (s.setPort n x).rings = s.rings := rfl
@[simp] theorem State.setPort_conns (s : State) (n : Nat) (x : Port) : (s.setPort n x).conns = s.conns := rfl
@[simp] theorem State.setPort_incs (s : State) (n : Nat) (x : Port) : (s.setPort n x).incs = s.incs := rfl
@[simp] theorem State.setPort_handles (s : State) (n : Nat) (x : Port) : (s.setPort n x).handles = s.handles := rfl
@[simp] theorem State.setPort_realms (s : State) (n : Nat) (x : Port) : (s.setPort n x).realms = s.realms := rfl
@[simp] theorem State.setPort_localReads (s : State) (n : Nat) (x : Port) : (s.setPort n x).localReads = s.localReads := rfl
@[simp] theorem State.setPort_miss (s : State) (n : Nat) (x : Port) : (s.setPort n x).miss = s.miss := rfl
@[simp] theorem State.setPort_memory (s : State) (n : Nat) (x : Port) : (s.setPort n x).memory = s.memory := rfl
@[simp] theorem State.setPort_hosts (s : State) (n : Nat) (x : Port) : (s.setPort n x).hosts = s.hosts := rfl
@[simp] theorem State.setPort_msix (s : State) (n : Nat) (x : Port) : (s.setPort n x).msix = s.msix := rfl
@[simp] theorem State.setPort_ats (s : State) (n : Nat) (x : Port) : (s.setPort n x).ats = s.ats := rfl
@[simp] theorem State.setPort_atsWait (s : State) (n : Nat) (x : Port) : (s.setPort n x).atsWait = s.atsWait := rfl
@[simp] theorem State.setPort_attach (s : State) (n : Nat) (x : Port) : (s.setPort n x).attach = s.attach := rfl
@[simp] theorem State.setPort_spire (s : State) (n : Nat) (x : Port) : (s.setPort n x).spire = s.spire := rfl
@[simp] theorem State.setPort_shapers (s : State) (n : Nat) (x : Port) : (s.setPort n x).shapers = s.shapers := rfl
@[simp] theorem State.setPort_policers (s : State) (n : Nat) (x : Port) : (s.setPort n x).policers = s.policers := rfl
@[simp] theorem State.setPort_fwd (s : State) (n : Nat) (x : Port) : (s.setPort n x).fwd = s.fwd := rfl
@[simp] theorem State.setPort_power (s : State) (n : Nat) (x : Port) : (s.setPort n x).power = s.power := rfl
@[simp] theorem State.setPort_oculus (s : State) (n : Nat) (x : Port) : (s.setPort n x).oculus = s.oculus := rfl
@[simp] theorem State.setPort_cipher (s : State) (n : Nat) (x : Port) : (s.setPort n x).cipher = s.cipher := rfl
@[simp] theorem State.setPort_cupola (s : State) (n : Nat) (x : Port) : (s.setPort n x).cupola = s.cupola := rfl
@[simp] theorem State.setPort_experts (s : State) (n : Nat) (x : Port) : (s.setPort n x).experts = s.experts := rfl
@[simp] theorem State.setPort_movers (s : State) (n : Nat) (x : Port) : (s.setPort n x).movers = s.movers := rfl
@[simp] theorem State.setPort_belfry (s : State) (n : Nat) (x : Port) : (s.setPort n x).belfry = s.belfry := rfl
@[simp] theorem State.setPort_mgmt (s : State) (n : Nat) (x : Port) : (s.setPort n x).mgmt = s.mgmt := rfl
@[simp] theorem State.setPort_faults (s : State) (n : Nat) (x : Port) : (s.setPort n x).faults = s.faults := rfl
@[simp] theorem State.setPort_out (s : State) (n : Nat) (x : Port) : (s.setPort n x).out = s.out := rfl
@[simp] theorem State.setPort_free (s : State) (n : Nat) (x : Port) : (s.setPort n x).free = s.free := rfl
@[simp] theorem State.setPort_pending (s : State) (n : Nat) (x : Port) : (s.setPort n x).pending = s.pending := rfl
@[simp] theorem State.setPort_ports (s : State) (n : Nat) (x : Port) : (s.setPort n x).ports = tput {} n x s.ports := rfl
@[simp] theorem State.setPort_par (s : State) (n : Nat) (x : Port) (q : Param) (i : Nat) : (s.setPort n x).par q i = s.par q i := rfl

/-! ### setTimePort -/

@[simp] theorem State.setTimePort_pkg (s : State) (n : Nat) (x : TimePort) : (s.setTimePort n x).pkg = s.pkg := rfl
@[simp] theorem State.setTimePort_dict (s : State) (n : Nat) (x : TimePort) : (s.setTimePort n x).dict = s.dict := rfl
@[simp] theorem State.setTimePort_ro (s : State) (n : Nat) (x : TimePort) : (s.setTimePort n x).ro = s.ro := rfl
@[simp] theorem State.setTimePort_fns (s : State) (n : Nat) (x : TimePort) : (s.setTimePort n x).fns = s.fns := rfl
@[simp] theorem State.setTimePort_tenants (s : State) (n : Nat) (x : TimePort) : (s.setTimePort n x).tenants = s.tenants := rfl
@[simp] theorem State.setTimePort_rings (s : State) (n : Nat) (x : TimePort) : (s.setTimePort n x).rings = s.rings := rfl
@[simp] theorem State.setTimePort_conns (s : State) (n : Nat) (x : TimePort) : (s.setTimePort n x).conns = s.conns := rfl
@[simp] theorem State.setTimePort_incs (s : State) (n : Nat) (x : TimePort) : (s.setTimePort n x).incs = s.incs := rfl
@[simp] theorem State.setTimePort_handles (s : State) (n : Nat) (x : TimePort) : (s.setTimePort n x).handles = s.handles := rfl
@[simp] theorem State.setTimePort_realms (s : State) (n : Nat) (x : TimePort) : (s.setTimePort n x).realms = s.realms := rfl
@[simp] theorem State.setTimePort_localReads (s : State) (n : Nat) (x : TimePort) : (s.setTimePort n x).localReads = s.localReads := rfl
@[simp] theorem State.setTimePort_miss (s : State) (n : Nat) (x : TimePort) : (s.setTimePort n x).miss = s.miss := rfl
@[simp] theorem State.setTimePort_memory (s : State) (n : Nat) (x : TimePort) : (s.setTimePort n x).memory = s.memory := rfl
@[simp] theorem State.setTimePort_hosts (s : State) (n : Nat) (x : TimePort) : (s.setTimePort n x).hosts = s.hosts := rfl
@[simp] theorem State.setTimePort_msix (s : State) (n : Nat) (x : TimePort) : (s.setTimePort n x).msix = s.msix := rfl
@[simp] theorem State.setTimePort_ats (s : State) (n : Nat) (x : TimePort) : (s.setTimePort n x).ats = s.ats := rfl
@[simp] theorem State.setTimePort_atsWait (s : State) (n : Nat) (x : TimePort) : (s.setTimePort n x).atsWait = s.atsWait := rfl
@[simp] theorem State.setTimePort_attach (s : State) (n : Nat) (x : TimePort) : (s.setTimePort n x).attach = s.attach := rfl
@[simp] theorem State.setTimePort_ports (s : State) (n : Nat) (x : TimePort) : (s.setTimePort n x).ports = s.ports := rfl
@[simp] theorem State.setTimePort_spire (s : State) (n : Nat) (x : TimePort) : (s.setTimePort n x).spire = s.spire := rfl
@[simp] theorem State.setTimePort_shapers (s : State) (n : Nat) (x : TimePort) : (s.setTimePort n x).shapers = s.shapers := rfl
@[simp] theorem State.setTimePort_policers (s : State) (n : Nat) (x : TimePort) : (s.setTimePort n x).policers = s.policers := rfl
@[simp] theorem State.setTimePort_fwd (s : State) (n : Nat) (x : TimePort) : (s.setTimePort n x).fwd = s.fwd := rfl
@[simp] theorem State.setTimePort_power (s : State) (n : Nat) (x : TimePort) : (s.setTimePort n x).power = s.power := rfl
@[simp] theorem State.setTimePort_oculus (s : State) (n : Nat) (x : TimePort) : (s.setTimePort n x).oculus = s.oculus := rfl
@[simp] theorem State.setTimePort_cipher (s : State) (n : Nat) (x : TimePort) : (s.setTimePort n x).cipher = s.cipher := rfl
@[simp] theorem State.setTimePort_cupola (s : State) (n : Nat) (x : TimePort) : (s.setTimePort n x).cupola = s.cupola := rfl
@[simp] theorem State.setTimePort_experts (s : State) (n : Nat) (x : TimePort) : (s.setTimePort n x).experts = s.experts := rfl
@[simp] theorem State.setTimePort_movers (s : State) (n : Nat) (x : TimePort) : (s.setTimePort n x).movers = s.movers := rfl
@[simp] theorem State.setTimePort_belfry (s : State) (n : Nat) (x : TimePort) : (s.setTimePort n x).belfry = s.belfry := rfl
@[simp] theorem State.setTimePort_mgmt (s : State) (n : Nat) (x : TimePort) : (s.setTimePort n x).mgmt = s.mgmt := rfl
@[simp] theorem State.setTimePort_faults (s : State) (n : Nat) (x : TimePort) : (s.setTimePort n x).faults = s.faults := rfl
@[simp] theorem State.setTimePort_out (s : State) (n : Nat) (x : TimePort) : (s.setTimePort n x).out = s.out := rfl
@[simp] theorem State.setTimePort_free (s : State) (n : Nat) (x : TimePort) : (s.setTimePort n x).free = s.free := rfl
@[simp] theorem State.setTimePort_pending (s : State) (n : Nat) (x : TimePort) : (s.setTimePort n x).pending = s.pending := rfl
@[simp] theorem State.setTimePort_time (s : State) (n : Nat) (x : TimePort) : (s.setTimePort n x).time = { s.time with ports := tput {} n x s.time.ports } := rfl
@[simp] theorem State.setTimePort_par (s : State) (n : Nat) (x : TimePort) (q : Param) (i : Nat) : (s.setTimePort n x).par q i = s.par q i := rfl

/-! ### setInc -/

@[simp] theorem State.setInc_pkg (s : State) (c : Nat) (x : IncRecord) : (s.setInc c x).pkg = s.pkg := rfl
@[simp] theorem State.setInc_time (s : State) (c : Nat) (x : IncRecord) : (s.setInc c x).time = s.time := rfl
@[simp] theorem State.setInc_dict (s : State) (c : Nat) (x : IncRecord) : (s.setInc c x).dict = s.dict := rfl
@[simp] theorem State.setInc_ro (s : State) (c : Nat) (x : IncRecord) : (s.setInc c x).ro = s.ro := rfl
@[simp] theorem State.setInc_fns (s : State) (c : Nat) (x : IncRecord) : (s.setInc c x).fns = s.fns := rfl
@[simp] theorem State.setInc_tenants (s : State) (c : Nat) (x : IncRecord) : (s.setInc c x).tenants = s.tenants := rfl
@[simp] theorem State.setInc_rings (s : State) (c : Nat) (x : IncRecord) : (s.setInc c x).rings = s.rings := rfl
@[simp] theorem State.setInc_conns (s : State) (c : Nat) (x : IncRecord) : (s.setInc c x).conns = s.conns := rfl
@[simp] theorem State.setInc_handles (s : State) (c : Nat) (x : IncRecord) : (s.setInc c x).handles = s.handles := rfl
@[simp] theorem State.setInc_realms (s : State) (c : Nat) (x : IncRecord) : (s.setInc c x).realms = s.realms := rfl
@[simp] theorem State.setInc_localReads (s : State) (c : Nat) (x : IncRecord) : (s.setInc c x).localReads = s.localReads := rfl
@[simp] theorem State.setInc_miss (s : State) (c : Nat) (x : IncRecord) : (s.setInc c x).miss = s.miss := rfl
@[simp] theorem State.setInc_memory (s : State) (c : Nat) (x : IncRecord) : (s.setInc c x).memory = s.memory := rfl
@[simp] theorem State.setInc_hosts (s : State) (c : Nat) (x : IncRecord) : (s.setInc c x).hosts = s.hosts := rfl
@[simp] theorem State.setInc_msix (s : State) (c : Nat) (x : IncRecord) : (s.setInc c x).msix = s.msix := rfl
@[simp] theorem State.setInc_ats (s : State) (c : Nat) (x : IncRecord) : (s.setInc c x).ats = s.ats := rfl
@[simp] theorem State.setInc_atsWait (s : State) (c : Nat) (x : IncRecord) : (s.setInc c x).atsWait = s.atsWait := rfl
@[simp] theorem State.setInc_attach (s : State) (c : Nat) (x : IncRecord) : (s.setInc c x).attach = s.attach := rfl
@[simp] theorem State.setInc_ports (s : State) (c : Nat) (x : IncRecord) : (s.setInc c x).ports = s.ports := rfl
@[simp] theorem State.setInc_spire (s : State) (c : Nat) (x : IncRecord) : (s.setInc c x).spire = s.spire := rfl
@[simp] theorem State.setInc_shapers (s : State) (c : Nat) (x : IncRecord) : (s.setInc c x).shapers = s.shapers := rfl
@[simp] theorem State.setInc_policers (s : State) (c : Nat) (x : IncRecord) : (s.setInc c x).policers = s.policers := rfl
@[simp] theorem State.setInc_fwd (s : State) (c : Nat) (x : IncRecord) : (s.setInc c x).fwd = s.fwd := rfl
@[simp] theorem State.setInc_power (s : State) (c : Nat) (x : IncRecord) : (s.setInc c x).power = s.power := rfl
@[simp] theorem State.setInc_oculus (s : State) (c : Nat) (x : IncRecord) : (s.setInc c x).oculus = s.oculus := rfl
@[simp] theorem State.setInc_cipher (s : State) (c : Nat) (x : IncRecord) : (s.setInc c x).cipher = s.cipher := rfl
@[simp] theorem State.setInc_cupola (s : State) (c : Nat) (x : IncRecord) : (s.setInc c x).cupola = s.cupola := rfl
@[simp] theorem State.setInc_experts (s : State) (c : Nat) (x : IncRecord) : (s.setInc c x).experts = s.experts := rfl
@[simp] theorem State.setInc_movers (s : State) (c : Nat) (x : IncRecord) : (s.setInc c x).movers = s.movers := rfl
@[simp] theorem State.setInc_belfry (s : State) (c : Nat) (x : IncRecord) : (s.setInc c x).belfry = s.belfry := rfl
@[simp] theorem State.setInc_mgmt (s : State) (c : Nat) (x : IncRecord) : (s.setInc c x).mgmt = s.mgmt := rfl
@[simp] theorem State.setInc_faults (s : State) (c : Nat) (x : IncRecord) : (s.setInc c x).faults = s.faults := rfl
@[simp] theorem State.setInc_out (s : State) (c : Nat) (x : IncRecord) : (s.setInc c x).out = s.out := rfl
@[simp] theorem State.setInc_free (s : State) (c : Nat) (x : IncRecord) : (s.setInc c x).free = s.free := rfl
@[simp] theorem State.setInc_pending (s : State) (c : Nat) (x : IncRecord) : (s.setInc c x).pending = s.pending := rfl
@[simp] theorem State.setInc_incs (s : State) (c : Nat) (x : IncRecord) : (s.setInc c x).incs = tput {} c x s.incs := rfl
@[simp] theorem State.setInc_par (s : State) (c : Nat) (x : IncRecord) (q : Param) (i : Nat) : (s.setInc c x).par q i = s.par q i := rfl

/-! ### emit -/

@[simp] theorem State.emit_pkg (s : State) (e : Emit) : (s.emit e).pkg = s.pkg := rfl
@[simp] theorem State.emit_time (s : State) (e : Emit) : (s.emit e).time = s.time := rfl
@[simp] theorem State.emit_dict (s : State) (e : Emit) : (s.emit e).dict = s.dict := rfl
@[simp] theorem State.emit_ro (s : State) (e : Emit) : (s.emit e).ro = s.ro := rfl
@[simp] theorem State.emit_fns (s : State) (e : Emit) : (s.emit e).fns = s.fns := rfl
@[simp] theorem State.emit_tenants (s : State) (e : Emit) : (s.emit e).tenants = s.tenants := rfl
@[simp] theorem State.emit_rings (s : State) (e : Emit) : (s.emit e).rings = s.rings := rfl
@[simp] theorem State.emit_conns (s : State) (e : Emit) : (s.emit e).conns = s.conns := rfl
@[simp] theorem State.emit_incs (s : State) (e : Emit) : (s.emit e).incs = s.incs := rfl
@[simp] theorem State.emit_handles (s : State) (e : Emit) : (s.emit e).handles = s.handles := rfl
@[simp] theorem State.emit_realms (s : State) (e : Emit) : (s.emit e).realms = s.realms := rfl
@[simp] theorem State.emit_localReads (s : State) (e : Emit) : (s.emit e).localReads = s.localReads := rfl
@[simp] theorem State.emit_miss (s : State) (e : Emit) : (s.emit e).miss = s.miss := rfl
@[simp] theorem State.emit_memory (s : State) (e : Emit) : (s.emit e).memory = s.memory := rfl
@[simp] theorem State.emit_hosts (s : State) (e : Emit) : (s.emit e).hosts = s.hosts := rfl
@[simp] theorem State.emit_msix (s : State) (e : Emit) : (s.emit e).msix = s.msix := rfl
@[simp] theorem State.emit_ats (s : State) (e : Emit) : (s.emit e).ats = s.ats := rfl
@[simp] theorem State.emit_atsWait (s : State) (e : Emit) : (s.emit e).atsWait = s.atsWait := rfl
@[simp] theorem State.emit_attach (s : State) (e : Emit) : (s.emit e).attach = s.attach := rfl
@[simp] theorem State.emit_ports (s : State) (e : Emit) : (s.emit e).ports = s.ports := rfl
@[simp] theorem State.emit_spire (s : State) (e : Emit) : (s.emit e).spire = s.spire := rfl
@[simp] theorem State.emit_shapers (s : State) (e : Emit) : (s.emit e).shapers = s.shapers := rfl
@[simp] theorem State.emit_policers (s : State) (e : Emit) : (s.emit e).policers = s.policers := rfl
@[simp] theorem State.emit_fwd (s : State) (e : Emit) : (s.emit e).fwd = s.fwd := rfl
@[simp] theorem State.emit_power (s : State) (e : Emit) : (s.emit e).power = s.power := rfl
@[simp] theorem State.emit_oculus (s : State) (e : Emit) : (s.emit e).oculus = s.oculus := rfl
@[simp] theorem State.emit_cipher (s : State) (e : Emit) : (s.emit e).cipher = s.cipher := rfl
@[simp] theorem State.emit_cupola (s : State) (e : Emit) : (s.emit e).cupola = s.cupola := rfl
@[simp] theorem State.emit_experts (s : State) (e : Emit) : (s.emit e).experts = s.experts := rfl
@[simp] theorem State.emit_movers (s : State) (e : Emit) : (s.emit e).movers = s.movers := rfl
@[simp] theorem State.emit_belfry (s : State) (e : Emit) : (s.emit e).belfry = s.belfry := rfl
@[simp] theorem State.emit_mgmt (s : State) (e : Emit) : (s.emit e).mgmt = s.mgmt := rfl
@[simp] theorem State.emit_faults (s : State) (e : Emit) : (s.emit e).faults = s.faults := rfl
@[simp] theorem State.emit_free (s : State) (e : Emit) : (s.emit e).free = s.free := rfl
@[simp] theorem State.emit_pending (s : State) (e : Emit) : (s.emit e).pending = s.pending := rfl
@[simp] theorem State.emit_out (s : State) (e : Emit) : (s.emit e).out = s.out ++ [e] := rfl
@[simp] theorem State.emit_par (s : State) (e : Emit) (q : Param) (i : Nat) : (s.emit e).par q i = s.par q i := rfl

/-! ### count -/

@[simp] theorem State.count_pkg (s : State) (p : Param) (i0 n : Nat) : (s.count p i0 n).pkg = s.pkg := rfl
@[simp] theorem State.count_time (s : State) (p : Param) (i0 n : Nat) : (s.count p i0 n).time = s.time := rfl
@[simp] theorem State.count_dict (s : State) (p : Param) (i0 n : Nat) : (s.count p i0 n).dict = s.dict := rfl
@[simp] theorem State.count_fns (s : State) (p : Param) (i0 n : Nat) : (s.count p i0 n).fns = s.fns := rfl
@[simp] theorem State.count_tenants (s : State) (p : Param) (i0 n : Nat) : (s.count p i0 n).tenants = s.tenants := rfl
@[simp] theorem State.count_rings (s : State) (p : Param) (i0 n : Nat) : (s.count p i0 n).rings = s.rings := rfl
@[simp] theorem State.count_conns (s : State) (p : Param) (i0 n : Nat) : (s.count p i0 n).conns = s.conns := rfl
@[simp] theorem State.count_incs (s : State) (p : Param) (i0 n : Nat) : (s.count p i0 n).incs = s.incs := rfl
@[simp] theorem State.count_handles (s : State) (p : Param) (i0 n : Nat) : (s.count p i0 n).handles = s.handles := rfl
@[simp] theorem State.count_realms (s : State) (p : Param) (i0 n : Nat) : (s.count p i0 n).realms = s.realms := rfl
@[simp] theorem State.count_localReads (s : State) (p : Param) (i0 n : Nat) : (s.count p i0 n).localReads = s.localReads := rfl
@[simp] theorem State.count_miss (s : State) (p : Param) (i0 n : Nat) : (s.count p i0 n).miss = s.miss := rfl
@[simp] theorem State.count_memory (s : State) (p : Param) (i0 n : Nat) : (s.count p i0 n).memory = s.memory := rfl
@[simp] theorem State.count_hosts (s : State) (p : Param) (i0 n : Nat) : (s.count p i0 n).hosts = s.hosts := rfl
@[simp] theorem State.count_msix (s : State) (p : Param) (i0 n : Nat) : (s.count p i0 n).msix = s.msix := rfl
@[simp] theorem State.count_ats (s : State) (p : Param) (i0 n : Nat) : (s.count p i0 n).ats = s.ats := rfl
@[simp] theorem State.count_atsWait (s : State) (p : Param) (i0 n : Nat) : (s.count p i0 n).atsWait = s.atsWait := rfl
@[simp] theorem State.count_attach (s : State) (p : Param) (i0 n : Nat) : (s.count p i0 n).attach = s.attach := rfl
@[simp] theorem State.count_ports (s : State) (p : Param) (i0 n : Nat) : (s.count p i0 n).ports = s.ports := rfl
@[simp] theorem State.count_spire (s : State) (p : Param) (i0 n : Nat) : (s.count p i0 n).spire = s.spire := rfl
@[simp] theorem State.count_shapers (s : State) (p : Param) (i0 n : Nat) : (s.count p i0 n).shapers = s.shapers := rfl
@[simp] theorem State.count_policers (s : State) (p : Param) (i0 n : Nat) : (s.count p i0 n).policers = s.policers := rfl
@[simp] theorem State.count_fwd (s : State) (p : Param) (i0 n : Nat) : (s.count p i0 n).fwd = s.fwd := rfl
@[simp] theorem State.count_power (s : State) (p : Param) (i0 n : Nat) : (s.count p i0 n).power = s.power := rfl
@[simp] theorem State.count_oculus (s : State) (p : Param) (i0 n : Nat) : (s.count p i0 n).oculus = s.oculus := rfl
@[simp] theorem State.count_cipher (s : State) (p : Param) (i0 n : Nat) : (s.count p i0 n).cipher = s.cipher := rfl
@[simp] theorem State.count_cupola (s : State) (p : Param) (i0 n : Nat) : (s.count p i0 n).cupola = s.cupola := rfl
@[simp] theorem State.count_experts (s : State) (p : Param) (i0 n : Nat) : (s.count p i0 n).experts = s.experts := rfl
@[simp] theorem State.count_movers (s : State) (p : Param) (i0 n : Nat) : (s.count p i0 n).movers = s.movers := rfl
@[simp] theorem State.count_belfry (s : State) (p : Param) (i0 n : Nat) : (s.count p i0 n).belfry = s.belfry := rfl
@[simp] theorem State.count_mgmt (s : State) (p : Param) (i0 n : Nat) : (s.count p i0 n).mgmt = s.mgmt := rfl
@[simp] theorem State.count_faults (s : State) (p : Param) (i0 n : Nat) : (s.count p i0 n).faults = s.faults := rfl
@[simp] theorem State.count_out (s : State) (p : Param) (i0 n : Nat) : (s.count p i0 n).out = s.out := rfl
@[simp] theorem State.count_free (s : State) (p : Param) (i0 n : Nat) : (s.count p i0 n).free = s.free := rfl
@[simp] theorem State.count_pending (s : State) (p : Param) (i0 n : Nat) : (s.count p i0 n).pending = s.pending := rfl
@[simp] theorem State.count_ro (s : State) (p : Param) (i0 n : Nat) : (s.count p i0 n).ro = tput 0 (p.key i0) ((s.roVal p i0 + n) % p.modulus) s.ro := rfl
@[simp] theorem State.count_par (s : State) (p : Param) (i0 n : Nat) (q : Param) (i : Nat) : (s.count p i0 n).par q i = s.par q i := rfl

/-! ### bump -/

@[simp] theorem State.bump_pkg (s : State) (p : Param) (i0 : Nat) : (s.bump p i0).pkg = s.pkg := rfl
@[simp] theorem State.bump_time (s : State) (p : Param) (i0 : Nat) : (s.bump p i0).time = s.time := rfl
@[simp] theorem State.bump_dict (s : State) (p : Param) (i0 : Nat) : (s.bump p i0).dict = s.dict := rfl
@[simp] theorem State.bump_fns (s : State) (p : Param) (i0 : Nat) : (s.bump p i0).fns = s.fns := rfl
@[simp] theorem State.bump_tenants (s : State) (p : Param) (i0 : Nat) : (s.bump p i0).tenants = s.tenants := rfl
@[simp] theorem State.bump_rings (s : State) (p : Param) (i0 : Nat) : (s.bump p i0).rings = s.rings := rfl
@[simp] theorem State.bump_conns (s : State) (p : Param) (i0 : Nat) : (s.bump p i0).conns = s.conns := rfl
@[simp] theorem State.bump_incs (s : State) (p : Param) (i0 : Nat) : (s.bump p i0).incs = s.incs := rfl
@[simp] theorem State.bump_handles (s : State) (p : Param) (i0 : Nat) : (s.bump p i0).handles = s.handles := rfl
@[simp] theorem State.bump_realms (s : State) (p : Param) (i0 : Nat) : (s.bump p i0).realms = s.realms := rfl
@[simp] theorem State.bump_localReads (s : State) (p : Param) (i0 : Nat) : (s.bump p i0).localReads = s.localReads := rfl
@[simp] theorem State.bump_miss (s : State) (p : Param) (i0 : Nat) : (s.bump p i0).miss = s.miss := rfl
@[simp] theorem State.bump_memory (s : State) (p : Param) (i0 : Nat) : (s.bump p i0).memory = s.memory := rfl
@[simp] theorem State.bump_hosts (s : State) (p : Param) (i0 : Nat) : (s.bump p i0).hosts = s.hosts := rfl
@[simp] theorem State.bump_msix (s : State) (p : Param) (i0 : Nat) : (s.bump p i0).msix = s.msix := rfl
@[simp] theorem State.bump_ats (s : State) (p : Param) (i0 : Nat) : (s.bump p i0).ats = s.ats := rfl
@[simp] theorem State.bump_atsWait (s : State) (p : Param) (i0 : Nat) : (s.bump p i0).atsWait = s.atsWait := rfl
@[simp] theorem State.bump_attach (s : State) (p : Param) (i0 : Nat) : (s.bump p i0).attach = s.attach := rfl
@[simp] theorem State.bump_ports (s : State) (p : Param) (i0 : Nat) : (s.bump p i0).ports = s.ports := rfl
@[simp] theorem State.bump_spire (s : State) (p : Param) (i0 : Nat) : (s.bump p i0).spire = s.spire := rfl
@[simp] theorem State.bump_shapers (s : State) (p : Param) (i0 : Nat) : (s.bump p i0).shapers = s.shapers := rfl
@[simp] theorem State.bump_policers (s : State) (p : Param) (i0 : Nat) : (s.bump p i0).policers = s.policers := rfl
@[simp] theorem State.bump_fwd (s : State) (p : Param) (i0 : Nat) : (s.bump p i0).fwd = s.fwd := rfl
@[simp] theorem State.bump_power (s : State) (p : Param) (i0 : Nat) : (s.bump p i0).power = s.power := rfl
@[simp] theorem State.bump_oculus (s : State) (p : Param) (i0 : Nat) : (s.bump p i0).oculus = s.oculus := rfl
@[simp] theorem State.bump_cipher (s : State) (p : Param) (i0 : Nat) : (s.bump p i0).cipher = s.cipher := rfl
@[simp] theorem State.bump_cupola (s : State) (p : Param) (i0 : Nat) : (s.bump p i0).cupola = s.cupola := rfl
@[simp] theorem State.bump_experts (s : State) (p : Param) (i0 : Nat) : (s.bump p i0).experts = s.experts := rfl
@[simp] theorem State.bump_movers (s : State) (p : Param) (i0 : Nat) : (s.bump p i0).movers = s.movers := rfl
@[simp] theorem State.bump_belfry (s : State) (p : Param) (i0 : Nat) : (s.bump p i0).belfry = s.belfry := rfl
@[simp] theorem State.bump_mgmt (s : State) (p : Param) (i0 : Nat) : (s.bump p i0).mgmt = s.mgmt := rfl
@[simp] theorem State.bump_faults (s : State) (p : Param) (i0 : Nat) : (s.bump p i0).faults = s.faults := rfl
@[simp] theorem State.bump_out (s : State) (p : Param) (i0 : Nat) : (s.bump p i0).out = s.out := rfl
@[simp] theorem State.bump_free (s : State) (p : Param) (i0 : Nat) : (s.bump p i0).free = s.free := rfl
@[simp] theorem State.bump_pending (s : State) (p : Param) (i0 : Nat) : (s.bump p i0).pending = s.pending := rfl
@[simp] theorem State.bump_ro (s : State) (p : Param) (i0 : Nat) : (s.bump p i0).ro = tput 0 (p.key i0) ((s.roVal p i0 + 1) % p.modulus) s.ro := rfl
@[simp] theorem State.bump_par (s : State) (p : Param) (i0 : Nat) (q : Param) (i : Nat) : (s.bump p i0).par q i = s.par q i := rfl

/-! ### setRo -/

@[simp] theorem State.setRo_pkg (s : State) (p : Param) (i0 v : Nat) : (s.setRo p i0 v).pkg = s.pkg := rfl
@[simp] theorem State.setRo_time (s : State) (p : Param) (i0 v : Nat) : (s.setRo p i0 v).time = s.time := rfl
@[simp] theorem State.setRo_dict (s : State) (p : Param) (i0 v : Nat) : (s.setRo p i0 v).dict = s.dict := rfl
@[simp] theorem State.setRo_fns (s : State) (p : Param) (i0 v : Nat) : (s.setRo p i0 v).fns = s.fns := rfl
@[simp] theorem State.setRo_tenants (s : State) (p : Param) (i0 v : Nat) : (s.setRo p i0 v).tenants = s.tenants := rfl
@[simp] theorem State.setRo_rings (s : State) (p : Param) (i0 v : Nat) : (s.setRo p i0 v).rings = s.rings := rfl
@[simp] theorem State.setRo_conns (s : State) (p : Param) (i0 v : Nat) : (s.setRo p i0 v).conns = s.conns := rfl
@[simp] theorem State.setRo_incs (s : State) (p : Param) (i0 v : Nat) : (s.setRo p i0 v).incs = s.incs := rfl
@[simp] theorem State.setRo_handles (s : State) (p : Param) (i0 v : Nat) : (s.setRo p i0 v).handles = s.handles := rfl
@[simp] theorem State.setRo_realms (s : State) (p : Param) (i0 v : Nat) : (s.setRo p i0 v).realms = s.realms := rfl
@[simp] theorem State.setRo_localReads (s : State) (p : Param) (i0 v : Nat) : (s.setRo p i0 v).localReads = s.localReads := rfl
@[simp] theorem State.setRo_miss (s : State) (p : Param) (i0 v : Nat) : (s.setRo p i0 v).miss = s.miss := rfl
@[simp] theorem State.setRo_memory (s : State) (p : Param) (i0 v : Nat) : (s.setRo p i0 v).memory = s.memory := rfl
@[simp] theorem State.setRo_hosts (s : State) (p : Param) (i0 v : Nat) : (s.setRo p i0 v).hosts = s.hosts := rfl
@[simp] theorem State.setRo_msix (s : State) (p : Param) (i0 v : Nat) : (s.setRo p i0 v).msix = s.msix := rfl
@[simp] theorem State.setRo_ats (s : State) (p : Param) (i0 v : Nat) : (s.setRo p i0 v).ats = s.ats := rfl
@[simp] theorem State.setRo_atsWait (s : State) (p : Param) (i0 v : Nat) : (s.setRo p i0 v).atsWait = s.atsWait := rfl
@[simp] theorem State.setRo_attach (s : State) (p : Param) (i0 v : Nat) : (s.setRo p i0 v).attach = s.attach := rfl
@[simp] theorem State.setRo_ports (s : State) (p : Param) (i0 v : Nat) : (s.setRo p i0 v).ports = s.ports := rfl
@[simp] theorem State.setRo_spire (s : State) (p : Param) (i0 v : Nat) : (s.setRo p i0 v).spire = s.spire := rfl
@[simp] theorem State.setRo_shapers (s : State) (p : Param) (i0 v : Nat) : (s.setRo p i0 v).shapers = s.shapers := rfl
@[simp] theorem State.setRo_policers (s : State) (p : Param) (i0 v : Nat) : (s.setRo p i0 v).policers = s.policers := rfl
@[simp] theorem State.setRo_fwd (s : State) (p : Param) (i0 v : Nat) : (s.setRo p i0 v).fwd = s.fwd := rfl
@[simp] theorem State.setRo_power (s : State) (p : Param) (i0 v : Nat) : (s.setRo p i0 v).power = s.power := rfl
@[simp] theorem State.setRo_oculus (s : State) (p : Param) (i0 v : Nat) : (s.setRo p i0 v).oculus = s.oculus := rfl
@[simp] theorem State.setRo_cipher (s : State) (p : Param) (i0 v : Nat) : (s.setRo p i0 v).cipher = s.cipher := rfl
@[simp] theorem State.setRo_cupola (s : State) (p : Param) (i0 v : Nat) : (s.setRo p i0 v).cupola = s.cupola := rfl
@[simp] theorem State.setRo_experts (s : State) (p : Param) (i0 v : Nat) : (s.setRo p i0 v).experts = s.experts := rfl
@[simp] theorem State.setRo_movers (s : State) (p : Param) (i0 v : Nat) : (s.setRo p i0 v).movers = s.movers := rfl
@[simp] theorem State.setRo_belfry (s : State) (p : Param) (i0 v : Nat) : (s.setRo p i0 v).belfry = s.belfry := rfl
@[simp] theorem State.setRo_mgmt (s : State) (p : Param) (i0 v : Nat) : (s.setRo p i0 v).mgmt = s.mgmt := rfl
@[simp] theorem State.setRo_faults (s : State) (p : Param) (i0 v : Nat) : (s.setRo p i0 v).faults = s.faults := rfl
@[simp] theorem State.setRo_out (s : State) (p : Param) (i0 v : Nat) : (s.setRo p i0 v).out = s.out := rfl
@[simp] theorem State.setRo_free (s : State) (p : Param) (i0 v : Nat) : (s.setRo p i0 v).free = s.free := rfl
@[simp] theorem State.setRo_pending (s : State) (p : Param) (i0 v : Nat) : (s.setRo p i0 v).pending = s.pending := rfl
@[simp] theorem State.setRo_ro (s : State) (p : Param) (i0 v : Nat) : (s.setRo p i0 v).ro = tput 0 (p.key i0) (v % p.modulus) s.ro := rfl
@[simp] theorem State.setRo_par (s : State) (p : Param) (i0 v : Nat) (q : Param) (i : Nat) : (s.setRo p i0 v).par q i = s.par q i := rfl

/-! ### Reading back -/

@[simp] theorem State.conn?_setConn (s : State) (k : Nat) (x : Conn) : (s.setConn k x).conn? k = some x :=
  tget_tset_self k x s.conns

theorem State.conn?_setConn_ne {j k : Nat} (h : j ≠ k) (s : State) (x : Conn) : (s.setConn k x).conn? j = s.conn? j :=
  tget_tset_ne h x s.conns

@[simp] theorem State.ring?_setRing (s : State) (k : Nat) (x : Ring) : (s.setRing k x).ring? k = some x :=
  tget_tset_self k x s.rings

theorem State.ring?_setRing_ne {j k : Nat} (h : j ≠ k) (s : State) (x : Ring) : (s.setRing k x).ring? j = s.ring? j :=
  tget_tset_ne h x s.rings

theorem State.tenant_setTenant {s : State} (k : Nat) (x : Tenant) (h : twfD {} s.tenants = true) : (s.setTenant k x).tenant k = x :=
  tgetD_tput_self k x h

theorem State.tenant_setTenant_ne {j k : Nat} (h : j ≠ k) (s : State) (x : Tenant) : (s.setTenant k x).tenant j = s.tenant j :=
  tgetD_tput_ne h x s.tenants

theorem State.fn_setFn {s : State} (k : Nat) (x : FnPages) (h : twfD {} s.fns = true) : (s.setFn k x).fn k = x :=
  tgetD_tput_self k x h

theorem State.fn_setFn_ne {j k : Nat} (h : j ≠ k) (s : State) (x : FnPages) : (s.setFn k x).fn j = s.fn j :=
  tgetD_tput_ne h x s.fns

theorem State.host_setHost {s : State} (k : Nat) (x : HostPort) (h : twfD {} s.hosts = true) : (s.setHost k x).host k = x :=
  tgetD_tput_self k x h

theorem State.host_setHost_ne {j k : Nat} (h : j ≠ k) (s : State) (x : HostPort) : (s.setHost k x).host j = s.host j :=
  tgetD_tput_ne h x s.hosts

theorem State.attachPort_setAttach {s : State} (k : Nat) (x : AttachPort) (h : twfD {} s.attach = true) : (s.setAttach k x).attachPort k = x :=
  tgetD_tput_self k x h

theorem State.attachPort_setAttach_ne {j k : Nat} (h : j ≠ k) (s : State) (x : AttachPort) : (s.setAttach k x).attachPort j = s.attachPort j :=
  tgetD_tput_ne h x s.attach

theorem State.handle_setHandle {s : State} (k : Nat) (x : Handle) (h : twfD {} s.handles = true) : (s.setHandle k x).handle k = x :=
  tgetD_tput_self k x h

theorem State.handle_setHandle_ne {j k : Nat} (h : j ≠ k) (s : State) (x : Handle) : (s.setHandle k x).handle j = s.handle j :=
  tgetD_tput_ne h x s.handles

theorem State.port_setPort {s : State} (k : Nat) (x : Port) (h : twfD {} s.ports = true) : (s.setPort k x).port k = x :=
  tgetD_tput_self k x h

theorem State.port_setPort_ne {j k : Nat} (h : j ≠ k) (s : State) (x : Port) : (s.setPort k x).port j = s.port j :=
  tgetD_tput_ne h x s.ports

theorem State.timePort_setTimePort {s : State} (k : Nat) (x : TimePort) (h : twfD {} s.time.ports = true) : (s.setTimePort k x).timePort k = x :=
  tgetD_tput_self k x h

theorem State.timePort_setTimePort_ne {j k : Nat} (h : j ≠ k) (s : State) (x : TimePort) : (s.setTimePort k x).timePort j = s.timePort j :=
  tgetD_tput_ne h x s.time.ports

theorem State.inc_setInc {s : State} (k : Nat) (x : IncRecord) (h : twfD {} s.incs = true) : (s.setInc k x).inc k = x :=
  tgetD_tput_self k x h

theorem State.inc_setInc_ne {j k : Nat} (h : j ≠ k) (s : State) (x : IncRecord) : (s.setInc k x).inc j = s.inc j :=
  tgetD_tput_ne h x s.incs

theorem State.extent_setExtent {s : State} (k : Nat) (x : Extent) (h : twfD {} s.memory.extents = true) : (s.setExtent k x).extent k = x :=
  tgetD_tput_self k x h

theorem State.extent_setExtent_ne {j k : Nat} (h : j ≠ k) (s : State) (x : Extent) : (s.setExtent k x).extent j = s.extent j :=
  tgetD_tput_ne h x s.memory.extents

theorem State.roVal_count {s : State} (p : Param) (i0 n : Nat) (h : twfD 0 s.ro = true) :
    (s.count p i0 n).roVal p i0 = (s.roVal p i0 + n) % p.modulus :=
  tgetD_tput_self (p.key i0) _ h

theorem State.roVal_count_ne {p q : Param} {i j : Nat} (h : q.key j ≠ p.key i) (s : State) (n : Nat) :
    (s.count p i n).roVal q j = s.roVal q j :=
  tgetD_tput_ne h _ s.ro

end Sys2Proof.Machine
end

