-- ==== Sys2Proof/Tests/Slice0.lean ====
section
/-! SUPPORT. Tests: what well-formedness refuses, worked values of the manual, and for every statement with hypotheses a state and
operands that meet them all. -/
set_option Elab.async false
namespace Sys2Proof
open Machine

/-! ### Well-formedness -/

/-- A packet of zeros on port 0. -/
def wGoodRx : Rx := { port := 0, cls := 0, outer := [], pkt := ⟨0, 0, [], [], false⟩, translates := false }

theorem test_good_commands_1 : List.all (α := Instr)
  [.packageReset, .packageResetRelease 0, .supplyFault true, .supplyRestored 0, .functionsEnable 0, .bridgeFatal 0,
    .thermalTrip 0 true 0, .jtagTrst, .perstAssert 0, .perstDeassert 0, .hostLinkTrained 0 1 0, .hostLinkDown 0, .flr 0,
    .vfEnableSet 0 0, .vfEnableClear 0, .d3hotEntry 0, .timeClockTick, .syncSend 0 0, .syncRx 0 0 0 0, .echoRx 0 0 0,
    .syncAbandon 0 0, .announceRx 0 0, .announceWithdraw 0, .ptpMessageRx 0 [] 0, .ptpSyncSend 0 0, .referenceLost,
    .holdoverExpire, .ppsOutEdge, .ppsOutFall, .ppsInEdge, .ppsReferenceLost, .triggerFire, .dictRequestQueue .mctp [],
    .dictRead, .dictReadShadow, .dictWrite, .dictDescribe, .dictEnumerate, .dictValidate, .dictArmSwap, .dictCancelSwap,
    .dictDiscardShadow, .swap, .shadowCopyDone, .ringCreate 0 0]
  Instr.wf = true := by decide +kernel

theorem test_good_commands_2 : List.all (α := Instr)
  [.ringShutdown 0 0, .ringAbort 0 0, .ringResume 0 0, .ringDestroy 0 0, .ringQuery 0 0, .ringCmdUnknown 0 0,
    .abortDeadline 0 0, .doorbell 0 0 0 (.host 0), .notifyConsumeDoorbell 0 0 0 (.host 0),
    .eventRingConsumeDoorbell 0 0 0 (.host 0), .fetchIssue 0 0, .fetchReturn 0 0 0 .error, .refetchIssue 0 0,
    .refetchReturn 0 0 0 .error, .chainStart 0 0, .completionWrite 0 0, .mirrorWrite 0 0, .ringEventTimer 0 0, .nop 0 0,
    .write 0 0, .writeImm 0 0, .read 0 0, .accum 0 0, .fenceFlush 0 0, .connCreate 0 0, .connBind 0 0, .connModify 0 0,
    .connFreeze 0 0, .freezeComplete 0, .connThaw 0 0, .connDestroy 0 0, .drainExit 0, .quarantineEnd 0, .connQuery 0 0,
    .handleWrite 0 0, .handleRead 0 0, .connFlush 0 0, .connCmdUnknown 0 0, .evictionStart 0, .evictionRelease 0,
    .contextInstall 0 .error, .pathRebindRx wGoodRx, .realmCreate 0, .realmModify 0 0, .realmRevoke 0 0]
  Instr.wf = true := by decide +kernel

theorem test_good_commands_3 : List.all (α := Instr)
  [.realmDestroy 0 0, .realmQuery 0 0, .realmCmdUnknown 0 0, .realmChangeDone 0, .pktWriteRx wGoodRx,
    .pktWriteImmRx wGoodRx, .pktReadReqRx wGoodRx, .pktReadRespRx wGoodRx, .pktAccumRx wGoodRx, .pktFlushReqRx wGoodRx,
    .pktVoidRx wGoodRx, .ackRx wGoodRx, .nakRx wGoodRx, .msgConfirmRx wGoodRx, .confirmQueryRx wGoodRx, .accumApply 0,
    .readStart 0, .targetReadFail 0 0 0, .placementWriteFail 0 0 true 0, .readbackIssue 0 0 true,
    .readbackDone (.peer 0 0) true, .notifyReservationExpire 0 0 0 0, .ackTimer 0, .lossDetect 0 0, .rtoExpire 0,
    .busyHoldEnd 0, .rnrResend 0 0, .confirmQueryTimer 0, .packetCommit 0, .egressStart 0, .slotFetchOpen 0 0,
    .slotReadyDeadline 0 0, .slotDue 0 0, .reduceSlotDue 0 0 .error, .moveSlotDue 0 0, .stepLateStart true 0 .error,
    .lanternSample, .transitRx wGoodRx 0, .transitResidenceExpire 0 0, .creditBlockSend 0, .creditRx 0 [],
    .advertRx 0 [], .routeDownRx wGoodRx, .pathDownExpire 0 0, .drainEnd]
  Instr.wf = true := by decide +kernel

theorem test_good_commands_4 : List.all (α := Instr)
  [.collectiveClear 0 0, .collectiveAddLocal 0 0 .error, .collectiveReadout 0 0, .readoutReady 0, .quantize 0 0 .error,
    .bayLoadDone 0 0 true, .bayWritebackDone 0 0 true, .dispatchTokens 0 0 .error .error, .dispatchWeights 0 0 .error,
    .publish 0 0 0, .confirm 0 0 .error .error, .cancel 0 0, .specDeadline 0 0, .slotRelease 0 0 0,
    .combine 0 0 .error .error .error, .combineResponseApply 0, .zeroBlock 0, .staleRequestDiscard (.context 0),
    .uncorrectableError 0, .refresh 0 0 0, .patrolStart 0, .patrolDone 0 [], .lineCheckDone 0 0, .anComplete 0 true 0 0,
    .negotiateTimeout 0, .trainDone 0 0 0 true, .trainTimeout 0, .linkLoss 0 true, .faultRetry 0, .statusSend 0,
    .statusRx 0 [], .timeSymbolRx 0 0 0 0, .codewordDecodeFail 0, .shedPeriodEnd 0, .shedReqRx 0 [], .widthSwitch 0,
    .restoreReq 0, .restoreReqRx 0 [], .lanesReady 0, .ethFrameRx 0 [] true 0 true, .pauseRx 0 0,
    .pfcRx 0 0 [0, 0, 0, 0, 0, 0, 0, 0], .pauseExpire 0, .flowXoffSend 0 0, .flowRepeat 0 0]
  Instr.wf = true := by decide +kernel

theorem test_good_commands_5 : List.all (α := Instr)
  [.flowXonSend 0 0, .mbGo 0, .mbResponseDone 0, .atsInvalidate 0 0 0 0, .priResponse 0 0 0 true, .priTimeout 0 0 0,
    .completionTimeout (.context 0), .windowWrite 0 0 0 [], .windowRead 0 0 0 0 true .error,
    .attachTrain 0 true true 0 0, .attachFaultRetry 0, .apertureAccess 0 0 true 0 [] .error, .tenantReset 0,
    .tenantResetDone 0, .drainLimitExpire 0, .quiesceSet 0, .quiesceClear 0, .quiesced 0, .quiesceLimit 0, .migFreeze 0,
    .migFrozen 0, .migSave 0, .migSaveDone 0, .migRestore 0, .migRestoreDone 0, .migResume 0, .migDiscard 0,
    .pathRebindRepeat 0, .move 0 0, .fill 0 0, .descriptorStart 0 0, .burstIssue 0, .burstDone 0 0 0 .error,
    .halfEvent 0 0 true, .descriptorDone 0 0 true, .mbDataWrite 0 1 0 true 0, .mbDataRead 0 1 0 true,
    .mbAckCodeWrite 0 1 0 true 0, .dbSetWrite 0 1 true 0, .dbPendWrite 0 1 0, .dbMaskWrite 0 1 0, .semRead 0 1 0 true,
    .semWrite 0 1 0 true 0, .keyLoadLoad 0 [], .keyLoadErase 0 []]
  Instr.wf = true := by decide +kernel

theorem test_good_commands_6 : List.all (α := Instr)
  [.keyDerived 0, .keyPrederive 0, .cipherGcmEnc 0 0 .error, .cipherGcmDec 0 0 .error, .cipherXtsEnc 0 0 .error,
    .cipherXtsDec 0 0 .error, .segRequestRx [] 0, .segFrameRx [] 0, .segLineCheck 0 true, .dictRequestRx wGoodRx,
    .linkScopedRequestRx wGoodRx, .dictResponseRx wGoodRx, .linkMgmtSend [], .mctpMessageRx 0 [], .spdmGetVersion 0 [],
    .spdmGetCapabilities 0 [], .spdmUnsupported 0 [], .quote 0 [] 0, .getLog 0 [], .getIdentity 0 [], .fwErase,
    .fwVerify, .fwPrefer, .fwCommitSvn, .fwRevokeKey 0, .fwChunk [], .eventRingSetup 0 [], .powerClose [], .powerOpen [],
    .domainClosed 0, .domainCloseDeadline 0, .domainOpened 0, .powerControl 0 [], .registerWrite 0 0 0 0,
    .attachLinkLoss 0, .firmwareRestart, .managementAgentReset, .fwCommandDone, .i3cAddressAssignment 0 0 0,
    .spdmChunking 0 [], .atsTranslationResponse 0 0 0 true true, .payloadReadReturn 0 0 true 0 .error,
    .backingWritebackError 0 true, .plcaBeaconTimeout true, .bridgeRetraining 0]
  Instr.wf = true := by decide +kernel

theorem test_bad_commands_1 : List.any (α := Instr)
  [.bridgeFatal 10, .thermalTrip 8 true 0, .perstAssert 2, .perstDeassert 2, .hostLinkTrained 2 1 0,
    .hostLinkTrained 0 0 0, .hostLinkTrained 0 6 0, .hostLinkTrained 0 1 17, .hostLinkDown 2, .flr 2048,
    .vfEnableSet 2 0, .vfEnableSet 0 1024, .vfEnableClear 2, .d3hotEntry 2048, .syncSend 64 0, .syncSend 0 4,
    .syncRx 64 0 0 0, .syncRx 0 0 4 0, .echoRx 64 0 0, .echoRx 0 0 4, .syncAbandon 64 0, .announceRx 64 0,
    .announceWithdraw 64, .ptpMessageRx 64 [] 0, .ptpMessageRx 0 [] 4, .ptpSyncSend 64 0, .ptpSyncSend 0 4,
    .dictRequestQueue (.mailbox 2048) [], .dictRequestQueue (.fabric 65536 0 0) [],
    .dictRequestQueue (.fabric 0 64 0) [], .dictRequestQueue (.link 64 0 0) [], .dictRequestQueue (.link 0 65536 0) [],
    .ringCreate 2048 0, .ringCreate 0 1048576, .ringShutdown 2048 0, .ringShutdown 0 1048576, .ringAbort 2048 0,
    .ringAbort 0 1048576, .ringResume 2048 0, .ringResume 0 1048576, .ringDestroy 2048 0, .ringDestroy 0 1048576,
    .ringQuery 2048 0, .ringQuery 0 1048576, .ringCmdUnknown 2048 0]
  Instr.wf = false := by decide +kernel

theorem test_bad_commands_2 : List.any (α := Instr)
  [.abortDeadline 2048 0, .abortDeadline 0 1048576, .doorbell 2048 0 0 (.host 0), .doorbell 0 0 9 (.host 0),
    .notifyConsumeDoorbell 2048 0 0 (.host 0), .notifyConsumeDoorbell 0 0 9 (.host 0),
    .eventRingConsumeDoorbell 2048 0 0 (.host 0), .eventRingConsumeDoorbell 0 0 9 (.host 0), .fetchIssue 2048 0,
    .fetchIssue 0 1048576, .fetchReturn 2048 0 0 .error, .fetchReturn 0 1048576 0 .error, .refetchIssue 2048 0,
    .refetchIssue 0 1048576, .refetchReturn 2048 0 0 .error, .refetchReturn 0 1048576 0 .error, .chainStart 2048 0,
    .chainStart 0 1048576, .completionWrite 2048 0, .completionWrite 0 1048576, .mirrorWrite 2048 0,
    .mirrorWrite 0 1048576, .ringEventTimer 2048 0, .ringEventTimer 0 1048576, .nop 2048 0, .nop 0 1048576,
    .write 2048 0, .write 0 1048576, .writeImm 2048 0, .writeImm 0 1048576, .read 2048 0, .read 0 1048576, .accum 2048 0,
    .accum 0 1048576, .fenceFlush 2048 0, .fenceFlush 0 1048576, .connCreate 2048 0, .connCreate 0 16777216,
    .connBind 2048 0, .connBind 0 16777216, .connModify 2048 0, .connModify 0 16777216, .connFreeze 2048 0,
    .connFreeze 0 16777216, .freezeComplete 16777216]
  Instr.wf = false := by decide +kernel

theorem test_bad_commands_3 : List.any (α := Instr)
  [.connThaw 2048 0, .connThaw 0 16777216, .connDestroy 2048 0, .connDestroy 0 16777216, .drainExit 16777216,
    .quarantineEnd 16777216, .connQuery 2048 0, .connQuery 0 16777216, .handleWrite 2048 0, .handleWrite 0 65536,
    .handleRead 2048 0, .handleRead 0 65536, .connFlush 2048 0, .connFlush 0 16777216, .connCmdUnknown 2048 0,
    .evictionStart 8, .evictionRelease 16777216, .contextInstall 16777216 .error,
    .pathRebindRx { wGoodRx with port := 64 }, .pathRebindRx { wGoodRx with cls := 4 }, .realmCreate 2048,
    .realmModify 2048 0, .realmModify 0 1048576, .realmRevoke 2048 0, .realmRevoke 0 1048576, .realmDestroy 2048 0,
    .realmDestroy 0 1048576, .realmQuery 2048 0, .realmQuery 0 1048576, .realmCmdUnknown 2048 0,
    .realmChangeDone 1048576, .pktWriteRx { wGoodRx with port := 64 }, .pktWriteRx { wGoodRx with cls := 4 },
    .pktWriteImmRx { wGoodRx with port := 64 }, .pktWriteImmRx { wGoodRx with cls := 4 },
    .pktReadReqRx { wGoodRx with port := 64 }, .pktReadReqRx { wGoodRx with cls := 4 },
    .pktReadRespRx { wGoodRx with port := 64 }, .pktReadRespRx { wGoodRx with cls := 4 },
    .pktAccumRx { wGoodRx with port := 64 }, .pktAccumRx { wGoodRx with cls := 4 },
    .pktFlushReqRx { wGoodRx with port := 64 }, .pktFlushReqRx { wGoodRx with cls := 4 },
    .pktVoidRx { wGoodRx with port := 64 }, .pktVoidRx { wGoodRx with cls := 4 }]
  Instr.wf = false := by decide +kernel

theorem test_bad_commands_4 : List.any (α := Instr)
  [.ackRx { wGoodRx with port := 64 }, .ackRx { wGoodRx with cls := 4 }, .nakRx { wGoodRx with port := 64 },
    .nakRx { wGoodRx with cls := 4 }, .msgConfirmRx { wGoodRx with port := 64 }, .msgConfirmRx { wGoodRx with cls := 4 },
    .confirmQueryRx { wGoodRx with port := 64 }, .confirmQueryRx { wGoodRx with cls := 4 }, .accumApply 8,
    .readStart 16777216, .targetReadFail 16777216 0 0, .placementWriteFail 16777216 0 true 0,
    .readbackIssue 16777216 0 true, .readbackDone (.peer 16777216 0) true, .readbackDone (.own 16777216 0) true,
    .readbackDone (.entry 2147483648 0 0) true, .readbackDone (.entry 0 0 64) true, .notifyReservationExpire 2048 0 0 0,
    .notifyReservationExpire 0 1048576 0 0, .notifyReservationExpire 0 0 16777216 0, .ackTimer 16777216,
    .lossDetect 16777216 0, .rtoExpire 16777216, .busyHoldEnd 16777216, .rnrResend 16777216 0,
    .confirmQueryTimer 16777216, .packetCommit 8, .egressStart 64, .slotFetchOpen 8 0, .slotFetchOpen 0 16384,
    .slotReadyDeadline 8 0, .slotReadyDeadline 0 16384, .slotDue 8 0, .slotDue 0 16384, .reduceSlotDue 8 0 .error,
    .reduceSlotDue 0 16384 .error, .moveSlotDue 8 0, .moveSlotDue 0 16384, .stepLateStart true 4096 .error,
    .transitRx { wGoodRx with port := 64 } 0, .transitRx { wGoodRx with cls := 4 } 0, .transitRx wGoodRx 3,
    .transitResidenceExpire 64 0, .transitResidenceExpire 0 8, .creditBlockSend 64]
  Instr.wf = false := by decide +kernel

theorem test_bad_commands_5 : List.any (α := Instr)
  [.creditRx 64 [], .advertRx 64 [], .routeDownRx { wGoodRx with port := 64 }, .routeDownRx { wGoodRx with cls := 4 },
    .pathDownExpire 65536 0, .pathDownExpire 0 64, .collectiveClear 2048 0, .collectiveClear 0 1048576,
    .collectiveAddLocal 2048 0 .error, .collectiveAddLocal 0 1048576 .error, .collectiveReadout 2048 0,
    .collectiveReadout 0 1048576, .readoutReady 8, .quantize 2048 0 .error, .quantize 0 1048576 .error,
    .bayLoadDone 8 0 true, .bayWritebackDone 8 0 true, .dispatchTokens 2048 0 .error .error,
    .dispatchTokens 0 1048576 .error .error, .dispatchWeights 2048 0 .error, .dispatchWeights 0 1048576 .error,
    .publish 1048576 0 0, .confirm 2048 0 .error .error, .confirm 0 1048576 .error .error, .cancel 2048 0,
    .cancel 0 1048576, .specDeadline 2048 0, .slotRelease 2048 0 0, .slotRelease 0 1048576 0, .slotRelease 0 0 5,
    .combine 2048 0 .error .error .error, .combine 0 1048576 .error .error .error, .combineResponseApply 8,
    .zeroBlock 2048, .staleRequestDiscard (.fetch 2048 0 0), .staleRequestDiscard (.fetch 0 1048576 0),
    .staleRequestDiscard (.refetch 2048 0 0), .staleRequestDiscard (.payload 16777216 0 true 0),
    .staleRequestDiscard (.placement 16777216 0 true 0), .staleRequestDiscard (.context 16777216),
    .staleRequestDiscard (.writeback 16777216), .staleRequestDiscard (.bayLoad 8 0),
    .staleRequestDiscard (.bayWrite 8 0), .staleRequestDiscard (.burst 8 0 0), .staleRequestDiscard (.burst 0 16 0)]
  Instr.wf = false := by decide +kernel

theorem test_bad_commands_6 : List.any (α := Instr)
  [.staleRequestDiscard (.readback (.own 16777216 0)), .staleRequestDiscard (.entry 2048 0), .refresh 8 0 0,
    .refresh 0 16 0, .refresh 0 0 256, .patrolStart 8, .patrolDone 8 [], .lineCheckDone 64 0, .anComplete 64 true 0 0,
    .negotiateTimeout 64, .trainDone 64 0 0 true, .trainTimeout 64, .linkLoss 64 true, .faultRetry 64, .statusSend 64,
    .statusRx 64 [], .timeSymbolRx 64 0 0 0, .timeSymbolRx 0 0 4 0, .codewordDecodeFail 64, .shedPeriodEnd 64,
    .shedReqRx 64 [], .widthSwitch 64, .restoreReq 64, .restoreReqRx 64 [], .lanesReady 64,
    .ethFrameRx 64 [] true 0 true, .ethFrameRx 0 [] true 4 true, .pauseRx 64 0, .pfcRx 64 0 [0, 0, 0, 0, 0, 0, 0, 0],
    .pfcRx 0 0 [0], .pauseExpire 64, .flowXoffSend 64 0, .flowXoffSend 0 8, .flowRepeat 64 0, .flowRepeat 0 8,
    .flowXonSend 64 0, .flowXonSend 0 8, .mbGo 2048, .mbResponseDone 2048, .atsInvalidate 2048 0 0 0,
    .atsInvalidate 0 1048577 0 0, .priResponse 2048 0 0 true, .priResponse 0 1048577 0 true, .priTimeout 2048 0 0,
    .priTimeout 0 1048577 0]
  Instr.wf = false := by decide +kernel

theorem test_bad_commands_7 : List.any (α := Instr)
  [.completionTimeout (.fetch 2048 0 0), .completionTimeout (.fetch 0 1048576 0), .completionTimeout (.refetch 2048 0 0),
    .completionTimeout (.payload 16777216 0 true 0), .completionTimeout (.placement 16777216 0 true 0),
    .completionTimeout (.context 16777216), .completionTimeout (.writeback 16777216), .completionTimeout (.bayLoad 8 0),
    .completionTimeout (.bayWrite 8 0), .completionTimeout (.burst 8 0 0), .completionTimeout (.burst 0 16 0),
    .completionTimeout (.readback (.own 16777216 0)), .completionTimeout (.entry 2048 0), .windowWrite 2 0 0 [],
    .windowWrite 0 65536 0 [], .windowWrite 0 0 274877906944 [], .windowRead 2 0 0 0 true .error,
    .windowRead 0 65536 0 0 true .error, .windowRead 0 0 274877906944 0 true .error, .attachTrain 8 true true 0 0,
    .attachFaultRetry 8, .apertureAccess 8 0 true 0 [] .error, .tenantReset 2048, .tenantResetDone 2048,
    .drainLimitExpire 2048, .quiesceSet 2048, .quiesceClear 2048, .quiesced 2048, .quiesceLimit 2048, .migFreeze 2048,
    .migFrozen 2048, .migSave 2048, .migSaveDone 2048, .migRestore 2048, .migRestoreDone 2048, .migResume 2048,
    .migDiscard 2048, .pathRebindRepeat 2048, .move 2048 0, .move 0 1048576, .fill 2048 0, .fill 0 1048576,
    .descriptorStart 8 0, .descriptorStart 0 16, .burstIssue 8]
  Instr.wf = false := by decide +kernel

theorem test_bad_commands_8 : List.any (α := Instr)
  [.burstDone 8 0 0 .error, .burstDone 0 16 0 .error, .halfEvent 8 0 true, .halfEvent 0 16 true,
    .descriptorDone 8 0 true, .descriptorDone 0 16 true, .mbDataWrite 8 1 0 true 0, .mbDataWrite 0 0 0 true 0,
    .mbDataWrite 0 5 0 true 0, .mbDataWrite 0 1 16 true 0, .mbDataRead 8 1 0 true, .mbDataRead 0 0 0 true,
    .mbDataRead 0 5 0 true, .mbDataRead 0 1 16 true, .mbAckCodeWrite 8 1 0 true 0, .mbAckCodeWrite 0 0 0 true 0,
    .mbAckCodeWrite 0 5 0 true 0, .mbAckCodeWrite 0 1 16 true 0, .dbSetWrite 8 1 true 0, .dbSetWrite 0 0 true 0,
    .dbSetWrite 0 5 true 0, .dbPendWrite 8 1 0, .dbPendWrite 0 0 0, .dbPendWrite 0 5 0, .dbMaskWrite 8 1 0,
    .dbMaskWrite 0 0 0, .dbMaskWrite 0 5 0, .semRead 8 1 0 true, .semRead 0 0 0 true, .semRead 0 5 0 true,
    .semRead 0 1 32 true, .semWrite 8 1 0 true 0, .semWrite 0 0 0 true 0, .semWrite 0 5 0 true 0,
    .semWrite 0 1 32 true 0, .keyLoadLoad 2048 [], .keyLoadErase 2048 [], .keyDerived 8, .keyPrederive 8,
    .cipherGcmEnc 2048 0 .error, .cipherGcmEnc 0 1048576 .error, .cipherGcmDec 2048 0 .error,
    .cipherGcmDec 0 1048576 .error, .cipherXtsEnc 2048 0 .error, .cipherXtsEnc 0 1048576 .error]
  Instr.wf = false := by decide +kernel

theorem test_bad_commands_9 : List.any (α := Instr)
  [.cipherXtsDec 2048 0 .error, .cipherXtsDec 0 1048576 .error, .segRequestRx [] 17, .segFrameRx [] 17,
    .segLineCheck 3 true, .dictRequestRx { wGoodRx with port := 64 }, .dictRequestRx { wGoodRx with cls := 4 },
    .linkScopedRequestRx { wGoodRx with port := 64 }, .linkScopedRequestRx { wGoodRx with cls := 4 },
    .dictResponseRx { wGoodRx with port := 64 }, .dictResponseRx { wGoodRx with cls := 4 }, .spdmGetVersion 3 [],
    .spdmGetCapabilities 3 [], .spdmUnsupported 3 [], .quote 3 [] 0, .getLog 3 [], .getIdentity 3 [], .fwRevokeKey 4,
    .eventRingSetup 2048 [], .domainClosed 36, .domainCloseDeadline 36, .domainOpened 36, .registerWrite 2048 0 0 0,
    .registerWrite 0 0 65 0, .attachLinkLoss 8, .i3cAddressAssignment 3 0 0, .i3cAddressAssignment 0 128 0,
    .spdmChunking 3 [], .atsTranslationResponse 2048 0 0 true true, .atsTranslationResponse 0 1048577 0 true true,
    .payloadReadReturn 16777216 0 true 0 .error, .backingWritebackError 16777216 true, .bridgeRetraining 10]
  Instr.wf = false := by decide +kernel

/-- No row of the table gives bits. -/
theorem test_no_word_decodes : decodeTableWord 8 0 = none := by decide

/-! ### Worked values of the manual -/

/-- The location code worked out after R50. -/
theorem test_location_worked : location 1 0 5 2 6 19 37 0x20C1 = 0x0020C102513602A1 := by decide +kernel

/-- R34: the home tower of connection 0xC0_21F3, as the traced write has it. -/
theorem test_home_tower : connTower 0xC021F3 = 6 := by decide +kernel

/-- R265: the CRC of the ASCII digits 1 to 9. -/
theorem test_crc64 : crc64 [0x31, 0x32, 0x33, 0x34, 0x35, 0x36, 0x37, 0x38, 0x39] = 0x995DC9BBDF1939FA := by decide +kernel

/-- R295's example: a packet four behind the window. -/
theorem test_behind_window : psnBefore 0x00051E3D 0x00051E41 = true := by decide +kernel

/-- The sum of the BF16 values of these bytes, each taken in its turn. -/
def wSum (b : Bytes) : Acc := (decodeAll 0x02 b).foldl (Acc.take 0) (Acc.cleared 0)

/-- The eight BF16 values, in rank order and in the manual's second order. -/
def wSumA : Acc := wSum [0x40, 0x45, 0x40, 0xC5, 0x30, 0x3F, 0x30, 0x3F, 0xA8, 0x40, 0x50, 0xBF, 0x9C, 0x41, 0x00, 0xBD]
def wSumB : Acc := wSum [0x40, 0x45, 0x9C, 0x41, 0xA8, 0x40, 0x30, 0x3F, 0x30, 0x3F, 0x50, 0xBF, 0x00, 0xBD, 0x40, 0xC5]

/-- Both orders end with 809 times 2^144: byte 18 is 0x29, byte 19 is 0x03. -/
theorem test_two_orders : wSumA = wSumB ∧ wSumA.s = 809 * (1 <<< 144) ∧
    bytesOf 64 wSumA.word = List.replicate 18 0 ++ [0x29, 0x03] ++ List.replicate 44 0 := by decide +kernel

/-- The read-outs of that sum: BF16 under RNE and under STOCHASTIC on both sides of 0x4000_0000, and FP32. -/
theorem test_two_orders_read :
    (readOut 0x02 0 0 0 0 5117 [wSumA]).1 = [0xCA, 0x41] ∧
    ((fmtOf 0x02).map (fun f => (wSumA.read f 2 0x3FFFFFFF 0).1)) = some 0x41CB ∧
    ((fmtOf 0x02).map (fun f => (wSumA.read f 2 0x40000000 0).1)) = some 0x41CA ∧
    (readOut 0x01 0 0 0 0 5117 [wSumA]).1 = [0x00, 0x40, 0xCA, 0x41] := by decide +kernel

/-- The accumulators of the two MXFP4 blocks of the manual. -/
def wMx : List Acc :=
  List.zipWith (fun a b => ((Acc.cleared 0).take 0 a).take 0 b)
    (decodeAll 0x0A ([0x7C, 0xB7, 0x01] ++ List.replicate 14 0)) (decodeAll 0x0A ([0x80, 0x15, 0x00] ++ List.replicate 14 0))

/-- An MX block rescaled: its MXFP4 block, and its first elements in BF16. -/
theorem test_mx_block : (readOut 0x0A 0 0 0 0 0 wMx).1 = [0x7F, 0x27, 0x00] ++ List.replicate 14 0 ∧
    (readOut 0x02 0 0 0 0 0 (wMx.take 3)).1 = [0xD8, 0x40, 0x50, 0x3F, 0x80, 0x3D] := by decide +kernel

end Sys2Proof

/-! ### The states of the witnesses -/
section
open Sys2Proof Sys2Proof.Machine

/-- The machine after FUNCTIONS_ENABLE on a ZF-8, without the traffic that brings it there. -/
def wRun : State := { State.reset with pkg := { phase := .running } }
/-- A CLOSE of the lane block of tower 0, and an OPEN of it. -/
def wClose : Bytes := bytesOf 8 (location 4 0 0 0 8 0 0 0) ++ [1, 0, 0, 0, 0, 0, 0, 0]
def wOpen : Bytes := bytesOf 8 (location 4 0 0 0 8 0 0 0) ++ [2, 0, 0, 0, 0, 0, 0, 0]
/-- Domain 0 in a state. -/
def wDom (m : DomainMode) : State := { wRun with time := { now := 2000000 }, power := { domains := [(0, { mode := m })] } }
/-- A host port with its link up. -/
def wHost : State := { wRun with hosts := [(0, { perst := false, linkUp := true })] }
/-- PERST_N of H0 high, its link down. -/
def wPerst : State := { wRun with hosts := [(0, { perst := false })] }
/-- A wait of tenant 3 for the translation of its page 5. -/
def wWait : AtsWait := ⟨3, 0, 5, true, ringKey 3 1, 0, 0, false, none⟩
def wAts (pri : Option Nat) : State := { wHost with atsWait := [{ wWait with pri := pri }] }
/-- Attach port 0 in a state. -/
def wAttach (m : AttachMode) : State := { wRun with time := { now := 2000000000000 }, attach := [(0, { mode := m })] }
/-- Entry 0 of the region table opens 16 pages of host window to package memory 0 for tenant 5, read and write. -/
def wRegion : State := { wHost with dict := { active := { blobs :=
  (ParamSet.putBlob {} d14_0020 0 0 ([0b1101, 1, 0, 0, 5, 0, 0, 0, 0, 0, 0, 0, 16, 0, 0, 0] ++ List.replicate 16 0)).blobs } } }
/-- Network port 0 up in fabric mode, and in an Ethernet mode. -/
def wFab : State := { wRun with ports := [(0, { mode := .up, modeCode := 0x10 })], time := { now := 5000000000 } }
def wEth : State := { wRun with ports := [(0, { mode := .up, modeCode := 0x20 })], time := { now := 5000000000 } }
/-- Time in a mode, from a reference. -/
def wTime (m : TimeMode) (r : TimeRef) : State := { wFab with time := { now := 5000000000, mode := m, ref := r } }
/-- A parameter of the active set holds a value. -/
def wPar (p : Param) (i v : Nat) (s : State) : State := { s with dict := { s.dict with active := s.dict.active.putInt s.pkg.part p i v } }
/-- One SEND slot of tower 0 in use: entry 0, all zeros: connection 0, start 0. -/
def wSlot : State := wPar d7_0010 0 1 wFab
/-- A dictionary request of an operation, from firmware, at the head of the queue: its parameter and its VALUE. -/
def wReq (op group item : Nat) (value : Bytes) (s : State) : State :=
  { s with dict := { s.dict with queue := [{ route := .firmware
                                             bytes := leBytes 1 op ++ [0] ++ leBytes 2 1 ++ leBytes 8 (65536 * group + item) ++
                                               leBytes 4 0 ++ leBytes 2 value.length ++ [0, 0] ++ value }] } }
/-- The bytes of that request. -/
def wReqBytes (op group item : Nat) (value : Bytes) : Bytes := ((wReq op group item value wRun).dict.queue.headD ⟨.firmware, []⟩).bytes
/-- The fabric key is loaded, D0.0001 is 7. -/
def wSeg : State := wPar d19_0010 0 1 { wRun with mgmt := { segKey := some (List.replicate 32 7), fabKey := some (List.replicate 32 7) } }
/-- A packet with a header alone, and as it arrives on port 0. -/
def wPkt (hdr : BitVec 192) : Packet := ⟨hdr, 0, [], [], false⟩
/-- Tenant 0 is ACTIVE on a live host port; RING_CTX holds an image with WEIGHT 1. -/
def wFn : State := { wHost with tenants := [(0, { mode := .active })], fns := [(0, { ring := { ctx := 1 <<< 99 } })] }
/-- Its ring 1, in host memory, as given. -/
def wRing (r : Ring) : State := { wFn with rings := [(ringKey 0 1, r)], time := { now := 5000000000 } }
/-- An image in host memory with 2^4 slots; its notification ring. -/
def wImage : RingImage := { log2Size := 4, weight := 1 }
def wNotify : RingImage := { wImage with notify := 1 }
/-- A NOP entry that is a chain of its own, and a chain of it. -/
def wNop : W512 := 0x340 <<< 0
def wChain : Chain := { first := 0, entries := [{ word := 0x340 }], slots := 1, closed := true }
/-- Tenant 0 owns connections 0 to 63 and holds handle 0; CONN_CTX holds a spire image with TX_WINDOW 1. -/
def wCn : State :=
  { wFn with
    handles := [(0, { valid := 1 })], fns := [(0, { conn := { ctx := 1 <<< 288 } })]
    dict := { active := { blobs := (ParamSet.putBlob {} d5_8000 0 0 ([0, 0, 0, 0, 64, 0, 0, 0, 0, 1] ++ List.replicate 22 0)).blobs } } }
/-- Its connection 5 with a context. -/
def wConn (c : Ctx) : State := { wCn with conns := [(5, { ctx := c })] }
/-- Ring 1 of tenant 0 with one chain of one entry, its word as given. -/
def wOne (w : W512) : State :=
  wRing { image := wImage, tail := 1, head := 1, chains := [{ first := 0, entries := [{ word := w }], slots := 1, closed := true, started := true }] }
/-- A WRITE of length 0 at its head, on connection 0, READY and cached. -/
def wEnt : State := { wOne 1 with conns := [(0, { ctx := { core := { mode := .ready } }, cache := .cached })], dict := wCn.dict }
/-- Connection 5 READY and cached, of peer adapter 0; this adapter is number 7. -/
def wRecv : State := wPar d0_0001 0 7 { wFn with handles := [(0, { valid := 1 })], conns := [(5, { ctx := { core := { mode := .ready } }, cache := .cached })] }
/-- A packet of a type for adapter 7 and connection 5, FIRST and LAST, with a PSN, and as it arrives on port 0. -/
def wHdr (ty psn : Nat) : Packet :=
  ⟨BitVec.ofNat 192 (packNat [(8, ty), (5, 0), (1, 1), (1, 1), (1, 0), (16, 0), (16, 7), (16, 0), (24, 5), (8, 0), (32, psn), (32, 0), (32, 0)]), 0, [], [], false⟩
def wRx (p : Packet) : Rx := ⟨0, 0, [], p, true⟩
/-- The state in which that packet is at its connection. -/
def wAt (ty : Nat) : State := (wRecv.routed (wRx (wHdr ty 0))).1.freeIngress 0 0 0 (wHdr ty 0).len
/-- Connection 5 with one WRITE, of which one packet is in flight as given. -/
def wTxConn (p : TxPkt) : Conn :=
  { ctx := { core := { mode := .ready, txNextPsn := 1 } }, cache := .cached, rtoFrom := some 3, hold := if p.notBefore = 0 then none else some (4, 0)
    tx := [{ msn := 0, kind := .write, owner := none, length := 8, chunk := 8, packets := 1, sent := 1, remote := 0, key := 0, aux := 0, src := ⟨1, 0, 0⟩, addr := 0, sentAt := 3 }]
    flight := [p] }
def wTx (p : TxPkt) : State := { wRecv with conns := [(5, wTxConn p)], time := { now := 1000000000000 } }
/-- Connection 5, dome, with a message to send over handle 0, whose spray set 0 has one usable path. -/
def wDome : State := wPar d9_0010 0 1
  { wRecv with
    ports := [(0, { mode := .up, modeCode := 0x20 })]
    dict := { active := { wRecv.dict.active with blobs := (ParamSet.putBlob {} d9_0011 0 0 [0, 0, 1, 1, 0, 0, 0, 0]).blobs } }
    conns := [(5, { wTxConn { psn := 0, msn := 0, kind := .write, index := 0, len := 8, acked := true } with
                    ctx := { core := { mode := .ready, txNextPsn := 1, txUna := 1, txWindow := 64 }, paths := { pstate := 1, weight := 1 } :: List.replicate 63 {} }, cache := .cached
                    tx := [{ msn := 1, kind := .write, owner := none, length := 8, chunk := 8, packets := 1, remote := 0, key := 0, aux := 0, src := ⟨1, 0, 0⟩, addr := 0, sentAt := 3 }] })] }
/-- A NAK that waits at a port. -/
def wItem : EgressItem :=
  { pkt := wHdr 0x11 0, ready := true, tenant := 2048, owner := none, encap := 0, outer := [], cls := 0, len := 64, entered := 0, arrived := 0, ingress := none }
/-- Adapter 8 forwards; destination 7 has one path, by port 0. -/
def wTransit : State := wPar d9_0000 0 1 (wPar d0_0001 0 8
  { wRun with
    ports := [(0, { mode := .up, modeCode := 0x20 })]
    dict := { active := { blobs := (ParamSet.putBlob {} d9_0012 0 56 [1, 0, 0, 0, 0, 0, 0, 0]).blobs } } })
/-- Network port 0 in a state, on a running package. -/
def wLink (m : PortMode) : State := wPar d13_0001 0 0x98 { wRun with ports := [(0, { mode := m })], time := { now := 1000000000000 } }
/-- Tenant 0 in a migration state, its slot 0 usable for every purpose, its buffer of `n` bytes at 0. -/
def wSave (n : Nat) (m : MigMode) : State := wPar d15_8035 0 n
  { wRun with
    tenants := [(0, { mode := .frozen, mig := { mode := m } })]
    cipher := { slots := [(0, { loaded := true, usage := 15 })] }
    dict := { active := ParamSet.putBlob {} d12_0001 0 0 [1] } }
/-- Handle 0 of tenant 0, its slot 0 usable, and the body of a rebind of adapter 0 with SEQ 1. -/
def wRebind : State := { wSave 0 .none with handles := [(0, { valid := 1 })] }
def wRebindBody : Bytes := List.replicate 44 0 ++ [1, 0, 0, 0]
/-- Ring 1 of tenant 0 with one entry; extent 0 is its own, realm 0 opens it, collective handle 0 is defined, D10.8000 is 1. -/
def wDesk (w : W512) : State := wPar d10_8001 0 0x10000 (wPar d10_8000 0 1
  { wOne w with
    realms := { realms := [(0, { mode := .valid, space := 1, perms := 255 })] }
    dict := { active :=
      ParamSet.putBlob (ParamSet.putBlob {} d12_0001 0 0 [1]) d10_0100 0 0 ([0, 1, 1, 1, 0, 0, 1, 0, 0, 1, 0, 0] ++ List.replicate 52 0) } })
/-- A CLEAR of segment 0 of handle 0; a QUANTIZE of 64 FP32 elements to FP16. -/
def wStep : W512 := 0x20 + (1 <<< 256) + (1 <<< 288)
def wReduce : State := wDesk wStep
def wQuantWord : W512 := 0x21 + (256 <<< 192) + (1 <<< 448) + (2 <<< 456)
def wQuant : State := wDesk wQuantWord
/-- Entry 0 of tower 0's table, of a kind, starts at 0; round time runs. -/
def wDue (kind : Nat) : State := { wSlot with dict := { active := ParamSet.putBlob wSlot.dict.active d7_0011 0 11 [BitVec.ofNat 8 kind] } }
/-- An ACCUM packet of 64 bytes is held at tower 0. -/
def wHeld : State := { wRun with cupola := { input := [{ source := .accum 5 0 0, tower := 0, tenant := 0, addr := 0, fmt := 1, op := 0, payload := List.replicate 64 0, len := 64, gens := wRun.gensOf 0 64 }] } }
/-- The same with a VALID expert directory, and stage 0 of 64 bytes at 0, its record at 4,096. -/
def wBook (w : W512) : State := { wDesk w with
  dict := { active :=
    ParamSet.putBlob (ParamSet.putBlob (wDesk w).dict.active d11_8000 0 36 [1]) d11_8004 0 0 ([0, 0, 0, 0, 1, 0, 0, 0] ++ leBytes 8 0 ++ leBytes 8 64 ++ leBytes 8 4096) } }
/-- A DISPATCH of one row of 64 bytes; one of weights. -/
def wTokens : W512 := 0x30 + (64 <<< 192) + (1 <<< 288) + (1 <<< 304)
def wExpert : State := wBook wTokens
def wWeights : W512 := 0x30 + (64 <<< 192) + (1 <<< 312)
def wStage : State := wBook wWeights
/-- A COMBINE of one row of 64 FP32 elements. -/
def wCombWord : W512 := 0x31 + (256 <<< 192) + (1 <<< 288) + (1 <<< 304) + (1 <<< 312) + (64 <<< 352)
def wComb : State := wBook wCombWord
/-- A DISPATCH under way, speculative or not; its deadline; a CONFIRM of SPEC_ID 0 at the head of the ring. -/
def wDispatch : Dispatch :=
  { ref := ⟨1, 0, 0⟩, tenant := 0, desc := [], round := 0, tokens := 1, topk := 1, tokenBase := 0, length := 64, rows := ⟨1, 0, 0⟩, rowAddr := 0, recs := ⟨1, 0, 0⟩, recAddr := 0 }
def wDisp (spec : Option (BitVec 32)) : State := { wOne 0x30 with experts := { dispatches := [{ wDispatch with spec := spec }] } }
def wDeadline : Trigger := { time := 4, kind := .deadline, tower := 0, ring := 1, first := 0, entry := 0 }
def wConfirm : State := { wOne 0x32 with experts := (wDisp (some 0)).experts }
/-- A freed slot of share 0 of expert 0 of tenant 0. -/
def wFreed (slot : Nat) : State :=
  { wDesk 0 with experts := { freed := [{ tenant := 0, desc := List.replicate 64 0, expert := 0, share := 0, slot := slot, round := 0, pending := none }] } }
/-- Channel 0 of tower 0 belongs to tenant 0, whose ring 1 holds one entry. -/
def wChanD (w : W512) : State := { wDesk w with dict := { active := ParamSet.putBlob (wDesk w).dict.active d16_0001 0 0 [0, 8, 0, 0] } }
/-- A MOVE of 64 bytes from 0 to 4,096 by it. -/
def wMove : W512 := 0x10 + (4096 <<< 128) + (64 <<< 192)
def wDesc : Descriptor := { ref := ⟨1, 0, 0⟩, tenant := 0, word := wMove, src := ⟨1, 0, 0⟩, dst := ⟨1, 0, 0⟩, evt := ⟨1, 0, 0⟩ }
/-- What a witness changes of the channel's head, and the state with that head. -/
structure WHead where
  phase    : Option DescPhase := none
  bursts   : List (Nat × Nat) := []
  half     : Nat := 0
  lastRead : Bool := false
def wQueue (h : WHead) : State := (wChanD wMove).setChan 0 0
  { queue := [{ wDesc with phase := h.phase.getD .queued, bursts := h.bursts, half := h.half, lastRead := h.lastRead }] }
/-- Tenant 0 owns root key slot 0; a KEY_LOAD record that loads it, and one that erases it. -/
def wSlots : State := wPar d18_8000 0 0x10000 wFn
def wKeyRec : Bytes := [0, 0, 1, 0, 0, 0, 1] ++ List.replicate 17 0 ++ List.replicate 32 7 ++ List.replicate 40 0
def wKeyErase : Bytes := [0, 0, 2] ++ List.replicate 93 0
/-- A GCM encryption of 64 bytes from 0 to 4,096, and the state in which it is the next entry. -/
def wCipher : W512 := 0x50 + (4096 <<< 128) + (64 <<< 192)
def wCiph : State := wPar d18_8000 0 0x10000 { wDesk wCipher with cipher := { slots := [(0, { loaded := true, usage := 15 })] } }
/-- Mailbox 0 of tower 0 goes from H0 and firmware to the management agent; its semaphore 5 is held by firmware. -/
def wBox : State := { wRun with dict := { active := ParamSet.putBlob {} d17_0001 0 0 [0x54, 0] } }
def wHeldSem : State := wBox.setBelfry 0 { sems := [(5, { owner := 3, inc := 0 })] }
/-- The event ring of tenant 3 runs, in host memory or in package memory. -/
def wEventsAt (space : Nat) : State := { wRun with
  tenants := [(3, { events := { mode := .running } })]
  dict := { active := ({} : ParamSet).putBlob d20_0020 3 0 (leBytes 8 4096 ++ [6, BitVec.ofNat 8 space, 1]) } }

/-! ### Witnesses -/

/-! StepTakesTheFront -/

theorem test_stepTakesTheFront_1 :
    ({ State.reset with pending := [.packageReset] } : State).pending = [Instr.packageReset] := by decide +kernel

theorem test_stepTakesTheFront_2 :
    State.reset.pending = [] := by decide +kernel

/-! CommandsKeepPartFusesAndQueue -/

theorem test_commandsKeepPartFusesAndQueue_1 :
    (match exec .packageReset wRun with | .next _ => true | _ => false) = true := by decide +kernel

/-! EveryStepKeepsTheTables -/

theorem test_everyStepKeepsTheTables_1 :
    State.reset.canonical = true ∧ wRun.canonical = true := by decide +kernel

/-! SerialOrderAndTags -/

theorem test_serialOrderAndTags_2 :
    (0 : Int) ≤ (5 : Nat) + tagDistance 5 7 := by decide +kernel

theorem test_serialOrderAndTags_4 :
    (3 : Nat) ≤ 2 ^ 31 - 1 := by decide +kernel

/-! RecordEncodings -/

theorem test_recordEncodings_1 :
    ({} : Ctx).paths.length = 64 := by decide +kernel

/-! PackageMemory -/

theorem test_packageMemory_1 :
    Memory.wf wRun.memory.mem = true ∧ twfD {} wRun.memory.extents = true ∧ (wRun.memWrite 4096 [1, 2]).isSome = true := by decide +kernel

theorem test_packageMemory_2 :
    Memory.wf wRun.memory.mem = true ∧ twfD {} wRun.memory.extents = true := by decide +kernel

/-! CountersEventsAndFaults -/

theorem test_countersEventsAndFaults_1 :
    twfD 0 wRun.ro = true := by decide +kernel

theorem test_countersEventsAndFaults_2 :
    (State.reset.tenant 3).events.mode ≠ .running := by decide +kernel

theorem test_countersEventsAndFaults_3 :
    ((wEventsAt 0).tenant 3).events.mode = .running ∧ serialDiff ((wEventsAt 0).tenant 3).events.produced ((wEventsAt 0).tenant 3).events.consumed < 2 ^ ((wEventsAt 0).eventDesc 3).log2 ∧
    ((wEventsAt 0).placeWrite 3 ⟨((wEventsAt 0).eventDesc 3).space, ((wEventsAt 0).eventDesc 3).port, ((wEventsAt 0).eventDesc 3).pasid⟩ ((wEventsAt 0).eventDesc 3).base (List.replicate 32 0)).isSome = true := by decide +kernel

theorem test_countersEventsAndFaults_4 :
    ((wEventsAt 1).tenant 3).events.mode = .running ∧
    serialDiff ((wEventsAt 1).tenant 3).events.produced ((wEventsAt 1).tenant 3).events.consumed < 2 ^ ((wEventsAt 1).eventDesc 3).log2 ∧
    (wEventsAt 1).placeWrite 3 ⟨1, 0, 0⟩ 4096 (List.replicate 32 0) = none ∧ (wEventsAt 1).eventDesc 3 = ⟨4096, 6, 1, 0, true, false, 0⟩ := by decide +kernel

theorem test_countersEventsAndFaults_6 :
    twfD {} wRun.tenants = true := by decide +kernel

/-! PackageResetAndRelease -/

theorem test_packageResetAndRelease_2 :
    State.reset.pkg.phase = .held ∧ flag 3 (0b1010 : BitVec 4) = true := by decide +kernel

theorem test_packageResetAndRelease_3 :
    State.reset.pkg.phase = .held ∧ flag 3 (0b0010 : BitVec 4) = false ∧
    State.reset.checkSlot State.reset.prefersB = 3 ∧ State.reset.checkSlot (!State.reset.prefersB) = 3 := by decide +kernel

theorem test_packageResetAndRelease_4 :
    ({ State.reset with pkg := { phase := .supplyHold } } : State).pkg.phase = .supplyHold := by decide +kernel

theorem test_packageResetAndRelease_5 :
    wRun.timeRuns = true := by decide +kernel

theorem test_packageResetAndRelease_6 :
    wRun.timeRuns = true := by decide +kernel

/-! FunctionsBridgesAndTrip -/

theorem test_functionsBridgesAndTrip_1 :
    ∀ b ∈ ({ State.reset with pkg := { phase := .booting } } : State).pkg.part.bridges, flag b (0x3FF : BitVec 10) = true := by decide +kernel

theorem test_functionsBridgesAndTrip_2 :
    ∃ b ∈ ({ State.reset with pkg := { phase := .booting } } : State).pkg.part.bridges, flag b (0x3FE : BitVec 10) = false := by decide +kernel

theorem test_functionsBridgesAndTrip_3 :
    ({ State.reset with pkg := { phase := .recovery } } : State).pkg.phase = .recovery := by decide +kernel

theorem test_functionsBridgesAndTrip_4 :
    wRun.pkg.phase = .running ∧ 9 ∈ wRun.pkg.part.bridges := by decide +kernel

theorem test_functionsBridgesAndTrip_5 :
    wRun.pkg.phase = .running ∧ 0 ∈ wRun.pkg.part.bridges := by decide +kernel

theorem test_functionsBridgesAndTrip_6_1 :
    0 < wRun.towers ∧ (if true then 840 else 920) ≤ (840 : Int) ∧ wRun.timeRuns = true := by decide +kernel

theorem test_functionsBridgesAndTrip_6_2 :
    0 < wRun.towers ∧ (if false then 840 else 920) ≤ (920 : Int) ∧ wRun.timeRuns = true := by decide +kernel

/-! PowerDomainCommands -/

theorem test_powerDomainCommands_1 :
    pcOp ([0xFF, 0, 0, 0, 0, 0, 0, 0, 1] : Bytes) = 1 ∧ wRun.domainOf (pcCode ([0xFF, 0, 0, 0, 0, 0, 0, 0, 1] : Bytes)) = none := by decide +kernel

theorem test_powerDomainCommands_2_1 :
    pcOp wClose = 1 ∧ wRun.domainOf (pcCode wClose) = some 0 ∧ (wRun.domain 0).mode = .open_ ∧ wRun.domainSpire 0 = false := by decide +kernel

theorem test_powerDomainCommands_2_2 :
    pcOp wClose = 1 ∧ (wDom .closed).domainOf (pcCode wClose) = some 0 ∧ ((wDom .closed).domain 0).mode ≠ .open_ := by decide +kernel

theorem test_powerDomainCommands_3 :
    pcOp ([0xFF, 0, 0, 0, 0, 0, 0, 0, 2] : Bytes) = 2 ∧ wRun.domainOf (pcCode ([0xFF, 0, 0, 0, 0, 0, 0, 0, 2] : Bytes)) = none := by decide +kernel

theorem test_powerDomainCommands_4_1 :
    pcOp wOpen = 2 ∧ (wDom .closing).domainOf (pcCode wOpen) = some 0 ∧ ((wDom .closing).domain 0).mode = .closing := by decide +kernel

theorem test_powerDomainCommands_4_2 :
    pcOp wOpen = 2 ∧ (wDom .closed).domainOf (pcCode wOpen) = some 0 ∧ ((wDom .closed).domain 0).mode = .closed := by decide +kernel

theorem test_powerDomainCommands_4_3 :
    pcOp wOpen = 2 ∧ (wDom .opening).domainOf (pcCode wOpen) = some 0 ∧ ((wDom .opening).domain 0).mode = .opening := by decide +kernel

/-! PowerDomainProgress -/

theorem test_powerDomainProgress_1 :
    ((wDom .closing).domain 0).mode = .closing ∧ (wDom .closing).domainBusy 0 = false := by decide +kernel

theorem test_powerDomainProgress_2 :
    ((wDom .closing).domain 0).mode = .closing ∧
    ((wDom .closing).domain 0).since + ((wDom .closing).domain 0).deadline ≤ (wDom .closing).now := by decide +kernel

theorem test_powerDomainProgress_3 :
    ((wDom .opening).domain 0).mode = .opening ∧ ((wDom .opening).domain 0).since + openTime 0 ≤ (wDom .opening).now := by decide +kernel

theorem test_powerDomainProgress_4 :
    (wDom .open_).timeRuns = true ∧ (wDom .open_).power.lastControl + (wDom .open_).par d20_0071 0 ≤ (wDom .open_).now := by decide +kernel

/-! HostPortsAndFunctions -/

theorem test_hostPortsAndFunctions_1_1 :
    (wPerst.host 0).perst = false ∧ (wPerst.host 0).linkUp = false := by decide +kernel

theorem test_hostPortsAndFunctions_1_2 :
    (wHost.host 0).perst = false ∧ (wHost.host 0).linkUp = true := by decide +kernel

theorem test_hostPortsAndFunctions_2 :
    1 < 2 := by decide +kernel

theorem test_hostPortsAndFunctions_3 :
    (wPerst.host 0).perst = false ∧ (wPerst.host 0).linkUp = false ∧ wPerst.timeRuns = true ∧ wPerst.pkg.pins.test = false := by decide +kernel

theorem test_hostPortsAndFunctions_4 :
    0 < 2 ∧ (wHost.host 0).linkUp = true := by decide +kernel

theorem test_hostPortsAndFunctions_5 :
    ({ wHost with tenants := [(3, { mode := .active })] } : State).tenant 3 ≠ { } ∧
    (({ wHost with tenants := [(3, { mode := .active })] } : State).tenant 3).mode ≠ .disabled := by decide +kernel

theorem test_hostPortsAndFunctions_6 :
    (wHost.host 0).linkUp = true ∧ wHost.pkg.phase = .running ∧ (wHost.host 0).vfEnable = false := by decide +kernel

theorem test_hostPortsAndFunctions_7 :
    1 < 2 := by decide +kernel

/-! TranslationAndWindow -/

theorem test_translationAndWindow_1 :
    ((wAts none).pageWaits 3 0 5).filter (fun w => w.pri.isNone) ≠ [] := by decide +kernel

theorem test_translationAndWindow_2 :
    ((wAts (some 0)).pageWaits 3 0 5).filter (fun w => w.pri.isSome) ≠ [] := by decide +kernel

theorem test_translationAndWindow_4 :
    ∀ x ∈ ({ wHost with ats := [⟨3, 0, 5, true⟩] } : State).ats,
      ({ wHost with ats := [⟨3, 0, 5, true⟩] } : State).pageInUse 3 0 x.page = false := by decide +kernel

theorem test_translationAndWindow_5_1 :
    (wHost.host 0).linkUp = true ∧ wHost.pkg.phase = .running ∧ wHost.regionFor 0 7 0 8 true = none := by decide +kernel

theorem test_translationAndWindow_5_2 :
    (wRegion.host 0).linkUp = true ∧ wRegion.pkg.phase = .running ∧
    (wRegion.regionFor 0 7 8 8 true).map (fun r => (r.tenant, r.addr 8, r.space)) = some (5, 8, 1) := by decide +kernel

theorem test_translationAndWindow_6_1 :
    wHost.regionFor 0 7 0 8 false = none := by decide +kernel

theorem test_translationAndWindow_6_2 :
    (wRegion.host 0).linkUp = true ∧ wRegion.pkg.phase = .running ∧
    (wRegion.regionFor 0 7 8 8 false).map (fun r => (r.tenant, r.addr 8, r.space)) = some (5, 8, 1) := by decide +kernel

/-! AttachPortsAndAperture -/

theorem test_attachPortsAndAperture_1 :
    ((wAttach .training).attachPort 0).mode = .training := by decide +kernel

theorem test_attachPortsAndAperture_2 :
    ((wAttach .fault).attachPort 0).since + (wAttach .fault).par d14_0045 0 ≤ (wAttach .fault).now ∧ (wAttach .fault).attachEnabled 0 = true := by decide +kernel

theorem test_attachPortsAndAperture_3 :
    (wAttach .nativeUp).attachUp 0 = true := by decide +kernel

theorem test_attachPortsAndAperture_4_1 :
    (wAttach .nativeUp).attachUp 0 = true ∧ (8 : Nat) = (if false then ([] : Bytes).length else 8) ∧ 0x20000000000 - 8 + 8 ≤ 0x20000000000 := by decide +kernel

theorem test_attachPortsAndAperture_4_2 :
    0x20000000000 ≤ 0x9FFFFFFFFF8 ∧ 0x9FFFFFFFFF8 + 8 ≤ 0xA0000000000 ∧ 0x9FFFFFFFFF8 / 0x10000000000 = (0x9FFFFFFFFF8 + 8 - 1) / 0x10000000000 := by decide +kernel

theorem test_attachPortsAndAperture_4_3 :
    0xA0000000000 ≤ 0xA0000000000 ∧ (0xA0000000000 : Nat) / 4096 = (0xA0000000000 + 8 - 1) / 4096 := by decide +kernel

theorem test_attachPortsAndAperture_4_4 :
    0x20000000000 < 0x1FFFFFFFFFC + 8 ∧ 0x1FFFFFFFFFC < 0x20000000000 := by decide +kernel

theorem test_attachPortsAndAperture_4_5 :
    0xA0000000000 + 4096 * 2048 < 0xA00007FFFFC + 8 ∧ 0xA0000000000 ≤ 0xA00007FFFFC := by decide +kernel

/-! TimeSymbolsAndAnnouncements -/

theorem test_timeSymbolsAndAnnouncements_1_1 :
    wFab.fabricUp 0 = true ∧ (wFab.timePort 0).nextSync ≤ wFab.now ∧ ((wFab.timePort 0).syncs + 1) % 8 ≠ 0 := by decide +kernel

theorem test_timeSymbolsAndAnnouncements_1_2 :
    ({ wFab with time := { now := 9, ports := [(0, { syncs := 7 })] } } : State).fabricUp 0 = true ∧
    ((({ wFab with time := { now := 9, ports := [(0, { syncs := 7 })] } } : State).timePort 0).syncs + 1) % 8 = 0 := by decide +kernel

theorem test_timeSymbolsAndAnnouncements_2_1 :
    wFab.fabricUp 0 = true ∧ symType (1 : BitVec 192) = 1 ∧ symDomain (1 : BitVec 192) = wFab.par d2_0014 0 := by decide +kernel

theorem test_timeSymbolsAndAnnouncements_2_2 :
    wFab.fabricUp 0 = true ∧ symType (2 : BitVec 192) ≠ 1 := by decide +kernel

theorem test_timeSymbolsAndAnnouncements_3_1 :
    wFab.fabricUp 0 = true ∧ symType (0 : BitVec 192) ≠ 2 := by decide +kernel

theorem test_timeSymbolsAndAnnouncements_3_2 :
    symType (2 : BitVec 192) = 2 ∧ symDomain (2 : BitVec 192) = wFab.par d2_0014 0 ∧ (∀ e ∈ (wFab.timePort 0).pendingSyncs, e.seq ≠ symSeq (2 : BitVec 192)) := by decide +kernel

theorem test_timeSymbolsAndAnnouncements_3_3 :
    (({ wFab with time := { now := 900, ports := [(0, { pendingSyncs := [⟨0, 12, 3⟩] })] } } : State).timePort 0).pendingSyncs.find?
      (fun e => e.seq = symSeq (2 : BitVec 192)) = some ⟨0, 12, 3⟩ := by decide +kernel

theorem test_timeSymbolsAndAnnouncements_4 :
    (({ wFab with time := { ports := [(0, { mean := some 0 })] } } : State).timePort 0).mean = some 0 := by decide +kernel

theorem test_timeSymbolsAndAnnouncements_6_1 :
    wFab.fabricUp 0 = true ∧ symType (1 : BitVec 192) ≠ 3 := by decide +kernel

theorem test_timeSymbolsAndAnnouncements_6_2 :
    symType (3 : BitVec 192) = 3 ∧ symDomain (3 : BitVec 192) = wFab.par d2_0014 0 ∧ (symAnnounce (3 : BitVec 192)).stepsRemoved.toNat < 255 := by decide +kernel

theorem test_timeSymbolsAndAnnouncements_7_1 :
    wFab.fabricUp 0 = true ∧ symType (0 : BitVec 192) = 0 := by decide +kernel

theorem test_timeSymbolsAndAnnouncements_7_2 :
    symDomain (3 : BitVec 192) = wFab.par d2_0014 0 ∧ symType (3 : BitVec 192) = 3 := by decide +kernel

theorem test_timeSymbolsAndAnnouncements_8 :
    (({ wFab with time := { now := 5000000000, ports := [(0, { cand := some ⟨⟨0, 0, 0, 0, 0, 0, 0, 0⟩, 0⟩ })] } } : State).timePort 0).cand ≠ none ∧
    0 + 3 * ({ wFab with time := { now := 5000000000, ports := [(0, { cand := some ⟨⟨0, 0, 0, 0, 0, 0, 0, 0⟩, 0⟩ })] } } : State).announceInterval 0 ≤ 5000000000 := by decide +kernel

/-! FabricTimeProgress -/

theorem test_fabricTimeProgress_1 :
    wFab.flushDoorbells.timeRuns = true := by decide +kernel

theorem test_fabricTimeProgress_2 :
    State.reset.flushDoorbells.timeRuns = false := by decide +kernel

theorem test_fabricTimeProgress_3 :
    (wTime .locked (.port 0)).time.lastAccept + (wTime .locked (.port 0)).par d2_0030 0 * ((wTime .locked (.port 0)).announceInterval 0 / 8) ≤ (wTime .locked (.port 0)).now ∧
    (wTime .locked (.port 0)).otherPort = none := by decide +kernel

theorem test_fabricTimeProgress_4 :
    ({ wTime .holdover .none with time := { mode := .holdover, errorLock := 4000000000 } } : State).time.errorLock > 4 * wRun.par d2_0033 0 := by decide +kernel

theorem test_fabricTimeProgress_5 :
    (wPar d2_0051 0 1 wFab).timeRuns = true ∧ (wPar d2_0051 0 1 wFab).par d2_0051 0 ≠ 0 ∧ (wPar d2_0051 0 1 wFab).now % 1250000000 ≤ 2 := by decide +kernel

theorem test_fabricTimeProgress_6 :
    ({ wFab with time := { now := 5000000000, ppsOut := true } } : State).time.ppsOutRose + wRun.par d2_0052 0 ≤ 5000000000 := by decide +kernel

theorem test_fabricTimeProgress_7_1 :
    (wPar d2_0050 0 2 wFab).timeRuns = true ∧ (wPar d2_0050 0 2 wFab).par d2_0050 0 ≠ 1 := by decide +kernel

theorem test_fabricTimeProgress_7_2 :
    (wPar d2_0050 0 1 wFab).par d2_0050 0 = 1 ∧ (ppsOffset 5000000000).natAbs ≤ 625000000 ∧
    ((wPar d2_0013 0 1 (wPar d2_0050 0 1 wFab)).bestClock.map (fun x => x.2)) = some 0xFD := by decide +kernel

theorem test_fabricTimeProgress_8 :
    (wTime .locked .pps).time.lastAccept + 2500000000 ≤ (wTime .locked .pps).now := by decide +kernel

theorem test_fabricTimeProgress_9 :
    ({ wFab with time := { now := 9, triggers := [⟨9, .mover, 0, 1, 0, 0, true⟩] } } : State).dueTrigger = some ⟨9, .mover, 0, 1, 0, 0, true⟩ := by decide +kernel

/-! PtpMessages -/

theorem test_ptpMessages_1_1 :
    (wPar d2_0025 0 0 wEth).etherUp 0 = true ∧ (wPar d2_0025 0 0 wEth).par d2_0025 0 = 0 := by decide +kernel

theorem test_ptpMessages_1_2 :
    (wPar d2_0025 0 1 wEth).etherUp 0 = true ∧ (wPar d2_0025 0 1 wEth).par d2_0025 0 ≠ 0 ∧ beNat (slice 4 1 (List.replicate 44 0 : Bytes)) = (wPar d2_0025 0 1 wEth).par d2_0014 0 := by decide +kernel

theorem test_ptpMessages_2 :
    (wPar d2_0025 0 1 wEth).etherUp 0 = true ∧ (wPar d2_0025 0 1 wEth).par d2_0025 0 ≠ 0 ∧ ((wPar d2_0025 0 1 wEth).timePort 0).ptpNext ≤ (wPar d2_0025 0 1 wEth).now := by decide +kernel

/-! SpireSendSlots -/

theorem test_spireSendSlots_1 :
    wSlot.sendSlot 0 0 ≠ none ∧ wSlot.instanceDue 0 (wSlot.par d7_0002 0) ≠ none ∧ wSlot.openInstance 0 0 = none ∧ wSlot.spire.instances = [] ∧ wSlot.conn? 0 = none := by decide +kernel

theorem test_spireSendSlots_2 :
    wSlot.sendSlot 0 0 ≠ none ∧
    ({ wSlot with spire := { instances := [{ tower := 0, entry := 0, due := 5000000000, conn := 0 }] } } : State).openInstance 0 0 =
      some { tower := 0, entry := 0, due := 5000000000, conn := 0 } := by decide +kernel

theorem test_spireSendSlots_3 :
    wSlot.sendSlot 0 0 ≠ none ∧ wSlot.instanceDue 0 0 ≠ none ∧ tgetD wSlot.spire.fired (slotKey 0 0) 0 = 0 ∧ wSlot.openInstance 0 0 = none := by decide +kernel

/-! DictionaryReads -/

theorem test_dictionaryReads_1_1 :
    rqOp (wReqBytes 1 3 1 []) = 1 ∧ (wReq 1 3 1 [] wRun).mustWait (wReqBytes 1 3 1 []) = false ∧
    (match (wReq 1 3 1 [] wRun).named (wReqBytes 1 3 1 []) with
     | .ok (p, i) => i = 0 && p.kind ≠ .wo && (wReq 1 3 1 [] wRun).mayRead .fw p i && rqOffset (wReqBytes 1 3 1 []) = 0
     | .error _ => false) = true := by decide +kernel

theorem test_dictionaryReads_1_2 :
    (match (wReq 2 99 1 [] wRun).named (wReqBytes 2 99 1 []) with | .error .unknownParameter => true | _ => false) = true := by decide +kernel

theorem test_dictionaryReads_2 :
    rqOp (wReqBytes 4 3 1 []) = 4 ∧ (wReq 4 3 1 [] wRun).mustWait (wReqBytes 4 3 1 []) = false ∧
    (match (wReq 4 3 1 [] wRun).named (wReqBytes 4 3 1 []) with | .ok (p, i) => (wReq 4 3 1 [] wRun).mayRead .fw p i | .error _ => false) = true := by decide +kernel

theorem test_dictionaryReads_3 :
    rqOp (wReqBytes 5 3 1 []) = 5 ∧ (wReq 5 3 1 [] wRun).mustWait (wReqBytes 5 3 1 []) = false := by decide +kernel

/-! DictionaryWrites -/

theorem test_dictionaryWrites_1_1 :
    rqOp (wReqBytes 3 3 4 [9, 0, 0, 0]) = 3 ∧ (wReq 3 3 4 [9, 0, 0, 0] wRun).mustWait (wReqBytes 3 3 4 [9, 0, 0, 0]) = false := by decide +kernel

theorem test_dictionaryWrites_1_2 :
    (match wRun.named (wReqBytes 3 13 1 [0x98]) with
     | .ok (p, i) => p.kind = .sh && wRun.mayWrite .fw p i && writeLengthOk p 0 1 && wRun.writeValueOk p 0x98
     | .error _ => false) = true := by decide +kernel

theorem test_dictionaryWrites_1_3 :
    (match wRun.named (wReqBytes 3 3 0x10 [7]) with
     | .ok (p, i) => p = d3_0010 && p.kind = .rw && wRun.mayWrite .fw p i
     | .error _ => false) = true := by decide +kernel

theorem test_dictionaryWrites_2 :
    ({ wRun with tenants := [(0, { mode := .active })], hosts := [(0, { perst := false, linkUp := true })] } : State).fnLive 0 = true ∧
    wRun.eventDescOk 0 (List.replicate 8 0 ++ [6, 0, 1] ++ List.replicate 21 0) = true := by decide +kernel

/-! DictionarySetsAndSwap -/

theorem test_dictionarySetsAndSwap_1_1 :
    rqOp (wReqBytes 6 0 0 []) = 6 ∧ (wReq 6 0 0 [] wRun).mustWait (wReqBytes 6 0 0 []) = false ∧ wRun.isAdmin .fw = true ∧
    wRun.validate = none := by decide +kernel

theorem test_dictionarySetsAndSwap_1_2 :
    wRun.isAdmin (.vf 7) = false := by decide +kernel

theorem test_dictionarySetsAndSwap_2 :
    rqOp (wReqBytes 7 0 0 (List.replicate 16 0)) = 7 ∧ (rqValue (wReqBytes 7 0 0 (List.replicate 16 0))).length = 16 ∧
    (wReq 7 0 0 (List.replicate 16 0) wRun).validate = none ∧ (wReq 7 0 0 (List.replicate 16 0) wRun).spireDiffers = false ∧
    routeChange wRun.pkg.part wRun.dict.active wRun.dict.shadow = false ∧ rqFlags (wReqBytes 7 0 0 (List.replicate 16 0)) ≠ 1 := by decide +kernel

theorem test_dictionarySetsAndSwap_3 :
    rqOp (wReqBytes 8 0 0 []) = 8 ∧ (wReq 8 0 0 [] wRun).mustWait (wReqBytes 8 0 0 []) = false ∧ wRun.isAdmin .fw = true := by decide +kernel

theorem test_dictionarySetsAndSwap_4 :
    rqOp (wReqBytes 9 0 0 []) = 9 ∧ (wReq 9 0 0 [] wRun).mustWait (wReqBytes 9 0 0 []) = false ∧ wRun.dict.armed = none := by decide +kernel

theorem test_dictionarySetsAndSwap_5 :
    ({ wRun with dict := { armed := some ⟨0, 7, false⟩ } } : State).tickFails = none ∧
    ({ wRun with dict := { armed := some ⟨0, 7, false⟩ } } : State).dict.armed = some ⟨0, 7, false⟩ := by decide +kernel

theorem test_dictionarySetsAndSwap_6 :
    ({ wRun with dict := { copying := some 3 } } : State).dict.copying ≠ none := by decide +kernel

/-! RequestPathsAndRegisters -/

theorem test_requestPathsAndRegisters_1_1 :
    wRun.pathServed .firmware = true ∧ (wRun.dict.queue.filter (fun q => q.route.path = 5)).length < 64 ∧ requestBad (wReqBytes 1 3 1 []) = false := by decide +kernel

theorem test_requestPathsAndRegisters_1_2 :
    requestBad ([] : Bytes) = true ∧ 64 ≤ (({ wRun with dict := { queue := List.replicate 64 ⟨.firmware, []⟩ } } : State).dict.queue.filter (fun q => q.route.path = 5)).length := by decide +kernel

theorem test_requestPathsAndRegisters_2 :
    ({ wHost with tenants := [(0, { mode := .active })] } : State).mailboxServed 0 = true ∧ (wHost.fn 0).mbox.busy = false := by decide +kernel

theorem test_requestPathsAndRegisters_3 :
    (({ wHost with fns := [(0, { mbox := { answer := some [1] } })] } : State).fn 0).mbox.answer = some [1] := by decide +kernel

theorem test_requestPathsAndRegisters_4_1 :
    wRun.pathServed .mctp = true ∧ leAt 0 2 ([0xC6, 0x1E, 1] : Bytes) = 0x1EC6 ∧ leAt 2 1 ([0xC6, 0x1E, 1] : Bytes) = 1 := by decide +kernel

theorem test_requestPathsAndRegisters_4_2 :
    leAt 2 1 ([0xC6, 0x1E, 2] : Bytes) ≠ 1 := by decide +kernel

theorem test_requestPathsAndRegisters_5 :
    wRun.pathServed .mctp = true := by decide +kernel

theorem test_requestPathsAndRegisters_6 :
    20 ≤ ([0, 0, 0, 0] ++ List.replicate 16 0 : Bytes).length ∧ leAt 0 1 ([0, 0, 0, 0] ++ List.replicate 16 0 : Bytes) < 64 ∧
    wFab.fabricUp 0 = true ∧ leAt 16 2 ([0, 0, 0, 0] ++ List.replicate 16 0 : Bytes) = 20 - 20 := by decide +kernel

theorem test_requestPathsAndRegisters_7 :
    ({ wHost with tenants := [(0, { mode := .active })] } : State).mailboxServed 0 = true ∧ ({ wHost with tenants := [(0, { mode := .active })] } : State).fnLive 0 = true := by decide +kernel

theorem test_requestPathsAndRegisters_8_1 :
    (32 = 32 ∨ 32 = 64) ∧ 64 % (32 / 8) = 0 ∧ flag 1 (2 : W64) = true := by decide +kernel

theorem test_requestPathsAndRegisters_8_2 :
    0 % (64 / 8) = 0 := by decide +kernel

/-! SegmentAndDatagrams -/

theorem test_segmentAndDatagrams_1 :
    wSeg.pkg.phase = .running ∧ wSeg.par d19_0010 0 ≠ 0 ∧
    wSeg.segRequest (beBytes 6 wSeg.segMac ++ beBytes 6 2 ++ [0x86, 0xDD] ++ ipv6 17 255 (linkLocal 2) wSeg.segAddr
      (udp (linkLocal 2) wSeg.segAddr 9 (wSeg.par d19_0012 0) [])) = true := by decide +kernel

theorem test_segmentAndDatagrams_2 :
    wSeg.segRequest [] = false ∧ wSeg.segIcmp [] = none := by decide +kernel

theorem test_segmentAndDatagrams_3 :
    wSeg.mgmt.line = 0 ∧ wSeg.par d19_0010 0 ≠ 0 := by decide +kernel

theorem test_segmentAndDatagrams_4 :
    (wPar d19_0014 0 1 (wPar d19_0013 0 1 wSeg)).par d19_0013 0 ≠ 0 ∧ (wPar d19_0014 0 1 (wPar d19_0013 0 1 wSeg)).par d19_0014 0 ≠ 0 ∧
    (wPar d19_0014 0 1 (wPar d19_0013 0 1 wSeg)).par d19_0010 0 ≠ 0 := by decide +kernel

theorem test_segmentAndDatagrams_5 :
    hdrSrcAdapter (wPkt (mkHdr 0x20 5 0 0 7 0xFFFF 0 0 0 0 0 0)) = 0xFFFF ∧ hdrSrcAdapter (wPkt (mkHdr 0x20 5 0 0 7 8 0 0 0 0 0 0)) ≠ 0xFFFF ∧ (mgmtHeader 0 1 0 12).length = 16 ∧
    wRun.mgmtJudge (mgmtHeader 0 1 0 12) (List.replicate 12 0) none false [] 8 = .noKey ∧ wRun.mgmtJudge (mgmtHeader 0 1 0 12) (List.replicate 12 0) (some []) false [] 8 = .tagFail ∧
    wRun.mgmtJudge (mgmtHeader 0 1 0 12) (List.replicate 12 0) (some []) true [] 8 = .accept ∧ wRun.mgmtJudge (mgmtHeader 0 1 0 12) (List.replicate 12 0) (some []) true [(8, 1)] 8 = .stale 1 ∧
    wRun.mgmtJudge (mgmtHeader 0 1 0 12) (List.replicate 12 0) (some []) true (List.replicate 64 (9, 0)) 8 = .full ∧ wRun.mgmtJudge [] [] none false [] 8 = .bad := by decide +kernel

theorem test_segmentAndDatagrams_6 :
    hdrVc (wPkt (mkHdr 0x20 5 0 0 7 8 0 0 0 0 0 0)) = 5 := by decide +kernel

theorem test_segmentAndDatagrams_7 :
    hdrVc (wPkt (mkHdr 0x20 5 0 0 0xFFFF 8 0 0 0 0 0 0)) = 5 ∧ hdrDstAdapter (wPkt (mkHdr 0x20 5 0 0 0xFFFF 8 0 0 0 0 0 0)) = 0xFFFF := by decide +kernel

theorem test_segmentAndDatagrams_8 :
    hdrVc (wPkt (mkHdr 0x21 5 0 0 7 8 0 0 0 0 0 0)) = 5 ∧ hdrType (wPkt (mkHdr 0x21 5 0 0 7 8 0 0 0 0 0 0)) = 0x21 := by decide +kernel

/-! RingControlPage -/

theorem test_ringControlPage_1 :
    ({ wFn with fns := [(0, { ring := { busy := true } })] } : State).fnLive 0 = true ∧ (({ wFn with fns := [(0, { ring := { busy := true } })] } : State).fn 0).ring.busy = true := by decide +kernel

theorem test_ringControlPage_2_1 :
    wFn.fnLive 0 = true ∧ (wFn.fn 0).ring.busy = false ∧ wFn.imageOk 0 ((wFn.fn 0).ring.ctx.setWidth 512) = true ∧ 1 < wFn.par d4_8000 0 ∧
    wFn.ring? (ringKey 0 1) = none ∧ wFn.ringsOn 0 < 65536 ∧ wFn.ringsOf 0 < wFn.par d4_8000 0 := by decide +kernel

theorem test_ringControlPage_2_2 :
    wFn.imageOk 0 (0 : W512) = false := by decide +kernel

theorem test_ringControlPage_3_1 :
    wFn.fnLive 0 = true ∧ (wFn.fn 0).ring.busy = false ∧ wFn.ring? (ringKey 0 1) = none := by decide +kernel

theorem test_ringControlPage_3_2 :
    (wRing { image := wImage }).fnLive 0 = true ∧ (wRing { image := wImage }).ring? (ringKey 0 1) = some { image := wImage } := by decide +kernel

theorem test_ringControlPage_3_3 :
    (wRing { image := wImage, mode := .stopped }).ring? (ringKey 0 1) = some { image := wImage, mode := .stopped } := by decide +kernel

theorem test_ringControlPage_4 :
    wFn.fnLive 0 = true ∧ ¬ (1 ≤ fieldNat 0 8 (7 : W64) ∧ fieldNat 0 8 (7 : W64) ≤ 6 ∧ fieldNat 28 36 (7 : W64) = 0) := by decide +kernel

theorem test_ringControlPage_5 :
    (wRing { image := wImage, mode := .aborting, abortAt := some 0 }).ring? (ringKey 0 1) = some { image := wImage, mode := .aborting, abortAt := some 0 } ∧
    0 + (wRing { image := wImage, mode := .aborting, abortAt := some 0 }).par d4_0012 0 ≤ (wRing { image := wImage, mode := .aborting, abortAt := some 0 }).now := by decide +kernel

/-! RingDoorbells -/

theorem test_ringDoorbells_1 :
    wFn.doorbellGranted 0 (.attach 0) = false := by decide +kernel

theorem test_ringDoorbells_2_1 :
    (wRing { image := wImage }).doorbellGranted 0 (.host 0) = true ∧ (wRing { image := wImage }).fnLive 0 = true ∧ fieldNat 32 20 (0x100000003 : W64) = 1 ∧
    fieldNat 52 12 (0x100000003 : W64) = 0 ∧ serialDiff (field 0 32 (0x100000003 : W64)) (0 : W32) ≤ ({ image := wImage } : Ring).size := by decide +kernel

theorem test_ringDoorbells_2_2 :
    ({ image := wImage } : Ring).size < serialDiff (field 0 32 (0x100000011 : W64)) (0 : W32) := by decide +kernel

theorem test_ringDoorbells_3 :
    (wRing { image := wNotify, tail := 5 }).doorbellGranted 0 (.host 0) = true ∧
    (wRing { image := wNotify, tail := 5 }).ring? (ringKey 0 1) = some { image := wNotify, tail := 5 } ∧
    serialDiff (field 0 32 (0x100000005 : W64)) (0 : W32) ≤ serialDiff (5 : W32) 0 := by decide +kernel

theorem test_ringDoorbells_4 :
    wFn.doorbellGranted 0 (.host 0) = true ∧ wFn.fnLive 0 = true ∧ fieldNat 32 20 (0xFFFFF00000000 : W64) = 0xFFFFF ∧ fieldNat 52 12 (0xFFFFF00000000 : W64) = 0 := by decide +kernel

/-! RingFetching -/

theorem test_ringFetching_1 :
    (wRing { image := wImage, tail := 1 }).tenantFetches 0 = true ∧
    ((wRing { image := wImage, tail := 1 }).resumeRing (ringKey 0 1)).ring? (ringKey 0 1) = some { image := wImage, tail := 1 } ∧
    ({ image := wImage, tail := 1 } : Ring).pendingFetch = true ∧
    ((((wRing { image := wImage, tail := 1 }).resumeRing (ringKey 0 1)).fetchRound (ringKey 0 1) { image := wImage, tail := 1 }).ring? (ringKey 0 1)).map (·.fetchCredit) = some 1 := by decide +kernel

theorem test_ringFetching_2 :
    (wRing { image := wImage, tail := 1, fetchNext := 1, fetches := [(0, 1)] }).ring? (ringKey 0 1) = some { image := wImage, tail := 1, fetchNext := 1, fetches := [(0, 1)] } ∧
    ((wRing { image := wImage }).placeRead 0 ({ image := wImage } : Ring).place 0 64 (.data (List.replicate 64 0))) ≠ none := by decide +kernel

theorem test_ringFetching_3 :
    (wRing { image := wImage, tail := 1, refetch := some ⟨0, 0, 9, 0, 0⟩ }).ring? (ringKey 0 1) = some { image := wImage, tail := 1, refetch := some ⟨0, 0, 9, 0, 0⟩ } ∧
    0 < (wRing { image := wImage }).par d4_0010 0 ∧ 0 + (wRing { image := wImage }).par d4_0011 0 * (0 + 1) ≤ (wRing { image := wImage }).now := by decide +kernel

theorem test_ringFetching_4 :
    ((wRing { image := wImage, tail := 1, refetch := some ⟨0, 0, 9, 1, 0⟩ }).placeRead 0 ({ image := wImage } : Ring).place 0 64 (.data (List.replicate 64 0))) ≠ none ∧
    entStamp (w512OfBytes (List.replicate 64 0)) = field 0 16 (0 : W32) := by decide +kernel

/-! RingChainsAndRecords -/

theorem test_ringChainsAndRecords_1 :
    (wRing { image := wImage, tail := 1, head := 1, chains := [wChain] }).ring? (ringKey 0 1) = some { image := wImage, tail := 1, head := 1, chains := [wChain] } ∧
    ({ image := wImage, tail := 1, head := 1, chains := [wChain] } : Ring).nextChain = some wChain ∧
    (wRing { image := wImage, tail := 1, head := 1, chains := [wChain] }).chainMayStart 0 { image := wImage, tail := 1, head := 1, chains := [wChain] } wChain = true ∧
    (wRing { image := wImage, tail := 1, head := 1, chains := [wChain] }).chainBad 0 wChain = none ∧
    (wRing { image := wImage, tail := 1, head := 1, chains := [wChain] }).requestsOf 0 0 < (wRing { image := wImage }).par d15_8001 0 ∧
    (wRing { image := wImage, tail := 1, head := 1, chains := [wChain] }).moversFit 0 wChain = true := by decide +kernel

theorem test_ringChainsAndRecords_2 :
    (wRing { image := wImage, tail := 1, head := 1, chains := [{ wChain with decided := some 3 }] }).ring? (ringKey 0 1) =
      some { image := wImage, tail := 1, head := 1, chains := [{ wChain with decided := some 3 }] } ∧
    ((wRing { image := wImage }).tenant 0).mode ≠ .resetting := by decide +kernel

theorem test_ringChainsAndRecords_3 :
    (wRing { image := wImage, mirrorSince := some 3 }).ring? (ringKey 0 1) = some { image := wImage, mirrorSince := some 3 } := by decide +kernel

theorem test_ringChainsAndRecords_4 :
    (wRing { image := { wImage with evtTime := 5, evtMode := 1 }, firstUncovered := some 3 }).ring? (ringKey 0 1) =
      some { image := { wImage with evtTime := 5, evtMode := 1 }, firstUncovered := some 3 } := by decide +kernel

/-! RealmControlPage -/

theorem test_realmControlPage_1 :
    ({ wFn with fns := [(0, { realm := { busy := true } })] } : State).fnLive 0 = true ∧ (({ wFn with fns := [(0, { realm := { busy := true } })] } : State).fn 0).realm.busy = true := by decide +kernel

theorem test_realmControlPage_2_1 :
    wFn.fnLive 0 = true ∧ (wFn.fn 0).realm.busy = false ∧ wFn.realmFieldsOk 0 ((wFn.fn 0).realm.ctx.setWidth 512) = true ∧
    wFn.realmsHeld 0 < wFn.par d12_8004 0 ∧ wFn.nextRealm = some 0 := by decide +kernel

theorem test_realmControlPage_2_2 :
    wFn.realmFieldsOk 0 (3 <<< 16 : W512) = false := by decide +kernel

theorem test_realmControlPage_3_1 :
    wFn.fnLive 0 = true ∧ (wFn.fn 0).realm.busy = false ∧ wFn.realm? 7 = none := by decide +kernel

theorem test_realmControlPage_3_2 :
    ({ wFn with realms := { realms := [(7, { mode := .valid, tenant := 1 })] } } : State).realm? 7 = some { mode := .valid, tenant := 1 } ∧
    ({ wFn with realms := { realms := [(7, { mode := .changing })] } } : State).realm? 7 = some { mode := .changing } ∧
    ({ wFn with realms := { realms := [(7, { mode := .valid })] } } : State).realm? 7 = some { mode := .valid } ∧
    (Realm.ofWord ((wFn.fn 0).realm.ctx.setWidth 512)).space = 0 := by decide +kernel

theorem test_realmControlPage_4 :
    ({ wFn with realms := { realms := [(7, { mode := .changing })] } } : State).realm? 7 = some { mode := .changing } ∧
    ({ wFn with realms := { realms := [(7, { mode := .changing })] } } : State).realmBusy 7 = false := by decide +kernel

/-! ConnectionControlPage -/

theorem test_connectionControlPage_1 :
    ({ wFn with fns := [(0, { conn := { busy := true } })] } : State).fnLive 0 = true ∧ (({ wFn with fns := [(0, { conn := { busy := true } })] } : State).fn 0).conn.busy = true := by decide +kernel

theorem test_connectionControlPage_2 :
    ({ wFn with pkg := { wFn.pkg with part := .zf2 } } : State).towers ≤ connTower 16777215 ∧ wFn.fnLive 0 = true ∧ (wFn.fn 0).conn.busy = false ∧ wFn.ownsConn 0 5 = false ∧ connTower 5 < wFn.towers := by decide +kernel

theorem test_connectionControlPage_3_1 :
    wCn.fnLive 0 = true ∧ (wCn.fn 0).conn.busy = false ∧ connTower 5 < wCn.towers ∧ wCn.ownsConn 0 5 = true ∧ wCn.conn? 5 = none ∧
    createFieldsOk (Core.ofWord ((wCn.fn 0).conn.ctx.setWidth 704)) (wCn.fn 0).conn.ctx = true ∧
    wCn.handleUsable 0 (Core.ofWord ((wCn.fn 0).conn.ctx.setWidth 704)).handle.toNat = true ∧ wCn.cachedCount 0 < 16384 ∧
    wCn.rootOk 0 (Core.ofWord ((wCn.fn 0).conn.ctx.setWidth 704)) = true := by decide +kernel

theorem test_connectionControlPage_3_2 :
    (wConn { core := { mode := .quarantine } }).conn? 5 = some { ctx := { core := { mode := .quarantine } } } ∧
    (wConn { core := { mode := .ready } }).conn? 5 = some { ctx := { core := { mode := .ready } } } := by decide +kernel

theorem test_connectionControlPage_4 :
    (wConn { core := { mode := .ready } }).fnLive 0 = true ∧ ((wConn { core := { mode := .ready } }).fn 0).conn.busy = false ∧
    connTower 5 < wCn.towers ∧ (wConn { core := { mode := .ready } }).ownsConn 0 5 = true ∧
    (wConn { core := { mode := .ready } }).conn? 5 = some { ctx := { core := { mode := .ready } } } ∧
    (Core.ofWord ((wCn.fn 0).conn.ctx.setWidth 704)).txWindow = 1 ∧ wCn.handleUsable 0 0 = true ∧ wFn.handleUsable 0 0 = false := by decide +kernel

theorem test_connectionControlPage_5 :
    wFn.fnLive 0 = true ∧ (wFn.fn 0).conn.busy = false ∧ fieldNat 0 8 (0 : W64) = 0 := by decide +kernel

/-! ConnectionProgress -/

theorem test_connectionProgress_1 :
    (wConn { core := { mode := .quarantine } }).conn? 5 = some { ctx := { core := { mode := .quarantine } } } ∧
    ({ ctx := { core := { mode := .draining } }, drainAt := some 3 } : Conn).outstanding = 0 := by decide +kernel

theorem test_connectionProgress_2 :
    ({ wFn with conns := [(5, { cache := .evicting false })] } : State).conn? 5 = some { cache := .evicting false } ∧
    ({ wFn with conns := [(5, { cache := .evicting true })] } : State).conn? 5 = some { cache := .evicting true } := by decide +kernel

theorem test_connectionProgress_3 :
    wCn.fnLive 0 = true ∧ (wCn.fn 0).conn.busy = false ∧ (wCn.handle 0).valid = 1 ∧ (wCn.handle 0).tenant.toNat = 0 ∧ (wCn.handle 1).valid ≠ 1 ∧
    wCn.handlesHeld 0 < wCn.par d5_8001 0 ∧ handleReservedZero 0 = true ∧ (Handle.ofWord 0).valid = 0 := by decide +kernel

/-! RemoteEntries -/

theorem test_remoteEntries_1 :
    wFn.readyEntry 0 1 0x41 = none := by decide +kernel

theorem test_remoteEntries_2 :
    wEnt.readyEntry 0 1 1 = some (⟨ringKey 0 1, 0, 0⟩, 1) ∧ wEnt.connUse 0 0 = .go ∧
    wEnt.conn? 0 = some { ctx := { core := { mode := .ready } }, cache := .cached } ∧
    wEnt.checkNeeds 0 (remoteNeeds 1 1) = .ok [] ∧ wEnt.needsShut (remoteNeeds 1 1) [] = false ∧ (wEnt.tenant 0).mode ≠ .resetting := by decide +kernel

theorem test_remoteEntries_3 :
    (wOne 0x341).readyEntry 0 1 0x41 = some (⟨ringKey 0 1, 0, 0⟩, 0x341) := by decide +kernel

theorem test_remoteEntries_4 :
    (wOne 0x340).readyEntry 0 1 0x40 = some (⟨ringKey 0 1, 0, 0⟩, 0x340) ∧ (wOne 0x340).firstChain ⟨ringKey 0 1, 0, 0⟩ = true := by decide +kernel

/-! PacketArrival -/

theorem test_packetArrival_1_1 :
    PacketArrives (wRx (wHdr 1 0)) wRecv (wAt 1) ∧ hdrType (wHdr 1 0) = 1 ∧ hdrDst (wHdr 1 0) = 5 ∧
    (wAt 1).conn? 5 = some { ctx := { core := { mode := .ready } }, cache := .cached } ∧
    hdrSrcAdapter (wHdr 1 0) = ((wAt 1).handle 0).peerAdapter.toNat ∧ (wAt 1).conn? 6 = none := by decide +kernel

theorem test_packetArrival_1_2 :
    reservedOk { wHdr 1 0 with ext := 1 <<< 60 } = false ∧ (wRecv.trace 0 0 2048 (bytesOf 24 (wHdr 1 0).hdr)).tagExpired (wHdr 1 0) = false := by decide +kernel

/-! DataPackets -/

theorem test_dataPackets_1 :
    PacketArrives (wRx (wHdr 1 0)) wRecv (wAt 1) ∧ AtConnection (wRx (wHdr 1 0)) (wAt 1) { ctx := { core := { mode := .ready } }, cache := .cached } ∧
    ({ ctx := { core := { mode := .ready } } } : Conn).window 0 < 4096 ∧ ({ ctx := { core := { mode := .ready } } } : Conn).received 0 = false ∧
    ((wAt 1).police 5 (wRx (wHdr 1 0))).2 = true := by decide +kernel

theorem test_dataPackets_2_1 :
    PacketArrives (wRx (wHdr 6 0)) wRecv (wAt 6) ∧ AtConnection (wRx (wHdr 6 0)) (wAt 6) { ctx := { core := { mode := .ready } }, cache := .cached } ∧
    ((wAt 6).police 5 (wRx (wHdr 6 0))).2 = true ∧ ((wAt 6).openPacket 5 {} (wHdr 6 0) false) = .bad true := by decide +kernel

theorem test_dataPackets_2_2 :
    (({ wRecv with realms := { realms := [(7, { mode := .valid, perms := 0x3F })] } } : State).requestCheck 5 {} (wRx { wHdr 1 0 with ext := BitVec.ofNat 448 7 <<< 128 })).toOption = some { mode := .valid, perms := 0x3F } := by decide +kernel

theorem test_dataPackets_3 :
    wRecv.conn? 5 = some { ctx := { core := { mode := .ready } }, cache := .cached } ∧ wRecv.cupola.input.getLast? = none ∧
    wRecv.notifyRing {} = none ∧ hdrType (wHdr 1 0) = 1 ∧ hdrType (wHdr 2 0) = 2 ∧ hdrType (wHdr 4 0) = 4 ∧ hdrType (wHdr 5 0) = 5 := by decide +kernel

/-! ControlPackets -/

theorem test_controlPackets_1 :
    PacketArrives (wRx (wHdr 0x10 0)) wRecv (wAt 0x10) ∧
    AtConnection (wRx (wHdr 0x10 0)) (wAt 0x10) { ctx := { core := { mode := .ready } }, cache := .cached } ∧ (wAt 0x10).openPacket 5 {} (wHdr 0x10 0) false = .bad true ∧
    reservedOk (wHdr 0x10 0) = true ∧ shapeOk (wHdr 0x10 0) = true := by decide +kernel

theorem test_controlPackets_2 :
    wRecv.conn? 5 = some { ctx := { core := { mode := .ready } }, cache := .cached } ∧
    ({ ctx := { core := { mode := .ready } } } : Conn).ackTooFar 0 = false ∧ ({ ctx := { core := { mode := .ready } } } : Conn).ackTooFar 1 = true := by decide +kernel

/-! ReceiverProgress -/

theorem test_receiverProgress_1 :
    ({ wCn with conns := [(5, { cache := .fetching })] } : State).conn? 5 = some { cache := .fetching } ∧
    ({ wCn with conns := [(5, { cache := .fetching })] } : State).fetchedCtx 5 { cache := .fetching } (.data (List.replicate 2048 0)) = some {} ∧
    ({ wCn with conns := [(5, { cache := .fetching })] } : State).backing 5 0 = none := by decide +kernel

theorem test_receiverProgress_2 :
    ({ wRecv with conns := [(5, { cache := .cached, rx := [{ msn := 0, kind := .read, got := [(0, 0)], lastPos := some 0, length := 8 }] })] } : State).conn? 5 =
      some { cache := .cached, rx := [{ msn := 0, kind := .read, got := [(0, 0)], lastPos := some 0, length := 8 }] } ∧
    ({ msn := 0, kind := .read, got := [(0, 0)], lastPos := some 0, length := 8 } : RxMsg).complete = true := by decide +kernel

theorem test_receiverProgress_3 :
    ({ wRecv with conns := [(5, { rx := [{ msn := 0, kind := .write }] })] } : State).conn? 5 = some { rx := [{ msn := 0, kind := .write }] } ∧ Status.busError.code = 10 := by decide +kernel

theorem test_receiverProgress_4 :
    ({ wRecv with conns := [(5, { rx := [{ msn := 0, kind := .flush, got := [(0, 0)], lastPos := some 0 }], ownReadbacks := [(3, none)] })] } : State).conn? 5 =
      some { rx := [{ msn := 0, kind := .flush, got := [(0, 0)], lastPos := some 0 }], ownReadbacks := [(3, none)] } ∧
    ({ msn := 0, kind := .flush, got := [(0, 0)], lastPos := some 0 } : RxMsg).complete = true ∧
    ({ msn := 0, kind := .write, got := [(0, 0)], lastPos := some 0, bytes := 1, place := ⟨0, 0, 0⟩ } : RxMsg).needsRead = true := by decide +kernel

theorem test_receiverProgress_5 :
    (wRing { image := wNotify, reserved := [(5, 3, 9)] }).now ≥ 1250000009 ∧
    ({ wRecv with conns := [(5, { cache := .cached, ackSince := some 3 })] } : State).conn? 5 = some { cache := .cached, ackSince := some 3 } := by decide +kernel

/-! SenderTimers -/

theorem test_senderTimers_1 :
    (wTx { psn := 0, msn := 0, kind := .write, index := 0, len := 8, laterAck := some 3 }).conn? 5 = some (wTxConn { psn := 0, msn := 0, kind := .write, index := 0, len := 8, laterAck := some 3 }) ∧
    (wTxConn { psn := 0, msn := 0, kind := .write, index := 0, len := 8, laterAck := some 3 }).pkt? 0 = some { psn := 0, msn := 0, kind := .write, index := 0, len := 8, laterAck := some 3 } ∧
    (wTx { psn := 0, msn := 0, kind := .write, index := 0, len := 8, laterAck := some 3 }).isLost 5 (wTxConn { psn := 0, msn := 0, kind := .write, index := 0, len := 8, laterAck := some 3 })
      { psn := 0, msn := 0, kind := .write, index := 0, len := 8, laterAck := some 3 } = true := by decide +kernel

theorem test_senderTimers_2 :
    (wTx { psn := 0, msn := 0, kind := .write, index := 0, len := 8 }).rtoExpired 5 (wTxConn { psn := 0, msn := 0, kind := .write, index := 0, len := 8 }) = true ∧
    ((wTx { psn := 0, msn := 0, kind := .write, index := 0, len := 8 }).halveRate 5).noPath (wTxConn { psn := 0, msn := 0, kind := .write, index := 0, len := 8 }) = true := by decide +kernel

theorem test_senderTimers_3 :
    (wTx { psn := 0, msn := 0, kind := .write, index := 0, len := 8, notBefore := 3 }).conn? 5 = some (wTxConn { psn := 0, msn := 0, kind := .write, index := 0, len := 8, notBefore := 3 }) ∧
    (wTxConn { psn := 0, msn := 0, kind := .write, index := 0, len := 8, notBefore := 3 }).pkt? 0 = some { psn := 0, msn := 0, kind := .write, index := 0, len := 8, notBefore := 3 } ∧
    (wTxConn { psn := 0, msn := 0, kind := .write, index := 0, len := 8, notBefore := 3 }).hold = some (4, 0) ∧
    (wTx { psn := 0, msn := 0, kind := .write, index := 0, len := 8 }).queryDue 5 { querySince := some 3 } = true := by decide +kernel

/-! EgressWork -/

theorem test_egressWork_1 :
    ((wDome).nextCommit 0).map (·.1) = some 5 ∧ ((wDome.nextCommit 0).bind (fun e => (e.2.nextWork wDome.now).bind (Work.msg? e.2))).isSome = true := by decide +kernel

theorem test_egressWork_2 :
    (wTx { psn := 0, msn := 0, kind := .write, index := 0, len := 8 }).conn? 5 = some (wTxConn { psn := 0, msn := 0, kind := .write, index := 0, len := 8 }) ∧
    ((wTxConn { psn := 0, msn := 0, kind := .write, index := 0, len := 8 }).msg? 0 false).isSome = true := by decide +kernel

theorem test_egressWork_3_1 :
    0 < wEth.nports ∧ wEth.carries 0 = true ∧ (wEth.port 0).busyUntil ≤ wEth.now ∧ ((wEth.markWaits 0).tagHeads 0).choice 0 = none := by decide +kernel

theorem test_egressWork_3_2 :
    (({ wFab with ports := [(0, { mode := .up, modeCode := 0x20, vc6 := [wItem] })] } : State).markWaits 0).tagHeads 0 |>.choice 0 |>.map (fun e => (e.1, e.2.2.length)) |> (· = some (6, 1)) := by decide +kernel

theorem test_egressWork_4 :
    (wPar d8_0051 0 1 { wFab with time := { now := 0 } }).par d8_0051 0 = 1 ∧ (wPar d8_0051 0 1 { wFab with time := { now := 0 } }).now % (wPar d8_0051 0 1 { wFab with time := { now := 0 } }).par d8_0050 0 = 0 := by decide +kernel

/-! ForwardingAndCredits -/

theorem test_forwardingAndCredits_1 :
    wTransit.tagExpired (wHdr 1 0) = false ∧ State.routeTables 0 (hdrGen (wHdr 1 0)) wTransit = (wTransit, some wTransit.dict.active) ∧
    wTransit.isMine (wHdr 1 0) = false ∧ wTransit.hasId = true ∧ wTransit.par d9_0000 0 ≠ 0 ∧
    wTransit.dict.active.fwdChoice 7 (hdrPath (wHdr 1 0)) = some ⟨0, false, false, 0⟩ ∧ hdrHops (wHdr 1 0) < wTransit.par d9_0003 0 ∧ wTransit.carries 0 = true := by decide +kernel

theorem test_forwardingAndCredits_2 :
    wFab.fabricUp 0 = true ∧ (wFab.port 0).creditSent + wFab.par d9_0022 0 ≤ wFab.now ∧ leAt 0 1 [4] = 4 ∧ (wFab.port 0).mode = .up ∧ wFab.par d9_0004 0 < wFab.now ∧
    ({ vc5 := [{ wItem with ingress := some (0, 5, 0) }] } : Port).transitQueue 5 = [{ wItem with ingress := some (0, 5, 0) }] := by decide +kernel

theorem test_forwardingAndCredits_3 :
    wRecv.tagExpired (wHdr 0x22 0) = false ∧ hdrDstAdapter (wHdr 0x22 0) ≠ 0xFFFF ∧ wRecv.isMine (wHdr 0x22 0) = true ∧
    (wRecv.openDatagram { wHdr 0x22 0 with payload := mgmtHeader 0 0 0 16 ++ List.replicate 16 0, trailer := datagramTag wRecv.fabricKey (wHdr 0x22 0).hdr (mgmtHeader 0 0 0 16 ++ List.replicate 16 0) }).toOption.isSome = true := by decide +kernel

theorem test_forwardingAndCredits_4 :
    tget (7 * 64 + 1) [(7 * 64 + 1, 3)] = some 3 ∧ wFab.fwd.lastChange + wFab.par d9_0002 0 ≤ wFab.now := by decide +kernel

/-! PackageMemoryWork -/

theorem test_packageMemoryWork_1 :
    ({ wRun with memory := { extents := [(3, { zeroing := true })] } } : State).extent 3 = { zeroing := true } ∧
    (extentDomains 3).any (fun d => (wRun.domain d).mode = .closed) = false ∧ skipClean [] 0 0 = 0 := by decide +kernel

theorem test_packageMemoryWork_2_1 :
    (wRing { image := wImage, fetches := [(0, 1)] }).requestPlace (.fetch 0 1 0) = some (0, ⟨0, 0, 0⟩, 0) ∧ (wRing { image := wImage }).requestPlace (.fetch 0 1 0) = none := by decide +kernel

theorem test_packageMemoryWork_2_2 :
    (match failRequest (.fetch 0 1 0) (wRing { image := wImage, fetches := [(0, 1)] }) with | .next _ => true | _ => false) = true := by decide +kernel

theorem test_packageMemoryWork_3 :
    extentAbsent wRun.towers 3 = false ∧ wRun.blockPending (3 * 1073741824) = false ∧ extentReserved 3 = false ∧ extentReserved 95 = true ∧ extentAbsent wRun.towers 95 = false := by decide +kernel

theorem test_packageMemoryWork_4 :
    0 < wFab.towers ∧ (wFab.domain (domTower 0)).mode ≠ .closed ∧ 40000000 ≤ wFab.now ∧ wFab.par d12_0010 0 ≠ 0 ∧
    ({ wFab with time := { now := 10 * wFab.par d12_0010 0 } } : State).now / wFab.par d12_0010 0 * wFab.par d12_0010 0 ≠ 0 := by decide +kernel

/-! LinkBringUp -/

theorem test_linkBringUp_1 :
    (wLink .detect).portEnabled 0 = true ∧ (wLink .detect).portHeld 0 = false ∧ ((wLink .detect).port 0).mode = .detect ∧
    ((wLink .detect).setPort 0 { (wLink .detect).port 0 with laneFaults := 0 }).noModePasses 0 0 = false ∧
    ((wLink .detect).setPort 0 { (wLink .detect).port 0 with laneFaults := 255 }).noModePasses 0 255 = true ∧ (wLink .detect).par d13_0004 0 ≠ 2 ∧
    ((256 : BitVec 16) &&& 0x1FF).getLsbD 8 = true := by decide +kernel

theorem test_linkBringUp_2 :
    ((wLink .negotiate).port 0).mode = .negotiate ∧ (wLink .negotiate).ownFabric 0 = true ∧
    ((wLink .negotiate).ownModes 0).find? (fun c => (0 : BitVec 8).getLsbD c) = none ∧ (((wLink .negotiate).ownModes 0).find? (fun c => (0xFF : BitVec 8).getLsbD c)).isSome = true := by decide +kernel

theorem test_linkBringUp_3 :
    ({ wRun with ports := [(0, { mode := .train, modeCode := 0x10, linkWidth := 8, advertised := true })] } : State).port 0 = { mode := .train, modeCode := 0x10, linkWidth := 8, advertised := true } ∧
    passingWidth 8 0 = 8 ∧ passingWidth 8 255 = 0 ∧ passingWidth 8 1 = 4 := by decide +kernel

theorem test_linkBringUp_4 :
    ((wLink .negotiate).port 0).mode = .negotiate ∧ 0 + (wLink .negotiate).par d13_0022 0 ≤ (wLink .negotiate).now ∧
    ((wLink .train).port 0).mode = .train ∧ ((wLink .up).port 0).mode = .up ∧ ((wLink .fault).port 0).mode = .fault ∧ 0 + (wLink .fault).par d13_0024 0 ≤ (wLink .fault).now := by decide +kernel

/-! LinkOperationAndFrames -/

theorem test_linkOperationAndFrames_1 :
    wFab.fabricUp 0 = true ∧ (wFab.port 0).statusSent + wFab.par d13_0020 0 ≤ wFab.now ∧ leAt 0 1 [3, 0, 7, 0, 0, 2, 4, 0] = 3 ∧ natField 1 1 (leAt 5 1 [3, 0, 7, 0, 0, 2, 4, 0]) = 1 ∧
    natField 3 1 (leAt 5 1 [3, 0, 7, 0, 0, 8, 4, 0]) = 1 := by decide +kernel

theorem test_linkOperationAndFrames_2_1 :
    0 < wFab.nports ∧ (wFab.port 0).shed.period < wFab.now / wFab.par d13_0031 0 := by decide +kernel

theorem test_linkOperationAndFrames_2_2 :
    ({ wFab with ports := [(0, { mode := .up, modeCode := 0x10, active := 8, shed := { switch := some (4, 3) } })] } : State).fabricUp 0 = true ∧
    ({ wFab with ports := [(0, { mode := .up, modeCode := 0x10, active := 8, shed := { switch := some (4, 3) } })] } : State).hasWindow 0 = false := by decide +kernel

theorem test_linkOperationAndFrames_3 :
    (wPar d13_0030 0 0 { wFab with ports := [(0, { mode := .up, modeCode := 0x10, active := 4, trained := 8 })] }).fabricUp 0 = true ∧
    (wPar d13_0030 0 0 { wFab with ports := [(0, { mode := .up, modeCode := 0x10, active := 4, trained := 8 })] }).wantsRestore 0 = true ∧
    ({ wFab with ports := [(0, { mode := .up, modeCode := 0x10, active := 4, trained := 8, shed := { restoring := true } })] } : State).fabricUp 0 = true := by decide +kernel

theorem test_linkOperationAndFrames_4 :
    wEth.etherUp 0 = true ∧ (wPar d13_0040 0 1 wEth).par d13_0040 0 = 1 ∧ (wPar d13_0040 0 1 wEth).etherUp 0 = true ∧ (wPar d13_0040 0 2 wEth).par d13_0040 0 = 2 := by decide +kernel

theorem test_linkOperationAndFrames_5 :
    (wPar d13_0040 0 2 wEth).etherUp 0 = true ∧ (wPar d13_0040 0 2 wEth).flowVcs 0 3 = [3] ∧ (wPar d13_0042 0 40000 wEth).par d13_0042 0 ≤ (wPar d13_0042 0 40000 wEth).ingressFree 0 3 ∧
    (wPar d13_0041 0 100 { wEth with ports := [(0, { mode := .up, modeCode := 0x20, ingress := [(3, 100000000)] })] }).ingressFree 0 3 <
      (wPar d13_0041 0 100 { wEth with ports := [(0, { mode := .up, modeCode := 0x20, ingress := [(3, 100000000)] })] }).par d13_0041 0 := by decide +kernel

theorem test_linkOperationAndFrames_6 :
    wEth.etherUp 0 = true ∧ frameType (List.replicate 12 0 ++ [0x86, 0xDD]) = 0x86DD ∧ frameType (List.replicate 12 0 ++ [0x86, 0xDD]) ≠ wEth.par d6_0001 0 ∧
    frameUdp (frameBody (List.replicate 12 0 ++ [0x86, 0xDD])) = none := by decide +kernel

/-! TenantResetAndQuiesce -/

theorem test_tenantResetAndQuiesce_1 :
    ((wRun.setTenant 3 { mode := .active }).tenant 3).mode = .active ∧ ((wRun.setTenant 3 { mode := .active }).tenant 3).reset = none ∧ (wRun.setTenant 3 { mode := .active }).par d15_0010 3 ≠ 1 ∧
    (wPar d15_0010 3 1 (wRun.setTenant 3 { mode := .active })).par d15_0010 3 = 1 ∧ ((wPar d15_0010 3 1 (wRun.setTenant 3 { mode := .active })).tenant 3).mode = .active := by decide +kernel

theorem test_tenantResetAndQuiesce_2 :
    ((wRun.setTenant 3 { mode := .resetting, reset := some { squash := true, since := 0 } }).tenant 3).reset = some { squash := true, since := 0 } ∧
    ((wRun.setTenant 3 { mode := .resetting, reset := some { squash := false, since := 0 } }).tenant 3).reset = some { squash := false, since := 0 } ∧
    (wRun.tenant 3).reset = none ∧ (wRun.tenant 3).mode ≠ .active ∧ (wRun.tenant 3).mode ≠ .frozen := by decide +kernel

theorem test_tenantResetAndQuiesce_3 :
    let s : State := { wPar d15_0011 3 0 wRecv with tenants := [(3, { mode := .resetting, reset := some { squash := false, since := 0 } })], miss := [⟨0, 3, 0, wRx (wHdr 1 0)⟩] }
    (s.tenant 3).reset = some { squash := false, since := 0 } ∧ s.now = 0 ∧ s.drainWork 3 = true ∧ s.par d15_0011 3 = 0 := by decide +kernel

theorem test_tenantResetAndQuiesce_4 :
    ((wRun.setTenant 3 { mode := .resetting, reset := some { squash := false, since := 0 } }).tenant 3).reset = some { squash := false, since := 0 } ∧
    (wRun.setTenant 3 { mode := .resetting, reset := some { squash := false, since := 0 } }).drainWork 3 = false ∧ tenantPf 3 ≠ 3 ∧ tenantPf 0 = 0 ∧
    ((((wRun.setTenant 3 { mode := .resetting, reset := some { squash := false, since := 0 } }).freeTenant 3).tenant 3).reset).isSome = true := by decide +kernel

theorem test_tenantResetAndQuiesce_5 :
    (wRun.tenant 3).reset = none := by decide +kernel

theorem test_tenantResetAndQuiesce_6 :
    twfD {} wRun.tenants = true ∧ (wRun.tenant 3).quiesceAt = none ∧ ((wRun.setTenant 3 { quiesceAt := some 5 }).tenant 3).quiesceAt.isSome = true ∧ (wRun.setTenant 3 { quiesceAt := some 5 }).startedWork 3 = false := by decide +kernel

theorem test_tenantResetAndQuiesce_7 :
    let s : State := wPar d15_8022 0 0 { wRing { image := wImage, chains := [{ wChain with started := true }] } with tenants := [(0, { mode := .active, quiesceAt := some 4 })] }
    (s.tenant 0).reset = none ∧ s.par d15_8022 0 = 0 ∧ 4 ≤ s.now ∧ s.startedWork 0 = true ∧ (s.tenant 0).mig.mode ≠ .freezing ∧ (s.tenant 0).quiesceAt = some 4 := by decide +kernel

theorem test_tenantResetAndQuiesce_8 :
    wRun.startedWork 3 = false := by decide +kernel

/-! MigrationFreezeAndSave -/

theorem test_migrationFreezeAndSave_1 :
    (wCn.tenant 0).mig.mode = .none ∧ (wCn.tenant 0).mode = .active ∧ (wCn.tenantConns 0).any (fun e => e.2.ctx.core.cls = 1 && e.2.ctx.core.mode ≠ .quarantine) = false ∧
    ((wConn { core := { cls := 1, mode := .ready } }).tenantConns 0).any (fun e => e.2.ctx.core.cls = 1 && e.2.ctx.core.mode ≠ .quarantine) = true ∧ (wRun.tenant 0).mode ≠ .active := by decide +kernel

theorem test_migrationFreezeAndSave_2 :
    let s : State := { wConn { core := { mode := .frozen } } with tenants := [(0, { mode := .frozen, mig := { mode := .freezing } })] }
    (s.tenant 0).mig.mode = .freezing ∧ s.engineIdle 0 = true ∧ (∀ e ∈ s.tenantConns 0, e.2.ctx.core.mode = .frozen ∧ e.2.freezeAt = none) ∧ (wRun.tenant 0).mig.mode ≠ .freezing ∧
    ∃ e ∈ (wConn { core := { mode := .ready } }).tenantConns 0, e.2.ctx.core.mode = .ready := by decide +kernel

theorem test_migrationFreezeAndSave_3_1 :
    let s : State := { wRun with tenants := [(0, { mode := .frozen, mig := { mode := .frozen } })] }
    (s.tenant 0).mig.mode = .frozen ∧ s.slotUsable (s.par d15_8031 0) 3 = false ∧ (wRun.tenant 0).mig.mode ≠ .frozen ∧ (wRun.tenant 0).mig.mode ≠ .saved := by decide +kernel

theorem test_migSave_saves :
    (wSave 80 .frozen).slotUsable ((wSave 80 .frozen).par d15_8031 0) 3 = true ∧ ((wSave 80 .frozen).migRecords 0).foldl (fun a r => a + r.length) 0 = 0 ∧
    (wSave 80 .frozen).tenantMem (tenantPf 0) ((wSave 80 .frozen).par d15_8034 0) ((wSave 80 .frozen).par d15_8035 0) = true ∧ (wSave 80 .frozen).par d15_8035 0 = 80 ∧
    (wSave 79 .frozen).par d15_8035 0 < 80 ∧ (wSave 79 .frozen).slotUsable ((wSave 79 .frozen).par d15_8031 0) 3 = true := by decide +kernel

theorem test_migrationFreezeAndSave_4 :
    (wSave 80 .saving).now / 65536 = 0 ∧ ((wSave 80 .saving).tenant 0).mig.saveAt = 0 ∧ ((wSave 80 .saving).tenant 0).mig.mode = .saving ∧
    (((wSave 80 .saving).setTenant 0 { (wSave 80 .saving).tenant 0 with mig := { ((wSave 80 .saving).tenant 0).mig with bytes := 80 } }).placeWrite (tenantPf 0) ⟨1, 0, 0⟩ 0 (List.replicate 80 0)).isSome = true := by decide +kernel

/-! MigrationRestoreAndResume -/

theorem test_migrationRestoreAndResume_1 :
    (wFn.tenant 0).mig.mode = .none ∧ (wFn.tenant 0).mode = .active ∧ wFn.tenantEmpty 0 = true ∧ (match wFn.openBlob 0 with | .error n => n | .ok _ => 0) = 3 ∧
    (wRun.tenant 0).mode ≠ .active ∧ (match wFn.placeRecords 0 0 [] with | .ok _ => true | .error _ => false) = true ∧
    (match wFn.placeRecords 0 0 [(6, 4095, [])] with | .ok _ => 0 | .error e => e) = 9 := by decide +kernel

theorem test_migrationRestoreAndResume_2 :
    ((wRun.setTenant 3 { mig := { mode := .restoring, failure := some 9 } }).tenant 3).mig.mode = .restoring ∧ ((wRun.setTenant 3 { mig := { mode := .restoring, failure := some 9 } }).tenant 3).mig.failure = some 9 ∧
    ((wRun.setTenant 3 { mig := { mode := .restoring } }).tenant 3).mig.mode = .restoring ∧ ((wRun.setTenant 3 { mig := { mode := .restoring } }).tenant 3).mig.failure = none ∧ (wRun.tenant 3).mig.mode ≠ .restoring := by decide +kernel

theorem test_migrationRestoreAndResume_3 :
    (wRun.tenant 3).mig.mode = .none ∧ ((wRun.setTenant 3 { mig := { mode := .restored } }).tenant 3).mig.mode = .restored ∧ ((wRun.setTenant 3 { mig := { mode := .saved } }).tenant 3).mig.mode = .saved := by decide +kernel

theorem test_migrationRestoreAndResume_4 :
    ((wRun.setTenant 3 { mig := { rebindLeft := 2 } }).tenant 3).mig.rebindLeft ≠ 0 ∧ ((wRun.setTenant 3 { mig := { rebindLeft := 2 } }).tenant 3).mig.rebindAt ≤ wRun.now ∧ (wRun.tenant 3).mig.rebindLeft = 0 := by decide +kernel

theorem test_migrationRestoreAndResume_5_1 :
    let p : Bytes := mgmtHeader 0 0 0 48 ++ List.replicate 48 0
    leAt 0 2 (p.take 16) = 0x4D5A ∧ leAt 2 1 (p.take 16) = 1 ∧ leAt 12 2 (p.take 16) = 48 ∧ (p.drop 16).length = 48 ∧ wRun.handles = [] ∧ leAt 0 2 (([] : Bytes).take 16) ≠ 0x4D5A := by decide +kernel

theorem test_pathRebindRx_verified :
    wRebind.rebinds (wRebind.handle 0) wRebindBody ((wRebind.rebindTag (wRebind.par d5_8003 0) wRebindBody).getD []) = true := by decide +kernel

/-! CollectiveSteps -/

theorem test_collectiveSteps_1 :
    (wRun.readyEntry 0 1 0x20).isNone = true ∧ ((wOne wStep).readyEntry 0 1 0x20).isSome = true ∧ stAction wStep = 1 ∧ (wOne wStep).entryExpired ⟨ringKey 0 1, 0, 0⟩ = false ∧ (wOne wStep).handleDesc? 0 0 = none ∧
    (wReduce.readyEntry 0 1 0x20).isSome = true ∧ (wReduce.handleDesc? 0 0).isSome = true ∧ wReduce.par d10_8000 0 ≠ 0 ∧ (match wReduce.checkNeeds 0 (stepNeeds ((wReduce.handleDesc? 0 0).getD []) wStep) with | .ok _ => true | _ => false) = true ∧
    wReduce.domShut (domCupola 0) = false ∧ wReduce.boundHandle 0 = false := by decide +kernel

theorem test_collectiveSteps_2 :
    (({ wRun with cupola := { works := [{ (mkWork ⟨0, 0, 0⟩ 0 (List.replicate 64 0) wStep none) with phase := .arrived }] } } : State).cupola.works.find? (fun w => w.tower = 0 && w.phase = .arrived)).isSome = true ∧ wRun.cupola.works = [] := by decide +kernel

theorem test_collectiveSteps_3 :
    (wDue 2).stepSlot .reduce 0 0 ≠ none ∧ ((wDue 2).stepSlot .reduce 0 0).any (fun x => ((wDue 2).takeInstance 0 0 x).isSome) = true ∧ wRun.stepSlot .reduce 0 0 = none := by decide +kernel

/-! CupolaBays -/

theorem test_cupolaBays_1 :
    wHeld.cupola.input.filter (AccHold.isAccum 0) ≠ [] ∧ (∀ h ∈ wHeld.cupola.input.filter (AccHold.isAccum 0), wHeld.staleHold h = false) ∧ (∀ g ∈ wHeld.cupola.input.filter (AccHold.isAccum 0), g.blocks.all (wHeld.bayReady 0) = false) ∧
    ((wHeld.setBays 0 [{ block := 0, phase := .resident, gen := 0 }]).cupola.input.filter (AccHold.isAccum 0)).any (fun h => h.blocks.all ((wHeld.setBays 0 [{ block := 0, phase := .resident, gen := 0 }]).bayReady 0)) = true ∧
    wRun.cupola.input = [] := by decide +kernel

theorem test_cupolaBays_2 :
    ((wRun.setBays 0 [{ block := 16384, phase := .loading, gen := 0 }]).baysOf 0).find? (fun b => b.block = 16384 && b.phase = .loading) = some { block := 16384, phase := .loading, gen := 0 } ∧
    ((wRun.setBays 0 [{ block := 16384, phase := .loading, gen := 0 }]).extent 0).bindGen = 0 ∧
    ((wRun.setBays 0 [{ block := 16384, phase := .loading, gen := 1 }]).extent 0).bindGen ≠ 1 ∧
    ({ wRun with cupola := { writing := [(0, 0)] } } : State).cupola.writing.contains (0, 0) = true := by decide +kernel

/-! Quantize -/

theorem test_quantize_1 :
    wQuant.readyEntry 0 1 0x21 = some (⟨ringKey 0 1, 0, 0⟩, wQuantWord) ∧ wQuant.par d10_8000 0 ≠ 0 ∧ (match wQuant.checkNeeds 0 (quantizeNeeds wQuantWord) with | .ok _ => true | _ => false) = true ∧
    wQuant.domShut (domCupola 0) = false ∧ (wQuant.placeRead 0 ⟨1, 0, 0⟩ 0 (entLength wQuantWord) (.data [])).isSome = true ∧ wRun.readyEntry 0 1 0x21 = none := by decide +kernel

theorem test_quantize_2 :
    qzErrEn ((1 : W512) <<< 472) = true ∧ (wSave 0 .none).memRead 0 0 = some [] := by decide +kernel

/-! ExpertDispatch -/

theorem test_expertDispatch_1 :
    (wDesk wTokens).readyEntry 0 1 0x30 = some (⟨ringKey 0 1, 0, 0⟩, wTokens) ∧ dpMode wTokens = 0 ∧ edValid (wExpert.expertDesc 0) = true ∧ edValid ((wDesk wTokens).expertDesc 0) = false ∧
    wExpert.readyEntry 0 1 0x30 = some (⟨ringKey 0 1, 0, 0⟩, wTokens) ∧ (match wExpert.checkNeeds 0 (dispatchNeeds wTokens) with | .ok _ => true | _ => false) = true ∧ wExpert.specRefused 0 ⟨ringKey 0 1, 0, 0⟩ wTokens = none ∧
    (wExpert.placeRead 0 ⟨1, 0, 0⟩ (entRemote wTokens) 8 (.data [])).isSome = true := by decide +kernel

theorem test_expertDispatch_2 :
    wRun.readyEntry 0 1 0x30 = none := by decide +kernel

theorem test_expertDispatch_3 :
    wStage.readyEntry 0 1 0x30 = some (⟨ringKey 0 1, 0, 0⟩, wWeights) ∧ dpMode wWeights = 1 ∧ edValid (wStage.expertDesc 0) = true ∧ wsValid (wStage.stageDesc 0 0) = true ∧ entLength wWeights ≤ wsSize (wStage.stageDesc 0 0) ∧
    (match wStage.checkNeeds 0 [⟨0, 0, 0, 64⟩, ⟨0, 1, 0, 64⟩, ⟨0, 1, 4096, 16⟩] with | .ok _ => true | _ => false) = true ∧ wStage.specRefused 0 ⟨ringKey 0 1, 0, 0⟩ wWeights = none := by decide +kernel

/-! ExpertSpeculation -/

theorem test_expertSpeculation_1 :
    (wDisp none).experts.dispatches.find? (fun d => d.ref = ⟨1, 0, 0⟩) = some wDispatch ∧ wDispatch.spec = none ∧ wRun.experts.dispatches = [] ∧
    (wDisp none).experts.dispatches.any (fun d => ((wDisp none).publishAll d.ref d []).2.headers = []) = true := by decide +kernel

theorem test_expertSpeculation_2 :
    ((wOne 0x33).readyEntry 0 1 0x33).isSome = true ∧ (wOne 0x33).specDue 0 0 = false ∧ (wOne 0x33).experts.cancelled = [] ∧ ({ wDisp (some 0) with time := { now := 8, triggers := [wDeadline] } } : State).specDue 0 0 = true := by decide +kernel

theorem test_expertSpeculation_3 :
    ((wOne 0x32).readyEntry 0 1 0x32).isSome = true ∧ ((wOne 0x32).expireSpec 0 0).experts.prefetches = [] ∧ ((wOne 0x32).expireSpec 0 0).experts.cancelled.contains (0, 0) = false ∧
    wConfirm.readyEntry 0 1 0x32 = some (⟨ringKey 0 1, 0, 0⟩, 0x32) ∧ ((wConfirm.expireSpec 0 0).experts.dispatches.find? (fun d => d.tenant = 0 && d.spec = some 0 && d.phase = .open_)).isSome = true := by decide +kernel

theorem test_expertSpeculation_4 :
    (wFreed 0).experts.freed.any (fun f => f.tenant = 0 && f.expert = 0 && f.share = 0) = true ∧ ((wFreed 0).tableRead 0 0 64).isSome = true ∧ wRun.experts.freed = [] := by decide +kernel

/-! CombineAndReadBacks -/

theorem test_combineAndReadBacks_1 :
    wComb.readyEntry 0 1 0x31 = some (⟨ringKey 0 1, 0, 0⟩, wCombWord) ∧ (wComb.handleDesc? 0 0).isSome = true ∧ edValid (wComb.expertDesc 0) = true ∧ cbFirst wCombWord + dpTokens wCombWord * cbHidden wCombWord ≤ 256 ∧
    (match wComb.checkNeeds 0 [⟨0, 0, 0, 8⟩, ⟨0, 0, 0, 8⟩, ⟨0, 1, 0, 4096⟩] with | .ok _ => true | _ => false) = true ∧ (wComb.placeRead 0 ⟨1, 0, 0⟩ 0 8 (.data [])).isSome = true ∧ wRun.readyEntry 0 1 0x31 = none := by decide +kernel

theorem test_combineAndReadBacks_2 :
    wRun.experts.combines = [] ∧ (({ wRun with cupola := { input := [{ source := .resp 5 0 0 0, tower := 0, tenant := 0, addr := 0, fmt := 1, op := 0, payload := List.replicate 64 0, len := 64 }] } } : State).cupola.input.filter (AccHold.isCombine 0)).length = 1 ∧
    ({ wRun with experts := { combines := [{ ref := ⟨1, 0, 0⟩, tenant := 0, handle := 0, desc := List.replicate 64 0, first := 0, count := 0 }] } } : State).experts.combines.any
      (fun k => extentTower (extentOf (hdBase k.desc)) = 0 && k.reads.isEmpty && k.rows = 0) = true := by decide +kernel

theorem test_combineAndReadBacks_3 :
    (wOne 0x10).ownerOpcode ⟨1, 0, 0⟩ ≠ 0x40 ∧ ({ wOne 0x10 with localReads := [{ ref := ⟨1, 0, 0⟩, left := 1 }] } : State).ownerOpcode ⟨1, 0, 0⟩ ≠ 0x40 ∧
    (({ wOne 0x10 with localReads := [{ ref := ⟨1, 0, 0⟩, left := 1 }] } : State).localReadDone ⟨1, 0, 0⟩ true).2.isSome = true ∧ (({ wOne 0x10 with localReads := [{ ref := ⟨1, 0, 0⟩, left := 2 }] } : State).localReadDone ⟨1, 0, 0⟩ true).2 = none := by decide +kernel

/-! MoverQueue -/

theorem test_moverQueue_1 :
    (wChanD wMove).readyEntry 0 1 0x10 = some (⟨ringKey 0 1, 0, 0⟩, wMove) ∧ (wChanD wMove).ownsChan 0 0 0 = true ∧ mvAfter wMove = false ∧ ((wChanD wMove).chan 0 0).queue = [] ∧
    (match (wChanD wMove).checkNeeds 0 (moveNeeds wMove) with | .ok _ => true | _ => false) = true ∧ (wDesk wMove).ownsChan 0 0 0 = false ∧ wRun.readyEntry 0 1 0x10 = none ∧
    (wChanD (wMove + 1)).readyEntry 0 1 0x11 = some (⟨ringKey 0 1, 0, 0⟩, wMove + 1) := by decide +kernel

theorem test_moverQueue_2 :
    (wRun.chan 0 0).queue = [] ∧ ((wQueue {}).chan 0 0).queue = [wDesc] ∧ wDesc.phase = .queued ∧ wDesc.expired = false ∧ (wQueue {}).afterReached 0 wDesc.word = true ∧ (wQueue {}).triggerWaits wDesc = false ∧ (wQueue {}).boundChan 0 0 = false ∧
    entLength wDesc.word ≠ 0 ∧ (match (wQueue {}).checkNeeds 0 (moveNeeds wDesc.word) with | .ok rs => !(wQueue {}).needsShut (moveNeeds wDesc.word) rs | _ => false) = true ∧ (wQueue {}).domShut (domTower 0) = false := by decide +kernel

theorem test_moverQueue_3 :
    ((wDue 3).stepSlot .move 0 0).any (fun x => ((wDue 3).takeInstance 0 0 x).isSome) = true ∧ wRun.stepSlot .move 0 0 = none ∧ ((wQueue {}).chan 0 0).release.isSome = true := by decide +kernel

theorem test_moverQueue_4 :
    tgetD ({ wQueue {} with spire := { lateSteps := [(1048576, [7])] } } : State).spire.lateSteps 1048576 [] = [7] ∧ ((wQueue {}).chan 0 0).waiter = some wDesc ∧ tgetD wRun.spire.lateSteps 0 [] = [] ∧
    ({ wRun with cupola := { works := [{ (mkWork ⟨0, 0, 0⟩ 0 (List.replicate 64 0) wStep none) with phase := .slot }] } } : State).boundSteps 0 ≠ [] := by decide +kernel

/-! MoverBursts -/

theorem test_moverBursts_1 :
    wRun.nextTurn 0 = none ∧ tgetD wRun.movers.busy 0 0 ≤ wRun.now ∧ (wQueue { phase := some .running }).nextTurn 0 = some (0, 0) ∧ mvFill wMove = false ∧ ((wQueue { phase := some .running }).tenant 0).mode ≠ .resetting ∧
    (match (wQueue { phase := some .running }).checkNeeds 0 (moveNeeds wMove) with | .ok _ => true | _ => false) = true ∧ ((wQueue { phase := some .running }).chan 0 0).queue.length = 1 := by decide +kernel

theorem test_moverBursts_2 :
    ((wQueue { phase := some .running, bursts := [(0, 64)] }).chan 0 0).queue.any (fun d => (d.bursts.find? (fun b => b.1 = 0)).isSome && ((wQueue {}).burstData d 0 64 (.data [])).isSome) = true ∧ (wRun.chan 0 0).queue = [] ∧
    ((wQueue {}).placeWrite 0 ⟨1, 0, 0⟩ 4096 (List.replicate 64 0)).isSome = true ∧ wDesc.overlaps = false := by decide +kernel

theorem test_moverBursts_3 :
    ((wQueue { phase := some .running, half := 1 }).chan 0 0).queue.any (fun d => d.half = 1) = true ∧ ((wQueue { phase := some .running, lastRead := true }).chan 0 0).queue.any (fun d => d.phase = .running && d.bursts.isEmpty && d.half ≠ 1 && d.failed.isNone && d.lastRead) = true ∧
    (wRun.chan 0 0).queue = [] := by decide +kernel

/-! RootKeysAndCipher -/

theorem test_rootKeysAndCipher_1 :
    leAt 2 1 wKeyRec = 1 ∧ keyRecordBad wKeyRec = false ∧ wSlots.ownsSlot 0 0 = true ∧ leAt 3 1 wKeyRec % 2 = 0 ∧ (wSlots.loadedKey wKeyRec).isSome = true ∧ leAt 2 1 wKeyErase = 2 ∧ keyRecordBad wKeyErase = false ∧ wSlots.slotReferenced 0 = false ∧
    keyRecordBad [] = true ∧ wRun.ownsSlot 0 0 = false := by decide +kernel

theorem test_rootKeysAndCipher_2 :
    leAt 2 1 ([] : Bytes) ≠ 1 ∧ leAt 2 1 ([] : Bytes) ≠ 2 := by decide +kernel

theorem test_rootKeysAndCipher_3 :
    (wPar d18_0040 0 4294967296 wRun).par d18_0040 0 = 4294967296 ∧ wRun.now = 0 ∧ wRun.par d18_0040 0 < 4294967296 ∧ wRun.conns = [] := by decide +kernel

theorem test_rootKeysAndCipher_4 :
    wCiph.readyEntry 0 1 0x50 = some (⟨ringKey 0 1, 0, 0⟩, wCipher) ∧ ciMode wCipher = 0 ∧ wCiph.ownsSlot 0 0 = true ∧ wCiph.slotUsable 0 1 = true ∧ ciMore wCipher = false ∧ ciInLen wCipher ≠ 0 ∧
    (match wCiph.checkNeeds 0 [⟨0, 0, 0, ciInLen wCipher⟩, ⟨0, 1, 4096, ciOutLen wCipher⟩] with | .ok _ => true | _ => false) = true ∧ (wCiph.placeRead 0 ⟨1, 0, 0⟩ 0 (ciInLen wCipher) (.data [])).isSome = true ∧
    wRun.readyEntry 0 1 0x50 = none ∧ wRun.ownsSlot 0 0 = false := by decide +kernel

theorem test_rootKeysAndCipher_5 :
    ciMode (1 <<< 288) = 1 ∧ ciMore (1 <<< 288) = false := by decide +kernel

/-! BelfryAccesses -/

theorem test_belfryAccesses_1 :
    wBox.belfryOpen 0 3 = true ∧ boxReceiver (wBox.boxConfig 0 0) = 4 ∧ boxSender (wBox.boxConfig 0 0) 3 = true ∧ (wBox.mailbox 0 0).full = false ∧ wBox.receiverResetting 4 = false ∧ boxSender (wBox.boxConfig 0 0) 4 = false ∧ masterPf 3 = none ∧ masterPf 1 = some 0 ∧
    ((wBox.setMailbox 0 0 { full := true }).mailbox 0 0).full = true ∧ wBox.belfryOpen 9 3 = false ∧ ({ wBox with tenants := [(0, { mode := .resetting })] } : State).receiverResetting 1 = true := by decide +kernel

theorem test_belfryAccesses_2 :
    wBox.belfryOpen 0 4 = true ∧ boxReceiver (wBox.boxConfig 0 0) = 4 ∧ (wBox.mailbox 0 0).full = false ∧ ((wBox.setMailbox 0 0 { full := true, stale := true }).mailbox 0 0).stale = true ∧ (wBox.setMailbox 0 0 { full := true, stale := true }).belfryOpen 0 4 = true := by decide +kernel

theorem test_belfryAccesses_3 :
    ((wBox.setMailbox 0 0 { mode := .taken }).mailbox 0 0).mode = .taken ∧ (wBox.setMailbox 0 0 { mode := .taken }).belfryOpen 0 4 = true ∧ boxReceiver (wBox.boxConfig 0 0) ≠ 3 ∧ flag 22 (1 <<< 22 : W64) = true := by decide +kernel

theorem test_belfryAccesses_4 :
    wBox.belfryOpen 0 3 = true ∧ wBox.belfryOpen 9 3 = false ∧ (wBox.belfryAt 0).pend = 0 := by decide +kernel

theorem test_belfryAccesses_5 :
    wBox.belfryOpen 0 3 = true ∧ (tgetD (wBox.belfryAt 0).sems 5 {}).owner = 0 ∧ (tgetD ((wBox.setBelfry 0 { sems := [(5, { owner := 3, inc := 0 })] }).belfryAt 0).sems 5 {}).owner = 3 := by decide +kernel

/-! MailIsTakenAndSemaphoreReleased -/

theorem test_mailIsTakenAndSemaphoreReleased_1 :
    (wBox.setMailbox 0 0 { full := true, data := 77 }).belfryOpen 0 4 = true ∧ boxReceiver ((wBox.setMailbox 0 0 { full := true, data := 77 }).boxConfig 0 0) = 4 ∧ twfD {} (wBox.setMailbox 0 0 { full := true, data := 77 }).belfry = true ∧
    twfD {} ((wBox.setMailbox 0 0 { full := true, data := 77 }).belfryAt 0).boxes = true ∧ ((wBox.setMailbox 0 0 { full := true, data := 77 }).mailbox 0 0).full = true := by decide +kernel

theorem test_mailIsTakenAndSemaphoreReleased_2 :
    wBox.belfryOpen 0 4 = true ∧ boxReceiver (wBox.boxConfig 0 0) = 4 ∧ (wBox.mailbox 0 0).full = false := by decide +kernel

theorem test_mailIsTakenAndSemaphoreReleased_3 :
    wHeldSem.belfryOpen 0 3 = true ∧ twfD {} wHeldSem.belfry = true ∧ twfD {} (wHeldSem.belfryAt 0).sems = true ∧ (tgetD (wHeldSem.belfryAt 0).sems 5 {}).owner = 3 := by decide +kernel

theorem test_mailIsTakenAndSemaphoreReleased_4 :
    wHeldSem.belfryOpen 0 4 = true ∧ (tgetD (wHeldSem.belfryAt 0).sems 5 {}).owner ≠ 4 := by decide +kernel

/-! FirmwareAndSpdm -/

theorem test_firmwareAndSpdm_1 :
    wRun.firmwareServes = true ∧ wRun.mgmt.fwStatus ≠ 1 ∧ State.reset.firmwareServes = false ∧ (wRun.fwStart 2).mgmt.fwStatus = 1 := by decide +kernel

theorem test_firmwareAndSpdm_2 :
    wRun.firmwareServes = true ∧ wRun.mgmt.fwStatus ≠ 1 ∧ wRun.mgmt.verified = false ∧ ({ wRun with mgmt := { verified := true } } : State).mgmt.verified = true ∧ wRun.mgmt.bootStatus = 0 := by decide +kernel

theorem test_firmwareAndSpdm_3 :
    wRun.firmwareServes = true ∧ wRun.mgmt.fwStatus ≠ 1 ∧ leAt 0 8 (List.replicate 9 0) + 1 ≤ slotSize := by decide +kernel

theorem test_firmwareAndSpdm_4 :
    wFn.spdmServed 0 = true ∧ spdmKind [0x13, 0x84] = .version ∧ spdmKind [0x13, 0xE1] = .capabilities ∧ spdmKind [] = .other ∧ spdmKind ([0x13, 0xFE, 0, 0, 3, 0, 2, 0xC6, 0x1E, 1, 0, 2]) = .log ∧
    spdmKind ([0x13, 0xFE, 0, 0, 3, 0, 2, 0xC6, 0x1E, 1, 0, 3]) = .identity ∧ spdmKind ([0x13, 0xFE, 0, 0, 3, 0, 2, 0xC6, 0x1E, 33, 0, 1] ++ List.replicate 32 0) = .quote ∧ State.reset.spdmServed 0 = false := by decide +kernel

theorem test_firmwareAndSpdm_5 :
    wFn.spdmServed 0 = true ∧ spdmKind ([0x13, 0xFE, 0, 0, 3, 0, 2, 0xC6, 0x1E, 33, 0, 1] ++ List.replicate 32 0) = .quote := by decide +kernel

theorem test_firmwareAndSpdm_6 :
    wFn.spdmServed 0 = true ∧ spdmKind [0x13, 0x86] = .chunk ∧ (wFn.spdmOf 0).response = [] ∧ spdmKind [0x13, 0x85] = .chunk := by decide +kernel

end
end

/-! SUPPORT and PROOFS. What every command keeps, from the lemma of each command's meaning (Sys2Proof/Laws/Kept*.lean), and the
statements of the scope chapter that rest on it. -/
namespace Sys2Proof.Machine

/-! ### Every command answers a state that is kept -/

/-- From a kept state every command answers a kept state: one arm per command, by the lemma about that command's meaning. -/
theorem exec_kept {a s : State} (c : Instr) (h : a.Kept s) : a.Answers (exec c s) := by
  cases c with dsimp only [exec]
  | packageReset => exact execPackageReset_kept h
  | packageResetRelease => exact execPackageResetRelease_kept h
  | supplyFault => exact execSupplyFault_kept h
  | supplyRestored => exact execSupplyRestored_kept h
  | functionsEnable => exact execFunctionsEnable_kept h
  | bridgeFatal => exact execBridgeFatal_kept h
  | thermalTrip => exact execThermalTrip_kept h
  | jtagTrst => exact execJtagTrst_kept h
  | perstAssert => exact execPerstAssert_kept h
  | perstDeassert => exact execPerstDeassert_kept h
  | hostLinkTrained => exact execHostLinkTrained_kept h
  | hostLinkDown => exact execHostLinkDown_kept h
  | flr => exact execFlr_kept h
  | vfEnableSet => exact execVfEnableSet_kept h
  | vfEnableClear => exact execVfEnableClear_kept h
  | d3hotEntry => exact execD3hotEntry_kept h
  | timeClockTick => exact execTimeClockTick_kept h
  | syncSend => exact execSyncSend_kept h
  | syncRx => exact execSyncRx_kept h
  | echoRx => exact execEchoRx_kept h
  | syncAbandon => exact execSyncAbandon_kept h
  | announceRx => exact execAnnounceRx_kept h
  | announceWithdraw => exact execAnnounceWithdraw_kept h
  | ptpMessageRx => exact execPtpMessageRx_kept h
  | ptpSyncSend => exact execPtpSyncSend_kept h
  | referenceLost => exact execReferenceLost_kept h
  | holdoverExpire => exact execHoldoverExpire_kept h
  | ppsOutEdge => exact execPpsOutEdge_kept h
  | ppsOutFall => exact execPpsOutFall_kept h
  | ppsInEdge => exact execPpsInEdge_kept h
  | ppsReferenceLost => exact execPpsReferenceLost_kept h
  | triggerFire => exact execTriggerFire_kept h
  | dictRequestQueue => exact execDictRequestQueue_kept h
  | dictRead => exact execDictRead_kept h
  | dictReadShadow => exact execDictReadShadow_kept h
  | dictWrite => exact execDictWrite_kept h
  | dictDescribe => exact execDictDescribe_kept h
  | dictEnumerate => exact execDictEnumerate_kept h
  | dictValidate => exact execDictValidate_kept h
  | dictArmSwap => exact execDictArmSwap_kept h
  | dictCancelSwap => exact execDictCancelSwap_kept h
  | dictDiscardShadow => exact execDictDiscardShadow_kept h
  | swap => exact execSwap_kept h
  | shadowCopyDone => exact execShadowCopyDone_kept h
  | ringCreate => exact execRingCreate_kept h
  | ringShutdown => exact execRingShutdown_kept h
  | ringAbort => exact execRingAbort_kept h
  | ringResume => exact execRingResume_kept h
  | ringDestroy => exact execRingDestroy_kept h
  | ringQuery => exact execRingQuery_kept h
  | ringCmdUnknown => exact execRingCmdUnknown_kept h
  | abortDeadline => exact execAbortDeadline_kept h
  | doorbell => exact execDoorbell_kept h
  | notifyConsumeDoorbell => exact execNotifyConsumeDoorbell_kept h
  | eventRingConsumeDoorbell => exact execEventRingConsumeDoorbell_kept h
  | fetchIssue => exact execFetchIssue_kept h
  | fetchReturn => exact execFetchReturn_kept h
  | refetchIssue => exact execRefetchIssue_kept h
  | refetchReturn => exact execRefetchReturn_kept h
  | chainStart => exact execChainStart_kept h
  | completionWrite => exact execCompletionWrite_kept h
  | mirrorWrite => exact execMirrorWrite_kept h
  | ringEventTimer => exact execRingEventTimer_kept h
  | nop => exact execNop_kept h
  | write => exact execWrite_kept h
  | writeImm => exact execWriteImm_kept h
  | read => exact execRead_kept h
  | accum => exact execAccum_kept h
  | fenceFlush => exact execFenceFlush_kept h
  | connCreate => exact execConnCreate_kept h
  | connBind => exact execConnBind_kept h
  | connModify => exact execConnModify_kept h
  | connFreeze => exact execConnFreeze_kept h
  | freezeComplete => exact execFreezeComplete_kept h
  | connThaw => exact execConnThaw_kept h
  | connDestroy => exact execConnDestroy_kept h
  | drainExit => exact execDrainExit_kept h
  | quarantineEnd => exact execQuarantineEnd_kept h
  | connQuery => exact execConnQuery_kept h
  | handleWrite => exact execHandleWrite_kept h
  | handleRead => exact execHandleRead_kept h
  | connFlush => exact execConnFlush_kept h
  | connCmdUnknown => exact execConnCmdUnknown_kept h
  | evictionStart => exact execEvictionStart_kept h
  | evictionRelease => exact execEvictionRelease_kept h
  | contextInstall => exact execContextInstall_kept h
  | pathRebindRx => exact execPathRebindRx_kept h
  | realmCreate => exact execRealmCreate_kept h
  | realmModify => exact execRealmModify_kept h
  | realmRevoke => exact execRealmRevoke_kept h
  | realmDestroy => exact execRealmDestroy_kept h
  | realmQuery => exact execRealmQuery_kept h
  | realmCmdUnknown => exact execRealmCmdUnknown_kept h
  | realmChangeDone => exact execRealmChangeDone_kept h
  | pktWriteRx => exact execPktWriteRx_kept h
  | pktWriteImmRx => exact execPktWriteImmRx_kept h
  | pktReadReqRx => exact execPktReadReqRx_kept h
  | pktReadRespRx => exact execPktReadRespRx_kept h
  | pktAccumRx => exact execPktAccumRx_kept h
  | pktFlushReqRx => exact execPktFlushReqRx_kept h
  | pktVoidRx => exact execPktVoidRx_kept h
  | ackRx => exact execAckRx_kept h
  | nakRx => exact execNakRx_kept h
  | msgConfirmRx => exact execMsgConfirmRx_kept h
  | confirmQueryRx => exact execConfirmQueryRx_kept h
  | accumApply => exact execAccumApply_kept h
  | readStart => exact execReadStart_kept h
  | targetReadFail => exact execTargetReadFail_kept h
  | placementWriteFail => exact execPlacementWriteFail_kept h
  | readbackIssue => exact execReadbackIssue_kept h
  | readbackDone => exact execReadbackDone_kept h
  | notifyReservationExpire => exact execNotifyReservationExpire_kept h
  | ackTimer => exact execAckTimer_kept h
  | lossDetect => exact execLossDetect_kept h
  | rtoExpire => exact execRtoExpire_kept h
  | busyHoldEnd => exact execBusyHoldEnd_kept h
  | rnrResend => exact execRnrResend_kept h
  | confirmQueryTimer => exact execConfirmQueryTimer_kept h
  | packetCommit => exact execPacketCommit_kept h
  | egressStart => exact execEgressStart_kept h
  | slotFetchOpen => exact execSlotFetchOpen_kept h
  | slotReadyDeadline => exact execSlotReadyDeadline_kept h
  | slotDue => exact execSlotDue_kept h
  | reduceSlotDue => exact execReduceSlotDue_kept h
  | moveSlotDue => exact execMoveSlotDue_kept h
  | stepLateStart => exact execStepLateStart_kept h
  | lanternSample => exact execLanternSample_kept h
  | transitRx => exact execTransitRx_kept h
  | transitResidenceExpire => exact execTransitResidenceExpire_kept h
  | creditBlockSend => exact execCreditBlockSend_kept h
  | creditRx => exact execCreditRx_kept h
  | advertRx => exact execAdvertRx_kept h
  | routeDownRx => exact execRouteDownRx_kept h
  | pathDownExpire => exact execPathDownExpire_kept h
  | drainEnd => exact execDrainEnd_kept h
  | collectiveClear => exact execCollectiveClear_kept h
  | collectiveAddLocal => exact execCollectiveAddLocal_kept h
  | collectiveReadout => exact execCollectiveReadout_kept h
  | readoutReady => exact execReadoutReady_kept h
  | quantize => exact execQuantize_kept h
  | bayLoadDone => exact execBayLoadDone_kept h
  | bayWritebackDone => exact execBayWritebackDone_kept h
  | dispatchTokens => exact execDispatchTokens_kept h
  | dispatchWeights => exact execDispatchWeights_kept h
  | publish => exact execPublish_kept h
  | confirm => exact execConfirm_kept h
  | cancel => exact execCancel_kept h
  | specDeadline => exact execSpecDeadline_kept h
  | slotRelease => exact execSlotRelease_kept h
  | combine => exact execCombine_kept h
  | combineResponseApply => exact execCombineResponseApply_kept h
  | zeroBlock => exact execZeroBlock_kept h
  | staleRequestDiscard => exact execStaleRequestDiscard_kept h
  | uncorrectableError => exact execUncorrectableError_kept h
  | refresh => exact execRefresh_kept h
  | patrolStart => exact execPatrolStart_kept h
  | patrolDone => exact execPatrolDone_kept h
  | lineCheckDone => exact execLineCheckDone_kept h
  | anComplete => exact execAnComplete_kept h
  | negotiateTimeout => exact execNegotiateTimeout_kept h
  | trainDone => exact execTrainDone_kept h
  | trainTimeout => exact execTrainTimeout_kept h
  | linkLoss => exact execLinkLoss_kept h
  | faultRetry => exact execFaultRetry_kept h
  | statusSend => exact execStatusSend_kept h
  | statusRx => exact execStatusRx_kept h
  | timeSymbolRx => exact execTimeSymbolRx_kept h
  | codewordDecodeFail => exact execCodewordDecodeFail_kept h
  | shedPeriodEnd => exact execShedPeriodEnd_kept h
  | shedReqRx => exact execShedReqRx_kept h
  | widthSwitch => exact execWidthSwitch_kept h
  | restoreReq => exact execRestoreReq_kept h
  | restoreReqRx => exact execRestoreReqRx_kept h
  | lanesReady => exact execLanesReady_kept h
  | ethFrameRx => exact execEthFrameRx_kept h
  | pauseRx => exact execPauseRx_kept h
  | pfcRx => exact execPfcRx_kept h
  | pauseExpire => exact execPauseExpire_kept h
  | flowXoffSend => exact execFlowXoffSend_kept h
  | flowRepeat => exact execFlowRepeat_kept h
  | flowXonSend => exact execFlowXonSend_kept h
  | mbGo => exact execMbGo_kept h
  | mbResponseDone => exact execMbResponseDone_kept h
  | atsInvalidate => exact execAtsInvalidate_kept h
  | priResponse => exact execPriResponse_kept h
  | priTimeout => exact execPriTimeout_kept h
  | completionTimeout => exact execCompletionTimeout_kept h
  | windowWrite => exact execWindowWrite_kept h
  | windowRead => exact execWindowRead_kept h
  | attachTrain => exact execAttachTrain_kept h
  | attachFaultRetry => exact execAttachFaultRetry_kept h
  | apertureAccess => exact execApertureAccess_kept h
  | tenantReset => exact execTenantReset_kept h
  | tenantResetDone => exact execTenantResetDone_kept h
  | drainLimitExpire => exact execDrainLimitExpire_kept h
  | quiesceSet => exact execQuiesceSet_kept h
  | quiesceClear => exact execQuiesceClear_kept h
  | quiesced => exact execQuiesced_kept h
  | quiesceLimit => exact execQuiesceLimit_kept h
  | migFreeze => exact execMigFreeze_kept h
  | migFrozen => exact execMigFrozen_kept h
  | migSave => exact execMigSave_kept h
  | migSaveDone => exact execMigSaveDone_kept h
  | migRestore => exact execMigRestore_kept h
  | migRestoreDone => exact execMigRestoreDone_kept h
  | migResume => exact execMigResume_kept h
  | migDiscard => exact execMigDiscard_kept h
  | pathRebindRepeat => exact execPathRebindRepeat_kept h
  | move => exact execMove_kept h
  | fill => exact execFill_kept h
  | descriptorStart => exact execDescriptorStart_kept h
  | burstIssue => exact execBurstIssue_kept h
  | burstDone => exact execBurstDone_kept h
  | halfEvent => exact execHalfEvent_kept h
  | descriptorDone => exact execDescriptorDone_kept h
  | mbDataWrite => exact execMbDataWrite_kept h
  | mbDataRead => exact execMbDataRead_kept h
  | mbAckCodeWrite => exact execMbAckCodeWrite_kept h
  | dbSetWrite => exact execDbSetWrite_kept h
  | dbPendWrite => exact execDbPendWrite_kept h
  | dbMaskWrite => exact execDbMaskWrite_kept h
  | semRead => exact execSemRead_kept h
  | semWrite => exact execSemWrite_kept h
  | keyLoadLoad => exact execKeyLoadLoad_kept h
  | keyLoadErase => exact execKeyLoadErase_kept h
  | keyDerived => exact execKeyDerived_kept h
  | keyPrederive => exact execKeyPrederive_kept h
  | cipherGcmEnc => exact execCipherGcmEnc_kept h
  | cipherGcmDec => exact execCipherGcmDec_kept h
  | cipherXtsEnc => exact execCipherXtsEnc_kept h
  | cipherXtsDec => exact execCipherXtsDec_kept h
  | segRequestRx => exact execSegRequestRx_kept h
  | segFrameRx => exact execSegFrameRx_kept h
  | segLineCheck => exact execSegLineCheck_kept h
  | dictRequestRx => exact execDictRequestRx_kept h
  | linkScopedRequestRx => exact execLinkScopedRequestRx_kept h
  | dictResponseRx => exact execDictResponseRx_kept h
  | linkMgmtSend => exact execLinkMgmtSend_kept h
  | mctpMessageRx => exact execMctpMessageRx_kept h
  | spdmGetVersion => exact execSpdmGetVersion_kept h
  | spdmGetCapabilities => exact execSpdmGetCapabilities_kept h
  | spdmUnsupported => exact execSpdmUnsupported_kept h
  | quote => exact execQuote_kept h
  | getLog => exact execGetLog_kept h
  | getIdentity => exact execGetIdentity_kept h
  | fwErase => exact execFwErase_kept h
  | fwVerify => exact execFwVerify_kept h
  | fwPrefer => exact execFwPrefer_kept h
  | fwCommitSvn => exact execFwCommitSvn_kept h
  | fwRevokeKey => exact execFwRevokeKey_kept h
  | fwChunk => exact execFwChunk_kept h
  | eventRingSetup => exact execEventRingSetup_kept h
  | powerClose => exact execPowerClose_kept h
  | powerOpen => exact execPowerOpen_kept h
  | domainClosed => exact execDomainClosed_kept h
  | domainCloseDeadline => exact execDomainCloseDeadline_kept h
  | domainOpened => exact execDomainOpened_kept h
  | powerControl => exact execPowerControl_kept h
  | registerWrite => exact execRegisterWrite_kept h
  | attachLinkLoss => exact execAttachLinkLoss_kept h
  | firmwareRestart => exact execFirmwareRestart_kept h
  | managementAgentReset => exact execManagementAgentReset_kept h
  | fwCommandDone => exact execFwCommandDone_kept h
  | i3cAddressAssignment => exact execI3cAddressAssignment_kept h
  | spdmChunking => exact execSpdmChunking_kept h
  | atsTranslationResponse => exact execAtsTranslationResponse_kept h
  | payloadReadReturn => exact execPayloadReadReturn_kept h
  | backingWritebackError => exact execBackingWritebackError_kept h
  | plcaBeaconTimeout => exact execPlcaBeaconTimeout_kept h
  | bridgeRetraining => exact execBridgeRetraining_kept h

/-- What a command answers is kept. -/
theorem State.Kept.of_exec {c : Instr} {s t : State} (h : exec c s = .next t) : s.Kept t := by
  obtain ⟨u, hu, hk⟩ := exec_kept c (State.Kept.refl s)
  obtain rfl : u = t := Host.Outcome.next.inj (hu.symm.trans h)
  exact hk

/-! ### The scope chapter's statements -/

/-- Settles O3: each command keeps the part, the fuses but for what is blown, and the queue (`State.Kept`). -/
theorem commandsKeepPartFusesAndQueue : Obligations.CommandsKeepPartFusesAndQueue := by
  unfold Obligations.CommandsKeepPartFusesAndQueue
  intro c s t h
  obtain ⟨part, ⟨counter, revoked, others⟩, pending, -⟩ := State.Kept.of_exec h
  exact ⟨part, counter, revoked, others, pending⟩

/-- The block idles on an empty queue, and else the step is its first command on the state with the rest queued. -/
theorem step_kept (s : State) : State.Answers { s with pending := s.pending.tail } (step s) := by
  unfold step
  split
  next hp => exact ⟨s, rfl, .of_fields (.refl _) rfl rfl (by rw [hp]; rfl) rfl rfl rfl rfl rfl rfl⟩
  next c rest hp =>
    rw [hp]
    exact exec_kept c (.refl _)

/-- Settles O4: the step takes at most the first command off the queue, and the command keeps the rest (`State.Kept`). -/
theorem everyStepKeepsTheTables : Obligations.EveryStepKeepsTheTables := by
  unfold Obligations.EveryStepKeepsTheTables
  intro s hs
  obtain ⟨t, ht, part, fuses, pending, canon⟩ := step_kept s
  exact ⟨t, ht, canon hs, part, fuses, pending⟩

end Sys2Proof.Machine

/-! PROOFS. Requests on the paths to the dictionary, the mailbox, MCTP and I3C, LINK_MGMT_SEND and plain register writes: what
each operation does, branch by branch, and the statement about them. -/
namespace Sys2Proof.Machine

/-! ### A request arrives on a path (R112 to R114; log 35) -/

/-- With 64 requests of its path waiting, a request is counted and answered with BUSY. -/
theorem State.queueRequest_full {s : State} {r : Route} (b : Bytes) (hf : 64 ≤ (s.dict.queue.filter (fun q => q.route.path = r.path)).length) :
    s.queueRequest r b = (s.bump d3_0015 0).answer r ((s.bump d3_0015 0).responseTo b .busy none []) :=
  if_pos hf

/-- With room on its path a malformed request is answered as such, and another waits at the end of the queue. -/
theorem State.queueRequest_room {s : State} {r : Route} (b : Bytes) (hr : (s.dict.queue.filter (fun q => q.route.path = r.path)).length < 64) :
    s.queueRequest r b = if requestBad b = true then s.answer r (s.responseTo b .malformedRequest none [])
      else { s with dict := { s.dict with queue := s.dict.queue ++ [⟨r, b⟩] } } :=
  if_neg (Nat.not_le.mpr hr)

/-- A path that is served brings its request to the queues. -/
theorem exec_dictRequestQueue_served {s : State} {r : Route} (b : Bytes) (hp : s.pathServed r = true) :
    exec (.dictRequestQueue r b) s = .next (s.queueRequest r b) :=
  if_pos hp

/-! ### The mailbox (R551, R552) -/

/-- GO in a mailbox that is served: LOST where it is busy, else BUSY and the request that stands in MB_REQ. -/
theorem exec_mbGo_served {s : State} {t : Nat} (hm : s.mailboxServed t = true) :
    exec (.mbGo t) s =
      if (s.fn t).mbox.busy = true then .next (s.setFn t { s.fn t with mbox := { (s.fn t).mbox with lost := true } })
      else .next ((s.setFn t { s.fn t with mbox := { (s.fn t).mbox with busy := true } }).queueRequest (.mailbox t)
        (slice 0 1536 (s.fn t).mbox.req)) :=
  if_pos hm

/-- An answer that is ready is written to MB_RESP. -/
theorem exec_mbResponseDone_ready {s a : State} {t : Nat} {b : Bytes} (hb : (s.fn t).mbox.answer = some b)
    (ha : a = s.setFn t { s.fn t with mbox := { (s.fn t).mbox with resp := slice 0 1536 b, answer := none, busy := false, done := true } }) :
    exec (.mbResponseDone t) s = .next (if (s.fn t).mbox.intr then a.raiseMsix t 0 else a) := by
  simp only [exec, execMbResponseDone, hb, ha]

/-! ### MCTP over I3C (R685, R686) -/

/-- A message of the vendor-defined type: a request where its vendor, its kind and its length are right, else it is counted. -/
theorem exec_mctpMessageRx_vendor {s : State} (body : Bytes) (hp : s.pathServed .mctp = true) :
    exec (.mctpMessageRx 0x7E body) s =
      if leAt 0 2 body = 0x1EC6 ∧ leAt 2 1 body = 1 ∧ body.length ≤ 4223 then .next (s.queueRequest .mctp (body.drop 3))
      else .next (s.bump d19_0107 0) := by
  simp only [exec, execMctpMessageRx, hp, Bool.and_eq_true, decide_eq_true_eq, and_self, if_true, and_assoc]

/-- The I3C commands on a bus that is served: ENTDAA, SETDASA and Set Endpoint ID. -/
theorem exec_i3c_served {s : State} (target value : Nat) (hp : s.pathServed .mctp = true) :
    exec (.i3cAddressAssignment 0 target value) s = .next { s with mgmt := { s.mgmt with i3cAddress := BitVec.ofNat 8 (value % 128) } } ∧
    exec (.i3cAddressAssignment 1 target value) s = (if target = s.par d19_0022 0 then
      .next { s with mgmt := { s.mgmt with i3cAddress := BitVec.ofNat 8 (value % 128) } } else .next s) ∧
    exec (.i3cAddressAssignment 2 target value) s = .next { s with mgmt := { s.mgmt with eid := BitVec.ofNat 8 value } } :=
  ⟨if_pos hp, if_pos hp, if_pos hp⟩

/-! ### LINK_MGMT_SEND (R690) -/

/-- R690: the form of a write of LINK_MGMT_SEND that is sent: port, payload and the payload's own length. -/
def State.LinkMgmtForm (s : State) (b : Bytes) : Prop :=
  20 ≤ b.length ∧ b.length ≤ 1024 ∧ leAt 0 1 b < 64 ∧ leAt 1 3 b = 0 ∧ s.fabricUp (leAt 0 1 b) = true ∧ leAt 16 2 b = b.length - 20

/-- The model's checks of such a write fail exactly where its form is not right. -/
theorem State.linkMgmtForm_iff (s : State) (b : Bytes) :
    (b.length < 20 || leAt 0 1 b ≥ 64 || leAt 1 3 b ≠ 0 || !s.fabricUp (leAt 0 1 b) || leAt 16 2 b ≠ b.length - 20 ||
      b.length > 1024) = false ↔ s.LinkMgmtForm b := by
  simp only [LinkMgmtForm, Bool.or_eq_false_iff, decide_eq_false_iff_not, Bool.not_eq_false', Nat.not_lt, Nat.not_le, ge_iff_le,
    gt_iff_lt, Decidable.not_not, ne_eq]
  exact ⟨fun ⟨⟨⟨⟨⟨low, port⟩, zero⟩, up⟩, len⟩, high⟩ => ⟨low, high, port, zero, up, len⟩,
    fun ⟨low, high, port, zero, up, len⟩ => ⟨⟨⟨⟨⟨low, port⟩, zero⟩, up⟩, len⟩, high⟩⟩

/-- A write of that form queues its datagram on VC5 of the port it names. -/
theorem exec_linkMgmtSend_sends {s : State} {b : Bytes} (hf : s.LinkMgmtForm b) :
    exec (.linkMgmtSend b) s = .next (s.enqueue (leAt 0 1 b) 5
      (s.datagramItem (leAt 0 1 b) (mkHdr 0x20 5 (s.par d9_0001 0) 0 0xFFFF (s.par d0_0001 0) 0 0 0 0 0 0) (b.drop 4))) := by
  have hc := (s.linkMgmtForm_iff b).mpr hf
  simp only [exec, execLinkMgmtSend, State.linkMgmtSend, hc, Bool.false_eq_true, if_false, Option.getD_some]

/-- Any other write changes nothing. [PRESUMED, log 90] -/
theorem exec_linkMgmtSend_refused {s : State} {b : Bytes} (hf : ¬s.LinkMgmtForm b) : exec (.linkMgmtSend b) s = .next s := by
  have hc := eq_true_of_ne_false (mt (s.linkMgmtForm_iff b).mp hf)
  simp only [exec, execLinkMgmtSend, State.linkMgmtSend, hc, if_true, Option.getD_none]

/-! ### Register writes (R12, R549 to R552, R556) -/

/-- A write at an offset of page 0 of BAR0 goes to the mailbox page. -/
theorem exec_registerWrite_mailbox {s : State} {t offset width : Nat} {value : W64} (hp : offset / 4096 = 0)
    (hm : s.mailboxServed t = true) :
    exec (.registerWrite t offset width value) s =
      .next (s.setFn t { s.fn t with mbox := (s.fn t).mbox.write (offset % 4096) width value }) := by
  simp only [exec, execRegisterWrite, hp, hm, if_true]

/-- A write at an offset of a later page of a live function goes to the page that the offset names. -/
theorem exec_registerWrite_live {s : State} {t offset width : Nat} {value : W64} (hp : offset / 4096 ≠ 0) (hl : s.fnLive t = true) :
    exec (.registerWrite t offset width value) s =
      if offset / 4096 = 1 then .next (s.setFn t { s.fn t with ring := (s.fn t).ring.write 0x40 (offset % 4096) width value })
      else if offset / 4096 = 2 then .next (s.setFn t { s.fn t with conn := (s.fn t).conn.write 0x80 (offset % 4096) width value })
      else if offset / 4096 = 3 then .next (s.setFn t { s.fn t with realm := (s.fn t).realm.write 0x40 (offset % 4096) width value })
      else if 16 ≤ offset / 4096 ∧ offset / 4096 < 24 then .next (s.msixWrite t (offset - 0x10000) width value)
      else .next s := by
  simp only [exec, execRegisterWrite, hp, hl, if_false, Bool.not_true, Bool.false_eq_true, Bool.and_eq_true, decide_eq_true_eq]

/-- A whole word below the command register changes the context words. -/
theorem CtrlPage.write_ctx {size off width : Nat} {value : W64} {p : CtrlPage} (hw : width = 32 ∨ width = 64)
    (ha : off % (width / 8) = 0) (ho : off < size) :
    p.write size off width value = { p with ctx := putField (8 * off) width value.toNat p.ctx } := by
  simp only [CtrlPage.write, ho, hw, ha, if_true, Bool.and_eq_true, Bool.or_eq_true, decide_eq_true_eq, and_self]

/-- Writing 1 to LOST in the status register clears it. -/
theorem CtrlPage.write_status {size width : Nat} {value : W64} {p : CtrlPage} (hw : width = 32 ∨ width = 64)
    (ha : (size + 8) % (width / 8) = 0) (hv : flag 1 value = true) :
    p.write size (size + 8) width value = { p with lost := false } := by
  have h1 : ¬size + 8 < size := by omega
  simp only [CtrlPage.write, h1, Nat.lt_irrefl, hw, ha, hv, if_true, if_false, Bool.and_eq_true, Bool.or_eq_true, decide_eq_true_eq,
    and_self]

/-- A write of half the command register sets LOST. -/
theorem CtrlPage.write_half_command (size : Nat) (value : W64) (p : CtrlPage) :
    p.write size size 32 value = { p with lost := true } := by
  have h1 : size < size + 8 := by omega
  simp only [CtrlPage.write, h1, Nat.lt_irrefl, if_true, if_false, show 32 < 64 by decide]

/-! ### The statement -/

/-- Settles O25, by the lemma of each operation; the one queue of all paths, the whole writes of a command's register and what
a request's form is are the model's choices (log entries 35, 90 and 91). -/
theorem requestPathsAndRegisters : Obligations.RequestPathsAndRegisters := by
  unfold Obligations.RequestPathsAndRegisters
  refine ⟨fun r b s hp => ⟨?_, ?_, ?_⟩, fun t s hm => ⟨?_, ?_⟩, fun t b s a => exec_mbResponseDone_ready, fun body s hp => ⟨?_, ?_⟩,
    fun target value s hp => ?_, fun b s => ⟨exec_linkMgmtSend_sends, exec_linkMgmtSend_refused⟩,
    fun t offset width value s => ⟨exec_registerWrite_mailbox, fun hl => ⟨?_, ?_, ?_, ?_⟩⟩,
    fun size off width value p hw ha => ⟨CtrlPage.write_ctx hw ha, ?_, ?_⟩⟩
  · rintro hf a rfl
    rw [exec_dictRequestQueue_served b hp, State.queueRequest_full b hf]
  · intro hr hb
    rw [exec_dictRequestQueue_served b hp, State.queueRequest_room b hr, if_pos hb]
  · intro hr hb
    rw [exec_dictRequestQueue_served b hp, State.queueRequest_room b hr, if_neg (by simp [hb])]
  · intro hb
    rw [exec_mbGo_served hm, if_pos hb]
  · rintro hb a rfl
    rw [exec_mbGo_served hm, if_neg (by simp [hb])]
  · intro hv hk hl
    rw [exec_mctpMessageRx_vendor body hp, if_pos ⟨hv, hk, hl⟩]
  · intro hn
    rw [exec_mctpMessageRx_vendor body hp, if_neg (by omega)]
  · obtain ⟨entdaa, setdasa, setEid⟩ := exec_i3c_served target value hp
    exact ⟨entdaa, fun ht => setdasa.trans (if_pos ht), fun ht => setdasa.trans (if_neg ht), setEid⟩
  · intro hp
    rw [exec_registerWrite_live (by omega) hl, if_pos hp]
  · intro hp
    rw [exec_registerWrite_live (by omega) hl, if_neg (by omega), if_pos hp]
  · intro hp
    rw [exec_registerWrite_live (by omega) hl, if_neg (by omega), if_neg (by omega), if_pos hp]
  · intro hlo hhi
    rw [exec_registerWrite_live (by omega) hl, if_neg (by omega), if_neg (by omega), if_neg (by omega), if_pos ⟨hlo, hhi⟩]
  · rintro rfl hv
    exact CtrlPage.write_status hw ha hv
  · rintro rfl rfl
    exact CtrlPage.write_half_command off value p

end Sys2Proof.Machine

/-! PROOFS. The enabling of functions, the bridges' faults and the thermal trip: what each command does under its guard, and the
statement about them. -/
namespace Sys2Proof.Machine

/-! ### The enabling of functions (R30, R31, R577, R694, R698) -/

/-- While firmware boots and no test is strapped, the present bridges that have trained are reported, and the package runs if that
is every one of them. -/
theorem exec_functionsEnable_booting {s : State} (trained : BitVec 10) (hp : s.pkg.phase = .booting) (ht : s.pkg.pins.test = false) :
    exec (.functionsEnable trained) s =
      if ∀ b ∈ s.pkg.part.bridges, flag b trained = true then .next (s.bridgesUp trained).enableAll
      else .next { s with pkg := { s.pkg with phase := .bridgeFail }, ro := (s.bridgesUp trained).ro } := by
  have hg : (s.pkg.phase = .booting && !s.pkg.pins.test) = true := by simp [hp, ht]
  simp only [exec, execFunctionsEnable, hg, if_true, List.all_eq_true]
  rfl

/-- In recovery the present bridges that have trained are reported, and nothing else changes. -/
theorem exec_functionsEnable_recovery {s : State} (trained : BitVec 10) (hp : s.pkg.phase = .recovery) :
    exec (.functionsEnable trained) s = .next (s.bridgesUp trained) :=
  (if_neg (by simp [hp])).trans (if_pos hp)

/-! ### Bridge faults (R32, R706; log 70) -/

/-- The guard of both bridge faults holds of a present bridge while the package runs. -/
theorem State.bridgeGuard_holds {s : State} {bridge : Nat} (hp : s.pkg.phase = .running) (hb : bridge ∈ s.pkg.part.bridges) :
    (s.pkg.phase = .running && s.pkg.part.bridges.contains bridge) = true := by
  simp [hp, hb]

/-- An error that a present bridge cannot correct is the fatal fault at the bridge. -/
theorem exec_bridgeFatal_present {s : State} {bridge : Nat} (hp : s.pkg.phase = .running) (hb : bridge ∈ s.pkg.part.bridges) :
    exec (.bridgeFatal bridge) s = .next (s.fatalFault .bridge (bridgeLocation bridge) bridge 0 0) :=
  if_pos (State.bridgeGuard_holds hp hb)

/-- The retraining of a present bridge is logged with severity PACKAGE. -/
theorem exec_bridgeRetraining_present {s : State} {bridge : Nat} (hp : s.pkg.phase = .running) (hb : bridge ∈ s.pkg.part.bridges) :
    exec (.bridgeRetraining bridge) s = .next (s.logFault .package .bridge (bridgeLocation bridge) none bridge 0 0) :=
  if_pos (State.bridgeGuard_holds hp hb)

/-! ### The thermal trip (R729, R745) -/

/-- At its limit a temperature is a fatal fault of source THERMAL, after which THERMTRIP_N goes low unless it is low. -/
theorem exec_thermalTrip_atLimit {s r : State} {tower : Nat} {stack : Bool} {temp : Int} (htower : tower < s.towers)
    (htemp : (if stack then 840 else 920) ≤ temp) (hrun : s.timeRuns = true)
    (hr : r = s.fatalFault .thermal (if stack then sliceLocation tower 0 else location 5 0 tower 0 0 0 0 0) 0 0
      (ofSigned 32 temp)) :
    exec (.thermalTrip tower stack temp) s =
      if r.pkg.pins.thermTrip then .next r
      else .next (({ r with pkg := { r.pkg with pins := { r.pkg.pins with thermTrip := true } } } : State).emit
        (.pin pinThermTrip false)) := by
  have hg : (tower < s.towers && (if stack then 840 else 920) ≤ temp && s.timeRuns) = true := by simp [htower, htemp, hrun]
  simp only [exec, execThermalTrip, hg, if_true, hr]

/-! ### The statement -/

/-- Settles O12, by the lemma of each command; that a bridge's fault acts only while the package runs, and that the fault's object
is the bridge's number, are the model's choices (log entry 70). -/
theorem functionsBridgesAndTrip : Obligations.FunctionsBridgesAndTrip := by
  unfold Obligations.FunctionsBridgesAndTrip
  refine ⟨fun trained s hp ht hall => ?_, fun trained s hp ht hsome => ?_, fun trained s => exec_functionsEnable_recovery trained,
    fun bridge s => exec_bridgeFatal_present, fun bridge s => exec_bridgeRetraining_present,
    fun tower stack temp s htower htemp hrun r hr => ⟨fun hlow => ?_, fun hhigh => ?_⟩⟩
  · exact (exec_functionsEnable_booting trained hp ht).trans (if_pos hall)
  · obtain ⟨b, hb, hdown⟩ := hsome
    have hnot : ¬∀ b ∈ s.pkg.part.bridges, flag b trained = true := fun hall => by simp [hall b hb] at hdown
    exact (exec_functionsEnable_booting trained hp ht).trans (if_neg hnot)
  · exact (exec_thermalTrip_atLimit htower htemp hrun hr).trans (if_pos hlow)
  · exact (exec_thermalTrip_atLimit htower htemp hrun hr).trans (if_neg (by simp [hhigh]))

end Sys2Proof.Machine

/-! PROOFS. Fabric time at package reset, the serial order of set generations, and the times that tags name. -/
namespace Sys2Proof.Machine

/-! ### Package reset (R53) -/

/-- Settles O6: the time of both states is the fresh `TimeState`, in which time is 0 and the state FREE_RUN. -/
theorem timeAtPackageReset : Obligations.TimeAtPackageReset := by
  unfold Obligations.TimeAtPackageReset
  exact ⟨⟨rfl, rfl⟩, fun s => ⟨s.packageReset .held, rfl, rfl, rfl⟩⟩

/-! ### The serial order of set generations (R127) -/

theorem serialNewer_iff (a b : W32) :
    serialNewer a b = true ↔
      1 ≤ (a.toNat + (2 ^ 32 - b.toNat)) % 2 ^ 32 ∧ (a.toNat + (2 ^ 32 - b.toNat)) % 2 ^ 32 ≤ 2 ^ 31 - 1 := by
  have hd : serialDiff a b = (a.toNat + (2 ^ 32 - b.toNat)) % 2 ^ 32 := by
    rw [serialDiff, BitVec.toNat_sub, Nat.add_comm]
  rw [serialNewer, hd]
  exact Bool.and_eq_true_iff.trans (and_congr decide_eq_true_iff decide_eq_true_iff)

/-! ### Time tags (R57, R58) -/

/-- The distance before its sign: the tag less the low 32 bits of now, modulo 2^32. -/
theorem toNat_sub_now (now : Nat) (g : W32) :
    (g - BitVec.ofNat 32 now).toNat = (g.toNat + 2 ^ 32 - now % 2 ^ 32) % 2 ^ 32 := by
  rw [BitVec.toNat_sub, BitVec.toNat_ofNat]
  congr 1
  omega

theorem tagDistance_eq (now : Nat) (g : W32) :
    tagDistance now g = if (g.toNat + 2 ^ 32 - now % 2 ^ 32) % 2 ^ 32 < 2 ^ 31
      then (((g.toNat + 2 ^ 32 - now % 2 ^ 32) % 2 ^ 32 : Nat) : Int)
      else (((g.toNat + 2 ^ 32 - now % 2 ^ 32) % 2 ^ 32 : Nat) : Int) - 2 ^ 32 := by
  rw [tagDistance, BitVec.toInt_eq_toNat_cond, toNat_sub_now]
  split <;> split <;> omega

/-- The distance is an i32. -/
theorem tagDistance_bounds (now : Nat) (g : W32) : -2 ^ 31 ≤ tagDistance now g ∧ tagDistance now g ≤ 2 ^ 31 - 1 := by
  rw [tagDistance_eq]
  constructor <;> split <;> omega

theorem tagTime_of_nonneg {now : Nat} {g : W32} (h : (0 : Int) ≤ now + tagDistance now g) :
    (tagTime now g : Int) = now + tagDistance now g :=
  Int.toNat_of_nonneg h

/-- Less than 2^31 ticks ahead, the low 32 bits of a time are that far from now. -/
theorem tagDistance_ahead {now ahead : Nat} (h : ahead ≤ 2 ^ 31 - 1) :
    tagDistance now (BitVec.ofNat 32 (now + ahead)) = ahead := by
  have hd : ((BitVec.ofNat 32 (now + ahead)).toNat + 2 ^ 32 - now % 2 ^ 32) % 2 ^ 32 = ahead := by
    rw [BitVec.toNat_ofNat]
    omega
  rw [tagDistance_eq, hd, if_pos (by omega)]

/-- A tag is future past now, due for one second from then, and expired before that. -/
theorem tagState_iff (now : Nat) (g : W32) :
    (tagState now g = .future ↔ tagDistance now g > 0) ∧
    (tagState now g = .due ↔ -1250000000 ≤ tagDistance now g ∧ tagDistance now g ≤ 0) ∧
    (tagState now g = .expired ↔ tagDistance now g < -1250000000) := by
  simp only [tagState]
  split
  next future => simp only [reduceCtorEq, true_iff, false_iff]; omega
  next notFuture =>
    split
    next due => simp only [reduceCtorEq, true_iff, false_iff]; omega
    next expired => simp only [reduceCtorEq, true_iff, false_iff]; omega

/-- Settles O7: a difference modulo 2^32 is that of the bit vectors, and a tag's distance is the same difference read as signed. -/
theorem serialOrderAndTags : Obligations.SerialOrderAndTags := by
  unfold Obligations.SerialOrderAndTags
  refine ⟨serialNewer_iff, fun now g => ?_, tagState_iff, fun now ahead h => ?_⟩
  · obtain ⟨low, high⟩ := tagDistance_bounds now g
    exact ⟨tagDistance_eq now g, low, high, tagTime_of_nonneg⟩
  · rw [tagTime, tagDistance_ahead h]
    exact Int.toNat_natCast (now + ahead)

end Sys2Proof.Machine

/-! PROOFS. Time symbols: SYNC, ECHO, ANNOUNCE, the exchange and the withdrawal of announcements, and the statement about them. -/
namespace Sys2Proof.Machine

/-! ### Which symbols are accepted (R69) -/

theorem State.symbolOk_iff {s : State} {type : Nat} {y : BitVec 192} :
    s.symbolOk type y = true ↔ symType y = type ∧ symDomain y = s.par d2_0014 0 := by
  simp only [symbolOk, Bool.and_eq_true, decide_eq_true_eq]

/-- A symbol of another TYPE or DOMAIN is not accepted. -/
theorem State.symbolOk_rejects {s : State} {type : Nat} {y : BitVec 192} (h : symType y ≠ type ∨ symDomain y ≠ s.par d2_0014 0) :
    ¬s.symbolOk type y = true := by
  rw [symbolOk_iff]
  exact fun ⟨ht, hd⟩ => h.elim (· ht) (· hd)

/-! ### SYNC (R71) -/

/-- At the interval a SYNC leaves, and is remembered. -/
theorem exec_syncSend_sync {s : State} {port : Nat} (frac : Nat) (hp : s.fabricUp port = true)
    (hn : (s.timePort port).nextSync ≤ s.now) (h8 : ((s.timePort port).syncs + 1) % 8 ≠ 0) :
    exec (.syncSend port frac) s = .next
      ((s.emit (.block port 6 (timeBlock (s.mkSymbol 1 (s.timePort port).seq frac s.now 0)))).setTimePort port { s.timePort port with
        seq := (s.timePort port).seq + 1, syncs := (s.timePort port).syncs + 1, nextSync := s.now + s.par d2_0020 0
        pendingSyncs := (s.timePort port).pendingSyncs ++ [⟨(s.timePort port).seq, 4 * s.now + frac % 4, s.now⟩] }) := by
  show execSyncSend port frac s = _
  simp only [execSyncSend, hp, hn, h8, Bool.true_and, decide_true, if_true, if_false]
  rfl

/-- After every eighth SYNC an ANNOUNCE leaves too. -/
theorem exec_syncSend_announce {s : State} {port : Nat} (frac : Nat) (hp : s.fabricUp port = true)
    (hn : (s.timePort port).nextSync ≤ s.now) (h8 : ((s.timePort port).syncs + 1) % 8 = 0) :
    exec (.syncSend port frac) s = .next
      (((s.emit (.block port 6 (timeBlock (s.mkSymbol 1 (s.timePort port).seq frac s.now 0)))).emit
        (.block port 6 (timeBlock (s.mkAnnounce (s.timePort port).annSeq)))).setTimePort port { s.timePort port with
          seq := (s.timePort port).seq + 1, annSeq := (s.timePort port).annSeq + 1, syncs := (s.timePort port).syncs + 1
          nextSync := s.now + s.par d2_0020 0
          pendingSyncs := (s.timePort port).pendingSyncs ++ [⟨(s.timePort port).seq, 4 * s.now + frac % 4, s.now⟩] }) := by
  show execSyncSend port frac s = _
  simp only [execSyncSend, hp, hn, h8, Bool.true_and, decide_true, if_true]
  rfl

theorem exec_syncRx_up {s : State} {port : Nat} (y : BitVec 192) (frac turn : Nat) (hp : s.fabricUp port = true) :
    exec (.syncRx port y frac turn) s = .next (if s.symbolOk 1 y then s.answerSync port y frac turn else s.bump d2_0072 port) :=
  if_pos hp

/-! ### ECHO and the exchange (R72 to R74; logs 23 and 28) -/

theorem exec_echoRx_up {s : State} {port : Nat} (y : BitVec 192) (frac : Nat) (hp : s.fabricUp port = true) :
    exec (.echoRx port y frac) s = .next (if s.symbolOk 2 y then s.takeEcho port y frac else s.bump d2_0072 port) :=
  if_pos hp

/-- An ECHO that answers no pending SYNC does nothing. -/
theorem State.takeEcho_unasked {s : State} {port : Nat} {y : BitVec 192} (frac : Nat)
    (hn : ∀ e ∈ (s.timePort port).pendingSyncs, e.seq ≠ symSeq y) : s.takeEcho port y frac = s := by
  have hf : (s.timePort port).pendingSyncs.find? (fun e => e.seq = symSeq y) = none := by simpa using hn
  simp only [takeEcho, hf]

/-- An ECHO that answers a pending SYNC takes it off the list and completes an exchange. -/
theorem State.takeEcho_answers {s a : State} {port : Nat} {y : BitVec 192} {frac : Nat} {e : SyncSent} {mean : Int}
    (hf : (s.timePort port).pendingSyncs.find? (fun e => e.seq = symSeq y) = some e)
    (hm : mean = ((((4 * s.now : Nat) : Int) + (frac % 4 : Nat) - e.t1) - symTurn y) / 2)
    (ha : a = s.setTimePort port { s.timePort port with
      pendingSyncs := (s.timePort port).pendingSyncs.filter (fun x => x.seq ≠ e.seq) }) :
    s.takeEcho port y frac = a.exchange port mean
      ((((4 * symTime y + symFrac y : Nat) : Int) - e.t1) - (mean + toSigned 32 (s.par d2_0040 port))) := by
  subst hm ha
  simp only [takeEcho, hf]
  rfl

/-- An exchange further from the running mean than the outlier limit is counted and otherwise ignored. -/
theorem State.exchange_outlier {s : State} {port : Nat} {mean m : Int} (offset : Int) (hm : (s.timePort port).mean = some m)
    (hfar : (mean - m).natAbs > 4 * s.par d2_0039 0) : s.exchange port mean offset = s.bump d2_0073 port := by
  simp only [exchange, hm, hfar, decide_true, if_true]

/-- The mean that an exchange is held against is near, or there is none yet. -/
def State.NearMean (s : State) (port : Nat) (mean : Int) : Prop :=
  (s.timePort port).mean = none ∨ ∃ m, (s.timePort port).mean = some m ∧ (mean - m).natAbs ≤ 4 * s.par d2_0039 0

/-- A near exchange gives the port its mean and offset, is counted, and disciplines time when the port is the reference. -/
theorem State.exchange_near {s : State} {port : Nat} {mean : Int} (offset : Int) (hn : s.NearMean port mean) :
    s.exchange port mean offset =
      let a := (s.setTimePort port { s.timePort port with
        mean := some (Config.delayMean (s.timePort port).mean mean), offset := offset }).bump d2_0070 port
      if s.time.ref = .port port then a.acceptOffset offset else a := by
  obtain hm | ⟨m, hm, hle⟩ := hn
  · simp only [exchange, hm, Bool.false_eq_true, if_false]
    rfl
  · simp only [exchange, hm, gt_iff_lt, Nat.not_lt.mpr hle, decide_false, Bool.false_eq_true, if_false]
    rfl

/-! ### ANNOUNCE (R79, R81) -/

theorem exec_announceRx_up {s : State} {port : Nat} (y : BitVec 192) (hp : s.fabricUp port = true) :
    exec (.announceRx port y) s =
      .next (if s.symbolOk 3 y then s.takeAnnounce port (symAnnounce y) else s.bump d2_0072 port) :=
  if_pos hp

/-- An announcement that has not been renewed within three announce intervals is withdrawn. -/
theorem exec_announceWithdraw_stale {s : State} {port : Nat} {c : Candidate} (hc : (s.timePort port).cand = some c)
    (hold : c.renewed + 3 * s.announceInterval port ≤ s.now) :
    exec (.announceWithdraw port) s = .next (s.withdraw port) := by
  show execAnnounceWithdraw port s = _
  simp only [execAnnounceWithdraw, hc, hold, if_true]

/-! ### A received TIME block (R69, R525) -/

theorem exec_timeSymbolRx_up {s : State} {port : Nat} (y : BitVec 192) (frac turn : Nat) (hp : s.fabricUp port = true) :
    exec (.timeSymbolRx port y frac turn) s = .next (s.timeSymbol port y frac turn) :=
  if_pos hp

theorem State.timeSymbol_sync {s : State} {port frac turn : Nat} {y : BitVec 192} (ht : symType y = 1)
    (hd : symDomain y = s.par d2_0014 0) : s.timeSymbol port y frac turn = s.answerSync port y frac turn :=
  if_pos (symbolOk_iff.mpr ⟨ht, hd⟩)

theorem State.timeSymbol_echo {s : State} {port frac turn : Nat} {y : BitVec 192} (ht : symType y = 2)
    (hd : symDomain y = s.par d2_0014 0) : s.timeSymbol port y frac turn = s.takeEcho port y frac :=
  (if_neg (symbolOk_rejects (.inl (by omega)))).trans (if_pos (symbolOk_iff.mpr ⟨ht, hd⟩))

theorem State.timeSymbol_announce {s : State} {port frac turn : Nat} {y : BitVec 192} (ht : symType y = 3)
    (hd : symDomain y = s.par d2_0014 0) : s.timeSymbol port y frac turn = s.takeAnnounce port (symAnnounce y) :=
  (if_neg (symbolOk_rejects (.inl (by omega)))).trans
    ((if_neg (symbolOk_rejects (.inl (by omega)))).trans (if_pos (symbolOk_iff.mpr ⟨ht, hd⟩)))

/-- A symbol of another domain, or of no type in use, is counted. -/
theorem State.timeSymbol_other {s : State} {port frac turn : Nat} {y : BitVec 192}
    (h : symDomain y ≠ s.par d2_0014 0 ∨ symType y = 0 ∨ 3 < symType y) :
    s.timeSymbol port y frac turn = s.bump d2_0072 port := by
  have hno : ∀ type, 1 ≤ type → type ≤ 3 → ¬s.symbolOk type y = true := fun type lo hi =>
    symbolOk_rejects (h.symm.imp_left (by omega))
  simp only [timeSymbol, hno 1 (by decide) (by decide), hno 2 (by decide) (by decide), hno 3 (by decide) (by decide),
    Bool.false_eq_true, if_false]

/-! ### The statement -/

/-- Settles O18, by the lemma of each symbol; the weight of the running mean is the model's choice (log entry 23), the STEPS_REMOVED
of an own ANNOUNCE its reading (log entry 25). -/
theorem timeSymbolsAndAnnouncements : Obligations.TimeSymbolsAndAnnouncements := by
  unfold Obligations.TimeSymbolsAndAnnouncements
  refine ⟨?_, fun port y frac turn s hp => ⟨fun ht hd => ?_, fun hno => ?_⟩, fun port y frac s hp => ⟨fun hno => ?_, fun ht hd => ⟨?_, ?_⟩⟩,
    ?_, fun _ _ _ => rfl, fun port y s hp => ⟨fun hno => ?_, fun ht hd => ⟨fun h255 => ?_, fun h255 => ?_⟩⟩,
    fun port y frac turn s hp => ⟨fun hno => ?_, fun hd => ⟨fun ht => ?_, fun ht => ?_, fun ht => ?_⟩⟩, ?_⟩
  · rintro port frac s tp hp rfl hn
    exact ⟨exec_syncSend_sync frac hp hn, exec_syncSend_announce frac hp hn⟩
  · rw [exec_syncRx_up y frac turn hp, if_pos (State.symbolOk_iff.mpr ⟨ht, hd⟩)]
    rfl
  · rw [exec_syncRx_up y frac turn hp, if_neg (State.symbolOk_rejects hno)]
  · rw [exec_echoRx_up y frac hp, if_neg (State.symbolOk_rejects hno)]
  · intro hn
    rw [exec_echoRx_up y frac hp, if_pos (State.symbolOk_iff.mpr ⟨ht, hd⟩), State.takeEcho_unasked frac hn]
  · intro e hf mean a hm ha
    rw [exec_echoRx_up y frac hp, if_pos (State.symbolOk_iff.mpr ⟨ht, hd⟩), State.takeEcho_answers hf hm ha]
  · rintro port mean offset s tp rfl
    refine ⟨fun m hm hfar => State.exchange_outlier offset hm hfar, ?_⟩
    rintro hn a rfl
    exact ⟨fun href => (State.exchange_near offset hn).trans (if_pos href), fun href => (State.exchange_near offset hn).trans (if_neg href)⟩
  · rw [exec_announceRx_up y hp, if_neg (State.symbolOk_rejects hno)]
  · rw [exec_announceRx_up y hp, if_pos (State.symbolOk_iff.mpr ⟨ht, hd⟩), State.takeAnnounce, if_pos h255]
  · rw [exec_announceRx_up y hp, if_pos (State.symbolOk_iff.mpr ⟨ht, hd⟩), State.takeAnnounce, if_neg (Nat.not_le.mpr h255)]
  · rw [exec_timeSymbolRx_up y frac turn hp, State.timeSymbol_other hno]
  · rw [exec_timeSymbolRx_up y frac turn hp, State.timeSymbol_sync ht hd, exec_syncRx_up y frac turn hp,
      if_pos (State.symbolOk_iff.mpr ⟨ht, hd⟩)]
    exact ⟨rfl, _, rfl⟩
  · rw [exec_timeSymbolRx_up y frac turn hp, State.timeSymbol_echo ht hd, exec_echoRx_up y frac hp,
      if_pos (State.symbolOk_iff.mpr ⟨ht, hd⟩)]
    exact ⟨rfl, _, rfl⟩
  · rw [exec_timeSymbolRx_up y frac turn hp, State.timeSymbol_announce ht hd, exec_announceRx_up y hp,
      if_pos (State.symbolOk_iff.mpr ⟨ht, hd⟩)]
    exact ⟨rfl, _, rfl⟩
  · rintro port c s hc hold a rfl
    exact exec_announceWithdraw_stale hc hold

end Sys2Proof.Machine

/-! PROOFS. The clock tick, the loss of references, HOLDOVER, the pulse pins and the triggers, and the statement about them. -/
namespace Sys2Proof.Machine

/-! ### The clock tick (R52, R54, R55; logs 22, 30 and 31) -/

/-- One period of a running clock: the counters of ticks, then time, fraction and phase. -/
theorem State.timeTick_running {s : State} (h : s.timeRuns = true) :
    s.timeTick = { s.countTicks s.advance with time := { (s.countTicks s.advance).time with
      now := (s.time.now + s.advance) % 18446744073709551616
      fraction := BitVec.ofInt 32 s.rateSum
      phaseLeft := s.time.phaseLeft - s.slewNow } } :=
  if_pos h

theorem State.timeTick_stopped {s : State} (h : s.timeRuns = false) : s.timeTick = s :=
  if_neg (by simp [h])

/-! ### Losing the reference and holdover (R67, R68, R83; logs 24 and 27) -/

/-- The sync interval of a reference port is the eighth of its announce interval. -/
theorem exec_referenceLost_overdue {s : State} {n : Nat} (hr : s.time.ref = .port n)
    (ho : s.time.lastAccept + s.par d2_0030 0 * (s.announceInterval n / 8) ≤ s.now) : exec .referenceLost s = .next s.loseRef := by
  show execReferenceLost s = _
  simp only [execReferenceLost, State.refInterval, hr, ho, if_true]

theorem State.loseRef_acquiring {s : State} (hm : s.time.mode = .acquiring) :
    s.loseRef = (s.setRef .none).setTimeMode .freeRun := by
  simp only [loseRef, hm]

/-- LOCKED without another port that carries the grandmaster ends in HOLDOVER. -/
theorem State.loseRef_locked_alone {s : State} (hm : s.time.mode = .locked) (ho : s.otherPort = none) :
    s.loseRef = (s.setRef .none).setTimeMode .holdover := by
  simp only [loseRef, hm, ho]

/-- Another port that carries the grandmaster takes the place of the lost one, and its first offset is a first offset. -/
theorem State.loseRef_locked_other {s : State} {p : Nat} (hm : s.time.mode = .locked) (ho : s.otherPort = some p) :
    s.loseRef = { s.setRef (.port p) with time := { (s.setRef (.port p)).time with firstOffset := true } } := by
  simp only [loseRef, hm, ho]

theorem State.loseRef_unlocked {s : State} (hm : s.time.mode = .holdover ∨ s.time.mode = .freeRun) : s.loseRef = s.setRef .none := by
  obtain hm | hm := hm <;> simp only [loseRef, hm]

theorem exec_holdoverExpire_over {s : State} (hm : s.time.mode = .holdover) (ho : s.errorOver = true) :
    exec .holdoverExpire s = .next ((s.setRef .none).setTimeMode .freeRun) :=
  if_pos ⟨hm, ho⟩

/-! ### The pulse pins (R84 to R86; log 26) -/

theorem exec_ppsOutEdge_second {s : State} (hr : s.timeRuns = true) (he : s.par d2_0051 0 ≠ 0) (hn : s.now % 1250000000 ≤ 2)
    (hlow : s.time.ppsOut = false) :
    exec .ppsOutEdge s = .next { s with out := s.out ++ [.pin 0 true], time := { s.time with ppsOut := true, ppsOutRose := s.now } } := by
  have hg : (s.timeRuns && s.parFlag d2_0051 0 && s.now % second ≤ 2 && !s.time.ppsOut) = true := by
    simp [hr, State.parFlag, he, second, hn, hlow]
  exact if_pos hg

theorem exec_ppsOutFall_elapsed {s : State} (hh : s.time.ppsOut = true) (he : s.time.ppsOutRose + s.par d2_0052 0 ≤ s.now) :
    exec .ppsOutFall s = .next { s with out := s.out ++ [.pin 0 false], time := { s.time with ppsOut := false } } := by
  have hg : (s.time.ppsOut && s.time.ppsOutRose + s.par d2_0052 0 ≤ s.now) = true := by simp [hh, he]
  exact if_pos hg

/-- R85: the state in which an edge has been latched. -/
def State.latchPps (s : State) : State := { s with time := { s.time with ppsLast := s.ppsEdge } }

/-- Under a policy other than 0 and 1 the edge is latched and no more. -/
theorem exec_ppsInEdge_latch {s : State} (hr : s.timeRuns = true) (h0 : s.par d2_0050 0 ≠ 0) (h1 : s.par d2_0050 0 ≠ 1) :
    exec .ppsInEdge s = .next s.latchPps := by
  have hp : s.latchPps.par d2_0050 0 ≠ 1 := h1
  show execPpsInEdge s = _
  simp only [execPpsInEdge, hr, h0, ne_eq, not_false_eq_true, decide_true, Bool.true_and, if_true]
  exact if_neg hp

/-- Under policy 1 an edge within half a second of a second disciplines time where selection picks this adapter; a further one is
counted. -/
theorem exec_ppsInEdge_discipline {s : State} (hr : s.timeRuns = true) (h1 : s.par d2_0050 0 = 1) :
    exec .ppsInEdge s =
      if 625000000 < (ppsOffset s.ppsEdge).natAbs then .next (s.latchPps.bump d2_0074 0)
      else if s.latchPps.bestClock.map (·.2) = some 0xFD then .next (s.latchPps.acceptPps (4 * ppsOffset s.ppsEdge))
      else .next s.latchPps := by
  have hp : s.latchPps.par d2_0050 0 = 1 := h1
  show execPpsInEdge s = _
  simp only [execPpsInEdge, hr, h1, ne_eq, Nat.one_ne_zero, not_false_eq_true, decide_true, Bool.true_and, if_true]
  refine (if_pos hp).trans ?_
  cases hb : s.latchPps.bestClock <;> simp only [State.latchPps] at hb ⊢ <;> simp [hb]

/-- R86: the PPS reference without an edge for two seconds is lost, and that is remembered. -/
theorem exec_ppsReferenceLost_overdue {s : State} (hr : s.time.ref = .pps) (ho : s.time.lastAccept + 2500000000 ≤ s.now) :
    exec .ppsReferenceLost s = .next { s.losePps with time := { s.losePps.time with ppsLost := true } } :=
  if_pos ⟨hr, ho⟩

theorem State.losePps_acquiring {s : State} (hm : s.time.mode = .acquiring) : s.losePps = (s.setRef .none).setTimeMode .freeRun := by
  simp only [losePps, hm]

theorem State.losePps_locked {s : State} (hm : s.time.mode = .locked) : s.losePps = (s.setRef .none).setTimeMode .holdover := by
  simp only [losePps, hm]

theorem State.losePps_unlocked {s : State} (hm : s.time.mode = .holdover ∨ s.time.mode = .freeRun) : s.losePps = s.setRef .none := by
  obtain hm | hm := hm <;> simp only [losePps, hm]

/-! ### Triggers (R88, R89; log 32) -/

/-- The state in which a trigger has left the list, and is counted when it was late. -/
def State.takeTrigger (x : Trigger) (s : State) : State :=
  { s with time := { s.time with triggers := s.time.triggers.erase x }, ro := if x.late then (s.bump d2_0075 0).ro else s.ro }

/-- What the model does with a due trigger before it looks for the ring. -/
theorem State.takeTrigger_eq (x : Trigger) (s : State) :
    (if x.late then ({ s with time := { s.time with triggers := s.time.triggers.erase x } } : State).bump d2_0075 0
      else { s with time := { s.time with triggers := s.time.triggers.erase x } }) = s.takeTrigger x := by
  unfold State.takeTrigger
  split <;> rfl

/-- The due trigger of a ring that is gone leaves the list. -/
theorem exec_triggerFire_noRing {s : State} {x : Trigger} (hx : s.dueTrigger = some x) (hr : s.ring? x.ring = none) :
    exec .triggerFire s = .next (s.takeTrigger x) := by
  have hring : (s.takeTrigger x).ring? x.ring = none := hr
  show execTriggerFire s = _
  simp only [execTriggerFire, hx, State.takeTrigger_eq, hring]

/-- The due trigger leaves the list, and the entry that it names is released. -/
theorem exec_triggerFire_ring {s : State} {x : Trigger} {r : Ring} (hx : s.dueTrigger = some x) (hr : s.ring? x.ring = some r) :
    exec .triggerFire s = .next ((s.takeTrigger x).setRing x.ring { r with chains := r.chains.map (releaseEntry x) }) := by
  have hring : (s.takeTrigger x).ring? x.ring = some r := hr
  show execTriggerFire s = _
  simp only [execTriggerFire, hx, State.takeTrigger_eq, hring]

/-! ### The statement -/

/-- Settles O19, by the lemma of each command; the servo's rounding, the drift in HOLDOVER, the change of reference while LOCKED, the
counters' whole periods and the order of due triggers are the model's choices (log entries 22, 24, 27, 31 and 32). -/
theorem fabricTimeProgress : Obligations.FabricTimeProgress := by
  unfold Obligations.FabricTimeProgress
  refine ⟨?_, fun s h => ?_, ?_, fun s hm ho => exec_holdoverExpire_over hm (decide_eq_true ho), fun s => exec_ppsOutEdge_second,
    fun s => exec_ppsOutFall_elapsed, ?_, ?_, ?_⟩
  · rintro s a b rfl hr rfl
    exact congrArg (fun t => Host.Outcome.next t.growLoads) (State.timeTick_running hr)
  · exact congrArg (fun t => Host.Outcome.next t.growLoads) (State.timeTick_stopped h)
  · rintro n s hr ho lose rfl
    rw [exec_referenceLost_overdue hr ho]
    exact ⟨fun hm => congrArg _ (State.loseRef_acquiring hm), fun hm hn => congrArg _ (State.loseRef_locked_alone hm hn),
      fun p hm hp => congrArg _ (State.loseRef_locked_other hm hp), fun hm => congrArg _ (State.loseRef_unlocked hm)⟩
  · rintro s e a hr rfl rfl
    refine ⟨exec_ppsInEdge_latch hr, fun h1 hfar => ?_, fun h1 hnear => ⟨fun ann hb => ?_, fun hb => ?_⟩⟩
    · exact (exec_ppsInEdge_discipline hr h1).trans (if_pos hfar)
    · have hself : s.latchPps.bestClock.map (·.2) = some 0xFD := by rw [State.latchPps]; exact congrArg _ hb
      exact ((exec_ppsInEdge_discipline hr h1).trans (if_neg (Nat.not_lt.mpr hnear))).trans (if_pos hself)
    · have hother : s.latchPps.bestClock.map (·.2) ≠ some 0xFD := fun h => by
        obtain ⟨⟨ann, p⟩, hc, rfl⟩ := Option.map_eq_some_iff.mp h
        exact hb ann hc
      exact ((exec_ppsInEdge_discipline hr h1).trans (if_neg (Nat.not_lt.mpr hnear))).trans (if_neg hother)
  · rintro s a hr ho rfl
    rw [exec_ppsReferenceLost_overdue hr ho]
    refine ⟨fun hm => ?_, fun hm => ?_, fun hm => ?_⟩
    · rw [State.losePps_acquiring hm]; rfl
    · rw [State.losePps_locked hm]; rfl
    · rw [State.losePps_unlocked hm]; rfl
  · rintro x s a hx rfl
    exact ⟨exec_triggerFire_noRing hx, fun r => exec_triggerFire_ring hx⟩

end Sys2Proof.Machine

/-! PROOFS. IEEE 1588 on a standard-mode port: what a message does and what the sync interval sends, and the statement about them. -/
namespace Sys2Proof.Machine

/-! ### A received message (R76, R77; logs 28 and 29) -/

/-- A message is taken only where 1588 is enabled on the port and the domain is the adapter's. -/
theorem State.takePtp_ignored {s : State} {port : Nat} {msg : Bytes} (frac : Nat)
    (h : s.par d2_0025 port = 0 ∨ beNat (slice 4 1 msg) ≠ s.par d2_0014 0) : s.takePtp port msg frac = s := by
  refine if_neg fun hg => ?_
  rw [Bool.and_eq_true, parFlag, decide_eq_true_eq, decide_eq_true_eq] at hg
  obtain ⟨hen, hdom⟩ := hg
  exact h.elim hen (· hdom)

section
variable {s : State} {port : Nat} {msg : Bytes} (frac : Nat)
  (hen : s.par d2_0025 port ≠ 0) (hdom : beNat (slice 4 1 msg) = s.par d2_0014 0)
include hen hdom

/-- The guard of every message that is taken. -/
theorem State.ptpGuard_holds : (s.parFlag d2_0025 port && beNat (slice 4 1 msg) = s.par d2_0014 0) = true := by
  simp [parFlag, hen, hdom]

theorem State.takePtp_sync_twoStep (ht : beNat (slice 0 1 msg) % 16 = 0) (h2 : ptpTwoStep msg = true) :
    s.takePtp port msg frac = s.setTimePort port { s.timePort port with
      ptpT1 := some (BitVec.ofNat 16 (beNat (slice 30 2 msg)), ((4 * s.now + frac % 4 : Nat) : Int) - ptpCorrection msg) } := by
  simp only [takePtp, ptpGuard_holds hen hdom, ht, h2, if_true]

theorem State.takePtp_sync_oneStep (ht : beNat (slice 0 1 msg) % 16 = 0) (h2 : ptpTwoStep msg = false) :
    s.takePtp port msg frac = s.ptpOffset port (ptpTime msg + ptpCorrection msg) (4 * s.now + frac % 4 : Nat) := by
  simp only [takePtp, ptpGuard_holds hen hdom, ht, h2, if_true, Bool.false_eq_true, if_false]

/-- The Follow_Up of the two-step Sync that waits completes it. -/
theorem State.takePtp_followUp {t2 : Int} (ht : beNat (slice 0 1 msg) % 16 = 8)
    (hw : (s.timePort port).ptpT1 = some (BitVec.ofNat 16 (beNat (slice 30 2 msg)), t2)) :
    s.takePtp port msg frac = s.ptpOffset port (ptpTime msg + ptpCorrection msg) t2 := by
  simp [takePtp, ptpGuard_holds hen hdom, ht, hw]

theorem State.takePtp_announce (ht : beNat (slice 0 1 msg) % 16 = 0xB) :
    s.takePtp port msg frac = s.takeAnnounce port (ptpAnnounce msg) := by
  simp [takePtp, ptpGuard_holds hen hdom, ht]

/-- A Pdelay_Req is answered under the peer-to-peer mechanism. -/
theorem State.takePtp_pdelayReq (ht : beNat (slice 0 1 msg) % 16 = 2) (hm : s.par d2_0022 0 = 0) :
    s.takePtp port msg frac = s.ptpSend port 3 (s.ptpMessage 3 false (BitVec.ofNat 16 (beNat (slice 30 2 msg))) port
      (ptpStamp (4 * s.now + frac % 4) ++ slice 20 10 msg)) := by
  simp [takePtp, ptpGuard_holds hen hdom, ht, hm]

/-- A Delay_Req is answered under the end-to-end mechanism. -/
theorem State.takePtp_delayReq (ht : beNat (slice 0 1 msg) % 16 = 1) (hm : s.par d2_0022 0 ≠ 0) :
    s.takePtp port msg frac = s.ptpSend port 9 (s.ptpMessage 9 false (BitVec.ofNat 16 (beNat (slice 30 2 msg))) port
      (ptpStamp (4 * s.now + frac % 4) ++ slice 20 10 msg)) := by
  simp [takePtp, ptpGuard_holds hen hdom, ht, hm]

/-- The answer of the mechanism in use: Pdelay_Resp or Delay_Resp. -/
theorem State.takePtp_delayResp (ht : (beNat (slice 0 1 msg) % 16 = 3 ∧ s.par d2_0022 0 = 0) ∨
      (beNat (slice 0 1 msg) % 16 = 9 ∧ s.par d2_0022 0 ≠ 0)) :
    s.takePtp port msg frac = s.ptpDelayAnswer port msg (4 * s.now + frac % 4) := by
  obtain ⟨ht, hm⟩ | ⟨ht, hm⟩ := ht <;> simp [takePtp, ptpGuard_holds hen hdom, ht, hm]

/-- The Pdelay_Resp_Follow_Up of the answer that waits completes the delay. -/
theorem State.takePtp_pdelayFollowUp {d : Int} (ht : beNat (slice 0 1 msg) % 16 = 0xA) (hm : s.par d2_0022 0 = 0)
    (hw : (s.timePort port).ptpResp = some (BitVec.ofNat 16 (beNat (slice 30 2 msg)), d)) (hmine : s.ptpMine port msg = true) :
    s.takePtp port msg frac = s.setTimePort port { s.timePort port with
      ptpResp := none, ptpDelay := some ((d - ptpTime msg - ptpCorrection msg) / 2) } := by
  simp [takePtp, ptpGuard_holds hen hdom, ht, hm, hw, hmine]

end

theorem exec_ptpMessageRx_up {s : State} {port : Nat} (msg : Bytes) (frac : Nat) (hp : s.etherUp port = true) :
    exec (.ptpMessageRx port msg frac) s = .next (s.takePtp port msg frac) :=
  if_pos hp

/-! ### The sync interval (R76) -/

@[simp] theorem State.ptpSend_par (port type : Nat) (msg : Bytes) (s : State) : (s.ptpSend port type msg).par = s.par := rfl
@[simp] theorem State.ptpSend_time (port type : Nat) (msg : Bytes) (s : State) : (s.ptpSend port type msg).time = s.time := rfl
@[simp] theorem State.ptpSend_now (port type : Nat) (msg : Bytes) (s : State) : (s.ptpSend port type msg).now = s.now := rfl
@[simp] theorem State.ptpSend_ptpInterval (port type : Nat) (msg : Bytes) (s : State) :
    (s.ptpSend port type msg).ptpInterval = s.ptpInterval := rfl
@[simp] theorem State.ptpSend_ownClock (port type : Nat) (msg : Bytes) (s : State) : (s.ptpSend port type msg).ownClock = s.ownClock := rfl
@[simp] theorem State.ptpSend_ptpMessage (port type : Nat) (msg : Bytes) (s : State) :
    (s.ptpSend port type msg).ptpMessage = s.ptpMessage := rfl

/-- What leaves at the interval, each with its message type: the Sync, its Follow_Up when two-step, an Announce after every eighth,
and the delay request of the mechanism. -/
def State.ptpSyncFrames (s : State) (port q : Nat) : List (Nat × Bytes) :=
  let two := decide (s.par d2_0024 0 = 0)
  let seq := (s.timePort port).ptpSeq
  let a := if s.time.ref = .none then s.ownClock else s.time.gm
  let k := if s.par d2_0022 0 = 0 then 2 else 1
  [(0, s.ptpMessage 0 two seq port (if two then List.replicate 10 0 else ptpStamp q))] ++
  (if two then [(8, s.ptpMessage 8 false seq port (ptpStamp q))] else []) ++
  (if seq.toNat % 8 = 7 then [(0xB, s.ptpMessage 0xB false seq port (List.replicate 10 0 ++ beBytes 2 a.utcOffset.toNat ++ [0]
    ++ beBytes 1 a.priority1.toNat ++ beBytes 1 a.clockClass.toNat ++ beBytes 1 a.accuracy.toNat ++ beBytes 2 a.variance.toNat
    ++ beBytes 1 a.priority2.toNat ++ beBytes 8 a.identity.toNat ++ beBytes 2 (a.stepsRemoved.toNat + 1) ++ [0xA0]))] else []) ++
  [(k, s.ptpMessage k false seq port (List.replicate 20 0))]

/-- At the interval the frames leave in their order. Sending changes nothing that a later frame is made from, so each is the frame
of the state before. -/
theorem exec_ptpSyncSend_due {s : State} {port : Nat} (frac : Nat) (hp : s.etherUp port = true) (hen : s.par d2_0025 port ≠ 0)
    (hn : (s.timePort port).ptpNext ≤ s.now) :
    exec (.ptpSyncSend port frac) s =
      .next (((s.ptpSyncFrames port (4 * s.now + frac % 4)).foldl (fun s e => s.ptpSend port e.1 e.2) s).setTimePort port
        { s.timePort port with
          ptpSeq := (s.timePort port).ptpSeq + 1, ptpNext := s.now + s.ptpInterval
          ptpReq := some ((s.timePort port).ptpSeq, 4 * s.now + frac % 4) }) := by
  have hg : (s.etherUp port && s.parFlag d2_0025 port && (s.timePort port).ptpNext ≤ s.now) = true := by
    simp [hp, State.parFlag, hen, hn]
  show execPtpSyncSend port frac s = _
  by_cases two : s.par d2_0024 0 = 0 <;> by_cases eighth : (s.timePort port).ptpSeq.toNat % 8 = 7 <;>
    simp only [execPtpSyncSend, hg, two, eighth, if_true, if_false, decide_true, decide_false, Bool.false_eq_true,
      State.ptpSyncFrames, List.foldl_append, List.foldl_cons, List.foldl_nil, State.ptpSend_par, State.ptpSend_time,
      State.ptpSend_ownClock, State.ptpSend_ptpMessage, State.ptpSend_now, State.ptpSend_ptpInterval]

/-! ### The statement -/

/-- Settles O20, by the lemma of each message and of the sync interval; the STEPS_REMOVED of an own Announce, the sign of the
asymmetry and the messages' layouts are the model's choices (log entries 25, 28 and 29). -/
theorem ptpMessages : Obligations.PtpMessages := by
  unfold Obligations.PtpMessages
  refine ⟨fun port msg frac s hp => ?_, ?_⟩
  · rw [exec_ptpMessageRx_up msg frac hp]
    refine ⟨fun h => congrArg _ (State.takePtp_ignored frac h), ?_⟩
    rintro hen hdom type seq tp rfl rfl rfl
    exact ⟨fun ht h2 => congrArg _ (State.takePtp_sync_twoStep frac hen hdom ht h2),
      fun ht h2 => congrArg _ (State.takePtp_sync_oneStep frac hen hdom ht h2),
      fun t2 ht hw => congrArg _ (State.takePtp_followUp frac hen hdom ht hw),
      fun ht => congrArg _ (State.takePtp_announce frac hen hdom ht),
      fun ht hm => congrArg _ (State.takePtp_pdelayReq frac hen hdom ht hm),
      fun ht hm => congrArg _ (State.takePtp_delayReq frac hen hdom ht hm),
      fun ht => congrArg _ (State.takePtp_delayResp frac hen hdom ht),
      fun d ht hm hw hmine => congrArg _ (State.takePtp_pdelayFollowUp frac hen hdom ht hm hw hmine)⟩
  · rintro port frac q k two a s tp zeros frames hp hen rfl hn rfl rfl rfl rfl rfl rfl
    exact exec_ptpSyncSend_due frac hp hen hn

end Sys2Proof.Machine

/-! PROOFS. The package's reset, its release and its supplies: the state each command leaves, and the statement about them. -/
namespace Sys2Proof.Machine

/-! ### Package reset (R108, R394, R717, R738, R745, R746) -/

/-- What a package reset sends as it lets the output pins go: PPS_OUT low, THERMTRIP_N and FAULT_N high. -/
def State.pinsLetGo (s : State) : List Emit :=
  (if s.time.ppsOut then [.pin pinPpsOut false] else []) ++ (if s.pkg.pins.thermTrip then [.pin pinThermTrip true] else []) ++
    (if s.pkg.pins.faultN then [.pin pinFault true] else [])

/-- Sending where a flag is set only sends. -/
theorem State.emit_ite (b : Bool) (e : Emit) (s : State) :
    (if b then s.emit e else s) = { s with out := s.out ++ (if b then [e] else []) } := by
  cases b
  · exact congrArg (fun o => ({ s with out := o } : State)) (List.append_nil s.out).symm
  · rfl

/-- Letting the pins go only sends. -/
theorem State.releasePins_eq (s : State) : s.releasePins = { s with out := s.out ++ s.pinsLetGo } := by
  simp only [State.releasePins, State.emit_ite, State.pinsLetGo, List.append_assoc]

/-- The whole state after a package reset into `phase`. -/
theorem State.packageReset_eq (phase : Phase) (s : State) :
    s.packageReset phase = { State.reset with
      pkg := { part := s.pkg.part, fuses := s.pkg.fuses, phase := phase, pins := { jtagReset := s.pkg.pins.jtagReset } }
      hosts := s.hosts.filterMap (fun e => if e.2.perst then none else some (e.1, { perst := false }))
      mgmt := { flash := s.mgmt.flash }
      faults := { lastFatal := s.faults.lastFatal }
      out := s.out ++ s.pinsLetGo
      free := s.free
      pending := s.pending } := by
  rw [State.packageReset, State.releasePins_eq]
  rfl

/-- The phase is all in which two package resets of a state differ. -/
theorem State.packageReset_phase (p q : Phase) (s : State) :
    s.packageReset q = { s.packageReset p with pkg := { (s.packageReset p).pkg with phase := q } } := by
  simp only [State.packageReset_eq]

/-! ### The release of reset (R53, R680, R693, R694, R737, R743; log 13, log 89) -/

/-- The state as a release leaves it before the ROM runs: the straps latched and BOOT_ID drawn. -/
def State.strapped (straps : BitVec 4) (s : State) : State :=
  { s with
    free := s.free + 1
    pkg := { s.pkg with phase := .booting, pins := { s.pkg.pins with
      clkH0 := flag 0 straps, clkH1 := flag 1 straps, sscOff := flag 2 straps, test := flag 3 straps } }
    mgmt := { s.mgmt with bootId := bootIdOf (Config.freeWord32 s.free) } }

/-- The ROM boots after a release unless STRAP_TEST is high. -/
theorem State.release_eq (straps : BitVec 4) (s : State) :
    s.release straps = if flag 3 straps then s.strapped straps else (s.strapped straps).boot := rfl

/-- A release does not depend on the phase it ends. -/
theorem State.release_phase (straps : BitVec 4) (p : Phase) (s : State) :
    ({ s with pkg := { s.pkg with phase := p } } : State).release straps = s.release straps := rfl

theorem exec_packageResetRelease_held {s : State} (straps : BitVec 4) (hp : s.pkg.phase = .held) :
    exec (.packageResetRelease straps) s = .next (s.release straps) :=
  if_pos hp

theorem exec_supplyRestored_hold {s : State} (straps : BitVec 4) (hp : s.pkg.phase = .supplyHold) :
    exec (.supplyRestored straps) s = .next (s.release straps) :=
  if_pos hp

/-- The preferred slot runs where it passes the checks. -/
theorem State.boot_preferred {s : State} (h : s.checkSlot s.prefersB = 2) : s.boot = s.runSlot s.prefersB 0 := by
  simp only [State.boot, if_pos h]

/-- The other slot runs where the preferred one fails a check and it passes them. -/
theorem State.boot_other {s : State} (h : s.checkSlot s.prefersB ≠ 2) (h' : s.checkSlot (!s.prefersB) = 2) :
    s.boot = s.runSlot (!s.prefersB) 1 := by
  simp only [State.boot, if_neg h, if_pos h']

/-- Recovery is entered where both slots fail a check. -/
theorem State.boot_recovery {s : State} (h : s.checkSlot s.prefersB ≠ 2) (h' : s.checkSlot (!s.prefersB) ≠ 2) :
    s.boot = { s with pkg := { s.pkg with phase := .recovery }, mgmt := { s.mgmt with bootStatus := 2 } } := by
  simp only [State.boot, if_neg h, if_neg h']

/-! ### The supplies (R717, R735; log 81) -/

/-- A supply fault while VDD_IO stays in range: a FATAL entry of source POWER is kept over the reset. -/
theorem exec_supplyFault_ioStays {s : State} (hr : s.timeRuns = true) :
    exec (.supplyFault true) s = .next (({ s with faults := { s.faults with
      lastFatal := faultEntry s.now (location 7 3 0 0 0 0 0 0) .fatal .power none 0 0 0 } } : State).packageReset .supplyHold) :=
  if_pos hr

/-- A supply fault with VDD_IO lost: the kept entry is free. -/
theorem exec_supplyFault_ioLost {s : State} (hr : s.timeRuns = true) :
    exec (.supplyFault false) s = .next (s.lostFatal.packageReset .supplyHold) :=
  if_pos hr

/-- The loss of VDD_IO shows after the reset in the kept entry and the free counter alone. -/
theorem State.packageReset_lostFatal (s : State) :
    s.lostFatal.packageReset .supplyHold = { s.packageReset .held with
      pkg := { (s.packageReset .held).pkg with phase := .supplyHold }
      free := s.free + 8
      faults := { (s.packageReset .held).faults with lastFatal := s.lostFatal.faults.lastFatal } } := by
  simp only [State.packageReset_eq]
  rfl

/-! ### The statement -/

/-- Settles O11, by the equation of each command; what a reset keeps, that BOOT_ID is free but not 0, that the kept entry is free
after a loss of VDD_IO, and that PERST_N and TRST_N keep their state and STRAP_TEST keeps booting are the model's choices (log
entries 12, 13, 81 and 89). -/
theorem packageResetAndRelease : Obligations.PackageResetAndRelease := by
  unfold Obligations.PackageResetAndRelease
  refine ⟨fun s => ?_, fun straps s hp ht => ?_, ?_, fun straps s hp => ?_, fun s hr => ?_, fun s hr => ?_, fun s => rfl⟩
  · have h := s.packageReset_eq .held
    simp only [State.pinsLetGo, ← List.append_assoc] at h
    exact congrArg _ h
  · rw [exec_packageResetRelease_held straps hp, State.release_eq, if_pos ht, State.strapped, ht]
  · intro straps s hp ht r hr
    have hs : s.strapped straps = r := by rw [State.strapped, ht, hr]
    have hb : exec (.packageResetRelease straps) s = .next r.boot := by
      rw [exec_packageResetRelease_held straps hp, State.release_eq, hs, if_neg (by simp [ht])]
    exact ⟨fun h => hb.trans (congrArg _ (State.boot_preferred h)), fun h h' => hb.trans (congrArg _ (State.boot_other h h')),
      fun h h' => hb.trans (congrArg _ (State.boot_recovery h h'))⟩
  · exact ⟨_, exec_supplyRestored_hold straps hp,
      (exec_packageResetRelease_held straps rfl).trans (congrArg _ (State.release_phase straps .held s))⟩
  · exact ⟨_, rfl, (exec_supplyFault_ioStays hr).trans (congrArg _ (State.packageReset_phase .held .supplyHold _))⟩
  · exact ⟨_, rfl, _, (exec_supplyFault_ioLost hr).trans (congrArg _ s.packageReset_lostFatal)⟩

end Sys2Proof.Machine

/-! PROOFS. The tables at reset, and the counters, events and fault logs: what each shared operation does, and the statements about
them. -/
namespace Sys2Proof.Machine

/-! ### The sets at reset (R108) -/

theorem ParamSet.int_empty (part : Part) (p : Param) (i : Nat) : ({} : ParamSet).int part p i = defaultOf part p i := rfl

theorem ParamSet.blob_empty (p : Param) (i off n : Nat) : ({} : ParamSet).blob p i off n = List.replicate n 0 := by
  show (List.range n).map (fun _ => (0 : Byte)) = _
  rw [List.map_const', List.length_range]

/-- Settles O5: both sets are empty at reset, so that every integer reads its default and every byte 0. That a table lists only what
differs from its default is the model's choice (log entry 4). -/
theorem resetTables : Obligations.ResetTables := by
  unfold Obligations.ResetTables
  exact ⟨⟨rfl, rfl, rfl, rfl⟩, fun part p i off n => ⟨ParamSet.int_empty part p i, ParamSet.int_empty part p i,
    ParamSet.blob_empty p i off n, ParamSet.blob_empty p i off n⟩⟩

/-! ### Events (R708 to R713; log 102) -/

/-- An event whose ring is not running, or full, is dropped: LOST becomes pending and the drop is counted. -/
theorem State.event_dropped {s : State} {t : Nat} (cls reason object loc detail : Nat)
    (h : (s.tenant t).events.mode ≠ .running ∨
      serialDiff (s.tenant t).events.produced (s.tenant t).events.consumed ≥ 2 ^ (s.eventDesc t).log2) :
    s.event t cls reason object loc detail = s.dropEvent t :=
  if_pos (by simpa using h)

/-- The guard that drops an event does not hold of a running ring with room. -/
theorem EventRing.not_dropping {ev : EventRing} {n : Nat} (hrun : ev.mode = .running) (hroom : serialDiff ev.produced ev.consumed < n) :
    ¬(ev.mode ≠ .running || serialDiff ev.produced ev.consumed ≥ n) = true := by
  simp [hrun, hroom]

section
variable {s : State} {t : Nat} {ev : EventRing} {d : EventDesc} (cls reason object loc detail : Nat)
  (hev : (s.tenant t).events = ev) (hrun : ev.mode = .running) (hd : s.eventDesc t = d)
  (hroom : serialDiff ev.produced ev.consumed < 2 ^ d.log2)
include hev hrun hd hroom

/-- An event whose ring has room and whose entry is written: n rises, LOST clears, and vector 0 is raised where the descriptor asks
for it and no notice is outstanding. -/
theorem State.event_written {u : State}
    (hu : s.placeWrite t ⟨d.space, d.port, d.pasid⟩ (d.base + 32 * (ev.produced.toNat % 2 ^ d.log2))
      (bytesOf 32 (eventEntry cls reason ev.produced object s.now loc detail ev.lost)) = some u) :
    s.event t cls reason object loc detail =
      if d.msix = true ∧ ev.notified = false then
        (u.setTenant t { u.tenant t with events := { ev with produced := ev.produced + 1, lost := false, notified := true } }).raiseMsix t 0
      else u.setTenant t { u.tenant t with events := { ev with produced := ev.produced + 1, lost := false, notified := ev.notified } } := by
  subst hev hd
  simp only [State.event, if_neg (EventRing.not_dropping hrun hroom), hu]
  cases (s.eventDesc t).msix <;> cases (s.tenant t).events.notified <;> rfl

/-- An event whose ring has room and whose entry cannot be written: the ring is in ERROR, and the tenant's log holds the fault. -/
theorem State.event_failed
    (hu : s.placeWrite t ⟨d.space, d.port, d.pasid⟩ (d.base + 32 * (ev.produced.toNat % 2 ^ d.log2))
      (bytesOf 32 (eventEntry cls reason ev.produced object s.now loc detail ev.lost)) = none) :
    s.event t cls reason object loc detail = (s.setTenant t { s.tenant t with events := { ev with mode := .error } }).logTenantEntry t
      (faultEntry s.now 0 .tenant .ring (some t) 0xFFFFF (d.base + 32 * (ev.produced.toNat % 2 ^ d.log2)) 0) := by
  subst hev hd
  simp only [State.event, if_neg (EventRing.not_dropping hrun hroom), hu]

end

/-! ### A tenant's fault log (R716) -/

theorem State.tenant_logTenantEntry {s : State} (t : Nat) (e : W512) (h : twfD {} s.tenants = true) :
    (s.logTenantEntry t e).tenant t =
      { s.tenant t with log := (e :: (s.tenant t).log).take 64, logCount := (s.tenant t).logCount + 1 } :=
  State.tenant_setTenant t _ h

theorem State.tenant_logTenantEntry_ne {n t : Nat} (h : n ≠ t) (s : State) (e : W512) : (s.logTenantEntry t e).tenant n = s.tenant n :=
  State.tenant_setTenant_ne h s _

/-! ### The statement -/

/-- Settles O10, by the lemmas of counters, of an event's three outcomes and of the logs; the order of the entries of one command is
the model's choice (log entry 102). -/
theorem countersEventsAndFaults : Obligations.CountersEventsAndFaults := by
  unfold Obligations.CountersEventsAndFaults
  refine ⟨fun s p i n hro => ⟨State.roVal_count p i n hro, fun q j hq => State.roVal_count_ne hq s n, rfl⟩,
    fun s t cls reason object loc detail h => State.event_dropped cls reason object loc detail h,
    fun s u t cls reason object loc detail d ev e hev hrun hd hroom he hu => ?_,
    fun s t cls reason object loc detail d ev hev hrun hd hroom hu =>
      State.event_failed cls reason object loc detail hev hrun hd hroom hu,
    fun s sev e => ⟨rfl, rfl, rfl, rfl⟩, fun s t e ht => ⟨?_, ?_, fun n hn => State.tenant_logTenantEntry_ne hn s e, rfl⟩⟩
  · rw [he] at hu
    exact State.event_written cls reason object loc detail hev hrun hd hroom hu
  · rw [State.tenant_logTenantEntry t e ht]
  · rw [State.tenant_logTenantEntry t e ht]

end Sys2Proof.Machine

/-! PROOFS. The dictionary's READ, DESCRIBE and ENUMERATE: what each check and each operation answers, and the statement about
them. -/
namespace Sys2Proof.Machine

/-! ### The request at the head of the queue (R110, R113, R675; log 35) -/

/-- The result of an operation is answered on the path of its request. -/
def DictResult.sent (q : DictRequest) (r : DictResult) : State := r.next.answer q.route (r.next.responseTo q.bytes r.reason r.detail r.value)

/-- A request that is turned away is answered with its reason alone. -/
theorem DictResult.sent_turnAway (q : DictRequest) (s : State) (r : Reason) :
    (s.turnAway r).sent q = s.answer q.route (s.responseTo q.bytes r none []) := rfl

section
variable {s : State} {q : DictRequest} {rest : List DictRequest}

/-- The state in which the request at the head executes: it has left the queue. -/
def State.dequeued (rest : List DictRequest) (s : State) : State := { s with dict := { s.dict with queue := rest } }

/-- The request at the head, when it names the operation and need not wait, leaves the queue, executes and is answered. -/
theorem State.serve_head {op : Nat} (f : ReqClass → Bytes → State → DictResult) (hq : s.dict.queue = q :: rest)
    (hop : rqOp q.bytes = op) (hw : s.mustWait q.bytes = false) :
    s.serve op f = (f q.route.cls q.bytes (s.dequeued rest)).sent q := by
  have hg : ¬(rqOp q.bytes ≠ op || s.mustWait q.bytes) = true := by simp [hop, hw]
  simp only [State.serve, hq, if_neg hg, DictResult.sent, State.dequeued]

/-- DICT_READ and DICT_READ_SHADOW execute READ, each of its own set. -/
theorem exec_read_head (shadow : Bool) (hq : s.dict.queue = q :: rest) (hop : rqOp q.bytes = (if shadow then 2 else 1))
    (hw : s.mustWait q.bytes = false) :
    exec (if shadow then .dictReadShadow else .dictRead) s = .next (((s.dequeued rest).dictRead q.route.cls q.bytes
      (if shadow then s.dict.shadow else s.dict.active)).sent q) := by
  cases shadow <;> exact congrArg _ (State.serve_head _ hq hop hw)

theorem exec_dictDescribe_head (hq : s.dict.queue = q :: rest) (hop : rqOp q.bytes = 4) (hw : s.mustWait q.bytes = false) :
    exec .dictDescribe s = .next (((s.dequeued rest).dictDescribe q.route.cls q.bytes).sent q) :=
  congrArg _ (State.serve_head _ hq hop hw)

theorem exec_dictEnumerate_head (hq : s.dict.queue = q :: rest) (hop : rqOp q.bytes = 5) (hw : s.mustWait q.bytes = false) :
    exec .dictEnumerate s = .next (((s.dequeued rest).dictEnumerate q.route.cls q.bytes).sent q) :=
  congrArg _ (State.serve_head _ hq hop hw)

theorem exec_dictWrite_head (hq : s.dict.queue = q :: rest) (hop : rqOp q.bytes = 3) (hw : s.mustWait q.bytes = false) :
    exec .dictWrite s = .next (((s.dequeued rest).dictWrite q.route.cls q.bytes).sent q) :=
  congrArg _ (State.serve_head _ hq hop hw)

end

/-! ### READ (R102, R105, R107, R110; log 34, log 36) -/

/-- The offset of a read suits the parameter: 0 for a fixed width, no more than its length for a blob. -/
def State.ReadOffsetOk (s : State) (p : Param) (i off : Nat) : Prop :=
  (p.ty.width ≠ none ∧ off = 0) ∨ (p.ty.width = none ∧ off ≤ s.blobLength p i)

/-- The offset does not suit the parameter. -/
def State.ReadOffsetBad (s : State) (p : Param) (i off : Nat) : Prop :=
  (p.ty.width ≠ none ∧ off ≠ 0) ∨ (p.ty.width = none ∧ s.blobLength p i < off)

/-- The model's check of the offset is the one of `ReadOffsetBad`. -/
theorem State.readOffset_bad_iff (s : State) (p : Param) (i off : Nat) :
    (if p.ty.width.isSome then off ≠ 0 else off > s.blobLength p i) ↔ s.ReadOffsetBad p i off := by
  unfold State.ReadOffsetBad
  cases p.ty.width <;> simp

theorem State.ReadOffsetOk.not_bad {s : State} {p : Param} {i off : Nat} (h : s.ReadOffsetOk p i off) : ¬s.ReadOffsetBad p i off := by
  rintro (⟨hw, ho⟩ | ⟨hw, ho⟩) <;> rcases h with ⟨hw', ho'⟩ | ⟨hw', ho'⟩
  · exact ho ho'
  · exact hw hw'
  · exact hw' hw
  · exact absurd ho (Nat.not_lt.mpr ho')

section
variable {s : State} {c : ReqClass} {b : Bytes} {p : Param} {i : Nat} (ps : ParamSet)

theorem State.dictRead_unnamed {r : Reason} (hn : s.named b = .error r) : s.dictRead c b ps = s.turnAway r := by
  simp only [State.dictRead, hn]

theorem State.dictRead_access (hn : s.named b = .ok (p, i)) (hr : s.mayRead c p i = false) : s.dictRead c b ps = s.turnAway .access := by
  simp only [State.dictRead, hn, hr, Bool.not_false, if_true]

theorem State.dictRead_kind (hn : s.named b = .ok (p, i)) (hr : s.mayRead c p i = true) (hk : p.kind = .wo) :
    s.dictRead c b ps = s.turnAway .kind := by
  simp only [State.dictRead, hn, hr, hk, Bool.not_true, Bool.false_eq_true, if_false, if_true]

theorem State.dictRead_length (hn : s.named b = .ok (p, i)) (hr : s.mayRead c p i = true) (hk : p.kind ≠ .wo)
    (ho : s.ReadOffsetBad p i (rqOffset b)) : s.dictRead c b ps = s.turnAway .length := by
  simp only [State.dictRead, hn, hr, hk, Bool.not_true, Bool.false_eq_true, if_false]
  exact if_pos ((s.readOffset_bad_iff p i _).mpr ho)

theorem State.dictRead_ok (hn : s.named b = .ok (p, i)) (hr : s.mayRead c p i = true) (hk : p.kind ≠ .wo)
    (ho : s.ReadOffsetOk p i (rqOffset b)) :
    s.dictRead c b ps = { reason := .ok, value := s.readBytes ps p i (rqOffset b), next := s.readClears p i } := by
  simp only [State.dictRead, hn, hr, hk, Bool.not_true, Bool.false_eq_true, if_false]
  exact if_neg (mt (s.readOffset_bad_iff p i _).mp ho.not_bad)

end

/-! ### DESCRIBE and ENUMERATE (R13, R110; log 33, log 36) -/

section
variable {s : State} {c : ReqClass} {b : Bytes} {p : Param} {i : Nat}

theorem State.dictDescribe_unnamed {r : Reason} (hn : s.named b = .error r) : s.dictDescribe c b = s.turnAway r := by
  simp only [State.dictDescribe, hn]

theorem State.dictDescribe_access (hn : s.named b = .ok (p, i)) (hr : s.mayRead c p i = false) :
    s.dictDescribe c b = s.turnAway .access := by
  simp only [State.dictDescribe, hn, hr, Bool.false_eq_true, if_false]

theorem State.dictDescribe_ok (hn : s.named b = .ok (p, i)) (hr : s.mayRead c p i = true) :
    s.dictDescribe c b = { reason := .ok, value := s.description p i, next := s } := by
  simp only [State.dictDescribe, hn, hr, if_true]

end

theorem State.dictEnumerate_next {s : State} {c : ReqClass} {b : Bytes} {k : Nat}
    (h : allParams.findSome? (s.nextInstance c (addressKey (rqAddress b))) = some k) :
    s.dictEnumerate c b = { reason := .ok, value := leBytes 8 (keyAddress k), next := s } := by
  simp only [State.dictEnumerate, h]

theorem State.dictEnumerate_end {s : State} {c : ReqClass} {b : Bytes}
    (h : allParams.findSome? (s.nextInstance c (addressKey (rqAddress b))) = none) :
    s.dictEnumerate c b = { reason := .ok, value := leBytes 8 0xFFFFFFFFFFFFFFFF, next := s } := by
  simp only [State.dictEnumerate, h]

/-! ### The statement about reads -/

/-- Settles O22, by the lemma of each check and each operation; the codes of DESCRIBE, the order of several faults, and what
ENUMERATE passes over and a high-water mark starts again at are the model's choices (log entries 33, 34 and 36). -/
theorem dictionaryReads : Obligations.DictionaryReads := by
  unfold Obligations.DictionaryReads
  refine ⟨?_, ?_, ?_⟩
  · rintro shadow q rest s a ps c p i done rfl rfl hq hop hw rfl rfl
    rw [exec_read_head shadow hq hop hw]
    exact ⟨fun hn => by rw [State.dictRead_unnamed (s := s.dequeued rest) _ hn]; rfl,
      fun hn => by rw [State.dictRead_unnamed (s := s.dequeued rest) _ hn]; rfl,
      fun hn hr => by rw [State.dictRead_access (s := s.dequeued rest) _ hn hr]; rfl,
      fun hn hr hk => by rw [State.dictRead_kind (s := s.dequeued rest) _ hn hr hk]; rfl,
      fun hn hr hk ho => by rw [State.dictRead_length (s := s.dequeued rest) _ hn hr hk ho]; rfl,
      fun hn hr hk ho => by rw [State.dictRead_ok (s := s.dequeued rest) _ hn hr hk ho]; rfl⟩
  · rintro q rest s a p i done hq hop hw rfl rfl
    rw [exec_dictDescribe_head hq hop hw]
    exact ⟨fun hn => by rw [State.dictDescribe_unnamed (s := s.dequeued rest) hn]; rfl,
      fun hn => by rw [State.dictDescribe_unnamed (s := s.dequeued rest) hn]; rfl,
      fun hn hr => by rw [State.dictDescribe_access (s := s.dequeued rest) hn hr]; rfl,
      fun hn hr => by rw [State.dictDescribe_ok (s := s.dequeued rest) hn hr]; rfl⟩
  · rintro q rest s a v hq hop hw rfl (⟨k, hk, rfl⟩ | ⟨hk, rfl⟩)
    · rw [exec_dictEnumerate_head hq hop hw, State.dictEnumerate_next (s := s.dequeued rest) hk]; rfl
    · rw [exec_dictEnumerate_head hq hop hw, State.dictEnumerate_end (s := s.dequeued rest) hk]; rfl

end Sys2Proof.Machine

/-! PROOFS. The dictionary's WRITE and the event ring's setup: what each check and each kind of parameter answers, and the statement
about them. -/
namespace Sys2Proof.Machine

/-! ### WRITE (R97, R98, R100, R101, R103, R104, R107, R110, R120; log 34) -/

section
variable {s : State} {c : ReqClass} {b : Bytes} {p : Param} {i : Nat}

theorem State.dictWrite_unnamed {r : Reason} (hn : s.named b = .error r) : s.dictWrite c b = s.turnAway r := by
  simp only [State.dictWrite, hn]

theorem State.dictWrite_access (hn : s.named b = .ok (p, i)) (hr : s.mayWrite c p i = false) :
    s.dictWrite c b = s.turnAway .access := by
  simp only [State.dictWrite, hn, hr, Bool.not_false, if_true]

theorem State.dictWrite_kind (hn : s.named b = .ok (p, i)) (hr : s.mayWrite c p i = true) (hk : p.kind = .ro) :
    s.dictWrite c b = s.turnAway .kind := by
  simp only [State.dictWrite, hn, hr, hk, Bool.not_true, Bool.false_eq_true, if_false, if_true]

theorem State.dictWrite_length (hn : s.named b = .ok (p, i)) (hr : s.mayWrite c p i = true) (hk : p.kind ≠ .ro)
    (hl : writeLengthOk p (rqOffset b) (rqValue b).length = false) : s.dictWrite c b = s.turnAway .length := by
  simp only [State.dictWrite, hn, hr, hk, hl, Bool.not_true, Bool.not_false, Bool.false_eq_true, if_false, if_true]

theorem State.dictWrite_valueRange (hn : s.named b = .ok (p, i)) (hr : s.mayWrite c p i = true) (hk : p.kind ≠ .ro)
    (hl : writeLengthOk p (rqOffset b) (rqValue b).length = true) (hv : s.writeValueOk p (leNat (rqValue b)) = false) :
    s.dictWrite c b = s.turnAway .valueRange := by
  simp only [State.dictWrite, hn, hr, hk, hl, hv, Bool.not_true, Bool.not_false, Bool.false_eq_true, if_false, if_true]

/-- A write that names a parameter that its requester may write, with a length, an offset and a value that suit the parameter. -/
structure State.WriteFits (s : State) (c : ReqClass) (b : Bytes) (p : Param) (i : Nat) : Prop where
  named : s.named b = .ok (p, i)
  allowed : s.mayWrite c p i = true
  length : writeLengthOk p (rqOffset b) (rqValue b).length = true
  value : s.writeValueOk p (leNat (rqValue b)) = true

/-- A value of kind SH waits for a swap that is armed. -/
theorem State.WriteFits.locked (h : s.WriteFits c b p i) (hk : p.kind = .sh) (ha : s.dict.armed ≠ none) :
    s.dictWrite c b = s.turnAway .shadowLocked := by
  simp only [State.dictWrite, h.named, h.allowed, h.length, h.value, hk, Option.isSome_iff_ne_none.mpr ha, reduceCtorEq, Bool.not_true,
    Bool.false_eq_true, if_false, if_true]

/-- A value of kind SH goes to the shadow set. -/
theorem State.WriteFits.shadow (h : s.WriteFits c b p i) (hk : p.kind = .sh) (ha : s.dict.armed = none) :
    s.dictWrite c b = { reason := .ok, next := s.writeShadow p i (leNat (rqValue b)) (rqOffset b) (rqValue b) } := by
  simp only [State.dictWrite, h.named, h.allowed, h.length, h.value, hk, ha, Option.isSome_none, reduceCtorEq, Bool.not_true,
    Bool.false_eq_true, if_false]

/-- A value of kind RW or LV takes effect at once. -/
theorem State.WriteFits.live (h : s.WriteFits c b p i) (hk : p.kind = .rw ∨ p.kind = .lv) :
    s.dictWrite c b = s.writeLive p i (leNat (rqValue b)) (rqValue b) := by
  rcases hk with hk | hk <;>
    simp only [State.dictWrite, h.named, h.allowed, h.length, h.value, hk, reduceCtorEq, Bool.not_true, Bool.false_eq_true, if_false]

/-- A value of kind WO has its effect elsewhere. -/
theorem State.WriteFits.effect (h : s.WriteFits c b p i) (hk : p.kind = .wo) :
    s.dictWrite c b = s.writeOnly p i (leNat (rqValue b)) (rqValue b) := by
  simp only [State.dictWrite, h.named, h.allowed, h.length, h.value, hk, reduceCtorEq, Bool.not_true, Bool.false_eq_true, if_false]

end

/-! ### Where a value goes (R99, R103, R104; log 36) -/

theorem State.writeShadow_int {p : Param} (hw : p.ty.width ≠ none) (i v off : Nat) (b : Bytes) (s : State) :
    s.writeShadow p i v off b = { s with dict := { s.dict with shadow := s.dict.shadow.putInt s.pkg.part p i v } } := by
  simp only [State.writeShadow, Option.isSome_iff_ne_none.mpr hw, if_true]

theorem State.writeShadow_blob {p : Param} (hw : p.ty.width = none) (i v off : Nat) (b : Bytes) (s : State) :
    s.writeShadow p i v off b = { s with dict := { s.dict with shadow := s.dict.shadow.putBlob p i off b } } := by
  simp only [State.writeShadow, hw, Option.isSome_none, Bool.false_eq_true, if_false]

/-- A fixed-width value that has no effect elsewhere is stored in both sets. -/
theorem State.writeLive_int {p : Param} (hev : p ≠ d20_0020) (hq : p ≠ d15_8020) (hf : p ≠ d20_0040) (hw : p.ty.width ≠ none)
    (i v : Nat) (b : Bytes) (s : State) :
    s.writeLive p i v b = { reason := .ok, next := s.setLive p i (storedValue p v) } := by
  simp only [State.writeLive, hev, hq, hf, Option.isSome_iff_ne_none.mpr hw, if_true, if_false]

/-- A blob that has no effect elsewhere is stored in both sets. -/
theorem State.writeLive_blob {p : Param} (hev : p ≠ d20_0020) (hq : p ≠ d15_8020) (hf : p ≠ d20_0040) (hw : p.ty.width = none)
    (i v : Nat) (b : Bytes) (s : State) : s.writeLive p i v b = { reason := .ok, next := s.setLiveBlob p i b } := by
  simp only [State.writeLive, hev, hq, hf, hw, Option.isSome_none, Bool.false_eq_true, if_false]

/-- The five defined bits of ADMIN_MASK are stored. -/
theorem State.writeLive_adminMask (i v : Nat) (b : Bytes) (s : State) :
    s.writeLive d3_0010 i v b = { reason := .ok, next := s.setLive d3_0010 i (v % 32) } :=
  State.writeLive_int (by decide) (by decide) (by decide) (by decide) i v b s

theorem storedValue_of_ne {p : Param} (h : p ≠ d3_0010) (v : Nat) : storedValue p v = v := if_neg h

/-- A result that gives no DETAIL and no VALUE is answered with its reason alone. -/
theorem DictResult.sent_bare {r : DictResult} (hd : r.detail = none) (hv : r.value = []) (q : DictRequest) :
    r.sent q = r.next.answer q.route (r.next.responseTo q.bytes r.reason none []) := by
  simp only [DictResult.sent, hd, hv]

/-! ### The event ring's setup (R708, R709, R712; log 38) -/

/-- A tenant's event ring stops. -/
def State.stopEvents (t : Nat) (s : State) : State :=
  s.setTenant t { s.tenant t with events := { (s.tenant t).events with mode := .stopped } }

theorem exec_eventRingSetup_live {s : State} {t : Nat} (desc : Bytes) (hl : s.fnLive t = true) :
    exec (.eventRingSetup t desc) s = .next (s.eventRingSetup t (slice 0 32 desc)).1 :=
  if_pos hl

/-- A descriptor that is refused leaves the ring stopped. -/
theorem State.eventRingSetup_bad {s : State} {t : Nat} {b : Bytes} (h : s.eventDescOk t b = false) :
    (s.eventRingSetup t b).1 = s.stopEvents t := by
  simp only [State.eventRingSetup, h, Bool.false_eq_true, if_false, State.stopEvents]

/-- A good descriptor is stored in both sets, and with ENABLE the ring runs from 0. -/
theorem State.eventRingSetup_good {s e : State} {t : Nat} {b : Bytes} (h : s.eventDescOk t b = true)
    (he : e = (s.stopEvents t).setLiveBlob d20_0020 t b) :
    (s.eventRingSetup t b).1 = if (eventDescOf b).enable = true then e.setTenant t { e.tenant t with
      events := { (e.tenant t).events with mode := .running, produced := 0, consumed := 0, notified := false } } else e := by
  simp only [State.eventRingSetup, h, if_true, he, State.stopEvents]

/-! ### The statement about writes -/

/-- Settles O23, by the lemma of each check and each kind; the order of several faults, the bits that ADMIN_MASK keeps, and that a
refused descriptor leaves the stored one and the ring stopped are the model's choices (log entries 34, 36 and 38). -/
theorem dictionaryWrites : Obligations.DictionaryWrites := by
  unfold Obligations.DictionaryWrites
  refine ⟨?_, ?_⟩
  · rintro q rest s a p i done hq hop hw rfl rfl
    rw [exec_dictWrite_head hq hop hw]
    refine ⟨fun hn => by rw [State.dictWrite_unnamed (s := s.dequeued rest) hn]; rfl,
      fun hn => by rw [State.dictWrite_unnamed (s := s.dequeued rest) hn]; rfl, fun hn => ⟨fun hr => ?access, fun hr =>
        ⟨fun hk => ?kind, fun hk hl => ?length, fun hk hl hv => ?valueRange, fun hl hv => ?fits⟩⟩⟩
    case access => rw [State.dictWrite_access (s := s.dequeued rest) hn hr]; rfl
    case kind => rw [State.dictWrite_kind (s := s.dequeued rest) hn hr hk]; rfl
    case length => rw [State.dictWrite_length (s := s.dequeued rest) hn hr hk hl]; rfl
    case valueRange => rw [State.dictWrite_valueRange (s := s.dequeued rest) hn hr hk hl hv]; rfl
    case fits =>
      have h : (s.dequeued rest).WriteFits q.route.cls q.bytes p i := ⟨hn, hr, hl, hv⟩
      refine ⟨fun hk ha => ?locked, fun hk ha => ⟨fun hwid => ?shadowInt, fun hwid => ?shadowBlob⟩,
        fun hk hev hqu hf hm => ⟨fun hwid => ?liveInt, fun hwid => ?liveBlob⟩, fun hk hm => ?adminMask, fun hk r hr hd hval => ?effect⟩
      case locked => rw [h.locked hk ha]; rfl
      case shadowInt => rw [h.shadow hk ha, State.writeShadow_int hwid]; rfl
      case shadowBlob => rw [h.shadow hk ha, State.writeShadow_blob hwid]; rfl
      case liveInt => rw [h.live hk, State.writeLive_int hev hqu hf hwid, storedValue_of_ne hm]; rfl
      case liveBlob => rw [h.live hk, State.writeLive_blob hev hqu hf hwid]; rfl
      case adminMask => rw [h.live (.inl hk), hm, State.writeLive_adminMask]; rfl
      case effect => subst hr; rw [h.effect hk]; exact congrArg _ (DictResult.sent_bare hd hval q)
  · rintro t desc b s a ok hl rfl rfl rfl
    rw [exec_eventRingSetup_live desc hl]
    refine ⟨fun hbad => congrArg _ (State.eventRingSetup_bad hbad), fun hgood e he => ⟨fun hoff => ?_, fun hon => ?_⟩⟩
    · rw [State.eventRingSetup_good hgood he, if_neg (by simp [hoff])]
    · rw [State.eventRingSetup_good hgood he, if_pos hon]

end Sys2Proof.Machine

/-! PROOFS. The images of contexts, handles, realms, rings and accumulators: each field reads what was written, and the statement
about them. -/
namespace Sys2Proof.Machine

/-! ### Fields of a laid-out word (R9) -/

/-- The field at a row that holds a value of the row's own width is that value. -/
theorem field_pack_toNat {w lo n : Nat} {x : BitVec n} {rows : List (Nat × Nat)} (hw : lo + n ≤ w)
    (h : rowAt lo rows = some (n, x.toNat)) : field lo n (pack w rows) = x := by
  rw [field_pack hw h, BitVec.ofNat_toNat, BitVec.setWidth_eq]

/-- A flag at a one-bit row that holds it is that flag. -/
theorem flag_pack_ite {w lo : Nat} {f : Bool} {rows : List (Nat × Nat)} (hw : lo + 1 ≤ w)
    (h : rowAt lo rows = some (1, if f then 1 else 0)) : flag lo (pack w rows) = f := by
  rw [flag_pack hw h]
  cases f <;> rfl

theorem ConnMode.ofCode_code (m : ConnMode) : ConnMode.ofCode m.code = m := by cases m <;> rfl

theorem RealmMode.ofCode_code (m : RealmMode) : RealmMode.ofCode m.code = m := by cases m <;> rfl

theorem AccClass.ofCode_code (c : AccClass) : AccClass.ofCode c.code = c := by cases c <;> rfl

/-! ### The parts of a context (R185, R296, R329, R330) -/

theorem Core.ofWord_pack (c : Core) : Core.ofWord (pack 704 c.rows) = c := by
  have mode : ConnMode.ofCode (fieldNat 32 3 (pack 704 c.rows)) = c.mode := by
    have code : c.mode.code % 2 ^ 3 = c.mode.code := by cases c.mode <;> rfl
    rw [fieldNat_pack (v := c.mode.code) (by decide) rfl, code, ConnMode.ofCode_code]
  rw [Core.ofWord, mode]
  cases c
  simp only [Core.mk.injEq, true_and]
  and_intros <;> exact field_pack_toNat (by decide) rfl

theorem Delivery.ofWord_pack (d : Delivery) : Delivery.ofWord (pack 320 d.rows) = d := by
  cases d
  rw [Delivery.ofWord, Delivery.mk.injEq]
  and_intros <;> exact field_pack_toNat (by decide) rfl

theorem Rate.ofWord_pack (r : Rate) : Rate.ofWord (pack 384 r.rows) = r := by
  cases r
  rw [Rate.ofWord, Rate.mk.injEq]
  and_intros <;> exact field_pack_toNat (by decide) rfl

theorem PathRec.ofWord_pack (p : PathRec) : PathRec.ofWord (pack 64 p.rows) = p := by
  cases p
  rw [PathRec.ofWord, PathRec.mk.injEq]
  and_intros <;> exact field_pack_toNat (by decide) rfl

/-! ### Bytes of a context (R184) -/

@[simp] theorem bytesOf_length {w : Nat} (n : Nat) (x : BitVec w) : (bytesOf n x).length = n := leBytes_length n _

/-- A layout table is read whole from the bytes that spell it. -/
theorem ofNat_leAt_leBytes {n w : Nat} (hw : w = 8 * n) (rows : List (Nat × Nat)) :
    BitVec.ofNat w (leAt 0 n (leBytes n (packNat rows))) = pack w rows := by
  apply BitVec.eq_of_toNat_eq
  rw [leAt_leBytes, pack, BitVec.toNat_ofNat, BitVec.toNat_ofNat, show (256 : Nat) = 2 ^ 8 from rfl, ← Nat.pow_mul, ← hw,
    Nat.mod_mod]

/-- A bit map is read whole from its bytes. -/
theorem ofNat_leAt_bytesOf {n w : Nat} (hw : w = 8 * n) (x : BitVec w) : BitVec.ofNat w (leAt 0 n (bytesOf n x)) = x := by
  rw [leAt_bytesOf x (Nat.le_of_eq hw), BitVec.ofNat_toNat, BitVec.setWidth_eq]

/-- Blocks of one size in a row take their number times that size. -/
theorem length_flatMap_blocks {α : Type} {n : Nat} {f : α → Bytes} (hf : ∀ x, (f x).length = n) (l : List α) :
    (l.flatMap f).length = l.length * n := by
  induction l with
  | nil => rw [List.flatMap_nil, List.length_nil, List.length_nil, Nat.zero_mul]
  | cons x xs ih => rw [List.flatMap_cons, List.length_append, hf, ih, List.length_cons, Nat.succ_mul, Nat.add_comm]

/-- The block at a position, of blocks of one size in a row. -/
theorem leAt_flatMap_blocks {α : Type} {n : Nat} {f : α → Bytes} (hf : ∀ x, (f x).length = n) {l : List α} {i : Nat}
    (hi : i < l.length) : leAt (n * i) n (l.flatMap f) = leAt 0 n (f l[i]) := by
  induction l generalizing i with
  | nil => exact absurd hi (Nat.not_lt_zero i)
  | cons x xs ih =>
    rw [List.flatMap_cons]
    cases i with
    | zero => exact leAt_append_left (by rw [hf]; omega)
    | succ i =>
      rw [leAt_append_right (by rw [hf, Nat.mul_succ]; omega), hf, Nat.mul_succ, Nat.add_sub_cancel]
      exact ih (Nat.lt_of_succ_lt_succ hi)

/-- A context's 2,048 bytes: the parts before the path records take 1,536, each record 8. -/
theorem Ctx.bytes_length {c : Ctx} (h : c.paths.length = 64) : c.bytes.length = 2048 := by
  simp only [bytes, List.length_append, leBytes_length, bytesOf_length, List.length_replicate,
    length_flatMap_blocks (fun p : PathRec => leBytes_length 8 (packNat p.rows)), List.length_take, h]
  decide

/-- The path records that a context's bytes hold are those that were written. -/
theorem Ctx.paths_ofBytes {c : Ctx} (h : c.paths.length = 64) : (Ctx.ofBytes c.bytes).paths = c.paths := by
  refine List.ext_getElem (by simp [ofBytes, upTo, h]) fun i hi hp => ?_
  have record : leAt (1536 + 8 * i) 8 c.bytes = leAt 0 8 (leBytes 8 (packNat c.paths[i].rows)) := by
    rw [bytes, leAt_append_right (by simp [-List.reduceReplicate]), List.take_of_length_le (Nat.le_of_eq h)]
    simp only [List.length_append, leBytes_length, bytesOf_length, List.length_replicate, Nat.add_sub_cancel_left]
    exact leAt_flatMap_blocks (fun p => leBytes_length 8 _) hp
  simp only [ofBytes, upTo, List.getElem_map, List.getElem_range, record, ofNat_leAt_leBytes, PathRec.ofWord_pack]

/-- A context is read back from its bytes, part by part. -/
theorem Ctx.ofBytes_bytes {c : Ctx} (h : c.paths.length = 64) : Ctx.ofBytes c.bytes = c := by
  have core : leAt 0 88 c.bytes = leAt 0 88 (leBytes 88 (packNat c.core.rows)) := by
    simp [bytes, leAt_append_left, -List.reduceReplicate, -List.append_assoc]
  have delivery : leAt 88 40 c.bytes = leAt 0 40 (leBytes 40 (packNat c.delivery.rows)) := by
    simp [bytes, leAt_append_left, leAt_append_right, -List.reduceReplicate, -List.append_assoc]
  have rate : leAt 256 48 c.bytes = leAt 0 48 (leBytes 48 (packNat c.rate.rows)) := by
    simp [bytes, leAt_append_left, leAt_append_right, -List.reduceReplicate, -List.append_assoc]
  have rxMap : leAt 512 512 c.bytes = leAt 0 512 (bytesOf 512 c.rxMap) := by
    simp [bytes, leAt_append_left, leAt_append_right, -List.reduceReplicate, -List.append_assoc]
  have txMap : leAt 1024 512 c.bytes = leAt 0 512 (bytesOf 512 c.txMap) := by
    simp [bytes, leAt_append_left, leAt_append_right, -List.reduceReplicate, -List.append_assoc]
  calc ofBytes c.bytes = { ofBytes c.bytes with paths := c.paths } := by rw [← paths_ofBytes h]
    _ = c := by
      simp only [ofBytes, core, delivery, rate, rxMap, txMap, ofNat_leAt_leBytes, ofNat_leAt_bytesOf, Core.ofWord_pack,
        Delivery.ofWord_pack, Rate.ofWord_pack]

/-! ### Handles, realms, rings and accumulators (R210, R225, R134, R403) -/

theorem Handle.ofWord_word (h : Handle) : Handle.ofWord h.word = h := by
  cases h
  rw [Handle.ofWord, Handle.mk.injEq]
  and_intros <;> exact field_pack_toNat (by decide) rfl

/-- The fence range whose two words begin at a bit of a laid-out word. -/
theorem Fence.ofWord_pack {lo : Nat} {f : Fence} {rows : List (Nat × Nat)} (hw : lo + 128 ≤ 512)
    (perms : rowAt lo rows = some (4, f.perms.toNat)) (start : rowAt (lo + 12) rows = some (52, f.start.toNat))
    (stop : rowAt (lo + 76) rows = some (52, f.stop.toNat)) : Fence.ofWord lo (pack 512 rows) = f := by
  rw [Fence.ofWord, field_pack_toNat (by omega) perms, field_pack_toNat (by omega) start, field_pack_toNat (by omega) stop]

/-- The image of a realm holds all of it but what a change under way needs. -/
theorem Realm.ofWord_word (r : Realm) : Realm.ofWord r.word = { r with destroying := false, changeAt := 0 } := by
  have mode : RealmMode.ofCode (fieldNat 8 3 r.word) = r.mode := by
    have code : r.mode.code % 2 ^ 3 = r.mode.code := by cases r.mode <;> rfl
    rw [word, fieldNat_pack (v := r.mode.code) (by decide) rfl, code, RealmMode.ofCode_code]
  have fence0 : Fence.ofWord 128 r.word = r.fence0 := Fence.ofWord_pack (by decide) rfl rfl rfl
  have fence1 : Fence.ofWord 256 r.word = r.fence1 := Fence.ofWord_pack (by decide) rfl rfl rfl
  have fence2 : Fence.ofWord 384 r.word = r.fence2 := Fence.ofWord_pack (by decide) rfl rfl rfl
  simp only [Realm.ofWord, mode, fence0, fence1, fence2, Realm.mk.injEq, true_and, and_true]
  and_intros <;> exact field_pack_toNat (by decide) rfl

theorem RingImage.ofWord_pack (m : RingImage) : RingImage.ofWord (pack 512 m.rows) = m := by
  cases m
  rw [RingImage.ofWord, RingImage.mk.injEq]
  and_intros <;> exact field_pack_toNat (by decide) rfl

theorem Acc.ofWord_word (a : Acc) : Acc.ofWord a.word = a := by
  have cls : AccClass.ofCode (fieldNat 328 2 a.word) = a.cls := by
    have code : a.cls.code % 2 ^ 2 = a.cls.code := by cases a.cls <;> rfl
    rw [word, fieldNat_pack (v := a.cls.code) (by decide) rfl, code, AccClass.ofCode_code]
  have empty : flag 330 a.word = a.empty := flag_pack_ite (by decide) rfl
  have mixed : flag 331 a.word = a.mixed := flag_pack_ite (by decide) rfl
  rw [Acc.ofWord, cls, empty, mixed]
  cases a
  simp only [Acc.mk.injEq, true_and]
  and_intros <;> exact field_pack_toNat (by decide) rfl

/-! ### The statement -/

/-- Settles O8, by the lemma of each record: a field of the image is the row that was written there. -/
theorem recordEncodings : Obligations.RecordEncodings := by
  unfold Obligations.RecordEncodings
  exact ⟨fun c h => ⟨Ctx.ofBytes_bytes h, Ctx.bytes_length h⟩, Handle.ofWord_word, Realm.ofWord_word, RingImage.ofWord_pack,
    Acc.ofWord_word⟩

end Sys2Proof.Machine

/-! PROOFS. Host links, PERST_N, function-level resets, VF Enable and D3hot: what each command does under its guard, and the statement
about them. -/
namespace Sys2Proof.Machine

/-! ### The link of a host port (R545 to R547, R744) -/

theorem exec_hostLinkDown_up {h : Nat} {s : State} (hh : h < 2) (hu : (s.host h).linkUp = true) :
    exec (.hostLinkDown h) s = .next (s.hostDown h) :=
  if_pos (by simp [hh, hu])

/-- The guard of PERST_N going low holds where it is high. -/
theorem exec_perstAssert_high {h : Nat} {s : State} (hh : h < 2) (hp : (s.host h).perst = false) :
    exec (.perstAssert h) s =
      if (s.host h).linkUp then .next ((s.hostDown h).setHost h { (s.hostDown h).host h with perst := true })
      else .next (s.setHost h { s.host h with perst := true }) := by
  refine (if_pos (by simp [hh, hp])).trans ?_
  split <;> rfl

/-- A link may train to this rate and width: the port is there and not held down, its link is down, fabric time runs and no test is
strapped. -/
structure State.HostTrains (s : State) (h rate width : Nat) : Prop where
  port : h < 2
  perst : (s.host h).perst = false
  down : (s.host h).linkUp = false
  rateLow : 1 ≤ rate
  rateHigh : rate ≤ 5
  width : width ∈ [1, 2, 4, 8, 16]
  runs : s.timeRuns = true
  noTest : s.pkg.pins.test = false

/-- The model's guard of HOST_LINK_TRAINED holds then. -/
theorem State.HostTrains.guard {s : State} {h rate width : Nat} (ht : s.HostTrains h rate width) :
    (h < 2 && !(s.host h).perst && !(s.host h).linkUp && 1 ≤ rate && rate ≤ 5 && [1, 2, 4, 8, 16].contains width
      && s.timeRuns && !s.pkg.pins.test) = true := by
  obtain ⟨port, perst, down, rateLow, rateHigh, width, runs, noTest⟩ := ht
  have wide := List.contains_iff_mem.mpr width
  simp only [port, perst, down, rateLow, rateHigh, wide, runs, noTest, decide_true, Bool.not_false, Bool.and_self]

theorem exec_hostLinkTrained_full {s : State} {h rate width : Nat} (ht : s.HostTrains h rate width) (hr : 3 ≤ rate) (hw : 4 ≤ width) :
    exec (.hostLinkTrained h rate width) s = .next (s.setHost h { s.host h with
      linkUp := true, rate := BitVec.ofNat 8 rate, width := BitVec.ofNat 8 width }) := by
  have low : (decide (rate < 3) || decide (width < 4)) = false := by simp; omega
  simp only [exec, execHostLinkTrained, ht.guard, low, if_true, Bool.false_eq_true, if_false, Nat.add_zero]

theorem exec_hostLinkTrained_low {s : State} {h rate width : Nat} (ht : s.HostTrains h rate width) (hl : rate < 3 ∨ width < 4) :
    exec (.hostLinkTrained h rate width) s = .next ((s.setHost h { s.host h with
      linkUp := true, rate := BitVec.ofNat 8 rate, width := BitVec.ofNat 8 (width + 128) }).event (1024 * h) 5 2 h 0 rate) := by
  have low : (decide (rate < 3) || decide (width < 4)) = true := by simpa using hl
  simp only [exec, execHostLinkTrained, ht.guard, low, if_true, hostPf]

/-! ### Resets of functions (R168, R169, R577, R578, R585) -/

/-- An FLR of an enabled function resets it with cause 1, after ending the halt where it is PF 0, and of a PF clears VF Enable. -/
theorem exec_flr_enabled {t : Nat} {s a : State} (hm : (s.tenant t).mode ≠ .disabled)
    (ha : a = ((if t = 0 then s.endHalt else s).startReset t 1 false).resetMsix t) :
    exec (.flr t) s =
      if t = hostPf (tenantHost t) then
        let b := (a.vfTenants (tenantHost t)).foldl (fun s v => (s.startReset v 2 true).resetMsix v) (a.clearVfs (tenantHost t))
        .next (b.setHost (tenantHost t) { b.host (tenantHost t) with pasid := false, timeout := 20000000 })
      else .next a := by
  subst ha
  exact if_neg hm

theorem exec_vfEnableSet_clear {h n : Nat} {s a : State} (hh : h < 2) (hu : (s.host h).linkUp = true) (hp : s.pkg.phase = .running)
    (hv : (s.host h).vfEnable = false) (hn : n ≤ 1023) (ha : a = s.setHost h { s.host h with vfEnable := true, numVfs := n }) :
    exec (.vfEnableSet h n) s =
      let b := if a.compatHalt then (a.setLive d4_8001 0 0).logFault .package .config 0 none 0 0 0 else a
      .next ((b.vfTenants h).foldl (fun s t => s.enableTenant t) b) := by
  subst ha
  exact if_pos (by simp [hh, hu, hp, hv, hn])

/-! ### The statement -/

/-- Settles O15, by the lemma of each command; what becomes of a function's MSI-X table at its reset is the model's choice (log
entry 73). -/
theorem hostPortsAndFunctions : Obligations.HostPortsAndFunctions := by
  unfold Obligations.HostPortsAndFunctions
  refine ⟨fun h s hh hp => ⟨fun hd => ?perstDown, fun hu => ?perstUp⟩, fun h s hh => if_pos hh,
    fun h rate width s port perst down low high wide runs test => ⟨fun hr hw => ?full, fun hl => ?low⟩,
    fun h s hh hu a b ha hb => ?linkDown, fun t s hm a b ha hb => ⟨fun hv => ?flrVf, fun hf => ?flrPf⟩,
    fun h n s hh hu hp hv hn a b ha hb => ?vfSet, fun h s hh => if_pos hh, fun t s => rfl⟩
  case perstDown => exact (exec_perstAssert_high hh hp).trans (if_neg (by simp [hd]))
  case perstUp => exact ⟨s.hostDown h, exec_hostLinkDown_up hh hu, (exec_perstAssert_high hh hp).trans (if_pos hu)⟩
  case full => exact exec_hostLinkTrained_full ⟨port, perst, down, low, high, wide, runs, test⟩ hr hw
  case low => exact exec_hostLinkTrained_low ⟨port, perst, down, low, high, wide, runs, test⟩ hl
  case linkDown =>
    subst ha hb
    exact exec_hostLinkDown_up hh hu
  case flrVf => exact (exec_flr_enabled hm ha).trans (if_neg hv)
  case flrPf =>
    subst hb
    exact (exec_flr_enabled hm ha).trans (if_pos hf)
  case vfSet =>
    subst hb
    exact exec_vfEnableSet_clear hh hu hp hv hn ha

end Sys2Proof.Machine

/-! PROOFS. The ring control page: how a command of it is taken, what each command answers, the abort deadline, and the statement about
them. -/
namespace Sys2Proof.Machine

/-! ### Taking a command (R132, R133) -/

/-- A page that is BUSY is none that reads as unwritten, so that it reads back. -/
theorem State.fn_setFn_busy (s : State) (t : Nat) {x : FnPages} (hb : x.ring.busy = true) : (s.setFn t x).fn t = x := by
  have listed : x ≠ {} := by
    rintro rfl
    exact Bool.false_ne_true hb
  simp only [fn, setFn, tput, if_neg listed, tgetD, tget_tset_self, Option.getD_some]

/-- The function is live and its ring control page takes a command on ring `n`: `a` is the state then. -/
structure State.TakesRingCmd (s : State) (t n : Nat) (a : State) : Prop where
  live : s.fnLive t = true
  free : (s.fn t).ring.busy = false
  taken : a = s.setFn t { s.fn t with ring := { (s.fn t).ring with busy := true, target := BitVec.ofNat 32 n } }

/-- The context words of the page are as they were. -/
theorem State.TakesRingCmd.ctx {s a : State} {t n : Nat} (h : s.TakesRingCmd t n a) : (a.fn t).ring.ctx = (s.fn t).ring.ctx := by
  obtain ⟨-, -, rfl⟩ := h
  rw [fn_setFn_busy s t rfl]

/-- The rings are as they were. -/
theorem State.TakesRingCmd.ring?_eq {s a : State} {t n : Nat} (h : s.TakesRingCmd t n a) (k : Nat) : a.ring? k = s.ring? k := by
  rw [h.taken]
  rfl

theorem State.TakesRingCmd.ringCmd_eq {s a : State} {t n ring : Nat} (h : s.TakesRingCmd t n a) (hn : ring % 1048576 = n)
    (f : State → State) : s.ringCmd t ring f = f a := by
  obtain ⟨live, free, rfl⟩ := h
  simp only [ringCmd, live, free, hn, Bool.not_true, Bool.false_eq_true, if_false]

/-- A command that finds the page BUSY is discarded with LOST. -/
theorem State.ringCmd_busy {s : State} {t : Nat} (hl : s.fnLive t = true) (hb : (s.fn t).ring.busy = true) (ring : Nat)
    (f : State → State) : s.ringCmd t ring f = s.setFn t { s.fn t with ring := { (s.fn t).ring with lost := true } } := by
  simp only [ringCmd, hl, hb, Bool.not_true, Bool.false_eq_true, if_false, if_true]

theorem State.withRing_none {s : State} {t ring : Nat} (hr : s.ring? (ringKey t ring) = none) (f : Ring → State → State) :
    s.withRing t ring f = s.ringResult t 1 := by
  simp only [withRing, hr, rgNoRing]

theorem State.withRing_some {s : State} {t ring : Nat} {r : Ring} (hr : s.ring? (ringKey t ring) = some r) (f : Ring → State → State) :
    s.withRing t ring f = f r s := by
  simp only [withRing, hr]

/-- What a taken command on a ring answers. -/
theorem State.TakesRingCmd.ringCmd_some {s a : State} {t ring : Nat} {r : Ring} (h : s.TakesRingCmd t (ring % 1048576) a)
    (hr : s.ring? (ringKey t (ring % 1048576)) = some r) (f : Ring → State → State) :
    s.ringCmd t (ring % 1048576) (fun s => s.withRing t (ring % 1048576) f) = f r a := by
  rw [h.ringCmd_eq (Nat.mod_mod ..), withRing_some ((h.ring?_eq _).trans hr)]

/-- A taken command on no ring answers NO_RING. -/
theorem State.TakesRingCmd.ringCmd_none {s a : State} {t ring : Nat} (h : s.TakesRingCmd t (ring % 1048576) a)
    (hr : s.ring? (ringKey t (ring % 1048576)) = none) (f : Ring → State → State) :
    s.ringCmd t (ring % 1048576) (fun s => s.withRing t (ring % 1048576) f) = a.ringResult t 1 := by
  rw [h.ringCmd_eq (Nat.mod_mod ..), withRing_none ((h.ring?_eq _).trans hr)]

/-! ### Discarded and unlisted commands (R133) -/

/-- A word that no listed command of the page spells. -/
abbrev ringCmdUnlisted (value : W64) : Prop := ¬ (1 ≤ fieldNat 0 8 value ∧ fieldNat 0 8 value ≤ 6 ∧ fieldNat 28 36 value = 0)

theorem exec_ringCmdUnknown_unlisted (t : Nat) {value : W64} (s : State) (hv : ringCmdUnlisted value) :
    exec (.ringCmdUnknown t value) s = .next (s.ringCmd t (fieldNat 8 20 value) (fun s => s.ringResult t 3)) :=
  if_neg hv

/-- Every command of the page is run through `State.ringCmd`. -/
theorem exec_ringCommand {t ring : Nat} {value : W64} {c : Instr} (s : State)
    (hc : c ∈ [.ringCreate t ring, .ringQuery t ring, .ringShutdown t ring, .ringAbort t ring, .ringResume t ring, .ringDestroy t ring] ∨
      (c = .ringCmdUnknown t value ∧ ringCmdUnlisted value)) :
    ∃ (n : Nat) (f : State → State), exec c s = .next (s.ringCmd t n f) := by
  obtain hc | ⟨rfl, hv⟩ := hc
  · simp only [List.mem_cons, List.not_mem_nil, or_false] at hc
    obtain rfl | rfl | rfl | rfl | rfl | rfl := hc <;> exact ⟨_, _, rfl⟩
  · exact ⟨_, _, exec_ringCmdUnknown_unlisted t s hv⟩

/-- A taken command on no ring answers NO_RING, whichever of the five it is. -/
theorem State.TakesRingCmd.noRing {s a : State} {t ring : Nat} {c : Instr} (h : s.TakesRingCmd t (ring % 1048576) a)
    (hr : s.ring? (ringKey t (ring % 1048576)) = none)
    (hc : c ∈ [Instr.ringQuery t ring, .ringShutdown t ring, .ringAbort t ring, .ringResume t ring, .ringDestroy t ring]) :
    exec c s = .next (a.ringResult t 1) := by
  simp only [List.mem_cons, List.not_mem_nil, or_false] at hc
  obtain rfl | rfl | rfl | rfl | rfl := hc <;> exact congrArg _ (h.ringCmd_none hr _)

/-! ### CREATE (R134 to R136) -/

/-- CREATE: BAD_FIELD, EXISTS, NO_CONTEXT in that order, or the ring. -/
theorem State.TakesRingCmd.create {s a : State} {t ring : Nat} (h : s.TakesRingCmd t (ring % 1048576) a) {x : W512} {m : RingImage}
    (hx : x = (s.fn t).ring.ctx.setWidth 512) (hm : m = RingImage.ofWord x) :
    exec (.ringCreate t ring) s = .next (
      if a.imageOk t x = false ∨ s.par d4_8000 t ≤ ring % 1048576 then a.ringResult t 3
      else if (s.ring? (ringKey t (ring % 1048576))).isSome then a.ringResult t 5
      else if 65536 ≤ s.ringsOn m.homeTower.toNat ∨ s.par d4_8000 t ≤ s.ringsOf t then a.ringResult t 4
      else ((a.setRing (ringKey t (ring % 1048576)) { image := m }).writeMirror (ringKey t (ring % 1048576))).ringResult t 0) := by
  have onTower : a.ringsOn m.homeTower.toNat = s.ringsOn m.homeTower.toNat := by rw [h.taken]; rfl
  have own : a.ringsOf t = s.ringsOf t := by rw [h.taken]; rfl
  have limit : a.par d4_8000 t = s.par d4_8000 t := by rw [h.taken]; rfl
  subst hm hx
  refine congrArg _ ((h.ringCmd_eq (Nat.mod_mod ..) _).trans ?_)
  simp only [h.ctx, limit, h.ring?_eq, onTower, own, rgOk, rgBadField, rgNoContext, rgExists, Bool.or_eq_true, Bool.not_eq_true',
    decide_eq_true_eq, ge_iff_le]

/-! ### Commands on a ring (R134, R170 to R173) -/

section
variable {s a : State} {t ring : Nat} {r : Ring} (h : s.TakesRingCmd t (ring % 1048576) a)
  (hr : s.ring? (ringKey t (ring % 1048576)) = some r)
include h hr

theorem State.TakesRingCmd.query :
    exec (.ringQuery t ring) s =
      .next ((a.setFn t { a.fn t with ring := { (a.fn t).ring with ctx := r.word.setWidth 1024 } }).ringResult t 0) :=
  congrArg _ (h.ringCmd_some hr _)

/-- SHUTDOWN of an ACTIVE ring drains it. -/
theorem State.TakesRingCmd.shutdown :
    exec (.ringShutdown t ring) s = .next (
      if r.mode = .active then
        (a.setRing (ringKey t (ring % 1048576)) (({ r with mode := .draining } : Ring).drain s.now)).stopDrain (ringKey t (ring % 1048576))
      else a.ringResult t 2) := by
  have now : a.now = s.now := by rw [h.taken]; rfl
  refine congrArg _ ((h.ringCmd_some hr _).trans ?_)
  split
  next active => simp only [shutdownRing, h.ring?_eq, hr, active, now, if_true]
  next => rfl

/-- ABORT of an ACTIVE, DRAINING or ERROR ring abandons what runs, decides every chain, and stops a ring that has none. -/
theorem State.TakesRingCmd.abort (hm : r.mode = .active ∨ r.mode = .draining ∨ r.mode = .error) {b : State} {q : Ring}
    (hb : b = r.running.foldl (fun s c => s.abandonChain (ringKey t (ring % 1048576)) c .aborted) a)
    (hq : b.ring? (ringKey t (ring % 1048576)) = some q) :
    exec (.ringAbort t ring) s = .next (
      if q.chains = [] then (b.setRing (ringKey t (ring % 1048576)) (q.abort b.now)).stopAbort (ringKey t (ring % 1048576))
      else b.setRing (ringKey t (ring % 1048576)) (q.abort b.now)) := by
  have modes : (decide (r.mode = .active) || decide (r.mode = .draining) || decide (r.mode = .error)) = true := by
    simpa [or_assoc] using hm
  have chains : ((q.abort b.now).chains.isEmpty = true) = (q.chains = []) := by simp [Ring.abort]
  subst hb
  refine congrArg _ ((h.ringCmd_some hr _).trans ?_)
  simp only [modes, hq, chains, if_true]

theorem State.TakesRingCmd.abort_badState (hm : ¬(r.mode = .active ∨ r.mode = .draining ∨ r.mode = .error)) :
    exec (.ringAbort t ring) s = .next (a.ringResult t 2) :=
  congrArg _ ((h.ringCmd_some hr _).trans (if_neg (by simpa [or_assoc] using hm)))

theorem State.TakesRingCmd.resume :
    exec (.ringResume t ring) s = .next (
      if r.mode = .stopped then
        (a.setRing (ringKey t (ring % 1048576)) { r with
          mode := .active, head := r.done, fetchNext := r.done, fromError := false }).ringResult t 0
      else a.ringResult t 2) :=
  congrArg _ (h.ringCmd_some hr _)

/-- DESTROY of a STOPPED or ERROR ring abandons what runs and frees its context. -/
theorem State.TakesRingCmd.destroy :
    exec (.ringDestroy t ring) s = .next (
      if r.mode = .stopped ∨ r.mode = .error then
        ((r.running.foldl (fun s c => s.abandonChain (ringKey t (ring % 1048576)) c .aborted) a).delRing
          (ringKey t (ring % 1048576))).ringResult t 0
      else a.ringResult t 2) := by
  refine congrArg _ ((h.ringCmd_some hr _).trans ?_)
  simp only [freeRing, h.ring?_eq, hr, rgOk, rgBadState, Bool.or_eq_true, decide_eq_true_eq]

end

/-! ### The abort deadline (R172) -/

theorem exec_abortDeadline_passed {t ring since : Nat} {r : Ring} {s : State} (hr : s.ring? (ringKey t ring) = some r)
    (ha : r.abortAt = some since) (hm : r.mode = .aborting) (hd : since + s.par d4_0012 r.image.homeTower.toNat ≤ s.now) :
    exec (.abortDeadline t ring) s = .next
      ((r.chains.foldl (fun s c => s.recordChain (ringKey t ring) (c.finish s.now Status.aborted.code 0)) s).stopAbort
        (ringKey t ring)) := by
  simp only [exec, execAbortDeadline, hr, ha, hm, hd, decide_true, Bool.and_self, if_true]

/-! ### The statement -/

/-- Settles O27, by the lemma of each command on a page that takes it; that a SHUTDOWN leaves the page BUSY until the ring is STOPPED,
and where fetching goes on after an ABORT, are the model's choices (log entry 46). -/
theorem ringControlPage : Obligations.RingControlPage := by
  unfold Obligations.RingControlPage
  refine ⟨fun t ring value s c hl hb hc => ?busy, ?create, ?command, ?unlisted, fun t ring since r s => exec_abortDeadline_passed⟩
  case busy =>
    obtain ⟨n, f, he⟩ := exec_ringCommand s hc
    rw [he, State.ringCmd_busy hl hb]
  case create =>
    rintro t ring n limit s a x m hl hf rfl hx hm rfl ha
    rw [State.TakesRingCmd.create ⟨hl, hf, ha⟩ hx hm]
    refine ⟨fun hbad => ?_, fun hok hlow => ⟨fun hexists => ?_, fun hnew hfull => ?_, fun hnew htower hown => ?_⟩⟩
    · rw [if_pos hbad]
    · rw [if_neg (by simp [hok, hlow]), if_pos (Option.isSome_iff_ne_none.mpr hexists)]
    · rw [if_neg (by simp [hok, hlow]), if_neg (by simp [hnew]), if_pos hfull]
    · rw [if_neg (by simp [hok, hlow]), if_neg (by simp [hnew]), if_neg (by omega)]
  case command =>
    rintro t ring n s a hl hf rfl ha
    have h : s.TakesRingCmd t (ring % 1048576) a := ⟨hl, hf, ha⟩
    refine ⟨fun hr c => h.noRing hr, fun r hr => ⟨h.query hr, fun hm => ?_, fun hm => ?_, fun h1 h2 h3 => ?_,
      fun hm b q hb hq => h.abort hr hm hb hq, fun hm => ?_, fun hm => ?_, fun h1 h2 => ?_, fun hm => ?_⟩⟩
    · rw [h.shutdown hr, if_neg hm]
    · rw [h.shutdown hr, if_pos hm]
    · exact h.abort_badState hr (by simp [h1, h2, h3])
    · rw [h.resume hr, if_neg hm]
    · rw [h.resume hr, if_pos hm]
    · rw [h.destroy hr, if_neg (by simp [h1, h2])]
    · rw [h.destroy hr, if_pos hm]
  case unlisted =>
    intro t value s a hl hf hv ha
    rw [exec_ringCmdUnknown_unlisted t s hv, State.TakesRingCmd.ringCmd_eq ⟨hl, hf, ha⟩ rfl]

end Sys2Proof.Machine

/-! PROOFS. Doorbells: which reach a ring, what they move there, and the statement about them. -/
namespace Sys2Proof.Machine

/-! ### Which doorbells reach a ring (R142, R143, R550, R569; log 98) -/

/-- A doorbell of an attach port without a grant is counted at the port. -/
theorem State.takeDoorbell_ungranted {s : State} {t a : Nat} (hg : s.doorbellGranted t (.attach a) = false) (v : W64) (width : Nat)
    (f : State → State) : s.takeDoorbell t v width (.attach a) f = s.bump d14_0102 a := by
  simp only [takeDoorbell, hg, Bool.not_false, if_true]

/-- A granted doorbell of a live function is discarded where it is not a whole one. -/
theorem State.takeDoorbell_granted {s : State} {t : Nat} {via : Via} (hg : s.doorbellGranted t via = true) (hl : s.fnLive t = true)
    (v : W64) (width : Nat) (f : State → State) :
    s.takeDoorbell t v width via f = if width ≠ 64 ∨ fieldNat 52 12 v ≠ 0 then s.discardDoorbell t (dbRing v) else f s := by
  simp only [takeDoorbell, hg, hl, Bool.not_true, Bool.false_eq_true, if_false, Bool.or_eq_true, decide_eq_true_eq]

section
variable {s : State} {t width : Nat} {v : W64} {via : Via}

/-- A doorbell that is not 64 bits wide or has reserved bits. -/
theorem State.takeDoorbell_partial (hg : s.doorbellGranted t via = true) (hl : s.fnLive t = true)
    (hw : width ≠ 64 ∨ fieldNat 52 12 v ≠ 0) (f : State → State) :
    s.takeDoorbell t v width via f = s.discardDoorbell t (dbRing v) :=
  (takeDoorbell_granted hg hl v width f).trans (if_pos hw)

theorem State.takeDoorbell_whole (hg : s.doorbellGranted t via = true) (hl : s.fnLive t = true) (hw : width = 64)
    (hz : fieldNat 52 12 v = 0) (f : State → State) : s.takeDoorbell t v width via f = f s :=
  (takeDoorbell_granted hg hl v width f).trans (if_neg (by simp [hw, hz]))

end

/-! ### Work rings (R139, R143, R144) -/

/-- A whole doorbell to no ring is discarded. -/
theorem exec_doorbell_noRing {s : State} {t width : Nat} {v : W64} {via : Via} (hg : s.doorbellGranted t via = true)
    (hl : s.fnLive t = true) (hw : width = 64) (hz : fieldNat 52 12 v = 0) (hr : s.ring? (ringKey t (dbRing v)) = none)
    (hn : dbRing v ≠ 0xFFFFF) : exec (.doorbell t v width via) s = .next (s.discardDoorbell t (dbRing v)) := by
  simp only [exec, execDoorbell, State.takeDoorbell_whole hg hl hw hz, hr, hn, if_false]

/-- A whole doorbell to a work ring moves its tail if the ring is ACTIVE. -/
theorem exec_doorbell_workRing {s : State} {t width : Nat} {v : W64} {via : Via} {r : Ring} (hg : s.doorbellGranted t via = true)
    (hl : s.fnLive t = true) (hw : width = 64) (hz : fieldNat 52 12 v = 0) (hr : s.ring? (ringKey t (dbRing v)) = some r)
    (hn : r.image.notify ≠ 1) :
    exec (.doorbell t v width via) s =
      .next (if r.mode ≠ .active then s.discardDoorbell t (dbRing v) else s.moveTail t (dbRing v) r (dbIndex v)) := by
  simp only [exec, execDoorbell, State.takeDoorbell_whole hg hl hw hz, hr, hn, if_false]

theorem State.moveTail_same {s : State} {t ring : Nat} {r : Ring} {v : W32} (h : v = r.tail) : s.moveTail t ring r v = s :=
  if_pos h

/-- Another index becomes the tail where it passes neither done nor the tail by more than the ring's size. -/
theorem State.moveTail_within {s : State} {t ring : Nat} {r : Ring} {v : W32} (h : v ≠ r.tail) (hd : serialDiff v r.done ≤ r.size)
    (ht : serialDiff v r.tail ≤ r.size) : s.moveTail t ring r v = s.setRing (ringKey t ring) { r with tail := v } :=
  (if_neg h).trans (if_neg (by simp [hd, ht]))

theorem State.moveTail_beyond {s : State} {t ring : Nat} {r : Ring} {v : W32} (h : v ≠ r.tail)
    (hb : r.size < serialDiff v r.done ∨ r.size < serialDiff v r.tail) : s.moveTail t ring r v = s.discardDoorbell t ring :=
  (if_neg h).trans (if_pos (by simpa using hb))

/-! ### Notification rings (R164, R177) -/

/-- A consume doorbell of a notification ring is taken as every doorbell is. -/
theorem exec_notifyConsumeDoorbell_notifyRing {s : State} {t : Nat} {v : W64} {r : Ring} (hr : s.ring? (ringKey t (dbRing v)) = some r)
    (hn : r.image.notify = 1) (width : Nat) (via : Via) :
    exec (.notifyConsumeDoorbell t v width via) s = .next (s.takeDoorbell t v width via (fun s =>
      if r.mode ≠ .active then s.discardDoorbell t (dbRing v) else s.consume t (dbRing v) r (dbIndex v))) := by
  simp only [exec, execNotifyConsumeDoorbell, hr, hn, ne_eq, not_true_eq_false, if_false]

/-- Where done reaches the tail with a signalled completion uncovered, the event comes due. -/
theorem Ring.reachTail_eq (r : Ring) :
    r.reachTail = { r with eventDue := r.eventDue || (decide (r.done = r.tail) && decide (r.uncovered ≠ 0)) } := by
  rw [reachTail]
  split
  next h => rw [h, Bool.or_true]
  next h => rw [eq_false_of_ne_true h, Bool.or_false]

/-- An index between consumed and produced becomes the consumed index, and an event that is due is raised. -/
theorem State.consume_within {s : State} {t ring : Nat} {r q : Ring} {v : W32} (hv : serialDiff v r.done ≤ serialDiff r.tail r.done)
    (hq : q = { r with done := v, eventDue := r.eventDue || (decide (v = r.tail) && decide (r.uncovered ≠ 0)) }) :
    s.consume t ring r v =
      if q.eventDue then (s.setRing (ringKey t ring) q).raiseRing (ringKey t ring) else s.setRing (ringKey t ring) q := by
  subst hq
  refine (if_pos hv).trans ?_
  rw [Ring.reachTail_eq]

theorem State.consume_beyond {s : State} {t ring : Nat} {r : Ring} {v : W32} (hv : serialDiff r.tail r.done < serialDiff v r.done) :
    s.consume t ring r v = s.discardDoorbell t ring :=
  if_neg (by omega)

/-! ### The event ring (R711) -/

theorem exec_eventRingConsumeDoorbell_eventRing {t : Nat} {v : W64} (hn : dbRing v = 0xFFFFF) (width : Nat) (via : Via) (s : State) :
    exec (.eventRingConsumeDoorbell t v width via) s =
      .next (s.takeDoorbell t v width via (fun s => s.consumeEvents t (dbIndex v))) :=
  if_pos hn

/-- An index between consumed and produced becomes the consumed index, and the next event is notified again. -/
theorem State.consumeEvents_within {s : State} {t : Nat} {v : W32} (hv : serialDiff v (s.tenant t).events.consumed ≤
    serialDiff (s.tenant t).events.produced (s.tenant t).events.consumed) :
    s.consumeEvents t v =
      s.setTenant t { s.tenant t with events := { (s.tenant t).events with consumed := v, notified := false } } :=
  if_pos hv

theorem State.consumeEvents_beyond {s : State} {t : Nat} {v : W32} (hv : serialDiff (s.tenant t).events.produced
    (s.tenant t).events.consumed < serialDiff v (s.tenant t).events.consumed) :
    s.consumeEvents t v = s.discardDoorbell t 0xFFFFF :=
  if_neg (by omega)

/-! ### The statement -/

/-- Settles O28, by the lemma of each kind of ring; that a doorbell of an attach port wants a grant and counts at the port without one
is the model's choice (log entry 98). -/
theorem ringDoorbells : Obligations.RingDoorbells := by
  unfold Obligations.RingDoorbells
  refine ⟨fun t a v width s hg => ⟨congrArg _ (s.takeDoorbell_ungranted hg v width _), fun r hr hn => ?ungrantedNotify,
    fun hn => ?ungrantedEvent⟩, ?work, ?notify, ?event⟩
  case ungrantedNotify => rw [exec_notifyConsumeDoorbell_notifyRing hr hn, State.takeDoorbell_ungranted hg]
  case ungrantedEvent => rw [exec_eventRingConsumeDoorbell_eventRing hn, State.takeDoorbell_ungranted hg]
  case work =>
    rintro t ring v width via s hg hl rfl
    refine ⟨fun hp => congrArg _ (State.takeDoorbell_partial hg hl hp _),
      fun hw hz => ⟨exec_doorbell_noRing hg hl hw hz, fun r hr hn => ?_⟩⟩
    rw [exec_doorbell_workRing hg hl hw hz hr hn]
    refine ⟨fun hm => by rw [if_pos hm]; rfl, fun hm => ?_⟩
    rw [if_neg (by simp [hm])]
    exact ⟨fun h => congrArg _ (State.moveTail_same h), fun h hd ht => congrArg _ (State.moveTail_within h hd ht),
      fun h hb => congrArg _ (State.moveTail_beyond h hb)⟩
  case notify =>
    rintro t ring v width via r s hg hl rfl hr hn
    rw [exec_notifyConsumeDoorbell_notifyRing hr hn]
    refine ⟨fun hbad => ?_, fun hw hz hm hv q hq => ?_⟩
    · by_cases hp : width ≠ 64 ∨ fieldNat 52 12 v ≠ 0
      · exact congrArg _ (State.takeDoorbell_partial hg hl hp _)
      · obtain ⟨hw, hz⟩ : width = 64 ∧ fieldNat 52 12 v = 0 := by simpa using hp
        rw [State.takeDoorbell_whole hg hl hw hz]
        split
        next => rfl
        next hm =>
          simp only [hw, hz, hm, ne_eq, not_true_eq_false, false_or] at hbad
          exact congrArg _ (State.consume_beyond hbad)
    · rw [State.takeDoorbell_whole hg hl hw hz, if_neg (by simp [hm])]
      exact ⟨fun hd => congrArg _ ((State.consume_within hv hq).trans (if_neg (by simp [hd]))),
        fun hd => congrArg _ ((State.consume_within hv hq).trans (if_pos hd))⟩
  case event =>
    intro t v width via s hg hl hn
    rw [exec_eventRingConsumeDoorbell_eventRing hn]
    refine ⟨fun hbad => ?_, fun hw hz hv => ?_⟩
    · by_cases hp : width ≠ 64 ∨ fieldNat 52 12 v ≠ 0
      · rw [State.takeDoorbell_partial hg hl hp, dbRing, hn]
      · obtain ⟨hw, hz⟩ : width = 64 ∧ fieldNat 52 12 v = 0 := by simpa using hp
        rw [State.takeDoorbell_whole hg hl hw hz]
        simp only [hw, hz, ne_eq, not_true_eq_false, false_or] at hbad
        exact congrArg _ (State.consumeEvents_beyond hbad)
    · rw [State.takeDoorbell_whole hg hl hw hz]
      exact congrArg _ (State.consumeEvents_within hv)

end Sys2Proof.Machine

/-! PROOFS. The fetching of a ring's entries, the reads again of a held one, and the statement about them. -/
namespace Sys2Proof.Machine

theorem Ring.accepts_iff (r : Ring) : r.accepts = true ↔ r.mode = .active ∨ r.mode = .draining := by
  simp only [accepts, Bool.or_eq_true, decide_eq_true_eq]

/-! ### Fetches (R146, R147, R152) -/

/-- A ring that may fetch: after what it holds goes on (`a`) it has entries to fetch and waits for nothing at its head; `b` is the
state once its tower's round has given it reads. -/
theorem exec_fetchIssue_pending {t ring : Nat} {r q : Ring} {s a b : State} (hf : s.tenantFetches t = true)
    (hp : s.pkg.phase = .running) (ha : a = s.resumeRing (ringKey t ring)) (hr : a.ring? (ringKey t ring) = some r)
    (hn : r.pendingFetch = true) (hw : r.refetch ≠ none ∨ ∀ e ∈ r.held.head?, e.1 ≠ r.head)
    (hb : b = a.fetchRound (ringKey t ring) r) (hq : b.ring? (ringKey t ring) = some q) :
    exec (.fetchIssue t ring) s =
      if q.fetchCredit = 0 then .next b
      else .next ((b.setRing (ringKey t ring) { q with
        fetchCredit := q.fetchCredit - 1, fetches := q.fetches ++ [(q.fetchNext, q.fetchCount)]
        fetchNext := q.fetchNext + BitVec.ofNat 32 q.fetchCount }).emit
          (.memRead q.place.space q.place.port q.place.pasid (q.slotAddr q.fetchNext) (64 * q.fetchCount))) := by
  subst ha hb
  have guard : (!s.tenantFetches t || decide (s.pkg.phase ≠ .running)) = false := by simp [hf, hp]
  simp only [exec, execFetchIssue, guard, hr, hn, Bool.not_true, Bool.false_eq_true, if_false]
  refine (if_neg ?_).trans (by simp only [hq])
  obtain again | elsewhere := hw
  · simp [again]
  · cases hh : r.held with
    | nil => simp
    | cons e l => simp [elsewhere e (by simp [hh])]

section
variable {t ring n : Nat} {index : W32} {ans : MemAns} {r q : Ring} {s a : State} (hr : s.ring? (ringKey t ring) = some r)
  (hf : r.fetches.find? (fun f => f.1 = index) = some (index, n)) (hq : q = { r with fetches := r.fetches.filter (fun f => f.1 ≠ index) })
  (ha : a = s.setRing (ringKey t ring) q)
include hr hf hq ha

/-- A fetch that fails puts the ring in ERROR. -/
theorem exec_fetchReturn_failed (hb : a.placeRead t q.place (q.slotAddr index) (64 * n) ans = none) :
    exec (.fetchReturn t ring index ans) s =
      .next ((a.readFailed t q.place (q.slotAddr index) (64 * n)).fetchFailed (ringKey t ring)) := by
  subst hq ha
  simp only [exec, execFetchReturn, hr, hf, hb]

/-- The entries of a fetch are held in ring order, and accepted as far as their stamps match. -/
theorem exec_fetchReturn_data {b : Bytes} (hb : a.placeRead t q.place (q.slotAddr index) (64 * n) ans = some b) :
    exec (.fetchReturn t ring index ans) s = .next ((a.setRing (ringKey t ring) { q with
      held := ((upTo n).map (fun j => (index + BitVec.ofNat 32 j, w512OfBytes (slice (64 * j) 64 b)))).foldl
        (fun l e => holdEntry q.head e l) q.held }).resumeRing (ringKey t ring)) := by
  subst hq ha
  simp only [exec, execFetchReturn, hr, hf, hb]

end

/-! ### Reads of a held entry again (R148, R149) -/

theorem exec_refetchIssue_due {t ring : Nat} {r : Ring} {f : Refetch} {s : State} (hr : s.ring? (ringKey t ring) = some r)
    (hf : r.refetch = some f) (ht : s.tenantFetches t = true) (hm : r.mode = .active ∨ r.mode = .draining)
    (hi : f.issued < s.par d4_0010 r.image.homeTower.toNat)
    (hd : f.since + s.par d4_0011 r.image.homeTower.toNat * (f.issued + 1) ≤ s.now) :
    exec (.refetchIssue t ring) s =
      .next ((s.setRing (ringKey t ring) { r with refetch := some { f with issued := f.issued + 1 } }).emit
        (.memRead r.place.space r.place.port r.place.pasid (r.slotAddr f.index) 64)) := by
  simp only [exec, execRefetchIssue, hr, hf, ht, r.accepts_iff.mpr hm, hi, hd, decide_true, Bool.and_self, if_true]

section
variable {t ring : Nat} {ans : MemAns} {r : Ring} {f : Refetch} {s : State} (hr : s.ring? (ringKey t ring) = some r)
  (hf : r.refetch = some f) (hi : f.returned < f.issued)
include hr hf hi

theorem exec_refetchReturn_failed (hb : s.placeRead t r.place (r.slotAddr f.index) 64 ans = none) :
    exec (.refetchReturn t ring f.index ans) s =
      .next ((s.readFailed t r.place (r.slotAddr f.index) 64).fetchFailed (ringKey t ring)) := by
  have guard : (decide (f.index ≠ f.index) || decide (f.returned ≥ f.issued)) = false := by simp [hi]
  simp only [exec, execRefetchReturn, hr, hf, guard, hb, Bool.false_eq_true, if_false]

/-- An entry read again is accepted if its stamp matches now, is a stale entry after the last read, and else stays held. -/
theorem exec_refetchReturn_data {b : Bytes} {w : W512} (hb : s.placeRead t r.place (r.slotAddr f.index) 64 ans = some b)
    (hw : w = w512OfBytes b) :
    exec (.refetchReturn t ring f.index ans) s =
      if entStamp w = field 0 16 f.index then
        .next ((((s.setRing (ringKey t ring) { r with refetch := none, held := r.held.tail }).bump d4_0103 t).acceptEntry
          (ringKey t ring) f.index w true).resumeRing (ringKey t ring))
      else if s.par d4_0010 r.image.homeTower.toNat ≤ f.returned + 1 then
        .next (((s.setRing (ringKey t ring) { r with held := r.held.tail }).staleEntry (ringKey t ring) f.index w).resumeRing
          (ringKey t ring))
      else .next (s.setRing (ringKey t ring) { r with refetch := some { f with returned := f.returned + 1, stamp := entStamp w } }) := by
  have guard : (decide (f.index ≠ f.index) || decide (f.returned ≥ f.issued)) = false := by simp [hi]
  subst hw
  simp only [exec, execRefetchReturn, hr, hf, guard, hb, Bool.false_eq_true, if_false, ge_iff_le]

end

/-! ### The statement -/

/-- Settles O29, by the lemma of each command and of how its read ends. -/
theorem ringFetching : Obligations.RingFetching := by
  unfold Obligations.RingFetching
  refine ⟨?issue, ?arrive, ?again, ?back⟩
  case issue =>
    rintro t ring k n r q s a b rfl hf hp ha hr hn hw hb hq
    rw [exec_fetchIssue_pending hf hp ha hr hn hw hb hq]
    refine ⟨fun hc => if_pos hc, fun hc hcount => ?_⟩
    subst hcount
    exact if_neg hc
  case arrive =>
    rintro t ring k n index ans r q s a rfl hr hf hq ha
    exact ⟨exec_fetchReturn_failed hr hf hq ha, fun b => exec_fetchReturn_data hr hf hq ha⟩
  case again =>
    rintro t ring k r f s rfl hr hf ht hm hi hd
    exact exec_refetchIssue_due hr hf ht hm hi hd
  case back =>
    rintro t ring k ans r f s rfl hr hf hi
    refine ⟨exec_refetchReturn_failed hr hf hi, fun b w hb hw => ?_⟩
    rw [exec_refetchReturn_data hr hf hi hb hw]
    refine ⟨fun hmatch => if_pos hmatch, fun hother hlast => ?_, fun hother hmore => ?_⟩
    · rw [if_neg hother, if_pos hlast]
    · rw [if_neg hother, if_neg (by omega)]

end Sys2Proof.Machine

/-! PROOFS. The start of a ring's chains, their records, the done mirror and the event timer, and the statement about them. -/
namespace Sys2Proof.Machine

/-! ### The start of a chain (R156, R166, R581, R612) -/

theorem State.modifyChain_of_ring {s : State} {k : Nat} {r : Ring} (hr : s.ring? k = some r) (first : W32) (f : Chain → Chain) :
    s.modifyChain k first f = s.setRing k { r with chains := r.chains.map (fun c => if c.first = first then f c else c) } := by
  simp only [modifyChain, hr]

section
variable {t ring : Nat} {r : Ring} {c : Chain} {s : State} (hr : s.ring? (ringKey t ring) = some r) (hc : r.nextChain = some c)
  (hm : s.chainMayStart t r c = true)
include hr hc hm

/-- A chain with a malformed entry completes with MALFORMED at the entry's first bad field. -/
theorem exec_chainStart_malformed {i off : Nat} (hb : s.chainBad t c = some (i, off)) :
    exec (.chainStart t ring) s = .next
      ((s.modifyChain (ringKey t ring) c.first (Chain.finish s.now Status.malformed.code (i % 256 + 256 * off))).noteMalformed
        (ringKey t ring) (c.first + BitVec.ofNat 32 i)) := by
  simp only [exec, execChainStart, hr, hc, hm, hb, Bool.not_true, Bool.false_eq_true, if_false]

/-- A well-formed chain waits at the request limit, where it is counted once, and while its mover entries do not fit; else it starts. -/
theorem exec_chainStart_wellFormed (hb : s.chainBad t c = none) :
    exec (.chainStart t ring) s =
      if s.par d15_8001 t ≤ s.requestsOf t r.image.homeTower.toNat then
        .next (if c.limited then s
          else (s.modifyChain (ringKey t ring) c.first (fun c => { c with limited := true })).bump d15_0103 t)
      else if s.moversFit t c = false then .next s
      else .next (s.modifyChain (ringKey t ring) c.first (fun c => { c with started := true })) := by
  simp only [exec, execChainStart, hr, hc, hm, hb, Bool.not_true, Bool.false_eq_true, if_false, Bool.not_eq_true', ge_iff_le]

end

/-! ### The record of a chain (R158 to R164, R170 to R173; log 49) -/

/-- The record of a ring's oldest chain: traced and written, POWERED_DOWN counted; the chain leaves the ring, done passes its slots,
the mirror comes due, and a signalled completion counts. -/
theorem State.recordChain_of_ring {k : Nat} {r : Ring} {c : Chain} {rest : List Chain} {s a b : State} {record : Bytes}
    (hr : s.ring? k = some r) (hc : r.chains = c :: rest) (hrec : record = c.record r.image.evtMode s.now)
    (ha : a = (s.dropTriggers k c.first).trace r.image.homeTower.toNat 3 (keyTenant k) record)
    (hb : b = if c.outcome.1 = Status.poweredDown.code then ((a.ringWrite k r (r.slotAddr c.first) record).getD a).bump d20_0103 0
      else (a.ringWrite k r (r.slotAddr c.first) record).getD a) {q u : Ring}
    (hq : q = { r with chains := rest, done := r.done + BitVec.ofNat 32 c.slots, mirrorSince := r.mirrorSince.or (some b.now) })
    (hu : u = if c.signalled && !(r.fromError && (a.ringWrite k r (r.slotAddr c.first) record).isNone) then q.signal b.now else q) :
    s.recordChain k c = b.setRing k u.reachTail := by
  subst hu hq hb ha hrec
  simp only [recordChain, hr, hc, List.tail_cons]

/-- A decided chain of a ring that still records is recorded, unless its host memory is behind a reset. -/
theorem exec_completionWrite_decided {t ring : Nat} {r : Ring} {c : Chain} {rest : List Chain} {s : State}
    (hr : s.ring? (ringKey t ring) = some r) (hc : r.chains = c :: rest) (hd : c.decided ≠ none)
    (hm : r.mode = .active ∨ r.mode = .draining ∨ r.mode = .aborting) (hh : (s.tenant t).mode ≠ .resetting ∨ r.place.space ≠ 0) :
    exec (.completionWrite t ring) s = .next ((s.recordChain (ringKey t ring) c).afterRecord (ringKey t ring)) := by
  have decided : c.decided.isSome = true := Option.isSome_iff_ne_none.mpr hd
  have modes : (r.accepts || decide (r.mode = .aborting)) = true := by simpa [Ring.accepts, or_assoc] using hm
  have reached : (decide ((s.tenant t).mode = .resetting) && decide (r.place.space = 0)) = false := by
    obtain h | h := hh <;> simp [h]
  simp only [exec, execCompletionWrite, hr, hc, decided, modes, reached, Bool.not_false, Bool.and_self, if_true]

/-! ### The mirror and the event timer (R163 to R165) -/

/-- A mirror that is due is written, and the event that waits for it is raised. -/
theorem exec_mirrorWrite_due {t ring since : Nat} {r : Ring} {s : State} (hr : s.ring? (ringKey t ring) = some r)
    (hs : r.mirrorSince = some since) (he : r.mode ≠ .error) (hh : r.mode ≠ .halted) :
    exec (.mirrorWrite t ring) s = .next (s.writeMirror (ringKey t ring)) := by
  simp only [exec, execMirrorWrite, hr, hs, he, hh, decide_false, Bool.or_self, Bool.false_eq_true, if_false]

theorem State.writeMirror_of_ring {k : Nat} {r : Ring} {s b : State} (hr : s.ring? k = some r)
    (hb : b = s.setRing k { r with mirrorSince := none }) {w : State}
    (hw : w = if r.image.notify = 1 then b else (b.ringWrite k r r.image.mirrorAddr.toNat r.mirror).getD b) :
    s.writeMirror k = if r.eventDue then w.raiseRing k else w := by
  subst hw hb
  simp only [writeMirror, hr]

/-- When the event time has passed, the event comes due (`b`): a mirror that is due is written first. -/
theorem exec_ringEventTimer_passed {t ring since : Nat} {r : Ring} {s b : State} (hr : s.ring? (ringKey t ring) = some r)
    (hu : r.firstUncovered = some since) (hn : r.image.evtTime ≠ 0) (hp : since + r.image.evtTime.toNat ≤ s.now)
    (hm : r.image.evtMode ≠ 0) (hb : b = s.setRing (ringKey t ring) { r with eventDue := true }) :
    exec (.ringEventTimer t ring) s = .next (
      if r.mirrorSince ≠ none ∧ r.mode ≠ .error ∧ r.mode ≠ .halted then b.writeMirror (ringKey t ring)
      else b.raiseRing (ringKey t ring)) := by
  have time : r.image.evtTime.toNat ≠ 0 := fun h => hn (BitVec.eq_of_toNat_eq h)
  subst hb
  simp only [exec, execRingEventTimer, hr, hu, time, hp, hm, ne_eq, not_false_eq_true, decide_true, Bool.and_self, if_true]
  congr 1
  simp [Option.isSome_iff_ne_none, and_assoc]

/-! ### The statement -/

/-- Settles O30, by the lemma of each command; a ring goes on where a record's write fails, and what a MALFORMED detail holds, what
D20.0103 counts and that a chain may be too long for a mover channel are the model's reading (log entries 46, 49, 50 and 80). -/
theorem ringChainsAndRecords : Obligations.RingChainsAndRecords := by
  unfold Obligations.RingChainsAndRecords
  refine ⟨?start, ?record, ?mirror, ?timer⟩
  case start =>
    rintro t ring k r c s rfl hr hc hm
    refine ⟨fun i off hb => exec_chainStart_malformed hr hc hm hb, fun hb => ?_⟩
    rw [exec_chainStart_wellFormed hr hc hm hb]
    refine ⟨fun hl hc => ?_, fun hl hc => ?_, fun hl hf => ?_, fun hl hf => ?_⟩
    · rw [if_pos hl, if_pos hc]
    · rw [if_pos hl, if_neg (by simp [hc])]
    · rw [if_neg (by omega), if_pos hf]
    · rw [if_neg (by omega), if_neg (by simp [hf]), State.modifyChain_of_ring hr]
  case record =>
    rintro t ring k r c rest s a b record rfl hr hc hd hm hh hrec ha hb q u hq hu
    rw [exec_completionWrite_decided hr hc hd hm hh, State.recordChain_of_ring hr hc hrec ha hb hq hu]
  case mirror =>
    rintro t ring k since r s b rfl hr hs he hh hb w hw
    rw [exec_mirrorWrite_due hr hs he hh, State.writeMirror_of_ring hr hb hw]
  case timer =>
    rintro t ring k since r s b rfl hr hu hn hp hm hb
    rw [exec_ringEventTimer_passed hr hu hn hp hm hb]
    refine ⟨fun hs he hh => congrArg _ (if_pos ⟨hs, he, hh⟩), fun h => congrArg _ (if_neg ?_)⟩
    rintro ⟨hs, he, hh⟩
    obtain hnone | herror | hhalted := h
    · exact hs hnone
    · exact he herror
    · exact hh hhalted

end Sys2Proof.Machine

/-! PROOFS. The connection control page: how a command of it is taken and admitted, what each command answers, and the statement about
them. -/
namespace Sys2Proof.Machine

/-! ### Taking a command (R187, R188) -/

/-- A connection page that is BUSY is none that reads as unwritten, so that it reads back. -/
theorem State.fn_setFn_connBusy (s : State) (t : Nat) {x : FnPages} (hb : x.conn.busy = true) : (s.setFn t x).fn t = x := by
  refine tgetD_tput_self_ne ?_ s.fns
  rintro rfl
  exact Bool.false_ne_true hb

/-- The function is live and its connection control page takes a command on target `n`: `a` is the state then. -/
structure State.TakesConnCmd (s : State) (t n : Nat) (a : State) : Prop where
  live : s.fnLive t = true
  free : (s.fn t).conn.busy = false
  taken : a = s.setFn t { s.fn t with conn := { (s.fn t).conn with busy := true, target := BitVec.ofNat 32 n } }

theorem State.TakesConnCmd.connCmd_eq {s a : State} {t n : Nat} (h : s.TakesConnCmd t n a) (f : State → State) :
    s.connCmd t n f = f a := by
  obtain ⟨live, free, rfl⟩ := h
  simp only [connCmd, live, free, Bool.not_true, Bool.false_eq_true, if_false]

/-- A command that finds the page BUSY is discarded with LOST. -/
theorem State.connCmd_busy {s : State} {t : Nat} (hl : s.fnLive t = true) (hb : (s.fn t).conn.busy = true) (n : Nat)
    (f : State → State) : s.connCmd t n f = s.setFn t { s.fn t with conn := { (s.fn t).conn with lost := true } } := by
  simp only [connCmd, hl, hb, Bool.not_true, Bool.false_eq_true, if_false, if_true]

/-- The connections are as they were. -/
theorem State.TakesConnCmd.conn?_eq {s a : State} {t n : Nat} (h : s.TakesConnCmd t n a) (k : Nat) : a.conn? k = s.conn? k := by
  rw [h.taken]
  rfl

/-- Fabric time is as it was. -/
theorem State.TakesConnCmd.now_eq {s a : State} {t n : Nat} (h : s.TakesConnCmd t n a) : a.now = s.now := by
  rw [h.taken]
  rfl

/-- A taken command on a connection that the tenant may name. -/
structure State.AdmitsConnCmd (s : State) (t n : Nat) (a : State) : Prop extends s.TakesConnCmd t n a where
  tower : connTower n < s.towers
  owned : s.ownsConn t n = true

theorem State.AdmitsConnCmd.connNamed_eq {s a : State} {t n : Nat} (h : s.AdmitsConnCmd t n a) : a.connNamed t n = none := by
  have tower : connTower n < a.towers := by rw [h.taken]; exact h.tower
  have owned : a.ownsConn t n = true := by rw [h.taken]; exact h.owned
  rw [connNamed, if_neg (Nat.not_le.mpr tower), if_pos owned]

/-- A connection of no tower answers NO_CONN, and one outside the tenant's range NOT_OWNER. -/
theorem State.TakesConnCmd.connNamed_refused {s a : State} {t n code : Nat} (h : s.TakesConnCmd t n a)
    (hr : (s.towers ≤ connTower n ∧ code = 1) ∨ (connTower n < s.towers ∧ s.ownsConn t n = false ∧ code = 5)) :
    a.connNamed t n = some code := by
  have towers : a.towers = s.towers := by rw [h.taken]; rfl
  have owned : a.ownsConn t n = s.ownsConn t n := by rw [h.taken]; rfl
  rw [connNamed, towers, owned]
  obtain ⟨hn, rfl⟩ | ⟨hn, ho, rfl⟩ := hr
  · exact if_pos hn
  · rw [if_neg (Nat.not_le.mpr hn), ho]
    rfl

/-! ### Discarded, refused and unlisted commands (R187, R188) -/

/-- A word that no listed command of the page spells. -/
abbrev connCmdUnlisted (value : W64) : Prop := ¬ (1 ≤ fieldNat 0 8 value ∧ fieldNat 0 8 value ≤ 10 ∧ fieldNat 32 32 value = 0)

theorem exec_connCmdUnknown_unlisted (t : Nat) {value : W64} (s : State) (hv : connCmdUnlisted value) :
    exec (.connCmdUnknown t value) s = .next (s.connCmd t (fieldNat 8 24 value) (fun s => s.handleResult t 3)) :=
  if_neg hv

/-- Every command of the page is run through `State.connCmd`. -/
theorem exec_connCommand {t n : Nat} {value : W64} {c : Instr} (s : State)
    (hc : c ∈ [.connCreate t n, .connBind t n, .connModify t n, .connFreeze t n, .connThaw t n, .connDestroy t n, .connQuery t n,
        .connFlush t n, .handleWrite t n, .handleRead t n] ∨ (c = .connCmdUnknown t value ∧ connCmdUnlisted value)) :
    ∃ (k : Nat) (f : State → State), exec c s = .next (s.connCmd t k f) := by
  obtain hc | ⟨rfl, hv⟩ := hc
  · simp only [List.mem_cons, List.not_mem_nil, or_false] at hc
    obtain rfl | rfl | rfl | rfl | rfl | rfl | rfl | rfl | rfl | rfl := hc <;> exact ⟨_, _, rfl⟩
  · exact ⟨_, _, exec_connCmdUnknown_unlisted t s hv⟩

/-- A taken command on a connection that the tenant may not name answers the refusal, whichever of the eight it is. -/
theorem State.TakesConnCmd.refused {s a : State} {t n code : Nat} {c : Instr} (h : s.TakesConnCmd t n a)
    (hr : a.connNamed t n = some code)
    (hc : c ∈ [Instr.connCreate t n, .connBind t n, .connModify t n, .connFreeze t n, .connThaw t n, .connDestroy t n, .connQuery t n,
        .connFlush t n]) : exec c s = .next (a.connResult t n code) := by
  simp only [List.mem_cons, List.not_mem_nil, or_false] at hc
  obtain rfl | rfl | rfl | rfl | rfl | rfl | rfl | rfl := hc <;>
    exact congrArg _ ((h.connCmd_eq _).trans (by simp only [hr]))

/-! ### CREATE (R186, R189, R190, R195, R198, R211, R656) -/

/-- A connection that is neither FREE nor in QUARANTINE. -/
theorem State.createBlocked_inUse {s : State} {n : Nat} {y : Conn} (hy : s.conn? n = some y) (hm : y.ctx.core.mode ≠ .quarantine) :
    s.createBlocked n = some 2 := by
  simp only [createBlocked, hy, hm, if_false, ccBadState]

theorem State.createBlocked_quarantine {s : State} {n : Nat} {y : Conn} (hy : s.conn? n = some y)
    (hm : y.ctx.core.mode = .quarantine) : s.createBlocked n = if s.now < y.quarantineEnd then some 6 else none := by
  simp only [createBlocked, hy, hm, if_true, ccQuarantined]

/-- A FREE connection, or one whose quarantine has passed. -/
theorem State.createBlocked_free {s : State} {n : Nat}
    (hn : s.conn? n = none ∨ ∃ y, s.conn? n = some y ∧ y.ctx.core.mode = .quarantine ∧ y.quarantineEnd ≤ s.now) :
    s.createBlocked n = none := by
  obtain hn | ⟨y, hy, hm, hq⟩ := hn
  · simp only [createBlocked, hn]
  · rw [createBlocked_quarantine hy hm, if_neg (Nat.not_lt.mpr hq)]

theorem State.TakesConnCmd.createBlocked_eq {s a : State} {t n : Nat} (h : s.TakesConnCmd t n a) (k : Nat) :
    a.createBlocked k = s.createBlocked k := by
  rw [h.taken]
  rfl

theorem State.AdmitsConnCmd.create_blocked {s a : State} {t n code : Nat} (h : s.AdmitsConnCmd t n a)
    (hb : s.createBlocked n = some code) : exec (.connCreate t n) s = .next (a.connResult t n code) :=
  congrArg _ ((h.connCmd_eq _).trans (by simp only [h.connNamed_eq, h.createBlocked_eq, hb]))

theorem State.AdmitsConnCmd.create_free {s a : State} {t n : Nat} (h : s.AdmitsConnCmd t n a) (hb : s.createBlocked n = none) :
    exec (.connCreate t n) s = .next (a.createConn t n) :=
  congrArg _ ((h.connCmd_eq _).trans (by simp only [h.connNamed_eq, h.createBlocked_eq, hb]))

/-- On a FREE connection: BAD_FIELD, NO_CONTEXT in that order, or the connection in INIT with the next incarnation (`b`). -/
theorem State.createConn_eq {a b : State} {t n : Nat} {w : BitVec 1024} {k : Core} (hw : w = (a.fn t).conn.ctx)
    (hk : k = Core.ofWord (w.setWidth 704)) (hb : b = a.setInc n { a.inc n with last := (a.inc n).last + 1 }) :
    a.createConn t n =
      if createFieldsOk k w = false ∨ a.handleUsable t k.handle.toNat = false ∨ a.rootOk t k = false then a.connResult t n 3
      else if (k.cls = 1 ∧ a.par d5_0002 (connTower n) ≤ a.pinnedCount (connTower n)) ∨ 16384 ≤ a.cachedCount (connTower n) then
        a.connResult t n 4
      else (b.setConn n (b.newConn t n ((a.inc n).last + 1) k)).connResult t n 0 := by
  subst hb hk hw
  simp only [createConn, Bool.or_eq_true, Bool.and_eq_true, Bool.not_eq_true', decide_eq_true_eq, or_assoc, ge_iff_le, cacheSize,
    ccBadField, ccNoContext, ccOk]

/-! ### Commands on a connection (R186, R189, R190, R204, R211, R656) -/

theorem State.AdmitsConnCmd.query {s a : State} {t n : Nat} (h : s.AdmitsConnCmd t n a) :
    exec (.connQuery t n) s =
      .next ((a.setFn t { a.fn t with conn := { (a.fn t).conn with ctx := a.queryConn n } }).connResult t n 0) :=
  congrArg _ ((h.connCmd_eq _).trans (by simp only [h.connNamed_eq, ccOk]))

/-- A FREE connection answers BAD_STATE to what needs a context. -/
theorem State.AdmitsConnCmd.free_badState {s a : State} {t n : Nat} {c : Instr} (h : s.AdmitsConnCmd t n a) (hn : s.conn? n = none)
    (hc : c ∈ [Instr.connBind t n, .connModify t n, .connFreeze t n, .connThaw t n, .connDestroy t n, .connFlush t n]) :
    exec c s = .next (a.connResult t n 2) := by
  have none_a : a.conn? n = none := (h.conn?_eq n).trans hn
  simp only [List.mem_cons, List.not_mem_nil, or_false] at hc
  obtain rfl | rfl | rfl | rfl | rfl | rfl := hc <;>
    exact congrArg _ ((h.connCmd_eq _).trans (by simp [h.connNamed_eq, connMode, none_a, ccBadState]))

section
variable {s a : State} {t n : Nat} {x : Conn} (h : s.AdmitsConnCmd t n a) (hx : s.conn? n = some x)
include h hx

/-- BIND: BAD_STATE outside INIT and FROZEN, BAD_FIELD without a usable handle, else the peer fields are replaced. -/
theorem State.AdmitsConnCmd.bind {k : Core} (hk : k = Core.ofWord ((a.fn t).conn.ctx.setWidth 704)) :
    exec (.connBind t n) s = .next (
      if x.ctx.core.mode ≠ .init ∧ x.ctx.core.mode ≠ .frozen then a.connResult t n 2
      else if a.handleUsable t k.handle.toNat = false then a.connResult t n 3
      else (a.setConn n (a.bindPeer x k (x.ctx.core.mode = .init))).connResult t n 0) := by
  have hx' : a.conn? n = some x := (h.conn?_eq n).trans hx
  subst hk
  refine congrArg _ ((h.connCmd_eq _).trans ?_)
  simp only [h.connNamed_eq, hx', Bool.not_eq_true', ccBadState, ccBadField, ccOk]

/-- MODIFY: BAD_STATE outside INIT and READY, BAD_FIELD with a bad window or root slot, else its five fields are replaced. -/
theorem State.AdmitsConnCmd.modify {k : Core} (hk : k = Core.ofWord ((a.fn t).conn.ctx.setWidth 704)) :
    exec (.connModify t n) s = .next (
      if x.ctx.core.mode ≠ .init ∧ x.ctx.core.mode ≠ .ready then a.connResult t n 2
      else if k.txWindow = 0 ∨ 4096 < k.txWindow.toNat ∨ a.rootOk t x.ctx.core = false then a.connResult t n 3
      else (a.setConn n { x with ctx := { x.ctx with core := x.ctx.core.modify k } }).connResult t n 0) := by
  have hx' : a.conn? n = some x := (h.conn?_eq n).trans hx
  have empty : k.txWindow.toNat < 1 ↔ k.txWindow = 0 := by rw [Nat.lt_one_iff, BitVec.toNat_eq]; rfl
  subst hk
  refine congrArg _ ((h.connCmd_eq _).trans ?_)
  simp only [h.connNamed_eq, hx', Bool.or_eq_true, Bool.not_eq_true', decide_eq_true_eq, or_assoc, empty, gt_iff_lt, ccBadState,
    ccBadField, ccOk]

/-- FREEZE takes READY to FROZEN and stays under way; in any other state it answers BAD_STATE. -/
theorem State.AdmitsConnCmd.freeze :
    exec (.connFreeze t n) s = .next (
      if x.ctx.core.mode = .ready then a.setConn n { x with
        ctx := { x.ctx with core := { x.ctx.core with mode := .frozen } }
        freezeAt := some s.now, freezeMsn := x.ctx.delivery.txMsn }
      else a.connResult t n 2) := by
  have hx' : a.conn? n = some x := (h.conn?_eq n).trans hx
  refine congrArg _ ((h.connCmd_eq _).trans ?_)
  simp only [h.connNamed_eq, connMode, State.freeze, hx', h.now_eq, ccBadState]
  split
  next ready => rfl
  next => rfl

/-- THAW returns a FROZEN connection to READY; in any other state it answers BAD_STATE. -/
theorem State.AdmitsConnCmd.thaw :
    exec (.connThaw t n) s = .next (
      if x.ctx.core.mode = .frozen then (a.setConn n { x with
        ctx := { x.ctx with core := { x.ctx.core with mode := .ready } }, freezeAt := none, ableSince := s.now }).connResult t n 0
      else a.connResult t n 2) := by
  have hx' : a.conn? n = some x := (h.conn?_eq n).trans hx
  refine congrArg _ ((h.connCmd_eq _).trans ?_)
  simp only [h.connNamed_eq, connMode, State.thaw, hx', h.now_eq, ccBadState, ccOk]
  split
  next frozen => rfl
  next => rfl

/-- DESTROY leaves ERROR at once, drains INIT, READY and FROZEN, and else answers BAD_STATE. -/
theorem State.AdmitsConnCmd.destroy :
    exec (.connDestroy t n) s = .next (
      if x.ctx.core.mode = .error then a.leaveDraining n (.ofCause x.ctx.core.errorCause.toNat)
      else if x.ctx.core.mode = .init ∨ x.ctx.core.mode = .ready ∨ x.ctx.core.mode = .frozen then a.setConn n { x with
        ctx := { x.ctx with core := { x.ctx.core with mode := .draining } }
        drainAt := some s.now, destroying := true, freezeAt := none }
      else a.connResult t n 2) := by
  have hx' : a.conn? n = some x := (h.conn?_eq n).trans hx
  refine congrArg _ ((h.connCmd_eq _).trans ?_)
  simp only [h.connNamed_eq, hx', h.now_eq, ccBadState]

/-- FLUSH: BAD_STATE in QUARANTINE, OK out of the cache, else the context is written to its backing. -/
theorem State.AdmitsConnCmd.flush :
    exec (.connFlush t n) s = .next (
      if x.ctx.core.mode = .quarantine then a.connResult t n 2
      else if x.cache = .out ∨ x.cache = .fetching then a.connResult t n 0
      else (a.writeBack n).1.connResult t n (if (a.writeBack n).2 then 0 else 7)) := by
  have hx' : a.conn? n = some x := (h.conn?_eq n).trans hx
  refine congrArg _ ((h.connCmd_eq _).trans ?_)
  simp only [h.connNamed_eq, hx', ccBadState, ccOk, ccBackingError]

end

/-! ### The statement -/

/-- Settles O32, by the lemma of each command on a page that takes it; that a FLUSH of a context out of the cache answers OK at once is
the model's choice (log entry 55). -/
theorem connectionControlPage : Obligations.ConnectionControlPage := by
  unfold Obligations.ConnectionControlPage
  refine ⟨fun t n value s c hl hb hc => ?busy, fun t n code s a hl hf ha hr c hc => ?refused, ?create, ?command, ?unlisted⟩
  case busy =>
    obtain ⟨k, f, he⟩ := exec_connCommand s hc
    rw [he, State.connCmd_busy hl hb]
  case refused =>
    have h : s.TakesConnCmd t n a := ⟨hl, hf, ha⟩
    exact h.refused (h.connNamed_refused hr) hc
  case create =>
    intro t n s a w k hl hf ha ht ho hw hk
    have h : s.AdmitsConnCmd t n a := ⟨⟨hl, hf, ha⟩, ht, ho⟩
    refine ⟨fun y hy hm => h.create_blocked (State.createBlocked_inUse hy hm), fun y hy hm hq => h.create_blocked ?_, fun hn => ?_⟩
    · rw [State.createBlocked_quarantine hy hm, if_pos hq]
    rw [h.create_free (State.createBlocked_free hn), State.createConn_eq hw hk rfl]
    refine ⟨fun hbad => ?_, fun hfields hhandle hroot => ⟨fun hfull => ?_, fun hpin hroom b hb => ?_⟩⟩
    · rw [if_pos hbad]
    · rw [if_neg (by simp [hfields, hhandle, hroot]), if_pos hfull]
    · rw [if_neg (by simp [hfields, hhandle, hroot]), if_neg (not_or.mpr ⟨hpin, Nat.not_le.mpr hroom⟩), hb]
  case command =>
    rintro t n s a w k hl hf ha ht ho rfl hk
    have h : s.AdmitsConnCmd t n a := ⟨⟨hl, hf, ha⟩, ht, ho⟩
    refine ⟨h.query, fun hn c => h.free_badState hn, fun x hx => ?_⟩
    rw [h.bind hx hk, h.modify hx hk, h.freeze hx, h.thaw hx, h.destroy hx, h.flush hx]
    refine ⟨fun h1 h2 => ?bindState, fun hm hu => ?bindField, fun hm hu => ?bound, fun h1 h2 => ?modifyState, fun hm hb => ?modifyField,
      fun hm h1 h2 h3 => ?modified, fun hm => ?freezeState, fun hm => ?frozen, fun hm => ?thawState, fun hm => ?thawed, fun hm => ?left,
      fun hm => ?drained, fun hm => ?destroyState, fun hm => ?flushState, fun hm hc => ?notCached, fun hm h1 h2 => ?written⟩
    case bindState => rw [if_pos ⟨h1, h2⟩]
    case bindField => rw [if_neg (fun hne => hm.elim hne.1 hne.2), if_pos hu]
    case bound => rw [if_neg (fun hne => hm.elim hne.1 hne.2), if_neg (by simp [hu])]
    case modifyState => rw [if_pos ⟨h1, h2⟩]
    case modifyField => rw [if_neg (fun hne => hm.elim hne.1 hne.2), if_pos hb]
    case modified => 
      have good : ¬ (k.txWindow = 0 ∨ 4096 < k.txWindow.toNat ∨ a.rootOk t x.ctx.core = false) := by
        rintro (h0 | hbig | hroot)
        · exact h1 h0
        · exact Nat.not_lt.mpr h2 hbig
        · exact Bool.false_ne_true (hroot.symm.trans h3)
      rw [if_neg (fun hne => hm.elim hne.1 hne.2), if_neg good]
      rfl
    case freezeState => rw [if_neg hm]
    case frozen => rw [if_pos hm]
    case thawState => rw [if_neg hm]
    case thawed => rw [if_pos hm]
    case left => rw [if_pos hm]
    case drained => rw [if_neg (by obtain hm | hm | hm := hm <;> simp [hm]), if_pos hm]
    case destroyState =>
      rw [if_neg (by obtain hm | hm | hm := hm <;> simp [hm]), if_neg (by obtain hm | hm | hm := hm <;> simp [hm])]
    case flushState => rw [if_pos hm]
    case notCached => rw [if_neg hm, if_pos hc]
    case written => rw [if_neg hm, if_neg (by simp [h1, h2])]
  case unlisted =>
    intro t value s hl hf hv
    rw [exec_connCmdUnknown_unlisted t s hv, State.TakesConnCmd.connCmd_eq ⟨hl, hf, rfl⟩]

end Sys2Proof.Machine

/-! PROOFS. The progress of connections: how a freeze, a drain and a quarantine end, eviction from the cache, the address handles, and the
statement about them. -/
namespace Sys2Proof.Machine

/-! ### Freeze, drain and quarantine end (R190, R195) -/

section
variable {n : Nat} {x : Conn} {s : State} (hx : s.conn? n = some x)
include hx

/-- A freeze ends when nothing is outstanding, or when its time has passed. -/
theorem exec_freezeComplete_due {f : Nat} (hf : x.freezeAt = some f) (hd : x.outstanding = 0 ∨ f + s.par d5_0013 (connTower n) ≤ s.now) :
    exec (.freezeComplete n) s = .next ((s.setConn n { x with freezeAt := none }).endConnCmd x.ctx.core.tenant.toNat n 0) := by
  simp only [exec, execFreezeComplete, hx, hf, hd, if_true, ccOk]

/-- A DRAINING connection leaves when nothing is outstanding, or when its time has passed. -/
theorem exec_drainExit_due {d : Nat} (hd : x.drainAt = some d) (hm : x.ctx.core.mode = .draining)
    (hl : x.outstanding = 0 ∨ d + s.par d5_0011 (connTower n) ≤ s.now) :
    exec (.drainExit n) s = .next (s.leaveDraining n .contextLost) := by
  simp only [exec, execDrainExit, hx, hd, hm, hl, and_self, if_true]

/-- A quarantine that has passed leaves the connection FREE. -/
theorem exec_quarantineEnd_passed (hm : x.ctx.core.mode = .quarantine) (hq : x.quarantineEnd ≤ s.now) :
    exec (.quarantineEnd n) s = .next { s with conns := terase n s.conns } := by
  simp only [exec, execQuarantineEnd, hx, hm, hq, and_self, if_true]

end

/-! ### Eviction (R199 to R201, R204) -/

section
variable {n k : Nat} {x : Conn} {s : State}

/-- Without a victim an eviction does nothing. -/
theorem exec_evictionStart_noVictim (hf : 16384 - s.cachedCount k < s.par d5_0014 k) (hv : s.victim k = none) :
    exec (.evictionStart k) s = .next s := by
  simp only [exec, execEvictionStart, cacheSize, hf, if_true, hv]

/-- The victim is written back, and evicted if that could be done. -/
theorem exec_evictionStart_victim (hf : 16384 - s.cachedCount k < s.par d5_0014 k) (hv : s.victim k = some (n, x)) :
    exec (.evictionStart k) s = .next
      (if (s.writeBack n).2 then (s.writeBack n).1.setConn n { x with cache := .evicting false } else (s.writeBack n).1) := by
  simp only [exec, execEvictionStart, cacheSize, hf, if_true, hv]
  split
  next written => rfl
  next failed => rfl

variable (hx : s.conn? n = some x)
include hx

/-- The written-back entry is released and counted. -/
theorem exec_evictionRelease_written (hc : x.cache = .evicting false) :
    exec (.evictionRelease n) s = .next ((s.setConn n { x with cache := .out }).bump d5_0101 (connTower n)) := by
  simp only [exec, execEvictionRelease, hx, hc]

/-- An entry that was needed meanwhile stays. -/
theorem exec_evictionRelease_cancelled (hc : x.cache = .evicting true) :
    exec (.evictionRelease n) s = .next (s.setConn n { x with cache := .cached }) := by
  simp only [exec, execEvictionRelease, hx, hc]

/-- A failed write-back keeps the entry, marks it as not to be evicted, and fails the connection. -/
theorem exec_backingWritebackError_evicting {b : Bool} (hc : x.cache = .evicting b) (tr : Bool) :
    exec (.backingWritebackError n tr) s = .next
      ((s.setConn n { x with cache := .cached, noEvict := true }).backingFailure n (if tr then .translationFault else .busError)) := by
  simp only [exec, execBackingWritebackError, hx, hc]

end

/-! ### The address handles (R188, R210 to R212) -/

section
variable {s a : State} {t h : Nat} (hc : s.TakesConnCmd t h a)
include hc

/-- The handles are as they were. -/
theorem State.TakesConnCmd.handle_eq (k : Nat) : a.handle k = s.handle k := by
  rw [hc.taken]
  rfl

theorem State.TakesConnCmd.handleNamed_eq (k : Nat) : a.handleNamed t k = s.handleNamed t k := by
  rw [hc.taken]
  rfl

theorem State.TakesConnCmd.handlesHeld_eq : a.handlesHeld t = s.handlesHeld t := by
  rw [hc.taken]
  rfl

theorem State.TakesConnCmd.par_eq (p : Param) (i : Nat) : a.par p i = s.par p i := by
  rw [hc.taken]
  rfl

/-- HANDLE_WRITE: NOT_OWNER at another tenant's handle; with VALID 0 the handle is freed unless it is not held or is named; else BAD_FIELD
and NO_CONTEXT in that order, or the handle is written. -/
theorem State.TakesConnCmd.handleWrite {w : W512} (hw : w = (a.fn t).conn.ctx.setWidth 512) :
    exec (.handleWrite t h) s = .next (
      if (s.handle (h % 65536)).valid = 1 ∧ (s.handle (h % 65536)).tenant.toNat ≠ t then a.handleResult t 5
      else if (Handle.ofWord w).valid = 0 then
        if (s.handle (h % 65536)).valid ≠ 1 then a.handleResult t 5
        else if s.handleNamed t (h % 65536) then a.handleResult t 2
        else (a.setHandle (h % 65536) {}).handleResult t 0
      else if (Handle.ofWord w).tenant.toNat ≠ t ∨ 3 ≤ (Handle.ofWord w).encap.toNat ∨ handleReservedZero w = false then
        a.handleResult t 3
      else if (s.handle (h % 65536)).valid ≠ 1 ∧ s.par d5_8001 t ≤ s.handlesHeld t then a.handleResult t 4
      else (a.setHandle (h % 65536) (Handle.ofWord w)).handleResult t 0) := by
  subst hw
  refine congrArg _ ((hc.connCmd_eq _).trans ?_)
  simp only [hc.handle_eq, hc.handleNamed_eq, hc.handlesHeld_eq, hc.par_eq, Bool.and_eq_true, Bool.or_eq_true, Bool.not_eq_true',
    decide_eq_true_eq, decide_eq_false_iff_not, or_assoc, ge_iff_le, ccOk, ccBadState, ccBadField, ccNoContext, ccNotOwner]

/-- HANDLE_READ returns a handle of the tenant, and else answers NOT_OWNER. -/
theorem State.TakesConnCmd.handleRead :
    exec (.handleRead t h) s = .next (
      if (s.handle (h % 65536)).valid = 1 ∧ (s.handle (h % 65536)).tenant.toNat = t then
        (a.setFn t { a.fn t with conn := { (a.fn t).conn with
          ctx := (((a.fn t).conn.ctx >>> 512) <<< 512) ||| (s.handle (h % 65536)).word.setWidth 1024 } }).handleResult t 0
      else a.handleResult t 5) := by
  refine congrArg _ ((hc.connCmd_eq _).trans ?_)
  simp only [hc.handle_eq, Bool.and_eq_true, decide_eq_true_eq, ccOk, ccNotOwner]

end

/-! ### The statement -/

/-- Settles O33, by the lemma of each command; that a FREEZE which ends so answers OK is the model's choice (log entry 55). -/
theorem connectionProgress : Obligations.ConnectionProgress := by
  unfold Obligations.ConnectionProgress
  refine ⟨fun n x s hx => ⟨fun f => exec_freezeComplete_due hx, fun d => exec_drainExit_due hx, exec_quarantineEnd_passed hx⟩,
    fun n k x s => ⟨fun hf => ⟨exec_evictionStart_noVictim hf, exec_evictionStart_victim hf⟩,
      fun hx => ⟨exec_evictionRelease_written hx, exec_evictionRelease_cancelled hx,
        fun b tr hc => exec_backingWritebackError_evicting hx hc tr⟩⟩, ?handles⟩
  rintro t h n s a w hl hf rfl ha hw
  have taken : s.TakesConnCmd t h a := ⟨hl, hf, ha⟩
  have notForeign (how : (s.handle (h % 65536)).valid ≠ 1 ∨ (s.handle (h % 65536)).tenant.toNat = t) :
      ¬ ((s.handle (h % 65536)).valid = 1 ∧ (s.handle (h % 65536)).tenant.toNat ≠ t) :=
    fun foreign => how.elim (fun unheld => unheld foreign.1) foreign.2
  rw [taken.handleWrite hw, taken.handleRead]
  refine ⟨fun hv ho => ⟨?writeForeign, ?readForeign⟩, fun hv hz => ?freeUnheld, fun hv => ?readUnheld, fun hv ho hz => ?free,
    fun hv ho => ?read, fun how hz => ⟨fun hbad => ?badField, fun ht he hr => ⟨fun hv hfull => ?noContext, fun hroom => ?written⟩⟩⟩
  case writeForeign => rw [if_pos ⟨hv, ho⟩]
  case readForeign => rw [if_neg (fun own => ho own.2)]
  case freeUnheld => rw [if_neg (fun foreign => hv foreign.1), if_pos hz, if_pos hv]
  case readUnheld => rw [if_neg (fun own => hv own.1)]
  case free => rw [if_neg (fun foreign => foreign.2 ho), if_pos hz, if_neg (fun unheld => unheld hv)]
  case read => rw [if_pos ⟨hv, ho⟩]
  case badField => rw [if_neg (notForeign how), if_neg hz, if_pos hbad]
  case noContext => rw [if_neg (notForeign how), if_neg hz, if_neg (by simp [ht, hr]; omega), if_pos ⟨hv, hfull⟩]
  case written => rw [if_neg (notForeign how), if_neg hz, if_neg (by simp [ht, hr]; omega),
    if_neg (fun hfull => Nat.not_le.mpr (hroom.resolve_left hfull.1) hfull.2)]

end Sys2Proof.Machine

/-! PROOFS. The entries that make messages, NOP and FENCE_FLUSH: how an entry meets its connection and its local ranges, what it sends, and
the statement about them. -/
namespace Sys2Proof.Machine

/-! ### The connection of an entry (R191, R197) -/

/-- On a connection that refuses it the entry fails. -/
theorem State.onConn_fail {s : State} {t c : Nat} {st : Status} (hu : s.connUse t c = .fail st) (e : EntryRef)
    (f : Conn → State → State) : s.onConn t c e f = s.failEntry e st 0 := by
  simp only [onConn, hu]

/-- On a FROZEN connection the entry waits. -/
theorem State.onConn_wait {s : State} {t c : Nat} (hu : s.connUse t c = .wait) (e : EntryRef) (f : Conn → State → State) :
    s.onConn t c e f = s := by
  simp only [onConn, hu]

theorem State.onConn_go {s : State} {t c : Nat} (hu : s.connUse t c = .go) (e : EntryRef) (f : Conn → State → State) :
    s.onConn t c e f = s.withCtx c f := by
  simp only [onConn, hu]

/-- The context of connection `c` is held in the cache: `a` is the state once an eviction under way is cancelled. -/
abbrev State.HoldsCtx (s : State) (c : Nat) (x : Conn) (a : State) : Prop :=
  (x.cache = .cached ∧ a = s) ∨ ∃ b, x.cache = .evicting b ∧ a = s.setConn c { x with cache := .evicting true }

/-- What needs only the core of a held context goes on with it. -/
theorem State.withCtx_held {s a : State} {c : Nat} {x : Conn} (hx : s.conn? c = some x) (ha : s.HoldsCtx c x a)
    (f : Core → State → State) : s.withCtx c (fun x s => f x.ctx.core s) = f x.ctx.core a := by
  obtain ⟨hc, rfl⟩ | ⟨b, hc, rfl⟩ := ha
  · exact withCtx_cached hx hc
  · exact withCtx_evicting hx hc

/-! ### The local ranges of an entry (R232, R558, R587, R723) -/

section
variable {s : State} {t : Nat} {e : EntryRef} {ns : List Need} {f : List Realm → State → State}

/-- A refused local key fails the entry with its status and reason. -/
theorem State.withNeeds_fail {r : Nat} (hn : s.checkNeeds t ns = .fail r) : s.withNeeds t e ns f = s.failLocal t e r := by
  simp only [withNeeds, hn]

/-- A page without translation makes the entry wait for one. -/
theorem State.withNeeds_translate {n : Need} {g : Nat} (hn : s.checkNeeds t ns = .translate n g) :
    s.withNeeds t e ns f = s.awaitPage t e (s.keyPasid n.key) g (n.perm = 1) := by
  simp only [withNeeds, hn]

/-- A range in a domain that is closing or closed fails the entry with POWERED_DOWN. -/
theorem State.withNeeds_shut {rs : List Realm} (hn : s.checkNeeds t ns = .ok rs) (hs : s.needsShut ns rs = true) :
    s.withNeeds t e ns f = s.failEntry e .poweredDown 0 := by
  simp only [withNeeds, hn, hs, if_true]

/-- Realms that may be used, none of them host memory behind a reset, are what the entry goes on with. -/
theorem State.withNeeds_ok {rs : List Realm} (hn : s.checkNeeds t ns = .ok rs) (hs : s.needsShut ns rs = false)
    (hr : (s.tenant t).mode ≠ .resetting ∨ ∀ r ∈ rs, r.space ≠ 0) : s.withNeeds t e ns f = f rs s := by
  have reached : (decide ((s.tenant t).mode = .resetting) && rs.any (fun r => decide (r.space = 0))) = false := by
    obtain h | h := hr
    · simp [h]
    · simpa using fun _ => h
  simp only [withNeeds, hn, hs, reached, Bool.false_eq_true, if_false]

end

/-! ### The message of an entry (R219, R252, R262) -/

/-- The place of an entry's local range; package memory for an entry that has none. -/
def rangePlace (rs : List Realm) : Place := (rs.head?.map Realm.place).getD ⟨1, 0, 0⟩

/-- What `State.remoteEntry` does once its connection and its realms are at hand: the entry runs, is recorded if it is relaxed, and its
message is appended. -/
def State.sendEntry (op : Nat) (e : EntryRef) (w : W512) (k : Core) (rs : List Realm) (s : State) : State :=
  let d := s.recordRelaxedEntry e (entConn w) (rmRelaxed w)
  let u := d.1.runEntry e
  (if op = 3 && d.2 && (rangePlace rs).space ≠ 1 then
    u.recordRelaxedRead e (rangePlace rs) (lastWord (entLocal w) (entLength w))
      (readsOf (rangePlace rs) ((rs.head?.map (fun r => r.crossPath (entLocal w) (entLength w))).getD false))
   else u).post (entConn w) (entryMsg op e w k (rangePlace rs) d.2 s.now)

theorem State.remoteEntry_ready {s : State} {op t ring : Nat} {e : EntryRef} {w : W512} (hr : s.readyEntry t ring op = some (e, w)) :
    s.remoteEntry op t ring = s.onConn t (entConn w) e (fun x s =>
      s.withNeeds t e (remoteNeeds op w) (State.sendEntry op e w x.ctx.core)) := by
  simp only [remoteEntry, hr]
  congr 1
  funext x s
  congr 1
  funext rs s
  cases rs <;> rfl

/-- An entry that is no relaxed READ of memory beside the package's is run and sent. -/
theorem State.sendEntry_plain {s : State} {op : Nat} {e : EntryRef} {w : W512} {k : Core} {rs : List Realm} {d : State × Bool}
    (hd : d = s.recordRelaxedEntry e (entConn w) (rmRelaxed w)) (ho : op ≠ 3 ∨ d.2 = false ∨ (rangePlace rs).space = 1) :
    s.sendEntry op e w k rs = (d.1.runEntry e).post (entConn w) (entryMsg op e w k (rangePlace rs) d.2 s.now) := by
  subst hd
  have plain : (decide (op = 3) && (s.recordRelaxedEntry e (entConn w) (rmRelaxed w)).2 && decide ((rangePlace rs).space ≠ 1)) = false := by
    obtain h | h | h := ho <;> simp [h]
  simp only [sendEntry, plain, Bool.false_eq_true, if_false]

/-- Of a relaxed READ into memory beside the package's the last range is recorded too. -/
theorem State.sendEntry_relaxedRead {s : State} {e : EntryRef} {w : W512} {k : Core} {r : Realm} {rs : List Realm} {d : State × Bool}
    (hd : d = s.recordRelaxedEntry e (entConn w) (rmRelaxed w)) (hr : d.2 = true) (hp : r.place.space ≠ 1) :
    s.sendEntry 3 e w k (r :: rs) =
      ((d.1.runEntry e).recordRelaxedRead e r.place (lastWord (entLocal w) (entLength w))
        (readsOf r.place (r.crossPath (entLocal w) (entLength w)))).post (entConn w) (entryMsg 3 e w k r.place d.2 s.now) := by
  subst hd
  have place : rangePlace (r :: rs) = r.place := rfl
  simp only [sendEntry, place, hr, hp, ne_eq, not_false_eq_true, decide_true, Bool.and_self, if_true, List.head?_cons, Option.map_some,
    Option.getD_some]

/-! ### The commands of opcodes 1 to 4 -/

/-- The commands of the ring's entries, by opcode. -/
theorem exec_remoteEntry {t ring op : Nat} {c : Instr} (s : State)
    (hc : (op, c) ∈ [(1, Instr.write t ring), (2, .writeImm t ring), (3, .read t ring), (4, .accum t ring)]) :
    exec c s = .next (s.remoteEntry op t ring) := by
  simp only [List.mem_cons, List.not_mem_nil, or_false, Prod.mk.injEq] at hc
  obtain ⟨rfl, rfl⟩ | ⟨rfl, rfl⟩ | ⟨rfl, rfl⟩ | ⟨rfl, rfl⟩ := hc <;> rfl

/-- Without a ready entry of its opcode a command changes nothing. -/
theorem exec_entry_notReady {t ring op : Nat} {c : Instr} {s : State}
    (hc : (op, c) ∈ [(0x41, Instr.nop t ring), (1, .write t ring), (2, .writeImm t ring), (3, .read t ring), (4, .accum t ring),
      (0x40, .fenceFlush t ring)]) (hr : s.readyEntry t ring op = none) : exec c s = .next s := by
  have remote : s.remoteEntry op t ring = s := by simp only [State.remoteEntry, hr]
  simp only [List.mem_cons, List.not_mem_nil, or_false, Prod.mk.injEq] at hc
  obtain ⟨rfl, rfl⟩ | ⟨rfl, rfl⟩ | ⟨rfl, rfl⟩ | ⟨rfl, rfl⟩ | ⟨rfl, rfl⟩ | ⟨rfl, rfl⟩ := hc
  case inl => simp only [exec, execNop, hr]
  case inr.inr.inr.inr.inr => simp only [exec, execFenceFlush, hr]
  all_goals exact congrArg _ remote

/-! ### NOP and FENCE_FLUSH (R15, R253) -/

/-- A NOP ends at once. -/
theorem exec_nop_ready {t ring : Nat} {e : EntryRef} {w : W512} {s : State} (hr : s.readyEntry t ring 0x41 = some (e, w)) :
    exec (.nop t ring) s = .next (s.endEntry e) := by
  simp only [exec, execNop, hr]

section
variable {t ring : Nat} {e : EntryRef} {w : W512} {s : State} (hr : s.readyEntry t ring 0x40 = some (e, w))
include hr

/-- A FENCE_FLUSH waits for the earlier chains of its ring. -/
theorem exec_fenceFlush_later (hf : s.firstChain e = false) : exec (.fenceFlush t ring) s = .next s := by
  simp only [exec, execFenceFlush, hr, hf, Bool.not_false, if_true]

/-- A FENCE_FLUSH of the ring's first chain clears what the ring recorded and sends its flush requests and read-backs (`a`); it waits for
the read-backs (`b`), and ends when nothing is left to wait for. -/
theorem exec_fenceFlush_first {r : Ring} {a b : State} {n : Nat} (hf : s.firstChain e = true) (hq : s.ring? e.ring = some r)
    (ha : a = r.relaxedReads.foldl (fun s x => s.emitReads x.1 x.2.1 x.2.2) (r.relaxed.foldl (fun s c => s.flushOn t e c)
      ((s.setRing e.ring { r with relaxed := [], relaxedReads := [] }).runEntry e)))
    (hn : n = r.relaxedReads.foldl (fun n x => n + x.2.2) 0)
    (hb : b = if n = 0 then a else { a with localReads := a.localReads ++ [{ ref := e, left := n }] }) :
    exec (.fenceFlush t ring) s = .next (if b.ownerBusy e then b else b.endEntry e) := by
  subst hb hn ha
  simp only [exec, execFenceFlush, hr, hf, hq, Bool.not_true, Bool.false_eq_true, if_false]

end

/-! ### The statement -/

/-- Settles O34, by the lemmas of the entry's connection, of its local ranges and of its message; that the ranges are checked in order when
the entry starts, and that a FENCE_FLUSH goes on a FROZEN connection too, are the model's reading (log entries 51 and 52). -/
theorem remoteEntries : Obligations.RemoteEntries := by
  unfold Obligations.RemoteEntries
  refine ⟨fun t ring op s c hc => exec_entry_notReady hc, ?remote, fun t ring e w s => exec_nop_ready,
    fun t ring e w s hr => ⟨exec_fenceFlush_later hr, ?fence⟩⟩
  case remote =>
    intro t ring op s c e w hc hr
    rw [exec_remoteEntry s hc, State.remoteEntry_ready hr]
    refine ⟨fun st hu => by rw [State.onConn_fail hu], fun hu => by rw [State.onConn_wait hu], fun x hu hx => ?_⟩
    rw [State.onConn_go hu]
    refine ⟨fun hout => by rw [State.withCtx_out hx hout], fun b y a ha => ?_⟩
    have held : s.HoldsCtx (entConn w) x a := ha.imp_right fun ⟨hc, hy, ha⟩ => ⟨b, hc, hy ▸ ha⟩
    rw [State.withCtx_held hx held (fun k s => s.withNeeds t e (remoteNeeds op w) (State.sendEntry op e w k))]
    refine ⟨fun n hn => by rw [State.withNeeds_fail hn], fun n g hn => by rw [State.withNeeds_translate hn],
      fun rs hn hs => by rw [State.withNeeds_shut hn hs], ?plain, ?relaxedRead⟩
    case plain =>
      rintro rs p m d hn hs hm rfl hd rfl ho
      rw [State.withNeeds_ok hn hs hm, State.sendEntry_plain hd ho, rangePlace]
    case relaxedRead =>
      rintro r rs p m d hn hs hm rfl hd rfl rfl hrel hp
      rw [State.withNeeds_ok hn hs (.inl hm), State.sendEntry_relaxedRead hd hrel hp]
  case fence =>
    rintro r q a b hf hq rfl ha hb
    refine exec_fenceFlush_first hr hf hq ha rfl ?_
    obtain ⟨hn, rfl⟩ | ⟨hn, rfl⟩ := hb
    · rw [if_pos hn]
    · rw [if_neg hn]

end Sys2Proof.Machine

/-! PROOFS. The arrival of a Silus packet, from its type to its connection, and the statement about it. -/
namespace Sys2Proof.Machine

/-! ### From the port to the home tower (R256, R260, R263, R273) -/

/-- A packet command, with the type of packet it is for, runs through `State.receiveType`. -/
theorem exec_packetRx {rx : Rx} {ty : Nat} {c : Instr} (s : State)
    (hc : (ty, c) ∈ [(1, Instr.pktWriteRx rx), (2, .pktWriteImmRx rx), (3, .pktReadReqRx rx), (4, .pktReadRespRx rx), (5, .pktAccumRx rx),
      (6, .pktFlushReqRx rx), (7, .pktVoidRx rx), (0x10, .ackRx rx), (0x11, .nakRx rx), (0x12, .msgConfirmRx rx),
      (0x13, .confirmQueryRx rx)]) : exec c s = .next (s.receiveType ty rx) := by
  simp only [List.mem_cons, List.not_mem_nil, or_false, Prod.mk.injEq] at hc
  obtain ⟨rfl, rfl⟩ | ⟨rfl, rfl⟩ | ⟨rfl, rfl⟩ | ⟨rfl, rfl⟩ | ⟨rfl, rfl⟩ | ⟨rfl, rfl⟩ | ⟨rfl, rfl⟩ | ⟨rfl, rfl⟩ | ⟨rfl, rfl⟩ | ⟨rfl, rfl⟩ |
    ⟨rfl, rfl⟩ := hc <;> rfl

section
variable {rx : Rx} {s : State}

/-- An expired packet is counted and its ingress place freed. -/
theorem State.receive_expired {a : State} (ha : a = s.trace (portTower rx.port) 0 2048 (bytesOf 24 rx.pkt.hdr))
    (he : a.tagExpired rx.pkt = true) :
    s.receive rx = (a.bump d6_0103 (portTower rx.port)).freeIngress rx.port (hdrVc rx.pkt) rx.cls rx.pkt.len := by
  subst ha
  simp only [receive, he, if_true]

/-- A packet for this adapter that is not expired and whose route generation is known is counted if its form is bad, and else comes to its
home tower. -/
theorem State.receive_mine {a b : State} {set : ParamSet} (ha : a = s.trace (portTower rx.port) 0 2048 (bytesOf 24 rx.pkt.hdr))
    (he : a.tagExpired rx.pkt = false) (hr : State.routeTables (portTower rx.port) (hdrGen rx.pkt) a = (b, some set))
    (hm : b.isMine rx.pkt = true) (hi : b.hasId = true) :
    s.receive rx =
      if (takesPsn (hdrType rx.pkt) = false ∧ isControl (hdrType rx.pkt) = false) ∨ reservedOk rx.pkt = false ∨ shapeOk rx.pkt = false then
        (b.freeIngress rx.port (hdrVc rx.pkt) rx.cls rx.pkt.len).bump d6_0109 (portTower rx.port)
      else (b.freeIngress rx.port (hdrVc rx.pkt) rx.cls rx.pkt.len).atHome rx := by
  subst ha
  simp only [receive, he, hr, hm, hi, Bool.not_true, Bool.or_self, Bool.false_eq_true, if_false, Bool.or_eq_true, Bool.not_eq_true',
    Bool.or_eq_false_iff, or_assoc]

/-- A packet that arrives comes to its home tower. -/
theorem PacketArrives.receive_eq {d : State} (h : PacketArrives rx s d) : s.receive rx = d.atHome rx := by
  obtain ⟨fresh, known, mine, hasId, type, reserved, shape, rfl⟩ := h
  obtain ⟨set, hset⟩ := Option.ne_none_iff_exists'.mp known
  rw [State.receive_mine rfl fresh (Prod.ext rfl hset) mine hasId, if_neg]
  · rfl
  · rintro (⟨hdata, hcontrol⟩ | hreserved | hshape)
    · simp [hdata, hcontrol] at type
    · exact Bool.false_ne_true (hreserved.symm.trans reserved)
    · exact Bool.false_ne_true (hshape.symm.trans shape)

end

/-! ### At the home tower (R192, R206 to R208; log 93) -/

/-- What a packet meets that its connection cannot take: STALE_CONNECTION if it takes a PSN, and nothing otherwise. -/
def State.staleOrDrop (rx : Rx) (d : State) : State :=
  if takesPsn (hdrType rx.pkt) then d.answerStale (hdrDst rx.pkt) rx else d

section
variable {rx : Rx} {d : State}

/-- A packet to a connection that does not exist. -/
theorem State.atHome_noConn (hn : d.conn? (hdrDst rx.pkt) = none) : d.atHome rx = d.staleOrDrop rx := by
  simp only [atHome, withConn, hn, staleOrDrop]

variable {x : Conn} (hx : d.conn? (hdrDst rx.pkt) = some x)
include hx

/-- A packet whose context is out of the cache goes to the miss buffer. -/
theorem State.atHome_miss (hm : x.ctx.core.mode ≠ .quarantine) (hc : x.cache = .out ∨ x.cache = .fetching) :
    d.atHome rx = d.missPacket (hdrDst rx.pkt) x rx := by
  obtain hc | hc := hc <;> simp only [atHome, hx, hm, hc, if_false]

/-- A cached context, or a quarantine, is judged at once. -/
theorem State.atHome_judged (hc : x.ctx.core.mode = .quarantine ∨ x.cache = .cached) :
    d.atHome rx = d.withConn (hdrDst rx.pkt) rx d.now := by
  by_cases hm : x.ctx.core.mode = .quarantine
  · simp only [atHome, hx, hm, if_true]
  · simp only [atHome, hx, hm, hc.resolve_left hm, if_false]

/-- A connection that is FREE, in QUARANTINE or in INIT, or has another incarnation. -/
theorem State.withConn_stale (hm : x.ctx.core.mode = .free ∨ x.ctx.core.mode = .quarantine ∨ x.ctx.core.mode = .init ∨
    hdrDstInc rx.pkt ≠ x.ctx.core.incarnation) (arrived : Nat) : d.withConn (hdrDst rx.pkt) rx arrived = d.staleOrDrop rx := by
  simp only [withConn, hx, hm, if_true, staleOrDrop]

variable (hi : hdrDstInc rx.pkt = x.ctx.core.incarnation)
include hi

/-- A packet from another peer than the connection's is counted. -/
theorem State.withConn_otherPeer
    (hm : x.ctx.core.mode = .ready ∨ x.ctx.core.mode = .frozen ∨ x.ctx.core.mode = .draining ∨ x.ctx.core.mode = .error)
    (hp : hdrSrcAdapter rx.pkt ≠ (d.handle x.ctx.core.handle.toNat).peerAdapter.toNat) (arrived : Nat) :
    d.withConn (hdrDst rx.pkt) rx arrived = d.bump d5_0108 (connTower (hdrDst rx.pkt)) := by
  have live : ¬ (x.ctx.core.mode = .free ∨ x.ctx.core.mode = .quarantine ∨ x.ctx.core.mode = .init ∨
      hdrDstInc rx.pkt ≠ x.ctx.core.incarnation) := by
    obtain hm | hm | hm | hm := hm <;> simp [hm, hi]
  simp only [withConn, hx, live, hp, if_false, ne_eq, not_false_eq_true, if_true]

variable (hp : hdrSrcAdapter rx.pkt = (d.handle x.ctx.core.handle.toNat).peerAdapter.toNat)
include hp

/-- A connection in ERROR answers as one that does not exist. -/
theorem State.withConn_error (hm : x.ctx.core.mode = .error) (arrived : Nat) :
    d.withConn (hdrDst rx.pkt) rx arrived = d.staleOrDrop rx := by
  simp [withConn, hx, hm, hi, hp, staleOrDrop]

/-- A data packet that a FROZEN connection does not take is answered CONTEXT_BUSY. -/
theorem State.withConn_frozen (hm : x.ctx.core.mode = .frozen)
    (ht : d.tenantAnswer x.ctx.core.tenant.toNat (x.begun rx.pkt) = none) (hd : takesPsn (hdrType rx.pkt) = true)
    (hf : x.frozenTakes rx.pkt = false) (arrived : Nat) :
    d.withConn (hdrDst rx.pkt) rx arrived = d.answerBusy (hdrDst rx.pkt) rx (d.par d5_0012 (connTower (hdrDst rx.pkt))) := by
  simp [withConn, hx, hm, hi, hp, ht, hd, hf]

end

/-! ### The statement -/

/-- Settles O35, by the lemmas of a packet's arrival and of its connection; that a packet is judged when it has arrived whole, in the order
of the rule, is the model's choice (log entries 15 and 56). -/
theorem packetArrival : Obligations.PacketArrival := by
  unfold Obligations.PacketArrival
  intro rx ty c s hc
  rw [exec_packetRx s hc, State.receiveType]
  refine ⟨fun hother => by rw [if_neg hother], ?_⟩
  rintro rfl
  rw [if_pos rfl]
  refine ⟨fun a ha he => by rw [State.receive_expired ha he], fun a b set ha he hr hm hi hbad => ?_, fun d harrives => ?_⟩
  · rw [State.receive_mine ha he hr hm hi, if_pos (.inr hbad)]
  rw [harrives.receive_eq]
  refine ⟨rfl, fun hn => by rw [State.atHome_noConn hn, State.staleOrDrop], fun x hx => ⟨fun hm hc => by rw [State.atHome_miss hx hm hc],
    fun hstale => ?_, fun hc hm hi => ?_⟩⟩
  · have modes : x.ctx.core.mode = .free ∨ x.ctx.core.mode = .quarantine ∨ x.ctx.core.mode = .init ∨
        hdrDstInc rx.pkt ≠ x.ctx.core.incarnation := by
      obtain hquarantine | ⟨-, hfree | hrest⟩ := hstale
      · exact .inr (.inl hquarantine)
      · exact .inl hfree
      · exact .inr (.inr hrest)
    rw [State.atHome_judged hx (hstale.imp_right And.left), State.withConn_stale hx modes, State.staleOrDrop]
  rw [State.atHome_judged hx (.inr hc)]
  exact ⟨fun hp => congrArg _ (State.withConn_otherPeer hx hi hm hp _), fun hp => ⟨
    fun he => by rw [State.withConn_error hx hi hp he, State.staleOrDrop],
    fun hz ht hd hf => congrArg _ (State.withConn_frozen hx hi hp hz ht hd hf _)⟩⟩

end Sys2Proof.Machine

/-! PROOFS. The progress of the receiving side: fetched contexts, READs at the target, failed reads and placements, read-backs, the timers
and derived keys, and the statement about them. -/
namespace Sys2Proof.Machine

/-! ### A fetched context (R202, R204, R206, R725) -/

section
variable {n : Nat} {ans : MemAns} {x : Conn} {s : State} (hx : s.conn? n = some x) (hc : x.cache = .fetching)
include hx hc

/-- A backing in a domain that is closing or closed fails the connection, and its waiting packets are discarded. -/
theorem exec_contextInstall_shut {p : Place} {a : Nat} (hb : s.backing n x.ctx.core.tenant.toNat = some (p, a))
    (hs : s.placeShut p a 2048 = true) {b : State} (hb' : b = s.setConn n { x with cache := .cached }) :
    exec (.contextInstall n ans) s =
      .next (({ b with miss := b.miss.filter (fun e => e.conn ≠ n) } : State).backingFailure n .poweredDown) := by
  subst hb'
  simp only [exec, execContextInstall, hx, hc, hb, hs, if_true]

variable (ho : ∀ p a, s.backing n x.ctx.core.tenant.toNat = some (p, a) → s.placeShut p a 2048 = false)
include ho

/-- A context that was fetched is installed, its miss counted, and what waited for it is processed. -/
theorem exec_contextInstall_fetched {c : Ctx} (hf : s.fetchedCtx n x ans = some c) :
    exec (.contextInstall n ans) s = .next
      ((s.setConn n { x with ctx := { c with core := { c.core with misses := c.core.misses + 1 } }, cache := .cached }).runMisses n) := by
  simp only [exec, execContextInstall, hx, hc, hf, if_true]
  cases hb : s.backing n x.ctx.core.tenant.toNat with
  | none => simp only [Bool.false_eq_true, if_false]
  | some b => simp only [ho b.1 b.2 hb, Bool.false_eq_true, if_false]

/-- A failed fetch fails the connection, and its waiting packets are discarded. -/
theorem exec_contextInstall_failed (hf : s.fetchedCtx n x ans = none) {a b : State}
    (ha : a = match s.backing n x.ctx.core.tenant.toNat with
      | some (p, a) => s.readFailed x.ctx.core.tenant.toNat p a 2048
      | none => s) (hb' : b = a.setConn n { x with cache := .cached }) :
    exec (.contextInstall n ans) s =
      .next (({ b with miss := b.miss.filter (fun e => e.conn ≠ n) } : State).backingFailure n .busError) := by
  subst hb' ha
  simp only [exec, execContextInstall, hx, hc, hf, if_true]
  cases hb : s.backing n x.ctx.core.tenant.toNat with
  | none => simp only [Bool.false_eq_true, if_false]
  | some b => simp only [ho b.1 b.2 hb, Bool.false_eq_true, if_false]

end

/-! ### READs and writes at the target (R236, R281, R753) -/

/-- The response message of a READ of the peer (R281): it reads its payload at `p`. -/
def readResponse (k : Core) (m : RxMsg) (p : Place) (now : Nat) : TxMsg :=
  { msn := m.msn, kind := .resp, owner := none, length := m.length, chunk := k.payload, packets := packetsOf m.length k.payload
    remote := 0, key := m.key, aux := 0, src := p, addr := m.addr.toNat, sentAt := now }

section
variable {n : Nat} {x : Conn} {s : State} (hx : s.conn? n = some x)
include hx

/-- A complete READ whose turn it is begins to answer. -/
theorem exec_readStart_turn {m : RxMsg} {p : Place} {y : Conn} (hc : x.cache = .cached) (hm : x.rx? x.ctx.delivery.rxMsn = some m)
    (hk : m.kind = .read) (hw : m.complete = true) (hr : m.refused = none) (hv : m.voided = false) (hn : m.reading = false)
    (hp : p = ((s.realm? (fieldNat 0 24 m.key)).map Realm.place).getD ⟨1, 0, 0⟩)
    (hy : y = x.modifyRx m.msn (fun m => { m with reading := true })) :
    exec (.readStart n) s = .next
      ((s.setConn n (y.able s.now { y with tx := y.tx ++ [readResponse x.ctx.core m p s.now] })).closeReady n) := by
  subst hy hp
  refine congrArg _ ((State.withCtx_cached hx hc).trans ?_)
  simp only [hm, hk, hw, hr, hv, hn, decide_true, Option.isNone_none, Bool.not_false, Bool.and_self, if_true, readResponse]

/-- A failed read at the target is logged and voids the READ's responses. -/
theorem exec_targetReadFail_open {msn : W32} {m : TxMsg} (hm : x.msg? msn true = some m) (addr : W64) :
    exec (.targetReadFail n msn addr) s = .next
      ((s.logFault .tenant .connection 0 (some x.ctx.core.tenant.toNat) n addr.toNat 10).voidMsg n msn true .busError 0) := by
  simp only [exec, execTargetReadFail, State.failResponses, hx, hm, Option.isSome_some, if_true, Status.code]

/-- A failed placement of an own READ marks its message. -/
theorem exec_placementWriteFail_own (msn : W32) (addr : W64) :
    exec (.placementWriteFail n msn true addr) s =
      .next (s.setConn n (x.modifyMsg msn false (fun m => { m with failed := true }))) := by
  simp only [exec, execPlacementWriteFail, hx, if_true]

/-- A failed placement of a message of the peer is logged and ends the connection. -/
theorem exec_placementWriteFail_peer {msn : W32} {m : RxMsg} (hm : x.rx? msn = some m) (addr : W64) :
    exec (.placementWriteFail n msn false addr) s = .next
      ((s.logFault .tenant .connection 0 (some x.ctx.core.tenant.toNat) n addr.toNat 10).connError n .busError) := by
  simp only [exec, execPlacementWriteFail, State.placementFailed, hx, hm, Option.isSome_some, Bool.false_eq_true, if_false, if_true,
    Status.code]

end

/-! ### Read-backs (R249, R250, R253, R275; log 58) -/

section
variable {n : Nat} {msn : W32} {x : Conn} {s : State} (hx : s.conn? n = some x)
include hx

section
variable {m : TxMsg} (ho : x.ownReadbacks.find? (fun e => e.1 = msn) = some (msn, none)) (hm : x.msg? msn false = some m)
include ho hm

/-- The read-backs of an own READ into host memory behind a reset are squashed. -/
theorem exec_readbackIssue_ownBarred (hb : s.hostBarred x.ctx.core.tenant.toNat m.src = true) {y : Conn}
    (hy : y = ({ x with ownReadbacks := x.ownReadbacks.filter (fun e => e.1 ≠ msn) } : Conn).modifyMsg msn false
      (fun m => { m with closed := true })) :
    exec (.readbackIssue n msn true) s =
      .next (((s.setConn n y.sweep).countSquashed x.ctx.core.tenant.toNat 1).messageFail m .squashed 0) := by
  subst hy
  simp only [exec, execReadbackIssue, hx, ho, hm, hb, if_true]

/-- The read-backs of an own READ are issued, and their count is kept. -/
theorem exec_readbackIssue_own (hb : s.hostBarred x.ctx.core.tenant.toNat m.src = false) {k : Nat}
    (hk : k = readsOf m.src (((s.realm? (fieldNat 0 24 m.aux)).map (fun r => r.crossPath m.addr m.length)).getD false)) :
    exec (.readbackIssue n msn true) s = .next ((s.emitReads m.src (lastWord m.addr m.length) k).setConn n
      { x with ownReadbacks := x.ownReadbacks.map (fun e => if e.1 = msn then (msn, some k) else e) }) := by
  subst hk
  simp only [exec, execReadbackIssue, hx, ho, hm, hb, if_true, Bool.false_eq_true, if_false]
  cases s.realm? (fieldNat 0 24 m.aux) <;> rfl

end

variable {m : RxMsg} (hm : x.rx? msn = some m) (hr : m.readbacks = none) (hw : m.complete = true) (hf : m.refused = none)
  (hv : m.voided = false) (hp : m.placing = 0)
include hm hr hw hf hv hp

/-- A flush request reads back every path that relaxed messages wrote. -/
theorem exec_readbackIssue_flush (hk : m.kind = .flush)
    (hb : x.relaxedAt.any (fun e => s.hostBarred x.ctx.core.tenant.toNat e.2.1) = false) :
    exec (.readbackIssue n msn false) s = .next
      (((s.flushReads n x).1.setConn n (x.flushed.modifyRx msn (fun m => { m with readbacks := some x.relaxedAt.length }))).closeReady n) := by
  simp only [exec, execReadbackIssue, hx, hm, hr, hw, hf, hv, hp, hk, hb, Bool.false_eq_true, if_false, if_true, Option.isNone_none,
    Bool.not_false, decide_true, Bool.and_self]
  rfl

/-- A placed message that needs read-backs has them issued once. -/
theorem exec_readbackIssue_placed (hk : m.kind ≠ .flush) (hn : m.needsRead = true)
    (hb : s.hostBarred x.ctx.core.tenant.toNat m.place = false) :
    exec (.readbackIssue n msn false) s = .next ((s.emitReads m.place m.lastAddr (readsOf m.place m.cross)).setConn n
      (x.modifyRx msn (fun a => { a with readbacks := some (readsOf m.place m.cross) }))) := by
  simp only [exec, execReadbackIssue, hx, hm, hr, hw, hf, hv, hp, hk, hn, hb, Bool.false_eq_true, if_false, if_true, Option.isNone_none,
    Bool.not_false, decide_true, Bool.and_self]

end

/-! ### Reservations, acknowledgements and keys (R238, R282, R659) -/

/-- A reservation without an accepted packet for 1 s is released and counted. -/
theorem exec_notifyReservationExpire_due {t ring n : Nat} {msn : W32} {r : Ring} {s : State} {e : Nat × W32 × Nat}
    (hr : s.ring? (ringKey t ring) = some r) (he : e ∈ r.reserved) (hn : e.1 = n) (hm : e.2.1 = msn) (hd : e.2.2 + 1250000000 ≤ s.now) :
    exec (.notifyReservationExpire t ring n msn) s = .next
      ((s.setRing (ringKey t ring) { r with reserved := r.reserved.filter (fun e => !(e.1 = n && e.2.1 = msn)) }).bump d4_0104 t) := by
  have due : r.reserved.any (fun e => e.1 = n && e.2.1 = msn && e.2.2 + 1250000000 ≤ s.now) = true :=
    List.any_eq_true.mpr ⟨e, he, by simp only [hn, hm, hd, decide_true, Bool.and_self]⟩
  simp only [exec, execNotifyReservationExpire, hr, due, if_true]

/-- An acknowledgement that is due is sent. -/
theorem exec_ackTimer_due {n f : Nat} {x : Conn} {s : State} (hx : s.conn? n = some x) (hc : x.cache = .cached)
    (ha : x.ackSince = some f) (hd : f + s.par d6_0011 (connTower n) ≤ s.now) :
    exec (.ackTimer n) s = .next (s.sendAck n x.ackOf.1 x.ackOf.2.1 x.ackOf.2.2.1 x.ackOf.2.2.2) := by
  refine congrArg _ ((State.withCtx_cached hx hc).trans ?_)
  simp only [ha, hd, if_true]

/-- The oldest derivation of a tower ends: its key is installed, and what waited for it proceeds. -/
theorem exec_keyDerived_oldest {tower : Nat} {k : KeyName} {s : State}
    (hk : s.cipher.deriving_.find? (fun k => k.tower = tower) = some k) :
    exec (.keyDerived tower) s = .next ((s.installKey k).runWaits k) := by
  simp only [exec, execKeyDerived, hk]

/-! ### The statement -/

/-- Settles O38, by the lemma of each command; that the last 4 bytes of a range are read back, once more on the other path of attach
memory, and that RELAXED_PATHS is cleared when a flush's read-backs are issued, are the model's reading (log entries 52 and 58). -/
theorem receiverProgress : Obligations.ReceiverProgress := by
  unfold Obligations.ReceiverProgress
  refine ⟨fun n ans x s hx hc => ⟨fun p a hb hs b => exec_contextInstall_shut hx hc hb hs,
      fun ho => ⟨fun c => exec_contextInstall_fetched hx hc ho, fun a b hf ha => exec_contextInstall_failed hx hc ho hf ha⟩⟩,
    fun n x m s p y hx hc hm hk hw hr hv hn hp hy => exec_readStart_turn hx hc hm hk hw hr hv hn hp hy,
    fun n msn addr x s hx => ⟨fun m hm => exec_targetReadFail_open hx hm addr, exec_placementWriteFail_own hx msn addr,
      fun m hm => exec_placementWriteFail_peer hx hm addr⟩, ?readbacks, fun s => ?timers⟩
  case readbacks =>
    exact fun n msn x s hx => ⟨fun m k ho hm => ⟨fun hb y => exec_readbackIssue_ownBarred hx ho hm hb,
        fun hb => exec_readbackIssue_own hx ho hm hb⟩,
      fun m hm hr hw hf hv hp => ⟨fun hk hb => exec_readbackIssue_flush hx hm hr hw hf hv hp hk hb,
        fun hk hn hb => exec_readbackIssue_placed hx hm hr hw hf hv hp hk hn hb⟩⟩
  case timers =>
    exact ⟨fun t ring n msn r e hr he hn hm hd => exec_notifyReservationExpire_due hr he hn hm hd,
      fun n f x hx hc ha hd => exec_ackTimer_due hx hc ha hd, fun tower k hk => exec_keyDerived_oldest hk⟩

end Sys2Proof.Machine

/-! PROOFS. Migration's RESTORE, RESUME and DISCARD, the path-rebind datagrams, and the statement about them. -/
namespace Sys2Proof.Machine

/-! ### RESTORE (R579, R599, R603; log 95) -/

/-- The tenant is FROZEN and RESTORING from now on, with what its end will answer. -/
def State.restoring (t : Nat) (f : Option Nat) (s : State) : State :=
  s.setTenant t { s.tenant t with
    mode := .frozen, mig := { (s.tenant t).mig with mode := .restoring, since := s.now, failure := f } }

/-- The tenant may begin a RESTORE: it is ACTIVE with no migration and holds nothing. -/
abbrev State.mayRestore (s : State) (t : Nat) : Prop :=
  (s.tenant t).mig.mode = .none ∧ (s.tenant t).mode = .active ∧ s.tenantEmpty t = true

theorem exec_migRestore_badState {t : Nat} {s : State}
    (h : (s.tenant t).mig.mode ≠ .none ∨ (s.tenant t).mode ≠ .active ∨ s.tenantEmpty t = false) :
    exec (.migRestore t) s = .next (s.migResult t 1) := by
  refine congrArg _ (if_pos ?_)
  simpa only [Bool.or_eq_true, decide_eq_true_eq, Bool.not_eq_true', or_assoc] using h

section
variable {t : Nat} {s : State} (h : s.mayRestore t)
include h

/-- A RESTORE that may begin opens the blob. -/
theorem exec_migRestore_opens :
    exec (.migRestore t) s = .next (match s.openBlob t with
      | .error e => s.restoring t (some e)
      | .ok (b, rs) => match s.placeRecords t (leAt 16 4 b) rs with
        | .error e => s.restoring t (some e)
        | .ok a => (a.setMig t (fun m => { m with
            srcAdapter := BitVec.ofNat 16 (leAt 6 2 b), connBase := leAt 16 4 b % 16777216, connSpan := leAt 20 4 b
            seq := BitVec.ofNat 32 (leAt 12 4 b) })).restoring t none) := by
  obtain ⟨hn, ha, he⟩ := h
  refine congrArg _ ((if_neg (by simp [hn, ha, he])).trans ?_)
  rfl

/-- A blob that cannot be opened leaves its failure. -/
theorem exec_migRestore_unopened {e : Nat} (ho : s.openBlob t = .error e) :
    exec (.migRestore t) s = .next (s.restoring t (some e)) := by
  rw [exec_migRestore_opens h, ho]

variable {b : Bytes} {rs : List (Nat × Nat × Bytes)} (ho : s.openBlob t = .ok (b, rs))
include ho

/-- A record that cannot be placed leaves its failure and nothing else. -/
theorem exec_migRestore_unplaced {e : Nat} (hp : s.placeRecords t (leAt 16 4 b) rs = .error e) :
    exec (.migRestore t) s = .next (s.restoring t (some e)) := by
  simp only [exec_migRestore_opens h, ho, hp]

/-- When every record could be placed, what the blob names is in place. -/
theorem exec_migRestore_placed {a : State} (hp : s.placeRecords t (leAt 16 4 b) rs = .ok a) :
    exec (.migRestore t) s = .next ((a.setMig t (fun m => { m with
      srcAdapter := BitVec.ofNat 16 (leAt 6 2 b), connBase := leAt 16 4 b % 16777216, connSpan := leAt 20 4 b
      seq := BitVec.ofNat 32 (leAt 12 4 b) })).restoring t none) := by
  simp only [exec_migRestore_opens h, ho, hp]

end

/-- A RESTORE that failed ends with its code, the tenant ACTIVE without migration. -/
theorem exec_migRestoreDone_failed {t e : Nat} {s : State} (hm : (s.tenant t).mig.mode = .restoring)
    (hf : (s.tenant t).mig.failure = some e) :
    exec (.migRestoreDone t) s = .next (s.setTenant t { s.tenant t with
      mode := .active, mig := { (s.tenant t).mig with mode := .none, failure := none, result := BitVec.ofNat 8 e } }) := by
  simp only [exec, execMigRestoreDone, hm, hf, ne_eq, not_true_eq_false, if_false]

/-- A RESTORE without failure ends RESTORED, with OK. -/
theorem exec_migRestoreDone_ok {t : Nat} {s : State} (hm : (s.tenant t).mig.mode = .restoring)
    (hf : (s.tenant t).mig.failure = none) :
    exec (.migRestoreDone t) s = .next (s.setTenant t { s.tenant t with
      mig := { (s.tenant t).mig with mode := .restored, result := 0 } }) := by
  simp only [exec, execMigRestoreDone, State.setMig, hm, hf, ne_eq, not_true_eq_false, if_false]

theorem exec_migRestoreDone_idle {t : Nat} {s : State} (hm : (s.tenant t).mig.mode ≠ .restoring) :
    exec (.migRestoreDone t) s = .next s :=
  if_pos hm

/-! ### RESUME and DISCARD (R599, R605) -/

theorem exec_migResume_badState {t : Nat} {s : State} (hf : (s.tenant t).mig.mode ≠ .frozen) (hs : (s.tenant t).mig.mode ≠ .saved)
    (hr : (s.tenant t).mig.mode ≠ .restored) : exec (.migResume t) s = .next (s.migResult t 1) :=
  congrArg _ (if_pos (by simp [hf, hs, hr]))

/-- A RESUME makes the tenant ACTIVE without migration (`a`) and thaws its connections (`b`); after a RESTORE its rings are ACTIVE too
(`c`), and the datagrams go to the peers. -/
theorem exec_migResume_thaws {t : Nat} {s a b c : State}
    (hm : (s.tenant t).mig.mode = .frozen ∨ (s.tenant t).mig.mode = .saved ∨ (s.tenant t).mig.mode = .restored)
    (ha : a = s.setTenant t { s.tenant t with mode := .active, mig := { (s.tenant t).mig with mode := .none, result := 0 } })
    (hb : b = (a.tenantConns t).foldl (fun s e => s.thaw e.1) a)
    (hc : c = { b with rings := tmap (fun k r => if keyTenant k = t then { r with mode := .active } else r) b.rings }) :
    exec (.migResume t) s = .next (
      if (s.tenant t).mig.mode = .restored then (c.setTenant t { c.tenant t with mig := { (c.tenant t).mig with
        rebinds := c.rebindPeers t, rebindLeft := 2, rebindAt := c.now + 12500 } }).sendRebinds t
      else b) := by
  subst hc hb ha
  refine congrArg _ ((if_neg ?_).trans rfl)
  obtain hm | hm | hm := hm <;> simp [hm]

theorem exec_migDiscard_badState {t : Nat} {s : State} (hm : (s.tenant t).mig.mode = .none) :
    exec (.migDiscard t) s = .next (s.migResult t 1) :=
  congrArg _ (if_pos hm)

/-- A DISCARD is a reset of the tenant with cause 5 and mode SQUASH. -/
theorem exec_migDiscard_reset {t : Nat} {s : State} (hm : (s.tenant t).mig.mode ≠ .none) :
    exec (.migDiscard t) s = .next ((s.migResult t 0).startReset t 5 true) :=
  congrArg _ (if_neg hm)

/-! ### Path-rebind datagrams (R214, R215, R605, R673, R678) -/

/-- A repetition that is due is sent, and the next one is due 12,500 ticks later. -/
theorem exec_pathRebindRepeat_due {t : Nat} {s : State} (hl : (s.tenant t).mig.rebindLeft ≠ 0) (hd : (s.tenant t).mig.rebindAt ≤ s.now) :
    exec (.pathRebindRepeat t) s = .next ((s.setTenant t { s.tenant t with mig := { (s.tenant t).mig with
      rebindLeft := (s.tenant t).mig.rebindLeft - 1, rebindAt := (s.tenant t).mig.rebindAt + 12500 } }).sendRebinds t) :=
  if_pos (by simp [hl, hd])

theorem exec_pathRebindRepeat_idle {t : Nat} {s : State} (h : (s.tenant t).mig.rebindLeft = 0 ∨ s.now < (s.tenant t).mig.rebindAt) :
    exec (.pathRebindRepeat t) s = .next s := by
  refine if_neg ?_
  obtain hl | hd := h
  · simp [hl]
  · simp [hd]

section
variable {p : Packet} {s : State} {b : Bytes} (hb : b = p.payload.drop 16)
include hb

/-- A path-rebind of a bad form is counted. -/
theorem State.takeRebind_badForm (hf : leAt 0 2 (p.payload.take 16) ≠ 0x4D5A ∨ leAt 2 1 (p.payload.take 16) ≠ 1 ∨
    leAt 12 2 (p.payload.take 16) ≠ b.length ∨ b.length ≠ 48) : s.takeRebind p = s.bump d19_0107 0 := by
  subst hb
  refine if_pos ?_
  simp only [Bool.or_eq_true, decide_eq_true_eq]
  exact .inl (by simpa only [or_assoc] using hf)

/-- A path-rebind of good form rewrites every handle that verifies it, and is counted where none does. -/
theorem State.takeRebind_goodForm (h1 : leAt 0 2 (p.payload.take 16) = 0x4D5A) (h2 : leAt 2 1 (p.payload.take 16) = 1)
    (h3 : leAt 12 2 (p.payload.take 16) = 48) (h4 : b.length = 48) :
    s.takeRebind p =
      if ∃ e ∈ s.handles, s.rebinds e.2 b p.trailer = true then
        { s with handles := tmap (fun _ h => if s.rebinds h b p.trailer then h.rebind s.now b else h) s.handles }
      else s.bump d5_0109 0 := by
  subst hb
  have long : ¬ p.payload.length < 16 := by
    rw [List.length_drop] at h4
    omega
  refine (if_neg (by simp [h1, h2, h3, h4, long])).trans ?_
  simp only [List.any_eq_true]

end

/-! ### The statement -/

/-- Settles O47, by the lemma of each command and of a received datagram; that the records are placed one by one, the first that cannot
be placed ending the RESTORE, and that a RESUME at the source leaves the rings as they were are the model's choices (log entry 95). -/
theorem migrationRestoreAndResume : Obligations.MigrationRestoreAndResume := by
  unfold Obligations.MigrationRestoreAndResume
  refine ⟨fun t s => ⟨exec_migRestore_badState, fun hn ha he => ?restore⟩,
    fun t s => ⟨fun hm => ⟨fun e => exec_migRestoreDone_failed hm, exec_migRestoreDone_ok hm⟩, exec_migRestoreDone_idle⟩,
    fun t s => ⟨exec_migResume_badState, exec_migDiscard_badState, exec_migDiscard_reset, fun a b c ha hb hc => ⟨fun hm => ?source,
      fun hm => ?restored⟩⟩,
    fun t s => ⟨exec_pathRebindRepeat_due, exec_pathRebindRepeat_idle⟩, ?datagram⟩
  case restore =>
    have h : s.mayRestore t := ⟨hn, ha, he⟩
    refine ⟨fun e ho => exec_migRestore_unopened h ho, fun b rs e ho hp => exec_migRestore_unplaced h ho hp, ?_⟩
    rintro b rs a c ho hp rfl
    exact exec_migRestore_placed h ho hp
  case source =>
    rw [exec_migResume_thaws (hm.imp_right .inl) ha hb hc, if_neg (by obtain hm | hm := hm <;> simp [hm])]
  case restored => rw [exec_migResume_thaws (.inr (.inr hm)) ha hb hc, if_pos hm]
  case datagram =>
    rintro rx s a f b rfl hb
    refine ⟨rfl, State.takeRebind_badForm hb, fun h1 h2 h3 h4 => ?_⟩
    rw [State.takeRebind_goodForm hb h1 h2 h3 h4]
    refine ⟨fun hnone => if_neg ?_, fun e he hv => if_pos ⟨e, he, hv⟩⟩
    rintro ⟨e, he, hv⟩
    exact Bool.false_ne_true ((hnone e he).symm.trans hv)

end Sys2Proof.Machine

/-! PROOFS. The realm control page: how a command of it is taken, what each command answers, the end of a change, and the statement about
them. -/
namespace Sys2Proof.Machine

/-! ### Taking a command (R226) -/

/-- A realm page that is BUSY is none that reads as unwritten, so that it reads back. -/
theorem State.fn_setFn_realmBusy (s : State) (t : Nat) {x : FnPages} (hb : x.realm.busy = true) : (s.setFn t x).fn t = x := by
  refine tgetD_tput_self_ne ?_ s.fns
  rintro rfl
  exact Bool.false_ne_true hb

/-- The function is live and its realm control page takes a command on target `i`: `a` is the state then. -/
structure State.TakesRealmCmd (s : State) (t i : Nat) (a : State) : Prop where
  live : s.fnLive t = true
  free : (s.fn t).realm.busy = false
  taken : a = s.setFn t { s.fn t with realm := { (s.fn t).realm with busy := true, target := BitVec.ofNat 32 i } }

/-- A command that finds the page BUSY is discarded with LOST. -/
theorem State.realmCmd_busy {s : State} {t : Nat} (hl : s.fnLive t = true) (hb : (s.fn t).realm.busy = true) (i : Nat)
    (f : State → State) : s.realmCmd t i f = s.setFn t { s.fn t with realm := { (s.fn t).realm with lost := true } } := by
  simp only [realmCmd, hl, hb, Bool.not_true, Bool.false_eq_true, if_false, if_true]

section
variable {s a : State} {t i : Nat} (h : s.TakesRealmCmd t i a)
include h

theorem State.TakesRealmCmd.realmCmd_eq (f : State → State) : s.realmCmd t i f = f a := by
  obtain ⟨live, free, rfl⟩ := h
  simp only [realmCmd, live, free, Bool.not_true, Bool.false_eq_true, if_false]

/-- The realms are as they were. -/
theorem State.TakesRealmCmd.realms_eq : a.realms = s.realms := by
  rw [h.taken, setFn_realms]

/-- Fabric time is as it was. -/
theorem State.TakesRealmCmd.now_eq : a.now = s.now := by
  rw [h.taken]
  rfl

/-- The realm image of the page is as it was. -/
theorem State.TakesRealmCmd.realmImage_eq : a.realmImage t = (s.fn t).realm.ctx.setWidth 512 := by
  rw [h.taken, realmImage, fn_setFn_realmBusy s t rfl]

end

/-! ### Discarded and unlisted commands (R226) -/

/-- A word that no listed command of the page spells. -/
abbrev realmCmdUnlisted (value : W64) : Prop := ¬ (1 ≤ fieldNat 0 8 value ∧ fieldNat 0 8 value ≤ 5 ∧ fieldNat 32 32 value = 0)

theorem exec_realmCmdUnknown_unlisted (t : Nat) {value : W64} (s : State) (hv : realmCmdUnlisted value) :
    exec (.realmCmdUnknown t value) s = .next (s.realmCmd t (fieldNat 8 24 value) (fun s => s.realmResult t 3 0)) :=
  if_neg hv

/-- Every command of the page is run through `State.realmCmd`. -/
theorem exec_realmCommand {t i : Nat} {value : W64} {c : Instr} (s : State)
    (hc : c ∈ [.realmCreate t, .realmModify t i, .realmRevoke t i, .realmDestroy t i, .realmQuery t i] ∨
      (c = .realmCmdUnknown t value ∧ realmCmdUnlisted value)) :
    ∃ (k : Nat) (f : State → State), exec c s = .next (s.realmCmd t k f) := by
  obtain hc | ⟨rfl, hv⟩ := hc
  · simp only [List.mem_cons, List.not_mem_nil, or_false] at hc
    obtain rfl | rfl | rfl | rfl | rfl := hc <;> exact ⟨_, _, rfl⟩
  · exact ⟨_, _, exec_realmCmdUnknown_unlisted t s hv⟩

/-! ### CREATE (R225, R227, R228) -/

/-- `s` with the realm of the image `x` VALID at index `i` under `tag`, for tenant `t` and its incarnation. -/
def State.makeRealm (t i : Nat) (tag : BitVec 8) (x : W512) (s : State) : State :=
  { s with realms := {
      realms := tset i ({ Realm.ofWord x with tag := tag, mode := .valid, tenant := BitVec.ofNat 11 t, tenantInc := (s.tenant t).inc } : Realm)
        s.realms.realms
      lastTags := tput 0 i tag s.realms.lastTags
      lastIndex := i } }

/-- What CREATE does on a page that takes it: BAD_FIELD, then NO_CONTEXT, then the realm at the next free index. -/
def State.createRealm (t : Nat) (x : W512) (s : State) : State :=
  if s.realmFieldsOk t x = false then s.realmResult t 3 0
  else if s.par d12_8004 t ≤ s.realmsHeld t then s.realmResult t 4 0
  else
    match s.nextRealm with
    | none => s.realmResult t 4 0
    | some i => (s.makeRealm t i (tgetD s.realms.lastTags i 0 + 1) x).realmResult t 0 (realmKey i (tgetD s.realms.lastTags i 0 + 1))

theorem State.TakesRealmCmd.create {s a : State} {t : Nat} (h : s.TakesRealmCmd t 0 a) :
    exec (.realmCreate t) s = .next (a.createRealm t ((s.fn t).realm.ctx.setWidth 512)) := by
  refine congrArg _ ((h.realmCmd_eq _).trans ?_)
  simp only [h.realmImage_eq, createRealm, Bool.not_eq_true', ge_iff_le, rcBadField, rcNoContext, rcOk]
  rfl

/-- What CREATE reads of the state besides the page is as it was. -/
theorem State.TakesRealmCmd.createReads_eq {s a : State} {t i : Nat} (h : s.TakesRealmCmd t i a) :
    a.par d12_8004 t = s.par d12_8004 t ∧ a.realmsHeld t = s.realmsHeld t ∧ a.nextRealm = s.nextRealm ∧
      a.realms = s.realms ∧ a.tenant t = s.tenant t := by
  rw [h.taken]
  exact ⟨rfl, rfl, rfl, rfl, rfl⟩

section
variable {s a : State} {t : Nat} (h : s.TakesRealmCmd t 0 a) {x : W512} (hok : a.realmFieldsOk t x = true)
include h hok

/-- A tenant that holds all its realms answers NO_CONTEXT. -/
theorem State.TakesRealmCmd.createRealm_full (hf : s.par d12_8004 t ≤ s.realmsHeld t) : a.createRealm t x = a.realmResult t 4 0 := by
  obtain ⟨hpar, hheld, -⟩ := h.createReads_eq
  simp only [createRealm, hok, Bool.true_eq_false, if_false, hpar, hheld, hf, if_true]

variable (hr : s.realmsHeld t < s.par d12_8004 t)
include hr

/-- A full table answers NO_CONTEXT. -/
theorem State.TakesRealmCmd.createRealm_noIndex (hn : s.nextRealm = none) : a.createRealm t x = a.realmResult t 4 0 := by
  obtain ⟨hpar, hheld, hnext, -⟩ := h.createReads_eq
  simp only [createRealm, hok, Bool.true_eq_false, if_false, hpar, hheld, Nat.not_le.mpr hr, hnext, hn]

/-- The next free index becomes VALID with the tag after its last one. -/
theorem State.TakesRealmCmd.createRealm_made {i : Nat} {tag : BitVec 8} (hn : s.nextRealm = some i)
    (ht : tag = tgetD s.realms.lastTags i 0 + 1) :
    a.createRealm t x = (a.makeRealm t i tag x).realmResult t 0 (realmKey i tag) := by
  obtain ⟨hpar, hheld, hnext, hrealms, -⟩ := h.createReads_eq
  simp only [createRealm, hok, Bool.true_eq_false, if_false, hpar, hheld, Nat.not_le.mpr hr, hnext, hn, hrealms, ht]

end

/-! ### Commands on a realm (R227 to R230) -/

section
variable {s a : State} {t i : Nat} (h : s.TakesRealmCmd t i a)
include h

/-- MODIFY, REVOKE, DESTROY and QUERY are run through `State.withRealm`. -/
theorem State.TakesRealmCmd.onRealm {c : Instr}
    (hc : c ∈ [Instr.realmModify t i, .realmRevoke t i, .realmDestroy t i, .realmQuery t i]) :
    ∃ f : Realm → State → State, exec c s = .next (a.withRealm t i f) := by
  simp only [List.mem_cons, List.not_mem_nil, or_false] at hc
  obtain rfl | rfl | rfl | rfl := hc <;> exact ⟨_, congrArg _ (h.realmCmd_eq _)⟩

/-- No realm answers NO_REALM. -/
theorem State.TakesRealmCmd.noRealm (hr : s.realm? i = none) {c : Instr}
    (hc : c ∈ [Instr.realmModify t i, .realmRevoke t i, .realmDestroy t i, .realmQuery t i]) :
    exec c s = .next (a.realmResult t 1 0) := by
  have hr' : a.realm? i = none := by rw [realm?, h.realms_eq]; exact hr
  obtain ⟨f, he⟩ := h.onRealm hc
  simp only [he, withRealm, hr', rcNoRealm]

variable {r : Realm} (hr : s.realm? i = some r)
include hr

/-- The refusals that `State.withRealm` makes of a realm, and what it runs else. -/
theorem State.TakesRealmCmd.withRealm_eq (f : Realm → State → State) :
    a.withRealm t i f =
      if r.tenant.toNat ≠ t then a.realmResult t 5 0
      else if r.mode = .changing then a.realmResult t 2 (realmKey i r.tag)
      else f r a := by
  have hr' : a.realm? i = some r := by rw [realm?, h.realms_eq]; exact hr
  simp only [withRealm, hr', rcNotOwner, rcBadState]

/-- Another tenant's realm answers NOT_OWNER. -/
theorem State.TakesRealmCmd.notOwner (ho : r.tenant.toNat ≠ t) {c : Instr}
    (hc : c ∈ [Instr.realmModify t i, .realmRevoke t i, .realmDestroy t i, .realmQuery t i]) :
    exec c s = .next (a.realmResult t 5 0) := by
  obtain ⟨f, he⟩ := h.onRealm hc
  rw [he, h.withRealm_eq hr, if_pos ho]

variable (ho : r.tenant.toNat = t)
include ho

/-- A CHANGING realm answers BAD_STATE. -/
theorem State.TakesRealmCmd.changing (hm : r.mode = .changing) {c : Instr}
    (hc : c ∈ [Instr.realmModify t i, .realmRevoke t i, .realmDestroy t i, .realmQuery t i]) :
    exec c s = .next (a.realmResult t 2 (realmKey i r.tag)) := by
  obtain ⟨f, he⟩ := h.onRealm hc
  rw [he, h.withRealm_eq hr, if_neg (not_not_intro ho), if_pos hm]

variable (hm : r.mode ≠ .changing)
include hm

/-- What a taken command on a realm that may change does. -/
theorem State.TakesRealmCmd.realmCmd_valid (f : Realm → State → State) :
    s.realmCmd t i (fun s => s.withRealm t i f) = f r a := by
  rw [h.realmCmd_eq, h.withRealm_eq hr, if_neg (not_not_intro ho), if_neg hm]

/-- MODIFY: BAD_FIELD with bad fields or a moved place, else PERMS and the fence ranges are replaced. -/
theorem State.TakesRealmCmd.modify {n : Realm} (hn : n = Realm.ofWord ((s.fn t).realm.ctx.setWidth 512)) :
    exec (.realmModify t i) s = .next (
      if a.realmFieldsOk t ((s.fn t).realm.ctx.setWidth 512) = false ∨ n.space ≠ r.space ∨ n.attachPort ≠ r.attachPort ∨
          n.pasid ≠ r.pasid ∨ n.pasidEn ≠ r.pasidEn then a.realmResult t 3 (realmKey i r.tag)
      else a.setRealm i { r with
        perms := n.perms, fence0 := n.fence0, fence1 := n.fence1, fence2 := n.fence2, mode := .changing, changeAt := s.now }) := by
  subst hn
  refine congrArg _ ((h.realmCmd_valid hr ho hm _).trans ?_)
  simp only [h.realmImage_eq, h.now_eq, Bool.or_eq_true, Bool.not_eq_true', decide_eq_true_eq, or_assoc, rcBadField]

/-- REVOKE advances the tag. -/
theorem State.TakesRealmCmd.revoke :
    exec (.realmRevoke t i) s = .next
      (({ a with realms := { s.realms with lastTags := tput 0 i (r.tag + 1) s.realms.lastTags } } : State).setRealm i
        { r with tag := r.tag + 1, mode := .changing, changeAt := s.now }) := by
  refine congrArg _ ((h.realmCmd_valid hr ho hm _).trans ?_)
  rw [← h.realms_eq, ← h.now_eq]
  rfl

/-- DESTROY marks the realm for freeing. -/
theorem State.TakesRealmCmd.destroy :
    exec (.realmDestroy t i) s =
      .next (a.setRealm i { r with mode := .changing, destroying := true, changeAt := s.now }) := by
  refine congrArg _ ((h.realmCmd_valid hr ho hm _).trans ?_)
  rw [h.now_eq]

/-- QUERY puts the context into the first 512 bits of REALM_CTX. -/
theorem State.TakesRealmCmd.query :
    exec (.realmQuery t i) s = .next ((a.setFn t { a.fn t with realm := { (a.fn t).realm with
      ctx := (((a.fn t).realm.ctx >>> 512) <<< 512) ||| r.word.setWidth 1024 } }).realmResult t 0 (realmKey i r.tag)) :=
  congrArg _ (h.realmCmd_valid hr ho hm _)

end

/-! ### The end of a change (R229; log 53) -/

/-- The realm `r` at `i` after its change: FREE after DESTROY, else VALID again. -/
def State.endRealmChange (i : Nat) (r : Realm) (s : State) : State :=
  if r.destroying then { s with realms := { s.realms with realms := terase i s.realms.realms } } else s.setRealm i { r with mode := .valid }

/-- When every access under the old state has finished, the change ends, and with it the command that waits for it. -/
theorem exec_realmChangeDone_idle {i : Nat} {r : Realm} {s : State} (hr : s.realm? i = some r) (hm : r.mode = .changing)
    (hb : s.realmBusy i = false) :
    exec (.realmChangeDone i) s = .next (
      if (s.fn r.tenant.toNat).realm.busy = true ∧ (s.fn r.tenant.toNat).realm.target.toNat = i then
        (s.endRealmChange i r).realmResult r.tenant.toNat 0 (realmKey i r.tag)
      else s.endRealmChange i r) := by
  have pages : (s.endRealmChange i r).fns = s.fns := by
    unfold State.endRealmChange
    split <;> rfl
  have fn_eq : (s.endRealmChange i r).fn r.tenant.toNat = s.fn r.tenant.toNat := by rw [State.fn, pages, State.fn]
  simp only [exec, execRealmChangeDone, hr, hm, hb, Bool.not_false, decide_true, Bool.and_self, if_true, rcOk]
  rw [← State.endRealmChange, fn_eq]
  simp only [Bool.and_eq_true, decide_eq_true_eq]

/-! ### The statement -/

/-- Settles O31, by the lemma of each command on a page that takes it; that a change ends when nothing that passed its check under the old
state is under way, and that NO_REALM and NOT_OWNER return a KEY of 0, are the model's choices (log entries 53 and 54). -/
theorem realmControlPage : Obligations.RealmControlPage := by
  unfold Obligations.RealmControlPage
  refine ⟨fun t i value s c hl hb hc => ?busy, fun t s a x hl hf => ⟨fun value hv => ?unlisted, fun hx ha => ?create⟩, ?command, ?done⟩
  case busy =>
    obtain ⟨k, f, he⟩ := exec_realmCommand s hc
    rw [he, State.realmCmd_busy hl hb]
  case unlisted =>
    rw [exec_realmCmdUnknown_unlisted t s hv, State.TakesRealmCmd.realmCmd_eq ⟨hl, hf, rfl⟩]
  case create =>
    have h : s.TakesRealmCmd t 0 a := ⟨hl, hf, ha⟩
    rw [h.create, ← hx]
    refine ⟨fun hbad => ?_, fun hok hfull => ?_, fun hok hroom hn => ?_, fun i tag hok hroom hn ht => ?_⟩
    · rw [State.createRealm, if_pos hbad]
    · rw [h.createRealm_full hok hfull]
    · rw [h.createRealm_noIndex hok hroom hn]
    · obtain ⟨-, -, -, hrealms, htenant⟩ := h.createReads_eq
      rw [h.createRealm_made hok hroom hn ht, State.makeRealm, hrealms, htenant]
  case command =>
    intro t i s a hl hf ha
    have h : s.TakesRealmCmd t i a := ⟨hl, hf, ha⟩
    refine ⟨fun hr c => h.noRealm hr, fun r hr => ⟨fun ho c => h.notOwner hr ho, fun ho hm c => h.changing hr ho hm, fun ho hm =>
      ⟨fun x n hx hn => ?_, h.revoke hr ho hm, h.destroy hr ho hm, h.query hr ho hm⟩⟩⟩
    subst hx
    rw [h.modify hr ho hm hn]
    refine ⟨fun hbad => by rw [if_pos hbad], fun hok hspace hport hpasid hen => ?_⟩
    rw [if_neg (by simp [hok, hspace, hport, hpasid, hen])]
  case done =>
    intro i r s a hr hm hb hend
    have ended : s.endRealmChange i r = a := by
      obtain ⟨hd, rfl⟩ | ⟨hd, rfl⟩ := hend <;> simp only [State.endRealmChange, hd, if_true, Bool.false_eq_true, if_false]
    rw [exec_realmChangeDone_idle hr hm hb, ended]
    exact ⟨fun hw => by rw [if_pos hw], fun hw => by rw [if_neg hw]⟩

end Sys2Proof.Machine

/-! PROOFS. Data packets at a READY connection: the checks in their order, the trailer, what an accepted packet does, and the statement
about them. -/
namespace Sys2Proof.Machine

/-! ### To the connection (R192, R206, R273) -/

/-- A packet that reaches its READY connection and takes a PSN is judged as a data packet. -/
theorem AtConnection.atHome_eq {rx : Rx} {d : State} {x : Conn} (h : AtConnection rx d x) (hd : takesPsn (hdrType rx.pkt) = true) :
    d.atHome rx = d.dataPacket (hdrDst rx.pkt) rx d.now false := by
  obtain ⟨hx, hc, hm, hi, hp, hreset, hquiesce⟩ := h
  rw [State.atHome_judged hx (.inr hc)]
  simp [State.withConn, State.tenantAnswer, hx, hm, hi, hp, hreset, hquiesce, hd]

/-- A command of a data packet that arrives at its READY connection. -/
theorem exec_dataPacket {rx : Rx} {ty : Nat} {c : Instr} {s d : State} {x : Conn}
    (hc : (ty, c) ∈ [(1, Instr.pktWriteRx rx), (2, .pktWriteImmRx rx), (3, .pktReadReqRx rx), (4, .pktReadRespRx rx), (5, .pktAccumRx rx),
      (6, .pktFlushReqRx rx), (7, .pktVoidRx rx)]) (ht : hdrType rx.pkt = ty) (ha : PacketArrives rx s d) (hx : AtConnection rx d x) :
    exec c s = .next (d.dataPacket (hdrDst rx.pkt) rx d.now false) := by
  have data : takesPsn (hdrType rx.pkt) = true := by
    rw [ht]
    simp only [List.mem_cons, List.not_mem_nil, or_false, Prod.mk.injEq] at hc
    obtain ⟨rfl, -⟩ | ⟨rfl, -⟩ | ⟨rfl, -⟩ | ⟨rfl, -⟩ | ⟨rfl, -⟩ | ⟨rfl, -⟩ | ⟨rfl, -⟩ := hc <;> rfl
  rw [exec_packetRx s (List.mem_append_left [(0x10, .ackRx rx), (0x11, .nakRx rx), (0x12, .msgConfirmRx rx), (0x13, .confirmQueryRx rx)] hc),
    State.receiveType, if_pos ht, ha.receive_eq, AtConnection.atHome_eq hx data]

/-! ### The window, the policer and the realm (R233, R269, R273, R277, R355) -/

/-- A WRITE_IMM that finds no room in its connection's notification ring and holds no reservation of it. -/
def State.notifyFull (n : Nat) (k : Core) (p : Packet) (b : State) : Bool :=
  hdrType p = 2 && (match b.notifyRing k with
    | some (_, r) => !r.holdsFor n (extMsn p) && r.notifyUsed ≥ r.notifySize
    | none => false)

/-- What the trailer of a packet decides: it is counted, follows the epoch, waits for a key, or is accepted. -/
def State.passTrailer (n : Nat) (rx : Rx) (arrived : Nat) (k : Core) (realm : Option Realm) (b : State) : State :=
  match b.openPacket n k rx.pkt false with
  | .bad crc => b.countBad n rx.pkt crc
  | .next _ => b.followEpoch n
  | .wait key => b.awaitKey key arrived rx
  | .good q => b.accept n rx arrived q realm

/-- A ring without room refuses a message that holds no reservation of it. -/
theorem State.notifyFull_noRoom {b : State} {n key : Nat} {k : Core} {p : Packet} {r : Ring} (h2 : hdrType p = 2)
    (hr : b.notifyRing k = some (key, r)) (hh : r.holdsFor n (extMsn p) = false) (hu : r.notifySize ≤ r.notifyUsed) :
    b.notifyFull n k p = true := by
  simp only [notifyFull, h2, hr, hh, hu, decide_true, Bool.not_false, Bool.and_self]

/-- No other packet meets a full ring, and none that holds a reservation or finds room. -/
theorem State.notifyFull_room {b : State} {n : Nat} {k : Core} {p : Packet}
    (h : hdrType p ≠ 2 ∨ ∀ key r, b.notifyRing k = some (key, r) → r.holdsFor n (extMsn p) = true ∨ r.notifyUsed < r.notifySize) :
    b.notifyFull n k p = false := by
  unfold notifyFull
  obtain h2 | hroom := h
  · simp only [h2, decide_false, Bool.false_and]
  · split
    next key r hr =>
      obtain hh | hu := hroom key r hr
      · simp only [hh, Bool.not_true, Bool.false_and, Bool.and_false]
      · simp only [ge_iff_le, Nat.not_le.mpr hu, decide_false, Bool.and_false]
    next => exact Bool.and_false _

/-- Host memory is shut to a packet: its tenant is being reset, and it writes there, or a READ of this side placed there. -/
def State.hostShut (x : Conn) (p : Packet) (realm : Option Realm) (b : State) : Bool :=
  match realm with
  | some r => (b.tenant x.ctx.core.tenant.toNat).reset.isSome && r.place.space = 0
  | none => (b.tenant x.ctx.core.tenant.toNat).reset.isSome && hdrType p = 4 &&
      (match x.msg? (extMsn p) false with | some m => m.src.space = 0 | none => false)

/-- The answer of the realm check to a data packet: a reason, or the realm of a packet that wants one. -/
def State.realmAnswer (n : Nat) (k : Core) (rx : Rx) (b : State) : Except Nat (Option Realm) :=
  if hdrType rx.pkt = 1 ∨ hdrType rx.pkt = 2 ∨ hdrType rx.pkt = 3 ∨ hdrType rx.pkt = 5 then (b.requestCheck n k rx).map some
  else .ok none

/-- What the realm check's answer decides: a refusal, or the notification ring and the trailer. -/
def State.judgeRealm (n : Nat) (rx : Rx) (arrived : Nat) (x : Conn) (b : State) : Except Nat (Option Realm) → State
  | .error reason => b.refuse n rx arrived reason
  | .ok realm =>
    if b.hostShut x rx.pkt realm then b.answerStale n rx
    else if b.notifyFull n x.ctx.core rx.pkt then
      (b.bump d4_0104 x.ctx.core.tenant.toNat).sendRefusal n rx.pkt 3 0 (b.par d6_0020 (connTower n))
    else b.passTrailer n rx arrived x.ctx.core realm

/-- A tenant that is not being reset shuts nothing. -/
theorem State.hostShut_noReset {b : State} {x : Conn} (hreset : (b.tenant x.ctx.core.tenant.toNat).reset = none) (p : Packet)
    (realm : Option Realm) : b.hostShut x p realm = false := by
  cases realm <;> simp only [hostShut, hreset, Option.isSome_none, Bool.false_and]

section
variable {n arrived : Nat} {rx : Rx} {d b : State} {x : Conn} (hx : d.conn? n = some x)
include hx

/-- A packet beyond the window is counted and dropped. -/
theorem State.dataPacket_beyond (hw : 4096 ≤ x.window (hdrPsn rx.pkt)) :
    d.dataPacket n rx arrived false = d.bump d6_0104 (connTower n) := by
  simp only [dataPacket, hx, ge_iff_le, hw, if_true]

variable (hw : x.window (hdrPsn rx.pkt) < 4096)
include hw

/-- A packet already received counts as a duplicate and is acknowledged. -/
theorem State.dataPacket_duplicate (hr : x.received (hdrPsn rx.pkt) = true) :
    d.dataPacket n rx arrived false =
      (d.setConn n { x with ctx := { x.ctx with core := { x.ctx.core with duplicates := x.ctx.core.duplicates + 1 } } }).sendAck n
        (hdrPsn rx.pkt) (hdrTag rx.pkt) (BitVec.ofNat 32 arrived) (rx.echo true) := by
  simp only [dataPacket, hx, ge_iff_le, Int.not_le.mpr hw, hr, if_false, if_true]

variable (hr : x.received (hdrPsn rx.pkt) = false)
include hr

/-- A packet that the policer does not let pass is dropped. -/
theorem State.dataPacket_policed (hp : d.police n rx = (b, false)) : d.dataPacket n rx arrived false = b := by
  simp only [dataPacket, hx, ge_iff_le, Int.not_le.mpr hw, hr, hp, Bool.false_eq_true, if_false, Bool.not_false, if_true]

variable (hp : d.police n rx = (b, true))
include hp

/-- A packet of a refused message is refused. -/
theorem State.dataPacket_refusedMessage {m : RxMsg} {reason : Nat} (h4 : hdrType rx.pkt ≠ 4)
    (h7 : ¬ (hdrType rx.pkt = 7 ∧ extResp rx.pkt = true)) (hm : x.rx? (extMsn rx.pkt) = some m) (hf : m.refused = some reason) :
    d.dataPacket n rx arrived false = b.refuse n rx arrived reason := by
  have request : (hdrType rx.pkt = 4 || (hdrType rx.pkt = 7 && extResp rx.pkt)) = false := by
    simpa [h4] using h7
  simp only [dataPacket, hx, ge_iff_le, Int.not_le.mpr hw, hr, hp, request, hm, hf, Bool.false_eq_true, if_false, Bool.not_true]

variable (hf : ∀ m, x.rx? (extMsn rx.pkt) = some m → m.refused = none)
include hf

/-- A packet of a message that is not refused is judged by its realm. -/
theorem State.dataPacket_unrefused : d.dataPacket n rx arrived false = b.judgeRealm n rx arrived x (b.realmAnswer n x.ctx.core rx) := by
  cases hm : x.rx? (extMsn rx.pkt) with
  | none =>
    simp only [dataPacket, hx, ge_iff_le, Int.not_le.mpr hw, hr, hp, hm, Bool.false_eq_true, if_false, Bool.not_true, ite_self]
    rfl
  | some m =>
    simp only [dataPacket, hx, ge_iff_le, Int.not_le.mpr hw, hr, hp, hm, hf m hm, Bool.false_eq_true, if_false, Bool.not_true, ite_self]
    rfl

/-- A request whose realm check fails is refused with the reason. -/
theorem State.dataPacket_refusedRequest {reason : Nat}
    (ht : hdrType rx.pkt = 1 ∨ hdrType rx.pkt = 2 ∨ hdrType rx.pkt = 3 ∨ hdrType rx.pkt = 5)
    (hc : b.requestCheck n x.ctx.core rx = .error reason) : d.dataPacket n rx arrived false = b.refuse n rx arrived reason := by
  rw [dataPacket_unrefused hx hw hr hp hf, realmAnswer, if_pos ht, hc]
  rfl

/-- A packet that its realm, if it wants one, lets pass comes to the notification ring and its trailer. -/
theorem State.dataPacket_passed {realm : Option Realm} (hreset : (b.tenant x.ctx.core.tenant.toNat).reset = none)
    (hc : ((hdrType rx.pkt = 1 ∨ hdrType rx.pkt = 2 ∨ hdrType rx.pkt = 3 ∨ hdrType rx.pkt = 5) ∧
        ∃ r, realm = some r ∧ b.requestCheck n x.ctx.core rx = .ok r) ∨
      ((hdrType rx.pkt = 4 ∨ hdrType rx.pkt = 6 ∨ hdrType rx.pkt = 7) ∧ realm = none)) :
    d.dataPacket n rx arrived false =
      if b.notifyFull n x.ctx.core rx.pkt then
        (b.bump d4_0104 x.ctx.core.tenant.toNat).sendRefusal n rx.pkt 3 0 (b.par d6_0020 (connTower n))
      else b.passTrailer n rx arrived x.ctx.core realm := by
  have answer : b.realmAnswer n x.ctx.core rx = .ok realm := by
    obtain ⟨ht, r, rfl, hok⟩ | ⟨ht, rfl⟩ := hc
    · rw [realmAnswer, if_pos ht, hok]
      rfl
    · exact if_neg (by omega)
  rw [dataPacket_unrefused hx hw hr hp hf, answer, judgeRealm, hostShut_noReset hreset, if_neg Bool.false_ne_true]

end

/-! ### Acceptance (R236, R238, R240, R247, R253, R272, R276, R278, R281, R282) -/

/-- An accepted packet sets its bit of the window and counts. -/
def Conn.acceptPsn (x : Conn) (psn : W32) : Conn :=
  let y := x.markReceived psn
  { y with ctx := { y.ctx with core := { y.ctx.core with pktsRx := y.ctx.core.pktsRx + 1 } } }

/-- An accepted packet that is no response is recorded in its message. -/
def Conn.acceptRequest (x : Conn) (p : Packet) (now : Nat) : Conn :=
  (((x.acceptPsn (hdrPsn p)).trackRx p).modifyRx (extMsn p) (fun m => { m.took p with voided := m.voided || hdrType p = 7 })).touch now

/-- A WRITE_IMM reserves its entry of the connection's notification ring, or renews the reservation. -/
def State.reserveNotify (c : Nat) (p : Packet) (k : Core) (s : State) : State :=
  match s.notifyRing k with
  | some (key, ring) => s.setRing key (ring.reserve c (extMsn p) s.now)
  | none => s

/-- The notification ring does not depend on the connections' contexts. -/
theorem State.notifyRing_setConn (s : State) (c : Nat) (y : Conn) (k : Core) : (s.setConn c y).notifyRing k = s.notifyRing k := rfl

/-- What an accepted request places: a WRITE its payload, a WRITE_IMM after its reservation. -/
def State.placeRequest (c : Nat) (p : Packet) (k : Core) (realm : Option Realm) (s : State) : State :=
  match hdrType p, realm with
  | 1, some r => s.place c p r
  | 2, some r => (s.reserveNotify c p k).place c p r
  | _, _ => s

/-- A WRITE places its payload. -/
theorem State.placeRequest_write {p : Packet} (h1 : hdrType p = 1) (c : Nat) (k : Core) (r : Realm) (s : State) :
    s.placeRequest c p k (some r) = s.place c p r := by
  simp only [placeRequest, h1]

/-- A WRITE_IMM places its payload after its reservation. -/
theorem State.placeRequest_writeImm {p : Packet} (h2 : hdrType p = 2) (c : Nat) (k : Core) (r : Realm) (s : State) :
    s.placeRequest c p k (some r) = (s.reserveNotify c p k).place c p r := by
  simp only [placeRequest, h2]

/-- No other request places anything. -/
theorem State.placeRequest_other {p : Packet} (h1 : hdrType p ≠ 1) (h2 : hdrType p ≠ 2) (c : Nat) (k : Core) (realm : Option Realm)
    (s : State) : s.placeRequest c p k realm = s := by
  unfold placeRequest
  split
  next h => exact absurd h h1
  next h => exact absurd h h2
  next => rfl

/-- The packet is a response that is held for the cores, the newest of the input buffer. -/
def State.holdsResponse (s : State) (c : Nat) (p : Packet) : Bool :=
  match s.cupola.input.getLast? with
  | some h => (match h.source with | .resp c' q _ _ => c' = c && q = hdrPsn p && hdrType p = 4 | _ => false)
  | none => false

/-- The end of an acceptance: the packet is acknowledged unless it is held, and what may close closes. -/
def State.finishAccept (c arrived : Nat) (rx : Rx) (x : Conn) (p : Packet) (s : State) : State :=
  (if s.holdsResponse c p then s
    else s.ackAccepted c x (hdrPsn p) (hdrTag p) (BitVec.ofNat 32 arrived) (rx.echo false)).closeReady c

/-- Only a READ's response is held so. -/
theorem State.holdsResponse_request {p : Packet} (h : hdrType p ≠ 4) (s : State) (c : Nat) : s.holdsResponse c p = false := by
  unfold holdsResponse
  split
  · split <;> simp [h]
  · rfl

/-- No response is held where the newest of the input buffer is another packet. -/
theorem State.holdsResponse_other {s : State} {c : Nat} {p : Packet}
    (h : ∀ h ∈ s.cupola.input.getLast?, ∀ i o, h.source ≠ .resp c (hdrPsn p) i o) : s.holdsResponse c p = false := by
  unfold holdsResponse
  split
  next g hg =>
    split
    next c' q i o hs =>
      have other := h g hg i o
      rw [hs] at other
      simp only [ne_eq, AccSource.resp.injEq, and_true, not_and] at other
      simpa using fun hc hq => absurd hq (other hc)
    next => rfl
  next => rfl

/-- A READ's response that is the newest of the input buffer is held. -/
theorem State.holdsResponse_held {s : State} {c : Nat} {p : Packet} {h : AccHold} {i : W32} {o : Nat} (h4 : hdrType p = 4)
    (hl : s.cupola.input.getLast? = some h) (hs : h.source = .resp c (hdrPsn p) i o) : s.holdsResponse c p = true := by
  simp only [holdsResponse, hl, hs, h4, decide_true, Bool.and_self]

section
variable {c arrived : Nat} {rx : Rx} {p : Packet} {s : State} {x : Conn} (hx : s.conn? c = some x)
include hx

/-- An ACCUM is recorded in its message and waits for the cores. -/
theorem State.accept_accum {realm : Option Realm} (h5 : hdrType p = 5) :
    s.accept c rx arrived p realm = (s.setConn c ((x.trackRx p).modifyRx (extMsn p) (fun m =>
        { (if m.got.any (fun e => e.2 = hdrPsn p) then m else m.took p) with placing := m.placing + 1 }))).holdAccum {
      source := .accum c (hdrPsn p) (extMsn p), inc := hdrDstInc p, tower := extentTower (extentOf (extAddr p).toNat)
      tenant := x.ctx.core.tenant.toNat, addr := (extAddr p).toNat, fmt := fieldNat 192 8 p.ext, op := fieldNat 200 8 p.ext
      payload := p.payload, len := p.len, tag := hdrTag p, rxTag := BitVec.ofNat 32 arrived, echo := rx.echo false } rx := by
  simp only [accept, hx, h5, if_true]

variable (h5 : hdrType p ≠ 5)
include h5

/-- A request is recorded, what its type places is placed, and it is acknowledged. -/
theorem State.accept_request {realm : Option Realm} (h4 : hdrType p ≠ 4) (h7 : hdrType p = 7 → extResp p = false) :
    s.accept c rx arrived p realm =
      (((s.setConn c (x.acceptRequest p s.now)).placeRequest c p x.ctx.core realm).ackAccepted c x (hdrPsn p) (hdrTag p)
        (BitVec.ofNat 32 arrived) (rx.echo false)).closeReady c := by
  have request : (hdrType p = 4 || (hdrType p = 7 && extResp p)) = false := by simpa [h4] using h7
  have finished : s.accept c rx arrived p realm =
      ((s.setConn c (x.acceptRequest p s.now)).placeRequest c p x.ctx.core realm).finishAccept c arrived rx x p := by
    simp only [accept, hx, h5, request, Bool.false_eq_true, if_false]
    rfl
  rw [finished, finishAccept, holdsResponse_request h4, if_neg Bool.false_ne_true]

/-- A READ's response, or its VOID, goes to the READ. -/
theorem State.accept_response {realm : Option Realm} (hr : hdrType p = 4 ∨ (hdrType p = 7 ∧ extResp p = true)) :
    s.accept c rx arrived p realm =
      ((s.setConn c ((x.acceptPsn (hdrPsn p)).touch s.now)).takeResponse c rx arrived p).finishAccept c arrived rx x p := by
  have response : (hdrType p = 4 || (hdrType p = 7 && extResp p)) = true := by simpa using hr
  simp only [accept, hx, h5, response, if_true, if_false]
  rfl

end

/-! ### The statement -/

/-- Settles O36, by the lemmas of a data packet's checks and of its acceptance; that a packet is judged when it has
arrived whole, so that one with a bad trailer places nothing, and that a refusal acts before the trailer is checked only where the rule's
order says so, are the model's choices (log entries 15 and 56). -/
theorem dataPackets : Obligations.DataPackets := by
  unfold Obligations.DataPackets
  refine ⟨?checks, ?passed, fun rx c arrived p realm s x hx => ⟨fun h5 y hy => ?accum, ?accepted⟩⟩
  case checks =>
    rintro rx ty n c s d b x hc ht ha hx rfl
    rw [exec_dataPacket hc ht ha hx]
    subst ht
    obtain ⟨hconn, -⟩ := hx
    exact ⟨fun hw => congrArg _ (State.dataPacket_beyond hconn hw), fun hw hr => congrArg _ (State.dataPacket_duplicate hconn hw hr),
      fun hw hr hp => congrArg _ (State.dataPacket_policed hconn hw hr hp), fun hw hr hp => ⟨
        fun m reason h4 h7 hm hf => congrArg _ (State.dataPacket_refusedMessage hconn hw hr hp h4 h7 hm hf),
        fun reason ht hf hbad => congrArg _ (State.dataPacket_refusedRequest hconn hw hr hp hf ht hbad)⟩⟩
  case passed =>
    rintro rx ty n c s d b x realm hc ht ha hx rfl hw hr hp hf hrealm hreset
    rw [exec_dataPacket hc ht ha hx]
    subst ht
    obtain ⟨hconn, -⟩ := hx
    rw [State.dataPacket_passed hconn hw hr hp hf hreset hrealm]
    refine ⟨fun key r h2 hring hh hu => by rw [State.notifyFull_noRoom h2 hring hh hu, if_pos rfl], fun hroom => ?_⟩
    rw [State.notifyFull_room hroom, if_neg Bool.false_ne_true, State.passTrailer]
    exact ⟨fun crc ho => by rw [ho], fun q ho => by rw [ho], fun k ho => by rw [ho], fun q ho => by rw [ho]⟩
  case accum =>
    rw [hy, State.accept_accum hx h5]
  case accepted =>
    rintro y z w rfl rfl rfl
    refine ⟨fun ht => ?request, fun r h1 hrealm => ?write, fun r a h2 hrealm hring => ?writeImm, fun a ht ha => ?response⟩
    case request =>
      have h5 : hdrType p ≠ 5 := by omega
      rw [State.accept_request hx h5 (by omega) (fun h7 => by simpa [h7] using ht), State.placeRequest_other (by omega) (by omega)]
      rfl
    case write =>
      rw [hrealm, State.accept_request hx (by omega) (by omega) (by omega), State.placeRequest_write h1]
      rfl
    case writeImm =>
      have reserved : (s.setConn c (x.acceptRequest p s.now)).reserveNotify c p x.ctx.core = a := by
        obtain ⟨hn, rfl⟩ | ⟨key, q, hn, rfl⟩ := hring
        · simp only [State.reserveNotify, State.notifyRing_setConn, hn]
          rfl
        · simp only [State.reserveNotify, State.notifyRing_setConn, hn]
          rfl
      rw [hrealm, State.accept_request hx (by omega) (by omega) (by omega), State.placeRequest_writeImm h2, reserved]
    case response =>
      have ended : s.accept c rx arrived p realm = a.finishAccept c arrived rx x p := by
        rw [ha]
        exact State.accept_response hx (by omega) ht
      rw [ended, State.finishAccept]
      refine ⟨fun hother => ?_, fun h i o h4 hl hs => by rw [State.holdsResponse_held h4 hl hs, if_pos rfl]⟩
      have free : a.holdsResponse c p = false := by
        obtain hother | h7 := hother
        · exact State.holdsResponse_other hother
        · exact State.holdsResponse_request (by omega) a c
      rw [free, if_neg Bool.false_ne_true]

end Sys2Proof.Machine

/-! PROOFS. What leaves the ports: the commit of packets, returned payloads, the start of a port's next packet and the Lantern's samples, and
the statement about them. -/
namespace Sys2Proof.Machine

/-! ### Commit (R338 to R343; logs 62 and 63) -/

section
variable {tower : Nat} {s : State}

/-- A tower without a connection that can commit commits nothing. -/
theorem exec_packetCommit_idle (hn : s.nextCommit tower = none) : exec (.packetCommit tower) s = .next s := by
  simp only [exec, execPacketCommit, hn]

variable {n : Nat} {x : Conn} (hn : s.nextCommit tower = some (n, x))
include hn

/-- A message whose payload may no longer be read is stopped. -/
theorem exec_packetCommit_stopped {m : TxMsg} {i : Nat} {r : Status × Nat} (hw : (x.nextWork s.now).bind (Work.msg? x) = some (m, i))
    (hr : s.readRefused x m i = some r) : exec (.packetCommit tower) s = .next (s.stopRead n x m i r) := by
  simp only [exec, execPacketCommit, hn, hw, hr]

/-- Any other next packet is committed. -/
theorem exec_packetCommit_commits (hr : ∀ m i, (x.nextWork s.now).bind (Work.msg? x) = some (m, i) → s.readRefused x m i = none) :
    exec (.packetCommit tower) s = .next (s.commit n x) := by
  cases hw : (x.nextWork s.now).bind (Work.msg? x) with
  | none => simp only [exec, execPacketCommit, hn, hw]
  | some w => simp only [exec, execPacketCommit, hn, hw, hr w.1 w.2 hw]

end

/-! ### Returned payloads (R752, R753; log 51) -/

section
variable {n index : Nat} {msn : W32} {resp : Bool} {ans : MemAns} {x : Conn} {s : State} (hx : s.conn? n = some x)
include hx

/-- The packets of a message that is closed leave as VOIDs. -/
theorem exec_payloadReadReturn_noMessage (hm : x.msg? msn resp = none) :
    exec (.payloadReadReturn n msn resp index ans) s = .next (s.fillQueued n msn resp index none) := by
  simp only [exec, execPayloadReadReturn, hx, hm]

variable {m : TxMsg} (hm : x.msg? msn resp = some m)
include hm

/-- A payload that was read fills what waits for it. -/
theorem exec_payloadReadReturn_read {b : Bytes} (hb : s.readParts x.ctx.core.tenant.toNat m.src ans (m.payloadAt index) 0 = some b) :
    exec (.payloadReadReturn n msn resp index ans) s =
      .next ((s.fillQueued n msn resp index (some b)).fillStaged n msn resp index b) := by
  simp only [exec, execPayloadReadReturn, hx, hm, hb]

/-- A failed read voids the message, of a READ its responses. -/
theorem exec_payloadReadReturn_failed (hb : s.readParts x.ctx.core.tenant.toNat m.src ans (m.payloadAt index) 0 = none) {a : State}
    (ha : a = (m.payloadAt index).foldl (fun s e => s.readFailed x.ctx.core.tenant.toNat m.src e.1 e.2) s) :
    exec (.payloadReadReturn n msn resp index ans) s = .next
      (((if resp then a.failResponses n msn (((m.payloadAt index).map Prod.fst).headD 0)
        else a.voidMsg n msn false .busError 0).fillQueued n msn resp index none).fillStaged n msn resp index []) := by
  subst ha
  simp only [exec, execPayloadReadReturn, hx, hm, hb]

end

/-! ### The start of a port's next packet (R347 to R353, R377, R659; log 63) -/

/-- The key that a packet must wait for. -/
def State.missingKey (a : State) (i : EgressItem) : Option KeyName :=
  match a.sealKey (a.refresh i) with
  | some k => if a.keyCached k then none else some k
  | none => none

/-- What a free port starts in `a`: nothing, a packet that leaves, or the request of the packet's key. -/
def State.startNext (port : Nat) (a : State) : Outcome :=
  match a.choice port with
  | none => .next a
  | some (vc, key, q) =>
    match q with
    | [] => .next a
    | i :: rest =>
      match a.missingKey i with
      | some k => .next (a.requestKey k)
      | none =>
        if vc ≥ 5 then .next ((a.setPort port ((a.port port).setQueue vc 2048 rest)).launch port vc i)
        else .next (a.serveDome port vc key q)

section
variable {port : Nat} {s a : State} (hport : port < s.nports) (hc : s.carries port = true) (hb : (s.port port).busyUntil ≤ s.now)
  (ha : a = (s.markWaits port).tagHeads port)
include hport hc hb ha

/-- A port that is free and up marks and tags its heads, and starts what it may start next. -/
theorem exec_egressStart_free : exec (.egressStart port) s = State.startNext port a := by
  rw [show exec (.egressStart port) s = execEgressStart port s from rfl, execEgressStart, if_pos ⟨hport, hc, hb⟩, ← ha]
  rfl

/-- A port that may start nothing only marks and tags its heads. -/
theorem exec_egressStart_idle (hn : a.choice port = none) : exec (.egressStart port) s = .next a := by
  rw [exec_egressStart_free hport hc hb ha, State.startNext, hn]

variable {vc key : Nat} {i : EgressItem} {rest : List EgressItem} (hn : a.choice port = some (vc, key, i :: rest))
include hn

/-- A packet whose key is not cached asks for it. -/
theorem exec_egressStart_noKey {k : KeyName} (hk : a.sealKey (a.refresh i) = some k) (hu : a.keyCached k = false) :
    exec (.egressStart port) s = .next (a.requestKey k) := by
  have missing : a.missingKey i = some k := by simp only [State.missingKey, hk, hu, Bool.false_eq_true, if_false]
  rw [exec_egressStart_free hport hc hb ha]
  simp only [State.startNext, hn, missing]

/-- A packet whose key, if it wants one, is cached leaves: of VC 5 to 7 from its one queue, of a class from its tenant's. -/
theorem exec_egressStart_leaves (hk : ∀ k, a.sealKey (a.refresh i) = some k → a.keyCached k = true) :
    exec (.egressStart port) s =
      if 5 ≤ vc then .next ((a.setPort port ((a.port port).setQueue vc 2048 rest)).launch port vc i)
      else .next (a.serveDome port vc key (i :: rest)) := by
  have present : a.missingKey i = none := by
    cases hs : a.sealKey (a.refresh i) with
    | none => simp only [State.missingKey, hs]
    | some k => simp only [State.missingKey, hs, hk k hs, if_true]
  rw [exec_egressStart_free hport hc hb ha]
  simp only [State.startNext, hn, present, ge_iff_le]

end

/-! ### The Lantern (R359 to R361) -/

/-- With sampling on, a multiple of the interval samples every VC of every port. -/
theorem exec_lanternSample_due {s : State} (hon : s.par d8_0051 0 = 1) (hd : s.now % s.par d8_0050 0 = 0) :
    exec .lanternSample s = .next ((upTo s.nports).foldl (fun s n => (upTo 8).foldl (fun s vc => s.sampleQueue n vc) s) s) :=
  if_pos ⟨hon, hd⟩

/-! ### The statement -/

/-- Settles O40, by the lemma of each command; the order of the times at which connections became able to send, that one command commits
a packet and another sends it whole, and that a packet whose key is not cached waits at egress, are the model's choices (log entries 62, 63
and 67). -/
theorem egressWork : Obligations.EgressWork := by
  unfold Obligations.EgressWork
  refine ⟨fun tower n x s => ⟨exec_packetCommit_idle, fun hn => ⟨fun m i r => exec_packetCommit_stopped hn, exec_packetCommit_commits hn⟩⟩,
    fun n index msn resp ans x m s hx => ⟨exec_payloadReadReturn_noMessage hx, fun hm => ⟨fun b => exec_payloadReadReturn_read hx hm,
      fun hb a => exec_payloadReadReturn_failed hx hm hb⟩⟩, fun port s a hport hc hb ha => ?start, fun s => exec_lanternSample_due⟩
  case start =>
    refine ⟨exec_egressStart_idle hport hc hb ha, fun vc key i rest hn => ⟨fun k => exec_egressStart_noKey hport hc hb ha hn, fun hk => ?_⟩⟩
    rw [exec_egressStart_leaves hport hc hb ha hn hk]
    exact ⟨fun hvc => if_pos hvc, fun hvc => if_neg (Nat.not_le.mpr hvc)⟩

end Sys2Proof.Machine

/-! PROOFS. ACCUM packets at a tower's Cupola, the ends of bay loads and write-backs, and the statement about them. -/
namespace Sys2Proof.Machine

/-! ### Held ACCUM packets (R240 to R243, R418, R494; log 76) -/

/-- The ACCUM packets that a tower holds, oldest first. -/
abbrev State.heldAccums (s : State) (tower : Nat) : List AccHold := s.cupola.input.filter (AccHold.isAccum tower)

section
variable {tower : Nat} {s : State}

/-- A packet whose binding has changed since its check is refused and counted. -/
theorem exec_accumApply_stale {h : AccHold} (hs : (s.heldAccums tower).find? s.staleHold = some h) :
    exec (.accumApply tower) s = .next ((s.bump d12_0104 tower).loseHold h) := by
  simp only [exec, execAccumApply, hs]

/-- Without a stale packet, the oldest whose blocks stand in their bays decides what is done. -/
theorem State.heldAccums_fresh (hs : ∀ h ∈ s.heldAccums tower, s.staleHold h = false) :
    (s.heldAccums tower).find? s.staleHold = none :=
  List.find?_eq_none.mpr fun h hh => by rw [hs h hh]; exact Bool.false_ne_true

/-- With nothing held, nothing changes. -/
theorem exec_accumApply_nothing (hm : s.heldAccums tower = []) : exec (.accumApply tower) s = .next s := by
  simp only [exec, execAccumApply, hm, List.find?_nil]

variable (hs : ∀ h ∈ s.heldAccums tower, s.staleHold h = false)
include hs

/-- The oldest packet whose blocks stand in their bays is applied and leaves the input buffer. -/
theorem exec_accumApply_applies {h : AccHold} {c : Nat} {psn msn : W32}
    (hr : (s.heldAccums tower).find? (fun h => h.blocks.all (s.bayReady tower)) = some h) (ha : h.source = .accum c psn msn) :
    exec (.accumApply tower) s = .next ((s.applyAccum h c psn msn).dropHold h) := by
  simp only [exec, execAccumApply, State.heldAccums_fresh hs, hr, ha]

/-- When no packet may be applied, the blocks of the oldest are asked for. -/
theorem exec_accumApply_asks {h : AccHold} {later : List AccHold} (hm : s.heldAccums tower = h :: later)
    (hr : ∀ g ∈ s.heldAccums tower, g.blocks.all (s.bayReady tower) = false) :
    exec (.accumApply tower) s = .next (h.blocks.foldl (fun s b => s.needBay tower b) s) := by
  have waits : (s.heldAccums tower).find? (fun h => h.blocks.all (s.bayReady tower)) = none :=
    List.find?_eq_none.mpr fun g hg => by rw [hr g hg]; exact Bool.false_ne_true
  have fresh := State.heldAccums_fresh hs
  rw [hm] at waits fresh
  simp only [exec, execAccumApply, hm, fresh, waits, State.needBlocks]

end

/-! ### Bay loads (R418, R420, R494; log 78) -/

section
variable {tower block : Nat} {s : State}

/-- A load that is not under way changes nothing. -/
theorem exec_bayLoadDone_idle (hl : (s.baysOf tower).find? (fun b => b.block = block && b.phase = .loading) = none) (ok : Bool) :
    exec (.bayLoadDone tower block ok) s = .next s := by
  simp only [exec, execBayLoadDone, hl]

variable {b : Bay} (hl : (s.baysOf tower).find? (fun b => b.block = block && b.phase = .loading) = some b)
  {rest : List Bay} (hrest : rest = (s.baysOf tower).filter (fun b => b.block ≠ block))
include hl hrest

/-- A load issued under an earlier binding frees the bay, is counted, and fails what waited under that binding. -/
theorem exec_bayLoadDone_stale (hg : b.gen ≠ (s.extent (extentOf block)).bindGen) (ok : Bool) :
    exec (.bayLoadDone tower block ok) s =
      .next ((((s.setBays tower rest).bump d12_0104 tower).blockLost tower block true).resumeWorks tower) := by
  simp only [exec, execBayLoadDone, hl, hg, ne_eq, not_false_eq_true, if_true, State.staleLoad, hrest]

variable (hg : b.gen = (s.extent (extentOf block)).bindGen)
include hg

/-- A load that completes makes its bay resident, and what waits for it goes on. -/
theorem exec_bayLoadDone_resident :
    exec (.bayLoadDone tower block true) s =
      .next ((s.setBays tower ({ b with phase := .resident } :: rest)).resumeWorks tower) := by
  simp only [exec, execBayLoadDone, hl, hg, ne_eq, not_true_eq_false, if_false, if_true, hrest]

/-- A load that fails frees the bay, and its block is lost. -/
theorem exec_bayLoadDone_failed :
    exec (.bayLoadDone tower block false) s = .next ((s.setBays tower rest).blockFailed tower block) := by
  simp only [exec, execBayLoadDone, hl, hg, ne_eq, not_true_eq_false, Bool.false_eq_true, if_false, hrest]

end

/-! ### Write-backs (R418, R420) -/

section
variable {tower block : Nat} {ok : Bool} {s : State}

/-- A write-back that is not under way changes nothing. -/
theorem exec_bayWritebackDone_idle (hw : s.cupola.writing.contains (tower, block) = false) :
    exec (.bayWritebackDone tower block ok) s = .next s := by
  simp only [exec, execBayWritebackDone, hw, Bool.false_eq_true, if_false]

/-- The state after the end of a write-back, before the load that waited for it: its place is free, and a failed one loses the block. -/
def State.endWriteback (tower block : Nat) (ok : Bool) (s : State) : State :=
  let a := { s with cupola := { s.cupola with writing := s.cupola.writing.erase (tower, block) } }
  if ok = true then a else a.blockFailed tower block

variable (hw : s.cupola.writing.contains (tower, block) = true) {c : State} (hc : c = s.endWriteback tower block ok)
include hw hc

/-- Without a load that waited for the bay nothing else happens. -/
theorem exec_bayWritebackDone_noLoad (hn : (c.baysOf tower).find? (fun b => b.phase = .waiting block) = none) :
    exec (.bayWritebackDone tower block ok) s = .next c := by
  rw [hc, State.endWriteback] at hn
  simp only [exec, execBayWritebackDone, hw, if_true, hn, hc, State.endWriteback]

/-- The load that waited for the bay begins. -/
theorem exec_bayWritebackDone_load {b : Bay} (hb : (c.baysOf tower).find? (fun b => b.phase = .waiting block) = some b) :
    exec (.bayWritebackDone tower block ok) s = .next (c.loadBay tower b.block) := by
  rw [hc, State.endWriteback] at hb
  simp only [exec, execBayWritebackDone, hw, if_true, hb, hc, State.endWriteback]

end

/-! ### The statement -/

/-- Settles O49, by the lemma of each command; that held packets are applied oldest first, and that a load issued under an earlier binding
leaves the new owner's contents untouched, are the model's choices (log entries 76 and 78). -/
theorem cupolaBays : Obligations.CupolaBays := by
  unfold Obligations.CupolaBays
  refine ⟨?accums, fun tower block ok s rest hrest => ⟨fun b hl => ⟨?resident, ?stale, ?failed⟩, fun hl => exec_bayLoadDone_idle hl ok,
    exec_bayWritebackDone_idle, ?written⟩⟩
  case accums =>
    rintro tower s mine rfl
    exact ⟨fun h => exec_accumApply_stale, fun hs => ⟨fun h c psn msn hr => exec_accumApply_applies hs hr,
      fun h later hm hr => exec_accumApply_asks hs hm hr, exec_accumApply_nothing⟩⟩
  case resident =>
    rintro rfl hg
    exact exec_bayLoadDone_resident hl hrest hg
  case stale => exact fun hg => exec_bayLoadDone_stale hl hrest hg ok
  case failed =>
    rintro rfl hg
    exact exec_bayLoadDone_failed hl hrest hg
  case written =>
    rintro a c hw rfl hc
    exact ⟨exec_bayWritebackDone_noLoad hw hc, fun b => exec_bayWritebackDone_load hw hc⟩

end Sys2Proof.Machine

/-! PROOFS. Control packets at a READY connection: the trailer, what an ACK and a NAK do by their fields, and the statement about them. -/
namespace Sys2Proof.Machine

/-! ### To the connection and through the trailer (R265, R273, R291, R661) -/

/-- A control packet that reaches its READY connection is judged there. -/
theorem AtConnection.atHome_control {rx : Rx} {d : State} {x : Conn} (h : AtConnection rx d x) (hd : takesPsn (hdrType rx.pkt) = false) :
    d.atHome rx = d.controlPacket (hdrDst rx.pkt) rx d.now := by
  obtain ⟨hx, hc, hm, hi, hp, hreset, hquiesce⟩ := h
  rw [State.atHome_judged hx (.inr hc)]
  simp [State.withConn, State.tenantAnswer, hx, hm, hi, hp, hreset, hquiesce, hd]

/-- A command of a control packet that arrives at its READY connection. -/
theorem exec_controlPacket {rx : Rx} {ty : Nat} {c : Instr} {s d : State} {x : Conn}
    (hc : (ty, c) ∈ [(0x10, Instr.ackRx rx), (0x11, .nakRx rx), (0x12, .msgConfirmRx rx), (0x13, .confirmQueryRx rx)])
    (ht : hdrType rx.pkt = ty) (ha : PacketArrives rx s d) (hx : AtConnection rx d x) :
    exec c s = .next (d.controlPacket (hdrDst rx.pkt) rx d.now) := by
  have control : takesPsn (hdrType rx.pkt) = false := by
    rw [ht]
    simp only [List.mem_cons, List.not_mem_nil, or_false, Prod.mk.injEq] at hc
    obtain ⟨rfl, -⟩ | ⟨rfl, -⟩ | ⟨rfl, -⟩ | ⟨rfl, -⟩ := hc <;> rfl
  rw [exec_packetRx s (List.mem_append_right [(1, Instr.pktWriteRx rx), (2, .pktWriteImmRx rx), (3, .pktReadReqRx rx), (4, .pktReadRespRx rx),
    (5, .pktAccumRx rx), (6, .pktFlushReqRx rx), (7, .pktVoidRx rx)] hc), State.receiveType, if_pos ht, ha.receive_eq, hx.atHome_control control]

/-- A NAK that its sender made without the connection's context, which no cipher protects. -/
def plainNak (p : Packet) : Bool :=
  hdrType p = 0x11 && (fieldNat 0 8 p.ext = 1 || fieldNat 0 8 p.ext = 2) && !hdrEnc p

/-- What a control packet with a good trailer does, by its type. -/
def State.actControl (c : Nat) (q : Packet) (s : State) : State :=
  match hdrType q with
  | 0x10 => s.takeAck c q
  | 0x11 => s.takeNak c q
  | 0x12 => s.takeConfirm c q
  | _ => s.sendConfirm c

section
variable {q : Packet}

/-- An ACK acts as one. -/
theorem State.actControl_ack (h : hdrType q = 0x10) (c : Nat) (s : State) : s.actControl c q = s.takeAck c q := by
  simp only [actControl, h]

/-- A NAK acts as one. -/
theorem State.actControl_nak (h : hdrType q = 0x11) (c : Nat) (s : State) : s.actControl c q = s.takeNak c q := by
  simp only [actControl, h]

/-- A MSG_CONFIRM acts as one. -/
theorem State.actControl_confirm (h : hdrType q = 0x12) (c : Nat) (s : State) : s.actControl c q = s.takeConfirm c q := by
  simp only [actControl, h]

/-- A CONFIRM_QUERY is answered. -/
theorem State.actControl_query (h : hdrType q = 0x13) (c : Nat) (s : State) : s.actControl c q = s.sendConfirm c := by
  simp only [actControl, h]

end

section
variable {n arrived : Nat} {rx : Rx} {d : State} {x : Conn} (hx : d.conn? n = some x)
include hx

/-- A packet whose trailer is bad is counted. -/
theorem State.controlPacket_bad {crc : Bool} (ho : d.openPacket n x.ctx.core rx.pkt (plainNak rx.pkt) = .bad crc) :
    d.controlPacket n rx arrived = d.countBad n rx.pkt crc := by
  rw [plainNak] at ho
  simp only [controlPacket, hx, ho]

/-- A packet whose key must be derived waits. -/
theorem State.controlPacket_wait {k : KeyName} (ho : d.openPacket n x.ctx.core rx.pkt (plainNak rx.pkt) = .wait k) :
    d.controlPacket n rx arrived = d.awaitKey k arrived rx := by
  rw [plainNak] at ho
  simp only [controlPacket, hx, ho]

/-- A packet with a good trailer acts, under the next epoch after the connection has followed it. -/
theorem State.controlPacket_opened {q : Packet} {a : State}
    (ho : d.openPacket n x.ctx.core rx.pkt (plainNak rx.pkt) = .good q ∧ a = d ∨
      d.openPacket n x.ctx.core rx.pkt (plainNak rx.pkt) = .next q ∧ a = d.followEpoch n) :
    d.controlPacket n rx arrived = a.actControl n q := by
  rw [plainNak] at ho
  obtain ⟨ho, rfl⟩ | ⟨ho, rfl⟩ := ho <;> simp only [controlPacket, hx, ho] <;> rfl

end

/-! ### ACK and MSG_CONFIRM (R279, R284, R333) -/

/-- An ACK names a PSN: it lies before CUM_PSN, or its bit of the map from the base is set. -/
def ackNames (p : Packet) (q : W32) : Bool :=
  psnBefore q (field 0 32 p.ext) || (serialDiff q (field 32 32 p.ext) < 256 &&
    (field 64 256 p.ext : BitVec 256).getLsbD (serialDiff q (field 32 32 p.ext)))

section
variable {c : Nat} {p : Packet} {s : State} {x : Conn} (hx : s.conn? c = some x)
include hx

/-- An ACK beyond what was sent is counted. -/
theorem State.takeAck_tooFar (hf : x.ackTooFar (field 0 32 p.ext) = true) : s.takeAck c p = s.bump d6_0105 (connTower c) := by
  simp only [takeAck, hx, hf, if_true]

/-- A MSG_CONFIRM beyond what was sent is counted. -/
theorem State.takeConfirm_tooFar (hf : x.ackTooFar (field 32 32 p.ext) = true) : s.takeConfirm c p = s.bump d6_0105 (connTower c) := by
  simp only [takeConfirm, hx, hf, if_true]

variable (hf : x.ackTooFar (field 0 32 p.ext) = false) {y : Conn} {n : Nat} (hy : x.ackWhere s.now (ackNames p) = (y, n)) {a : State}
  (ha : a = s.setConn c (x.able s.now (((y.advanceUna (field 0 32 p.ext)).sweep.markQuery s.now).touch s.now)))
include hf hy ha

/-- An ACK acknowledges what it names; an echo without bit 7 is a delay sample of its path as well. -/
theorem State.takeAck_acks :
    s.takeAck c p = if fieldNat 416 8 p.ext / 128 = 1 then a
      else a.sample c (fieldNat 416 8 p.ext % 64) (field 352 32 p.ext) (field 384 32 p.ext) (fieldNat 416 8 p.ext / 64 % 2 = 1) n := by
  unfold ackNames at hy
  simp only [takeAck, hx, hf, hy, ha, Bool.false_eq_true, if_false]

/-- An ACK whose echo has bit 7 gives no delay sample. -/
theorem State.takeAck_unsampled (he : 128 ≤ fieldNat 416 8 p.ext) : s.takeAck c p = a := by
  have byte : fieldNat 416 8 p.ext < 256 := Nat.mod_lt _ (by decide)
  rw [takeAck_acks hx hf hy ha, if_pos (by omega)]

/-- An ACK whose echo has bit 7 clear gives a delay sample, its CE in bit 6. -/
theorem State.takeAck_sampled (he : fieldNat 416 8 p.ext < 128) :
    s.takeAck c p = a.sample c (fieldNat 416 8 p.ext % 64) (field 352 32 p.ext) (field 384 32 p.ext) (64 ≤ fieldNat 416 8 p.ext) n := by
  have ce : fieldNat 416 8 p.ext / 64 % 2 = 1 ↔ 64 ≤ fieldNat 416 8 p.ext := by omega
  rw [takeAck_acks hx hf hy ha, if_neg (by omega), decide_eq_decide.mpr ce]

end

/-! ### NAK (R291 to R294) -/

section
variable {c : Nat} {p : Packet} {s : State} {x : Conn} (hx : s.conn? c = some x)
include hx

/-- A CONTEXT_BUSY or STALE_CONNECTION that matches no packet in flight is counted. -/
theorem State.takeNak_unmatched (hc : fieldNat 0 8 p.ext = 1 ∨ fieldNat 0 8 p.ext = 2)
    (hm : x.nakMatches (field 32 32 p.ext) (field 160 32 p.ext) = false) : s.takeNak c p = s.bump d6_0106 (connTower c) := by
  simp only [takeNak, hx, hc, hm, if_true, Bool.false_eq_true, if_false]

/-- A CONTEXT_BUSY that matches holds the connection. -/
theorem State.takeNak_busy (hm : x.nakMatches (field 32 32 p.ext) (field 160 32 p.ext) = true) (hc : fieldNat 0 8 p.ext = 1) :
    s.takeNak c p = s.busyHold c (field 32 32 p.ext) (fieldNat 128 32 p.ext) := by
  simp only [takeNak, hx, hc, hm, true_or, if_true]

/-- A STALE_CONNECTION that matches ends the connection. -/
theorem State.takeNak_stale (hm : x.nakMatches (field 32 32 p.ext) (field 160 32 p.ext) = true) (hc : fieldNat 0 8 p.ext = 2) :
    s.takeNak c p = s.connError c .contextLost := by
  rw [takeNak, hx]
  simp only [hc, hm, if_true]
  rfl

/-- A REMOTE_NOT_READY delays its packet. -/
theorem State.takeNak_notReady (hc : fieldNat 0 8 p.ext = 3) :
    s.takeNak c p = s.notReady c (field 32 32 p.ext) (field 64 32 p.ext) (fieldNat 128 32 p.ext) := by
  rw [takeNak, hx]
  simp only [hc, if_true]
  rfl

/-- A REFUSED voids its message with the reason's status. -/
theorem State.takeNak_refused (hc : fieldNat 0 8 p.ext = 4) :
    s.takeNak c p = s.voidMsg c (field 64 32 p.ext) false (remoteStatus (fieldNat 8 8 p.ext))
      (fieldNat 8 8 p.ext + 512 * fieldNat 96 23 p.ext) := by
  rw [takeNak, hx]
  simp only [hc, if_true]
  rfl

end

/-! ### The statement -/

/-- Settles O37, by the lemmas of the trailer, of an ACK, of a MSG_CONFIRM that lies too far ahead, and of each code of a NAK; that a packet is
judged when it has arrived whole is the model's choice (log entry 15). -/
theorem controlPackets : Obligations.ControlPackets := by
  unfold Obligations.ControlPackets
  refine ⟨?trailer, fun c p s a x hx => ⟨⟨State.takeAck_tooFar hx, State.takeConfirm_tooFar hx⟩,
    fun y n hf hy ha => ⟨State.takeAck_unsampled hx hf hy ha, State.takeAck_sampled hx hf hy ha⟩, State.takeNak_unmatched hx,
    fun hm => ⟨State.takeNak_busy hx hm, State.takeNak_stale hx hm⟩, State.takeNak_notReady hx, State.takeNak_refused hx⟩⟩
  case trailer =>
    rintro rx ty n code c s d x plain hc rfl ha hx rfl rfl rfl
    have conn : d.conn? (hdrDst rx.pkt) = some x := hx.1
    rw [exec_controlPacket hc rfl ha hx]
    refine ⟨fun crc ho => congrArg _ (State.controlPacket_bad conn ho), fun k ho => congrArg _ (State.controlPacket_wait conn ho),
      fun q a ho => ?_⟩
    rw [State.controlPacket_opened conn ho]
    exact ⟨fun h => congrArg _ (State.actControl_ack h _ a), fun h => congrArg _ (State.actControl_nak h _ a),
      fun h => congrArg _ (State.actControl_confirm h _ a), fun h => congrArg _ (State.actControl_query h _ a)⟩

end Sys2Proof.Machine

/-! PROOFS. The sender's timers on a cached connection: loss, RTO, the holds and CONFIRM_QUERY, and the statement about them. -/
namespace Sys2Proof.Machine

section
variable {n : Nat} {x : Conn} {s : State} (hx : s.conn? n = some x) (hc : x.cache = .cached)
include hx hc

/-! ### Losses (R286, R288, R336, R344) -/

section
variable {psn : W32} {p : TxPkt} (hp : x.pkt? psn = some p)
include hp

/-- Before its reorder slack has passed a PSN stays as it is. -/
theorem exec_lossDetect_early (hl : s.isLost n x p = false) : exec (.lossDetect n psn) s = .next s := by
  refine congrArg _ ((State.withCtx_cached hx hc).trans ?_)
  simp only [hp, hl, Bool.false_eq_true, if_false]

/-- A PSN whose reorder slack has passed is declared lost. -/
theorem exec_lossDetect_lost (hl : s.isLost n x p = true) : exec (.lossDetect n psn) s = .next (s.declareLost n p) := by
  refine congrArg _ ((State.withCtx_cached hx hc).trans ?_)
  simp only [hp, hl, if_true]

end

/-! ### The timer on TX_UNA (R289, R290, R336, R344, R392) -/

section
variable (he : s.rtoExpired n x = true)
include he

/-- An expiry without a usable path halves the rate and raises RETRY_COUNT. -/
theorem exec_rtoExpire_noPath (hu : (s.halveRate n).noPath x = true) : exec (.rtoExpire n) s = .next ((s.halveRate n).countRetry n) := by
  refine congrArg _ ((State.withCtx_cached hx hc).trans ?_)
  simp only [he, hu, if_true]

variable {y : Conn} {b : State} (hu : (s.halveRate n).noPath x = false) (hy : (s.halveRate n).conn? n = some y)
  (hb : b = ((s.halveRate n).setConn n { y with rtoFrom := some (s.halveRate n).now }).bump d6_0110 (connTower n))
include hu hy hb

/-- An expiry with a usable path, when TX_UNA is not in flight, restarts the timer and is counted. -/
theorem exec_rtoExpire_restarts (hp : x.pkt? x.ctx.core.txUna = none) : exec (.rtoExpire n) s = .next b := by
  refine congrArg _ ((State.withCtx_cached hx hc).trans ?_)
  simp only [he, hu, hy, hp, hb, if_true, Bool.false_eq_true, if_false, Option.getD_some]

/-- An expiry with a usable path loses the path of TX_UNA's packet and owes its copy. -/
theorem exec_rtoExpire_owes {p : TxPkt} (hp : x.pkt? x.ctx.core.txUna = some p) :
    exec (.rtoExpire n) s = .next ((b.losePath n p.path).oweCopy n x.ctx.core.txUna true) := by
  refine congrArg _ ((State.withCtx_cached hx hc).trans ?_)
  simp only [he, hu, hy, hp, hb, if_true, Bool.false_eq_true, if_false, Option.getD_some]

end

/-! ### Holds and back-offs (R292, R293) -/

/-- A hold that ends owes its packet without counting, and the timer restarts. -/
theorem exec_busyHoldEnd_due {e : Nat} {psn : W32} (hh : x.hold = some (e, psn)) (hd : e ≤ s.now) {y : Conn}
    (hy : y = { x with
      hold := none, rtoFrom := x.rtoFrom.map (fun _ => s.now)
      ctx := { x.ctx with delivery := { x.ctx.delivery with holdUntil := 0 } } }) :
    exec (.busyHoldEnd n) s = .next ((s.setConn n y).oweCopy n psn false) := by
  refine congrArg _ ((State.withCtx_cached hx hc).trans ?_)
  simp only [hh, hd, hy, if_true]

/-- A packet whose back-off ends is owed without counting. -/
theorem exec_rnrResend_due {psn : W32} {p : TxPkt} (hp : x.pkt? psn = some p) (hn : p.notBefore ≠ 0) (hd : p.notBefore ≤ s.now)
    (ha : p.acked = false) :
    exec (.rnrResend n psn) s =
      .next ((s.setConn n (x.modifyPkt psn (fun p => { p with notBefore := 0 }))).oweCopy n psn false) := by
  refine congrArg _ ((State.withCtx_cached hx hc).trans ?_)
  simp only [hp, ne_eq, hn, hd, ha, not_false_eq_true, Bool.not_false, and_self, if_true]

/-! ### CONFIRM_QUERY (R280; log 61) -/

section
variable (hq : s.queryDue n x = true)
include hq

/-- One query more than the limit ends the connection. -/
theorem exec_confirmQueryTimer_exhausted (hl : x.ctx.core.limit < x.queries) :
    exec (.confirmQueryTimer n) s = .next (s.exhausted n) := by
  refine congrArg _ ((State.withCtx_cached hx hc).trans ?_)
  simp only [hq, gt_iff_lt, hl, if_true]

/-- A due query within the limit is sent and counted. -/
theorem exec_confirmQueryTimer_asks (hl : x.queries ≤ x.ctx.core.limit) :
    exec (.confirmQueryTimer n) s = .next
      ((s.setConn n { x with querySince := some s.now, queries := x.queries + 1 }).sendControl n 0x13 [(32, 0), (32, 0)] false) := by
  refine congrArg _ ((State.withCtx_cached hx hc).trans ?_)
  simp only [hq, gt_iff_lt, Nat.not_lt.mpr hl, if_true, if_false]

end

end

/-! ### The statement -/

/-- Settles O39, by the lemma of each command; that the repeats of a query count against RETRY_LIMIT, that one RETRY_COUNT counts for every
cause, and that a timer restarts at the command that stands for its event, are the model's choices (log entries 61 and 101). -/
theorem senderTimers : Obligations.SenderTimers := by
  unfold Obligations.SenderTimers
  refine ⟨fun n psn x p s hx hc hp => ⟨exec_lossDetect_early hx hc hp, exec_lossDetect_lost hx hc hp⟩, ?rto,
    fun n x s hx hc => ⟨fun e psn hh hd y => exec_busyHoldEnd_due hx hc hh hd, fun psn p => exec_rnrResend_due hx hc,
      fun hq => ⟨exec_confirmQueryTimer_exhausted hx hc hq, exec_confirmQueryTimer_asks hx hc hq⟩⟩⟩
  case rto =>
    rintro n x s a b hx hc he rfl
    exact ⟨exec_rtoExpire_noPath hx hc he, fun y hu hy hb => ⟨exec_rtoExpire_restarts hx hc he hu hy hb,
      fun p => exec_rtoExpire_owes hx hc he hu hy hb⟩⟩

end Sys2Proof.Machine

/-! PROOFS. The operation of a link that is up: STATUS blocks, shedding and restore, PAUSE, PFC and flow control. -/
namespace Sys2Proof.Machine

/-! ### STATUS blocks (R528, R533, R535) -/

section
variable {n : Nat} {b : Bytes} {s : State}

/-- A STATUS block leaves by time, or when what it says has changed. -/
theorem exec_statusSend_due (hu : s.fabricUp n = true)
    (hd : (s.port n).statusSent + s.par d13_0020 n ≤ s.now ∨ (s.port n).statusSaid ≠ s.statusFields n false) :
    exec (.statusSend n) s = .next (s.sendStatus n false) := by
  have due : (s.fabricUp n && ((s.port n).statusSent + s.par d13_0020 n ≤ s.now ||
      (s.port n).statusSaid ≠ s.statusFields n false)) = true := by
    simpa only [hu, Bool.true_and, Bool.or_eq_true, decide_eq_true_eq] using hd
  exact if_pos due

/-- A STATUS block that arrives is taken. -/
theorem exec_statusRx (n : Nat) (b : Bytes) (s : State) : exec (.statusRx n b) s = .next (s.takeStatus n b) := rfl

/-- A shed request is a STATUS block with its bit. -/
theorem exec_shedReqRx_set (hb : natField 1 1 (leAt 5 1 b) = 1) : exec (.shedReqRx n b) s = .next (s.takeStatus n b) := if_pos hb

/-- A restore request is a STATUS block with its bit. -/
theorem exec_restoreReqRx_set (hb : natField 3 1 (leAt 5 1 b) = 1) : exec (.restoreReqRx n b) s = .next (s.takeStatus n b) := if_pos hb

/-- A block that is no STATUS, or arrives on a link that is not up, is not taken. -/
theorem State.takeStatus_ignored (h : s.fabricUp n = false ∨ leAt 0 1 b ≠ 3) : s.takeStatus n b = s := by
  have ignored : ¬ (s.fabricUp n && leAt 0 1 b = 3) = true := by
    rw [Bool.and_eq_true, decide_eq_true_eq]
    rintro ⟨hup, hstatus⟩
    obtain hdown | hother := h
    · exact Bool.false_ne_true (hdown.symm.trans hup)
    · exact hother hstatus
  exact if_neg ignored

/-- A STATUS block gives its answers, then its shed request, then its restore request. -/
theorem State.takeStatus_taken {flags : Nat} {a d e : State} (hu : s.fabricUp n = true) (hb : leAt 0 1 b = 3) (hf : flags = leAt 5 1 b)
    (ha : a = (s.setPort n { s.port n with
      lastStatus := s.now, peerReady := natField 0 1 flags = 1,
      partner := pack 32 [(16, leAt 2 2 b), (6, leAt 4 1 b), (9, 0), (1, 1)] }).takeAnswers n flags (leAt 6 1 b) (leAt 8 8 b))
    (hd : d = if natField 1 1 flags = 1 then a.takeShedReq n (leAt 6 1 b) (leAt 2 2 b) else a)
    (he : e = if natField 3 1 flags = 1 then d.takeRestoreReq n (leAt 2 2 b) else d) : s.takeStatus n b = e.statusChange n := by
  subst hf ha hd he
  simp only [takeStatus, hu, hb, decide_true, Bool.and_self, if_true]

end

/-! ### Shedding (R532 to R534) -/

section
variable {n : Nat} {s a : State} {h : Shed}

section
variable (hh : h = (s.port n).shed) (hn : n < s.nports) (hp : h.period < s.now / s.par d13_0031 n)
  (ha : a = s.setPort n { s.port n with
    shed := { h with period := s.now / s.par d13_0031 n, lastBytes := h.periodBytes, periodBytes := 0 } })
include hh hn hp ha

/-- At a period's end its bytes are noted, and a link that may shed and has not asked asks for half its width. -/
theorem exec_shedPeriodEnd_due :
    exec (.shedPeriodEnd n) s = if a.mayShed n h.periodBytes && h.asked.isNone then
        .next ((a.setPort n { a.port n with
          shed := { (a.port n).shed with asked := some ((a.port n).active.toNat / 2, false) } }).statusChange n)
      else .next a := by
  subst hh ha
  have due : (n < s.nports && (s.port n).shed.period < s.now / s.par d13_0031 n) = true := by
    simp only [hn, hp, decide_true, Bool.and_self]
  exact if_pos due

/-- A link that may shed asks for half its width. -/
theorem exec_shedPeriodEnd_asks (hm : a.mayShed n h.periodBytes = true) (hk : h.asked = none) :
    exec (.shedPeriodEnd n) s = .next ((a.setPort n { a.port n with
      shed := { (a.port n).shed with asked := some ((a.port n).active.toNat / 2, false) } }).statusChange n) := by
  rw [exec_shedPeriodEnd_due hh hn hp ha, hm, hk]
  rfl

/-- A link that may not shed, or has asked, only notes the bytes. -/
theorem exec_shedPeriodEnd_notes (hm : a.mayShed n h.periodBytes = false ∨ h.asked ≠ none) : exec (.shedPeriodEnd n) s = .next a := by
  have stays : ¬ (a.mayShed n h.periodBytes && h.asked.isNone) = true := by
    rw [Bool.and_eq_true, Option.isNone_iff_eq_none]
    rintro ⟨hmay, hfree⟩
    obtain hshut | hasked := hm
    · exact Bool.false_ne_true (hshut.symm.trans hmay)
    · exact hasked hfree
  rw [exec_shedPeriodEnd_due hh hn hp ha, if_neg stays]

end

section
variable {w t : Nat} {g : Shed} (hw : (s.port n).shed.switch = some (w, t)) (hu : s.fabricUp n = true) (ht : t ≤ s.now)
  (hg : g = { period := (s.port n).shed.period, periodBytes := (s.port n).shed.periodBytes, lastBytes := (s.port n).shed.lastBytes })
include hw hu ht hg

/-- At the tick of a change a narrowing that meets a window is dropped; any other change sets the width and is counted if it is real. -/
theorem exec_widthSwitch_due :
    exec (.widthSwitch n) s = if w < (s.port n).active.toNat && s.hasWindow n then .next (s.setPort n { s.port n with shed := g })
      else .next (if w = (s.port n).active.toNat then s.setPort n { s.port n with active := BitVec.ofNat 8 w, shed := g }
        else (s.setPort n { s.port n with active := BitVec.ofNat 8 w, shed := g }).bump d13_0111 n) := by
  subst hg
  simp only [exec, execWidthSwitch, hw, hu, ht, decide_true, Bool.and_self, if_true, State.setShed]

/-- A narrowing that meets a window is dropped. -/
theorem exec_widthSwitch_dropped (hl : w < (s.port n).active.toNat) (hs : s.hasWindow n = true) :
    exec (.widthSwitch n) s = .next (s.setPort n { s.port n with shed := g }) := by
  rw [exec_widthSwitch_due hw hu ht hg, if_pos (by simp only [hl, hs, decide_true, Bool.and_self])]

/-- A change to the present width is not counted. -/
theorem exec_widthSwitch_same (he : w = (s.port n).active.toNat) :
    exec (.widthSwitch n) s = .next (s.setPort n { s.port n with active := BitVec.ofNat 8 w, shed := g }) := by
  rw [exec_widthSwitch_due hw hu ht hg, if_neg (by simp [he]), if_pos he]

/-- A widening, and a narrowing that meets no window, are counted. -/
theorem exec_widthSwitch_counted (hc : (s.port n).active.toNat < w ∨ (w < (s.port n).active.toNat ∧ s.hasWindow n = false)) :
    exec (.widthSwitch n) s = .next ((s.setPort n { s.port n with active := BitVec.ofNat 8 w, shed := g }).bump d13_0111 n) := by
  have changes : ¬ (w < (s.port n).active.toNat && s.hasWindow n) = true := by
    rw [Bool.and_eq_true, decide_eq_true_eq]
    rintro ⟨hl, hs⟩
    obtain hwide | ⟨-, hfree⟩ := hc
    · omega
    · exact Bool.false_ne_true (hfree.symm.trans hs)
  rw [exec_widthSwitch_due hw hu ht hg, if_neg changes, if_neg (by omega)]

end

/-! ### Restore (R535) -/

section
variable (hh : h = (s.port n).shed) (hu : s.fabricUp n = true)
include hh hu

/-- A link with lanes asleep, or with a narrowing ahead, that wants to be restored asks for its trained width. -/
theorem exec_restoreReq_asks
    (hl : (s.port n).active.toNat < (s.port n).trained.toNat ∨ ∃ w t, h.switch = some (w, t) ∧ w < (s.port n).active.toNat)
    (hr : h.restoring = false) (hw : s.wantsRestore n = true) :
    exec (.restoreReq n) s = .next ((s.setPort n { s.port n with
      shed := { h with asked := some ((s.port n).trained.toNat, true), switch := none, restoring := true, granter := false, ownReady := false,
                       peerReady := false } }).statusChange n) := by
  subst hh
  have narrowed : (s.port n).narrowed = true := by
    obtain hl | ⟨w, t, hs, hl⟩ := hl
    · simp only [Port.narrowed, hl, decide_true, Bool.true_or]
    · simp only [Port.narrowed, hs, hl, decide_true, Bool.or_true]
  have wants : (s.fabricUp n && (s.port n).narrowed && !(s.port n).shed.restoring && s.wantsRestore n) = true := by
    simp only [hu, narrowed, hr, hw, Bool.not_false, Bool.and_self]
  exact if_pos wants

/-- Woken lanes that are ready are said. -/
theorem exec_lanesReady_said (hr : h.restoring = true) (ho : h.ownReady = false) :
    exec (.lanesReady n) s =
      .next (((s.setPort n { s.port n with shed := { h with ownReady := true } }).restoreTick n).statusChange n) := by
  subst hh
  have waits : (s.fabricUp n && (s.port n).shed.restoring && !(s.port n).shed.ownReady) = true := by
    simp only [hu, hr, ho, Bool.not_false, Bool.and_self]
  exact if_pos waits

end

end

/-! ### PAUSE and PFC (R538, R539, R541; log 31) -/

section
variable {n : Nat} {s : State}

/-- What a pause sets: its end, or nothing where its quanta are 0. -/
theorem State.setPause_eq (s : State) (n i q : Nat) :
    s.setPause n i q = s.setPort n { s.port n with
      paused := tput 0 i (if q = 0 then 0 else s.now + ceilDiv (64 * q) (max 1 (s.port n).rate)) (s.port n).paused } := rfl

/-- Pauses that have run out end. -/
theorem exec_pauseExpire (n : Nat) (s : State) : exec (.pauseExpire n) s =
    .next (s.setPort n { s.port n with paused := tfilter (fun _ t => s.now < t) (s.port n).paused }) := rfl

variable (hu : s.etherUp n = true)
include hu

/-- A PAUSE frame sets or ends the pause of all classes where FLOW is 1, and is unexpected elsewhere. -/
theorem State.takePause_up (q : Nat) :
    s.takePause n q = if s.par d13_0040 n = 1 then (s.setPause n 8 q).bump d13_0107 n else s.bump d13_0114 n := if_pos hu

/-- A PFC frame sets or ends the pauses of the classes that it enables where FLOW is 2, and is unexpected elsewhere. -/
theorem State.takePfc_up (en : BitVec 8) (qs : List Nat) :
    s.takePfc n en qs = if s.par d13_0040 n = 2 then
        ((upTo 8).foldl (fun s i => if en.getLsbD i then s.setPause n i (qs[i]?.getD 0 % 65536) else s) s).bump d13_0108 n
      else s.bump d13_0114 n := if_pos hu

/-- A PAUSE frame where FLOW is 1. -/
theorem exec_pauseRx_pauses (q : BitVec 16) (hf : s.par d13_0040 n = 1) :
    exec (.pauseRx n q) s = .next ((s.setPause n 8 q.toNat).bump d13_0107 n) :=
  congrArg _ ((State.takePause_up hu _).trans (if_pos hf))

/-- A PAUSE frame elsewhere. -/
theorem exec_pauseRx_unexpected (q : BitVec 16) (hf : s.par d13_0040 n ≠ 1) : exec (.pauseRx n q) s = .next (s.bump d13_0114 n) :=
  congrArg _ ((State.takePause_up hu _).trans (if_neg hf))

/-- A PFC frame where FLOW is 2. -/
theorem exec_pfcRx_pauses (en : BitVec 8) (qs : List Nat) (hf : s.par d13_0040 n = 2) :
    exec (.pfcRx n en qs) s = .next
      (((upTo 8).foldl (fun s i => if en.getLsbD i then s.setPause n i (qs[i]?.getD 0 % 65536) else s) s).bump d13_0108 n) :=
  congrArg _ ((State.takePfc_up hu en qs).trans (if_pos hf))

/-- A PFC frame elsewhere. -/
theorem exec_pfcRx_unexpected (en : BitVec 8) (qs : List Nat) (hf : s.par d13_0040 n ≠ 2) :
    exec (.pfcRx n en qs) s = .next (s.bump d13_0114 n) :=
  congrArg _ ((State.takePfc_up hu en qs).trans (if_neg hf))

/-! ### Flow control that this side sends (R540) -/

variable {vc v : Nat}

/-- Flow control is sent when the ingress room of a VC falls below D13.0041. -/
theorem exec_flowXoffSend_due (hv : v ∈ s.flowVcs n vc) (hn : tget vc (s.port n).flowSent = none)
    (hl : s.ingressFree n v < s.par d13_0041 n) :
    exec (.flowXoffSend n vc) s = .next (s.sendFlow n vc (s.par d13_0043 n)) := by
  have low : (s.flowVcs n vc).any (fun v => s.ingressFree n v < s.par d13_0041 n) = true :=
    List.any_eq_true.mpr ⟨v, hv, decide_eq_true hl⟩
  simp only [exec, execFlowXoffSend, hu, hn, low, Option.isNone_none, Bool.and_self, if_true]

variable {f : FlowSent} (hs : tget vc (s.port n).flowSent = some f)
include hs

/-- It is repeated after half its time while the room is below D13.0042. -/
theorem exec_flowRepeat_due (hv : v ∈ s.flowVcs n vc) (ht : s.pauseTicks n (s.par d13_0043 n) ≤ 2 * (s.now - f.at_))
    (hl : s.ingressFree n v < s.par d13_0042 n) :
    exec (.flowRepeat n vc) s = .next (s.sendFlow n vc (s.par d13_0043 n)) := by
  have low : (s.flowVcs n vc).any (fun v => s.ingressFree n v < s.par d13_0042 n) = true :=
    List.any_eq_true.mpr ⟨v, hv, decide_eq_true hl⟩
  simp only [exec, execFlowRepeat, hs, hu, low, ge_iff_le, ht, decide_true, Bool.and_self, if_true]

/-- It ends when no VC's room is below D13.0042. -/
theorem exec_flowXonSend_due (hl : ∀ v ∈ s.flowVcs n vc, s.par d13_0042 n ≤ s.ingressFree n v) :
    exec (.flowXonSend n vc) s = .next (s.sendFlow n vc 0) := by
  have room : (s.flowVcs n vc).all (fun v => s.par d13_0042 n ≤ s.ingressFree n v) = true :=
    List.all_eq_true.mpr fun v hv => decide_eq_true (hl v hv)
  simp only [exec, execFlowXonSend, hu, hs, room, Option.isSome_some, Bool.and_self, if_true]

end

end Sys2Proof.Machine

/-! PROOFS. Ethernet frames, by what they carry, and the statement about links in operation. -/
namespace Sys2Proof.Machine

section
variable {n : Nat} {f : Bytes} {frac : Nat} {tr : Bool} {s : State} (hu : s.etherUp n = true)
include hu

/-! ### FCS and length (R537; log 68) -/

/-- A frame with a wrong FCS is counted. -/
theorem exec_ethFrameRx_badFcs (f : Bytes) (frac : Nat) (tr : Bool) : exec (.ethFrameRx n f false frac tr) s = .next (s.bump d13_0104 n) := by
  simp only [exec, execEthFrameRx, hu, if_true, Bool.not_false]

/-- A frame that is too long is counted. -/
theorem exec_ethFrameRx_long (hl : 8448 < f.length + 4) : exec (.ethFrameRx n f true frac tr) s = .next (s.bump d13_0106 n) := by
  simp only [exec, execEthFrameRx, hu, frameTooLong, gt_iff_lt, hl, decide_true, if_true, Bool.not_true, Bool.false_eq_true, if_false]

/-- Any other frame is taken. -/
theorem exec_ethFrameRx_taken (hl : f.length + 4 ≤ 8448) : exec (.ethFrameRx n f true frac tr) s = .next (s.takeFrame n f frac tr) := by
  simp only [exec, execEthFrameRx, hu, frameTooLong, gt_iff_lt, Nat.not_lt.mpr hl, decide_false, if_true, Bool.not_true,
    Bool.false_eq_true, if_false]

end

/-! ### By address and EtherType (R256, R537) -/

section
variable {n : Nat} {f b : Bytes} {frac : Nat} {tr : Bool} {s : State} (hb : b = frameBody f)

section
variable {h : Bytes} (hd : beNat (slice 0 6 f) = s.portMac n) (ht : frameType f = s.par d6_0001 0) (hf : frameHead f = 16)
  (hh : h = f.take 12 ++ slice 12 4 f ++ slice 16 2 f)
include hb hd ht hf hh

/-- A tagged frame for this port with the Silus EtherType carries a Silus packet. -/
theorem State.takeFrame_silus : s.takeFrame n f frac tr = s.frameSilus n h b tr := by
  subst hb hh
  simp [takeFrame, hd, ht, hf]

/-- Its packet is received. -/
theorem State.takeFrame_packet {p : Packet} (hp : silusOf b = some p) : s.takeFrame n f frac tr = s.takeSilus ⟨n, 0, h, p, tr⟩ := by
  rw [takeFrame_silus hb hd ht hf hh]
  simp only [frameSilus, hp]

/-- Bytes too few for a packet are counted. -/
theorem State.takeFrame_short (hp : silusOf b = none) : s.takeFrame n f frac tr = s.bump d6_0109 (portTower n) := by
  rw [takeFrame_silus hb hd ht hf hh]
  simp only [frameSilus, hp]

end

/-- A frame of an EtherType that is none of those the port takes is counted. -/
theorem State.takeFrame_otherType (hs : frameType f ≠ s.par d6_0001 0) (h1588 : frameType f ≠ 0x88F7) (hmac : frameType f ≠ 0x8808)
    (hip : frameType f ≠ 0x86DD) : s.takeFrame n f frac tr = s.bump d13_0105 n := by
  simp only [takeFrame, hs, h1588, hmac, hip, decide_false, Bool.and_false, Bool.false_and, Bool.false_eq_true, if_false]

variable (hs : frameType f ≠ s.par d6_0001 0)
include hb hs

/-- An IEEE 1588 frame to one of its addresses is a message where the transport is Ethernet. -/
theorem State.takeFrame_1588 (ht : frameType f = 0x88F7) (hd : beNat (slice 0 6 f) = 0x011B19000000 ∨ beNat (slice 0 6 f) = 0x0180C200000E) :
    s.takeFrame n f frac tr = if s.par d2_0023 0 = 0 then s.takePtp n b frac else s := by
  rw [ht] at hs
  subst hb
  simp [takeFrame, hs, ht, hd]

section
variable (ht : frameType f = 0x8808) (hd : beNat (slice 0 6 f) = 0x0180C2000001)
include ht hd

/-- A MAC control frame is judged by its opcode. -/
theorem State.takeFrame_macControl : s.takeFrame n f frac tr =
    if beNat (slice 0 2 b) = 1 then s.takePause n (beNat (slice 2 2 b))
    else if beNat (slice 0 2 b) = 0x0101 then
      s.takePfc n (BitVec.ofNat 8 (beNat (slice 2 2 b))) ((upTo 8).map (fun i => beNat (slice (4 + 2 * i) 2 b)))
    else s.bump d13_0105 n := by
  rw [ht] at hs
  subst hb
  simp only [takeFrame, hs, ht, hd, decide_false, decide_true, Bool.and_false, Bool.and_self, Bool.or_self, Bool.false_eq_true, if_false,
    if_true, Nat.reduceEqDiff]
  split
  next h => rw [if_pos h]
  next h => rw [if_neg (by omega), if_pos h]
  next h1 h257 => rw [if_neg h1, if_neg h257]

end

section
variable (ht : frameType f = 0x86DD)
include ht

/-- What is no UDP datagram of IPv6 without extension headers is counted. -/
theorem State.takeFrame_noUdp (hn : frameUdp b = none) : s.takeFrame n f frac tr = s.bump d13_0105 n := by
  rw [ht] at hs
  subst hb
  simp [takeFrame, hs, ht, hn]

variable {u : Bytes} (hn : frameUdp b = some u)
include hn

/-- A datagram is judged by its port, then by its checksum. -/
theorem State.takeFrame_udp : s.takeFrame n f frac tr =
    if beNat (slice 2 2 u) ≠ s.par d6_0002 0 ∧ beNat (slice 2 2 u) ≠ 319 ∧ beNat (slice 2 2 u) ≠ 320 then s.bump d13_0105 n
    else if frameUdpOk b u = false then s.bump d6_0100 (portTower n)
    else if beNat (slice 2 2 u) = s.par d6_0002 0 then
      s.frameSilus n ((f.take 12 ++ (if frameHead f = 12 then [0x81, 0, 0, 0] else slice 12 4 f) ++ slice (frameHead f) 2 f) ++ b.take 40 ++
        u.take 8) (u.drop 8) tr
    else if s.par d2_0023 0 = 1 then s.takePtp n (u.drop 8) frac else s := by
  rw [ht] at hs
  subst hb
  simp [takeFrame, hs, ht, hn, and_assoc]

/-- A datagram to the Silus port whose checksum is wrong is counted. -/
theorem State.takeFrame_badChecksum (hc : frameUdpOk b u = false) (hp : beNat (slice 2 2 u) = s.par d6_0002 0) :
    s.takeFrame n f frac tr = s.bump d6_0100 (portTower n) := by
  rw [takeFrame_udp hb hs ht hn, if_neg fun h => h.1 hp, if_pos hc]

/-- A datagram to an IEEE 1588 port is a message where the transport is UDP. -/
theorem State.takeFrame_udp1588 (hc : frameUdpOk b u = true) (ho : beNat (slice 2 2 u) ≠ s.par d6_0002 0)
    (hp : beNat (slice 2 2 u) = 319 ∨ beNat (slice 2 2 u) = 320) (hm : s.par d2_0023 0 = 1) :
    s.takeFrame n f frac tr = s.takePtp n (u.drop 8) frac := by
  rw [takeFrame_udp hb hs ht hn, if_neg (by omega), if_neg (by simp [hc]), if_neg ho, if_pos hm]

/-- A datagram to another port is counted. -/
theorem State.takeFrame_otherPort (ho : beNat (slice 2 2 u) ≠ s.par d6_0002 0) (h319 : beNat (slice 2 2 u) ≠ 319)
    (h320 : beNat (slice 2 2 u) ≠ 320) : s.takeFrame n f frac tr = s.bump d13_0105 n := by
  rw [takeFrame_udp hb hs ht hn, if_pos ⟨ho, h319, h320⟩]

end

end

/-! ### The statement -/

/-- Settles O44, by the lemmas of STATUS blocks, of shedding and restore, of pauses and flow control, and of each kind of frame; that the FCS
is judged before the length, that a datagram whose lengths do not fit counts in D13.0105, and that pauses end by their own command, are the
model's choices (log entries 31 and 68). -/
theorem linkOperationAndFrames : Obligations.LinkOperationAndFrames := by
  unfold Obligations.LinkOperationAndFrames
  refine ⟨fun n b s => ⟨exec_statusSend_due, exec_statusRx n b s, exec_shedReqRx_set, exec_restoreReqRx_set, State.takeStatus_ignored,
      fun flags a d e hu hb hf => State.takeStatus_taken hu hb hf⟩,
    ?shedding, fun n s h hh hu => ⟨exec_restoreReq_asks hh hu, exec_lanesReady_said hh hu⟩,
    fun n s => ⟨fun q hu => exec_pauseRx_pauses hu q, fun q hu => exec_pauseRx_unexpected hu q, fun en qs hu => exec_pfcRx_pauses hu en qs,
      fun en qs hu => exec_pfcRx_unexpected hu en qs, State.setPause_eq s n, exec_pauseExpire n s⟩,
    fun n vc s hu => ⟨fun v => exec_flowXoffSend_due hu, fun f hs => ⟨fun v => exec_flowRepeat_due hu hs, exec_flowXonSend_due hu hs⟩⟩,
    fun n frac f b tr s hu hb => ⟨exec_ethFrameRx_badFcs hu f frac tr, exec_ethFrameRx_long hu, fun hl => ?frames⟩⟩
  case shedding =>
    rintro n s a h rfl
    refine ⟨fun hn hp ha => ⟨exec_shedPeriodEnd_asks rfl hn hp ha, exec_shedPeriodEnd_notes rfl hn hp ha⟩, fun w t g hw hu ht hg =>
      ⟨exec_widthSwitch_dropped hw hu ht hg, exec_widthSwitch_same hw hu ht hg, exec_widthSwitch_counted hw hu ht hg⟩⟩
  case frames =>
    rw [exec_ethFrameRx_taken hu hl]
    refine ⟨fun h hd ht hf hh => ⟨fun p hp => congrArg _ (State.takeFrame_packet hb hd ht hf hh hp),
        fun hp => congrArg _ (State.takeFrame_short hb hd ht hf hh hp)⟩,
      fun hs => ⟨fun ht hd => congrArg _ (State.takeFrame_1588 hb hs ht hd), fun ht hd => ?macControl, fun ht =>
        ⟨fun hn => congrArg _ (State.takeFrame_noUdp hb hs ht hn),
          fun u hn hc hp => congrArg _ (State.takeFrame_badChecksum hb hs ht hn hc hp),
          fun u hn hc ho => ⟨fun hp hm => congrArg _ (State.takeFrame_udp1588 hb hs ht hn hc ho hp hm),
            fun h319 h320 => congrArg _ (State.takeFrame_otherPort hb hs ht hn ho h319 h320)⟩⟩,
        fun h1588 hmac hip => congrArg _ (State.takeFrame_otherType hs h1588 hmac hip)⟩⟩
    case macControl =>
      rw [State.takeFrame_macControl hb hs ht hd]
      exact ⟨fun h => by rw [if_pos h], fun h => by rw [if_neg (by omega), if_pos h], fun h1 h257 => by rw [if_neg h1, if_neg h257]⟩

end Sys2Proof.Machine

/-! PROOFS. SEND slots: the opening of an occurrence (`SlotInstance`), the fixing of its load, its due time, and the statement about them. -/
namespace Sys2Proof.Machine

/-! ### The fetch lead (R299, R308; log 63) -/

/-- A new occurrence goes last. -/
theorem State.putInstance_new {s : State} {i : SlotInstance} (hi : s.instanceAt i.tower i.entry i.due = none) :
    s.putInstance i = { s with spire := { s.spire with instances := s.spire.instances ++ [i] } } := by
  have unlisted : ¬ s.spire.instances.any (fun j => j.same i) = true := by
    rw [List.any_eq_true]
    rintro ⟨j, hj, hsame⟩
    exact List.find?_eq_none.mp hi j hj hsame
  simp only [putInstance, if_neg unlisted]

/-- Without its connection a load does not grow. -/
theorem State.growLoad_noConn {s : State} {i : SlotInstance} (hc : s.conn? i.conn = none) (w : Nat) : s.growLoad i w = s := by
  simp only [growLoad, hc]

/-- At the fetch lead an occurrence is opened, and its load grows. -/
theorem exec_slotFetchOpen_opens {tower entry due : Nat} {x : Slot} {s a : State} {i : SlotInstance} (hx : s.sendSlot tower entry = some x)
    (hd : s.instanceDue x.start (s.par d7_0002 tower) = some due) (ho : tgetD s.spire.opened (slotKey tower entry) 0 < due + 1)
    (hn : s.now ≤ due) (hf : s.instanceAt tower entry due = none)
    (hi : i = { tower := tower, entry := entry, due := due, conn := x.target })
    (ha : a = { s with spire := { s.spire with
      opened := tset (slotKey tower entry) (due + 1) s.spire.opened
      instances := s.spire.instances ++ [i] } }) :
    exec (.slotFetchOpen tower entry) s = .next (a.growLoad i (s.slotWire x)) := by
  subst hi ha
  have opens : exec (.slotFetchOpen tower entry) s = .next
      ((({ s with spire := { s.spire with opened := tset (slotKey tower entry) (due + 1) s.spire.opened } } : State).putInstance
        { tower := tower, entry := entry, due := due, conn := x.target }).growLoad
        { tower := tower, entry := entry, due := due, conn := x.target } (s.slotWire x)) := by
    simp only [exec, execSlotFetchOpen, hx, hd, ho, hn, and_self, if_true]
    rfl
  rw [opens, State.putInstance_new hf]

/-! ### The ready deadline (R309, R310, R312, R314) -/

/-- An occurrence without its connection is fixed empty. -/
theorem State.fixLoad_noConn {s : State} {i : SlotInstance} (hc : s.conn? i.conn = none) (expect : Bool) :
    s.fixLoad i expect = s.putInstance { i with fixed := true, load := [] } := by
  simp only [fixLoad, hc]

/-- At the ready deadline of an open occurrence its load is fixed. -/
theorem exec_slotReadyDeadline_fixes {tower entry : Nat} {x : Slot} {i : SlotInstance} {s : State} (hx : s.sendSlot tower entry = some x)
    (hi : s.openInstance tower entry = some i) (hd : i.due ≤ s.now + 40) :
    exec (.slotReadyDeadline tower entry) s = .next (s.fixLoad i x.expect) := by
  simp only [exec, execSlotReadyDeadline, hx, hi, hd, if_true]

section
variable {s p a b : State} {i : SlotInstance} {c : Conn} {waiting load send rest : List LoadPkt} (hc : s.conn? i.conn = some c)
  (hw : waiting = i.load.filter (fun q => q.psn.isSome && q.staged.isNone))
  (hl : load = i.load.filter (fun q => !(q.psn.isSome && q.staged.isNone)))
  (hs : send = load.takeWhile (·.staged.isSome)) (hr : rest = load.drop send.length)
  (hp : p = s.putInstance { i with fixed := true, late := decide (rest ≠ []), load := send })
  (ha : a = if waiting ++ rest = [] then p else p.requeue i.conn (waiting ++ rest)) {expect : Bool}
  (hb : b = if c.behind ≠ none ∧ rest = [] ∧ c.allIn s.now i.load = true ∧ tgetD s.spire.leftover i.conn [] = []
    then a.setConn i.conn { c with behindLeave := true } else a)
include hc hw hl hs hr hp ha hb

/-- What fixing a load does, in the order of its cases: a late occurrence, an empty one that was expected, any other. -/
theorem State.fixLoad_conn :
    s.fixLoad i expect =
      if rest ≠ [] then (((b.fallBehind i.conn (s.roundOf i.due)).bump d7_0101 i.tower).setRo d7_0108 i.tower i.due).event
        c.ctx.core.tenant.toNat 3 1 i.conn 0 (s.roundOf i.due % 4294967296)
      else if i.load = [] ∧ expect = true then
        (b.bump d7_0102 i.tower).event c.ctx.core.tenant.toNat 3 2 i.conn 0 (s.roundOf i.due % 4294967296)
      else b := by
  have unstaged (l : List LoadPkt) : (!l.isEmpty) = decide (l ≠ []) := by cases l <;> rfl
  subst hb ha hp hr hs hl hw
  simp only [fixLoad, hc, unstaged, Option.isSome_iff_ne_none, Bool.and_eq_true, List.isEmpty_iff, decide_eq_true_eq, and_assoc,
    Bool.not_eq_true', decide_eq_false_iff_not, Classical.not_not]

/-- With an unstaged packet the occurrence is late, and its connection falls behind. -/
theorem State.fixLoad_late (hu : rest ≠ []) :
    s.fixLoad i expect = (((a.fallBehind i.conn (s.roundOf i.due)).bump d7_0101 i.tower).setRo d7_0108 i.tower i.due).event
      c.ctx.core.tenant.toNat 3 1 i.conn 0 (s.roundOf i.due % 4294967296) := by
  rw [fixLoad_conn hc hw hl hs hr hp ha hb, if_pos hu, hb, if_neg fun h => hu h.2.1]

/-- An empty load that was expected is counted and reported. -/
theorem State.fixLoad_empty (hu : rest = []) (he : i.load = []) (hx : expect = true) :
    s.fixLoad i expect =
      (b.bump d7_0102 i.tower).event c.ctx.core.tenant.toNat 3 2 i.conn 0 (s.roundOf i.due % 4294967296) := by
  rw [fixLoad_conn hc hw hl hs hr hp ha hb, if_neg (not_not_intro hu), if_pos ⟨he, hx⟩]

/-- Any other load that is staged whole is only fixed. -/
theorem State.fixLoad_staged (hu : rest = []) (he : i.load ≠ [] ∨ expect = false) : s.fixLoad i expect = b := by
  have filled : ¬ (i.load = [] ∧ expect = true) := by
    rintro ⟨hload, rfl⟩
    exact he.elim (· hload) Bool.noConfusion
  rw [fixLoad_conn hc hw hl hs hr hp ha hb, if_neg (not_not_intro hu), if_neg filled]

end

/-! ### The due time (R309, R311 to R313, R322; log 64) -/

/-- One skipped occurrence is counted, and its time is kept. -/
theorem State.countSkipped_one (s : State) (tower due : Nat) :
    s.countSkipped tower 1 due = (s.count d7_0103 tower 1).setRo d7_0108 tower due := rfl

/-- At its due time, once, an occurrence fires: those passed over before it are skipped and counted (`b`), and its load is fixed where the
deadline did not fix it (`c`). -/
theorem exec_slotDue_fires {tower entry due : Nat} {x : Slot} {s a b c : State} {older : List SlotInstance} {i j : SlotInstance}
    (hx : s.sendSlot tower entry = some x) (hd : s.instanceDue x.start 0 = some due)
    (hf : tgetD s.spire.fired (slotKey tower entry) 0 < due + 1)
    (ha : a = { s with spire := { s.spire with fired := tset (slotKey tower entry) (due + 1) s.spire.fired } })
    (ho : older = s.spire.instances.filter (fun i => i.tower = tower && i.entry = entry && decide (i.due < due)))
    (hb : b = (older.foldl (fun s i => s.skipLoad i) a).countSkipped tower (max older.length (s.passedOver (slotKey tower entry) due))
      (due - s.dict.active.round s.pkg.part))
    (hi : i = (b.instanceAt tower entry due).getD { tower := tower, entry := entry, due := due, conn := x.target })
    (hc : c = if i.fixed then b else b.fixLoad i x.expect) (hj : j = (c.instanceAt tower entry due).getD i) :
    exec (.slotDue tower entry) s = .next (c.fireSlot x j) := by
  subst hj hc hi hb ho ha
  simp only [exec, execSlotDue, hx, hd, hf, if_true]

section
variable {x : Slot} {i : SlotInstance} {s d : State}

/-- While schedules run, the load of a READY connection leaves through a port that carries (`r`, `e`); what the credits do not cover goes
back to the queue. -/
theorem State.fireSlot_leaves {e : State} {r : State × Nat × List LoadPkt} (hs : s.scheduled = true) (hr : s.slotReady i.conn = true)
    (hp : s.carries x.egress = true) (hd : d = (s.dropInstance i).bump d7_0100 i.tower)
    (hq : r = State.sendLoads x.egress i.conn i.load 0 d)
    (he : e = r.1.portUntil x.egress (max (d.port x.egress).busyUntil d.now) r.2.1) :
    s.fireSlot x i = if r.2.2 = [] then e.endBehind i.conn else e.requeue i.conn r.2.2 := by
  subst he hq hd
  simp only [fireSlot, hs, hr, hp, Bool.and_self, if_true, List.isEmpty_iff]

/-- Otherwise the occurrence is skipped and counted. -/
theorem State.fireSlot_skips (hs : s.scheduled = false ∨ s.slotReady i.conn = false ∨ s.carries x.egress = false) :
    s.fireSlot x i = (s.skipLoad i).countSkipped i.tower 1 i.due := by
  have barred : (s.scheduled && s.slotReady i.conn && s.carries x.egress) = false := by
    obtain h | h | h := hs <;> simp [h]
  simp only [fireSlot, barred, Bool.false_eq_true, if_false]

variable (hd : d = s.dropInstance i)
include hd

/-- Of a skipped occurrence with an empty load nothing else remains. -/
theorem State.skipLoad_empty (hl : i.load = []) : s.skipLoad i = d := by
  simp only [skipLoad, hl, hd, List.isEmpty_nil, if_true]

/-- The load of a skipped occurrence returns to the queue, and its connection falls behind. -/
theorem State.skipLoad_load (hl : i.load ≠ []) : s.skipLoad i = (d.requeue i.conn i.load).fallBehind i.conn (d.roundOf i.due) := by
  simp only [skipLoad, List.isEmpty_iff, hl, hd, if_false]

end

/-! ### The statement -/

/-- Settles O21, by the lemmas of the fetch lead, of the cases in which a load is fixed, and of an occurrence that leaves or is skipped; that
all packets of an occurrence leave within one command and that loads grow at clock ticks, and that occurrences which a step of time passed over
are counted at the slot's next due time, are the model's choices (log entries 63 and 64). -/
theorem spireSendSlots : Obligations.SpireSendSlots := by
  unfold Obligations.SpireSendSlots
  refine ⟨?opens, fun tower entry x i s hx hi hd => ?deadline, ?due⟩
  case opens =>
    rintro tower entry due x i s a hx hd ho hn hf hi ha
    have opened := exec_slotFetchOpen_opens hx hd ho hn hf hi ha
    have conn : a.conn? i.conn = s.conn? x.target := by rw [ha, hi]; rfl
    exact ⟨fun hc => by rw [opened, State.growLoad_noConn (conn.trans hc)], fun _ => opened⟩
  case deadline =>
    rw [exec_slotReadyDeadline_fixes hx hi hd]
    refine ⟨fun hc => by rw [State.fixLoad_noConn hc], ?_⟩
    intro c waiting load send rest a b hc hw hl hs hr p hp ha hb
    exact ⟨fun hu => by rw [State.fixLoad_late hc hw hl hs hr hp ha hb hu],
      fun hu he hx => by rw [State.fixLoad_empty hc hw hl hs hr hp ha hb hu he hx],
      fun hu he => by rw [State.fixLoad_staged hc hw hl hs hr hp ha hb hu he]⟩
  case due =>
    intro tower entry due x s a b c older i j hx hd hf ha ho hb hi hc hj
    rw [exec_slotDue_fires hx hd hf ha ho hb hi hc hj]
    refine ⟨fun hs hr hp d e r hd hq he => by rw [State.fireSlot_leaves hs hr hp hd hq he], fun hs d hd => ?_⟩
    rw [State.fireSlot_skips hs]
    exact ⟨fun hl => by rw [State.skipLoad_empty hd hl], fun hl => by rw [State.skipLoad_load hd hl]⟩

end Sys2Proof.Machine

/-! PROOFS. COLLECTIVE_STEP entries as they are judged and started, the READOUTs that wait for data, the occurrences of REDUCE slots, and the
statement about them. -/
namespace Sys2Proof.Machine

/-! ### The judgement of a step (R399, R430, R723; log 71) -/

section
variable {e : EntryRef} {t : Nat} {w : W512} {s : State}

/-- Without a defined handle in the tenant's range, or without weight, a step is refused. -/
theorem State.judgeStep_denied (h : s.handleDesc? t (stHandle w) = none ∨ s.par d10_8000 t = 0) :
    s.judgeStep e t w = .error (s.failEntry e .accessDenied 0) := by
  unfold judgeStep
  split
  next => rfl
  next d hd => rw [if_pos (h.resolve_left (hd ▸ Option.some_ne_none d))]

section
variable {d : Bytes} (hd : s.handleDesc? t (stHandle w) = some d) (hw : s.par d10_8000 t ≠ 0)
include hd hw

/-- A refused local key fails the step. -/
theorem State.judgeStep_fail {r : Nat} (hn : s.checkNeeds t (stepNeeds d w) = .fail r) :
    s.judgeStep e t w = .error (s.failLocal t e r) := by
  simp only [judgeStep, hd, hw, hn, if_false]

/-- A page without translation makes the step wait for one. -/
theorem State.judgeStep_translate {x : Need} {g : Nat} (hn : s.checkNeeds t (stepNeeds d w) = .translate x g) :
    s.judgeStep e t w = .error (s.awaitPage t e (s.keyPasid x.key) g (x.perm = 1)) := by
  simp only [judgeStep, hd, hw, hn, if_false]

section
variable {rs : List Realm} {shut : Bool} (hn : s.checkNeeds t (stepNeeds d w) = .ok rs)
  (hs : shut = (s.needsShut (stepNeeds d w) rs || s.domShut (domCupola (extentTower (extentOf (hdBase d)))) ||
    s.domShut (domTower (extentTower (extentOf (hdBase d))))))
include hn hs

/-- In a closed domain a step fails. -/
theorem State.judgeStep_shut (h : shut = true) : s.judgeStep e t w = .error (s.failEntry e .poweredDown 0) := by
  rw [h] at hs
  simp only [judgeStep, hd, hw, hn, ← hs, if_false, if_true]

/-- An accepted step notes the bindings of the extents that it reaches. -/
theorem State.judgeStep_accepted (h : shut = false) {g : AccWork} (hg : g = mkWork e t d w rs.head?) :
    s.judgeStep e t w = .ok { g with gens := s.gensOf g.reach.1 g.reach.2 } := by
  rw [h] at hs
  simp only [judgeStep, hd, hw, hn, ← hs, hg, Bool.false_eq_true, if_false]

end

end

/-! ### The entries (R319, R430) -/

/-- What each of the three commands does with the ring's next entry; only ADD_LOCAL reads its buffer. -/
theorem exec_collective {t ring n : Nat} {ans m : MemAns} {c : Instr} (s : State)
    (hc : (c = .collectiveClear t ring ∧ n = 1 ∧ m = .data []) ∨ (c = .collectiveAddLocal t ring ans ∧ n = 2 ∧ m = ans) ∨
      (c = .collectiveReadout t ring ∧ n = 3 ∧ m = .data [])) : exec c s = .next (s.collective t ring n m) := by
  obtain ⟨rfl, rfl, rfl⟩ | ⟨rfl, rfl, rfl⟩ | ⟨rfl, rfl, rfl⟩ := hc <;> rfl

/-- Without a ready COLLECTIVE_STEP of its ACTION a command changes nothing. -/
theorem State.collective_idle {ring n : Nat} (h : ∀ e w, s.readyEntry t ring 0x20 = some (e, w) → stAction w ≠ n) (m : MemAns) :
    s.collective t ring n m = s := by
  unfold collective
  split
  next => rfl
  next e w hr => rw [if_pos (h e w hr)]

section
variable {ring n : Nat} {m : MemAns} (hr : s.readyEntry t ring 0x20 = some (e, w)) (ha : stAction w = n)
include hr ha

/-- An entry whose trigger had expired fails. -/
theorem State.collective_expired (hx : s.entryExpired e = true) : s.collective t ring n m = s.failEntry e .scheduleMiss 0 := by
  simp only [collective, hr, ha, hx, ne_eq, not_true_eq_false, if_false, if_true]

variable (hx : s.entryExpired e = false)
include hx

/-- An entry that its judgement refuses or holds up is left as the judgement leaves it. -/
theorem State.collective_refused {a : State} (hj : s.judgeStep e t w = .error a) : s.collective t ring n m = a := by
  simp only [collective, hr, ha, hx, hj, ne_eq, not_true_eq_false, Bool.false_eq_true, if_false]

section
variable {k : AccWork} {r : State} (hj : s.judgeStep e t w = .ok k) (hu : r = s.runEntry e)
include hj hu

/-- A step on a handle that a REDUCE slot names waits for its occurrence. -/
theorem State.collective_bound (hb : s.boundHandle k.handle = true) :
    s.collective t ring n m = { r with cupola := { r.cupola with works := r.cupola.works ++ [{ k with phase := .slot }] } } := by
  simp only [collective, hr, ha, hx, hj, hb, hu, ne_eq, not_true_eq_false, Bool.false_eq_true, if_false, if_true]

/-- Any other step starts. -/
theorem State.collective_begins (hb : s.boundHandle k.handle = false) {b : State}
    (hk : b = { r with cupola := { r.cupola with works := r.cupola.works ++ [{ k with phase := .running }] } }) :
    s.collective t ring n m = b.beginStep { k with phase := .running } m := by
  simp only [collective, hr, ha, hx, hj, hb, hk, hu, ne_eq, not_true_eq_false, Bool.false_eq_true, if_false]

end

end

end

/-! ### READOUTs that wait for data (R432) -/

section
variable {tower : Nat} {s : State}

/-- The oldest READOUT of a tower whose data have arrived starts. -/
theorem exec_readoutReady_starts {w : AccWork}
    (hw : s.cupola.works.find? (fun w => w.tower = tower && w.phase = .arrived && s.arrivedEnough w) = some w) :
    exec (.readoutReady tower) s = .next (s.startWork w) := by
  simp only [exec, execReadoutReady, hw]

/-- Where no READOUT of the tower has its data nothing changes. -/
theorem exec_readoutReady_idle (h : ∀ w ∈ s.cupola.works, w.tower ≠ tower ∨ w.phase ≠ .arrived ∨ s.arrivedEnough w = false) :
    exec (.readoutReady tower) s = .next s := by
  have none_ready : s.cupola.works.find? (fun w => w.tower = tower && w.phase = .arrived && s.arrivedEnough w) = none := by
    rw [List.find?_eq_none]
    intro w hw ready
    rw [Bool.and_eq_true, Bool.and_eq_true, decide_eq_true_eq, decide_eq_true_eq] at ready
    obtain ⟨⟨htower, hphase⟩, harrived⟩ := ready
    obtain h | h | h := h w hw
    · exact h htower
    · exact h hphase
    · exact Bool.false_ne_true (h.symm.trans harrived)
  simp only [exec, execReadoutReady, none_ready]

end

/-! ### The occurrences of REDUCE slots (R311, R314, R319, R320, R432) -/

/-- A step may start at its occurrence: it is no READOUT, or its data have arrived. -/
theorem State.stepReady_iff (s : State) (w : AccWork) : s.stepReady w = true ↔ w.action ≠ 3 ∨ s.arrivedEnough w = true := by
  simp [stepReady]

/-- A READOUT whose data have not arrived may not start. -/
theorem State.stepReady_readout {s : State} {w : AccWork} (hw : w.action = 3) (h : s.arrivedEnough w = false) : s.stepReady w = false := by
  simp [stepReady, hw, h]

section
variable {tower entry : Nat} {s : State} (ans : MemAns)

/-- Without a REDUCE slot nothing changes. -/
theorem exec_reduceSlotDue_noSlot (hx : s.stepSlot .reduce tower entry = none) : exec (.reduceSlotDue tower entry ans) s = .next s := by
  simp only [exec, execReduceSlotDue, hx]

variable {x : Slot} (hx : s.stepSlot .reduce tower entry = some x)
include hx

/-- Before an occurrence, or after it has been taken, nothing changes. -/
theorem exec_reduceSlotDue_notDue (hi : s.takeInstance tower entry x = none) : exec (.reduceSlotDue tower entry ans) s = .next s := by
  simp only [exec, execReduceSlotDue, hx, hi]

section
variable {due : Nat} {a : State} (hi : s.takeInstance tower entry x = some (due, a))
include hi

/-- Outside a schedule the occurrence is skipped. -/
theorem exec_reduceSlotDue_skipped (hs : a.scheduled = false) :
    exec (.reduceSlotDue tower entry ans) s = .next ((a.count d7_0103 tower 1).setRo d7_0108 tower due) := by
  simp only [exec, execReduceSlotDue, hx, hi, hs, Bool.not_false, if_true, State.countSkipped_one]

variable (hs : a.scheduled = true) {b : State} (hb : b = a.bump d7_0100 tower)
include hs hb

section
variable {w : AccWork} {ws : List AccWork} (hw : b.boundSteps x.target = w :: ws)
include hw

/-- The oldest step that waits starts when it is ready. -/
theorem exec_reduceSlotDue_starts (hr : b.stepReady w = true) :
    exec (.reduceSlotDue tower entry ans) s = .next (b.startBound w ans) := by
  rw [hb] at hw hr
  simp only [exec, execReduceSlotDue, hx, hi, hs, hw, hr, hb, Bool.not_true, Bool.false_eq_true, if_false, if_true]

/-- The oldest step that waits and is not ready is late. -/
theorem exec_reduceSlotDue_late (hr : b.stepReady w = false) :
    exec (.reduceSlotDue tower entry ans) s = .next (b.noteLate x.target due) := by
  rw [hb] at hw hr
  simp only [exec, execReduceSlotDue, hx, hi, hs, hw, hr, hb, Bool.not_true, Bool.false_eq_true, if_false]

end

section
variable (hw : b.boundSteps x.target = [])
include hw

/-- An entry of the handle that has not begun is late. -/
theorem exec_reduceSlotDue_waits (he : b.entryWaits (fun w => entOpcode w = 0x20 && stHandle w = x.target) = true) :
    exec (.reduceSlotDue tower entry ans) s = .next (b.noteLate x.target due) := by
  rw [hb] at hw he
  simp only [exec, execReduceSlotDue, hx, hi, hs, hw, he, hb, Bool.not_true, Bool.false_eq_true, if_false, if_true]

/-- With nothing that waits the occurrence is empty. -/
theorem exec_reduceSlotDue_empty (he : b.entryWaits (fun w => entOpcode w = 0x20 && stHandle w = x.target) = false) :
    exec (.reduceSlotDue tower entry ans) s = .next (b.emptyStep tower x due (b.handleTenant x.target)) := by
  rw [hb] at hw he
  simp only [exec, execReduceSlotDue, hx, hi, hs, hw, he, hb, Bool.not_true, Bool.false_eq_true, if_false]

end

end

end

/-! ### The statement -/

/-- Settles O48, by the lemmas of a step's judgement, of what the three commands do with it, of a READOUT's data, and of the cases of a
REDUCE slot's occurrence; that a step's ranges are its buffer and its part of the region, with the permissions that its ACTION needs, is the
model's reading (log entry 71). -/
theorem collectiveSteps : Obligations.CollectiveSteps := by
  unfold Obligations.CollectiveSteps
  refine ⟨fun t ring n ans m s c hc => ?entries, fun tower s => ⟨fun w => exec_readoutReady_starts, exec_readoutReady_idle⟩,
    fun tower entry ans s => ⟨exec_reduceSlotDue_noSlot ans, fun x => exec_reduceSlotDue_notDue ans, fun x due a b hx hi =>
      ⟨exec_reduceSlotDue_skipped ans hx hi, fun hs hb => ⟨fun w ws hw => ⟨fun hr => ?starts, fun hw3 hr => ?late⟩,
        exec_reduceSlotDue_waits ans hx hi hs hb, exec_reduceSlotDue_empty ans hx hi hs hb⟩⟩⟩⟩
  case entries =>
    rw [exec_collective s hc]
    refine ⟨fun h => by rw [State.collective_idle h], fun e w hr ha => ⟨fun hx => by rw [State.collective_expired hr ha hx],
      fun hx hd => by rw [State.collective_refused hr ha hx (State.judgeStep_denied hd)], fun d hx hd hw => ?defined⟩⟩
    case defined =>
      refine ⟨fun r hn => by rw [State.collective_refused hr ha hx (State.judgeStep_fail hd hw hn)],
        fun x g hn => by rw [State.collective_refused hr ha hx (State.judgeStep_translate hd hw hn)],
        fun rs shut hn hs => ⟨fun h => by rw [State.collective_refused hr ha hx (State.judgeStep_shut hd hw hn hs h)], ?runs⟩⟩
      rintro g k r h hg rfl hu
      have accepted := State.judgeStep_accepted hd hw hn hs h hg
      have handle : g.handle = stHandle w := by rw [hg]; rfl
      exact ⟨fun hb => by rw [State.collective_bound hr ha hx accepted hu (handle ▸ hb)],
        fun hb b hk => by rw [State.collective_begins hr ha hx accepted hu (handle ▸ hb) hk]⟩
  case starts => exact exec_reduceSlotDue_starts ans hx hi hs hb hw ((State.stepReady_iff b w).mpr hr)
  case late => exact exec_reduceSlotDue_late ans hx hi hs hb hw (State.stepReady_readout hw3 hr)

end Sys2Proof.Machine

/-! PROOFS. The movers' channels: how an entry is queued, how the head of a channel starts, the occurrences of MOVE slots and late starts, and
the statement about them. -/
namespace Sys2Proof.Machine

/-! ### MOVE and FILL (R609 to R612) -/

/-- The commands of the movers' entries, by opcode. -/
theorem exec_moverEntry {t ring op : Nat} {i : Instr} (s : State)
    (hi : (i = .move t ring ∧ op = 0x10) ∨ (i = .fill t ring ∧ op = 0x11)) : exec i s = .next (s.queueMove op t ring) := by
  obtain ⟨rfl, rfl⟩ | ⟨rfl, rfl⟩ := hi <;> rfl

/-- The descriptor of an entry whose local ranges are at hand. -/
def moveDescriptor (e : EntryRef) (t : Nat) (w : W512) (rs : List Realm) (expired : Bool) : Descriptor :=
  let n := if mvFill w then 0 else 1
  { ref := e, tenant := t, word := w, src := (rs.map Realm.place).getD 0 ⟨1, 0, 0⟩, dst := (rs.map Realm.place).getD n ⟨1, 0, 0⟩
    evt := (rs.map Realm.place).getD (n + 1) ⟨1, 0, 0⟩
    cross := match rs[n]? with | some r => r.crossPath (entRemote w) (entLength w) | none => false
    expired := expired }

/-- An entry runs, and its descriptor joins the queue of its channel. -/
def State.joinChannel (e : EntryRef) (t : Nat) (w : W512) (rs : List Realm) (s : State) : State :=
  (s.runEntry e).setChan (mvTower w) (mvChan w) { s.chan (mvTower w) (mvChan w) with
    queue := (s.chan (mvTower w) (mvChan w)).queue ++ [moveDescriptor e t w rs (s.entryExpired e)] }

/-- Without a ready entry of the opcode nothing changes. -/
theorem State.queueMove_notReady {s : State} {op t ring : Nat} (hr : s.readyEntry t ring op = none) : s.queueMove op t ring = s := by
  simp only [queueMove, hr]

section
variable {s : State} {op t ring : Nat} {e : EntryRef} {w : W512} (hr : s.readyEntry t ring op = some (e, w))
include hr

/-- On a channel, or after a channel, that the tenant does not own the entry fails. -/
theorem State.queueMove_denied
    (ho : s.ownsChan t (mvTower w) (mvChan w) = false ∨ (mvAfter w = true ∧ s.ownsChan t (mvTower w) (mvAfterCh w) = false)) :
    s.queueMove op t ring = s.failEntry e .accessDenied 0 := by
  have denied : (!s.ownsChan t (mvTower w) (mvChan w) || (mvAfter w && !s.ownsChan t (mvTower w) (mvAfterCh w))) = true := by
    obtain h | ⟨hafter, h⟩ := ho
    · rw [h, Bool.not_false, Bool.true_or]
    · rw [hafter, h, Bool.not_false, Bool.and_self, Bool.or_true]
  simp only [queueMove, hr, denied, if_true]

variable (hc : s.ownsChan t (mvTower w) (mvChan w) = true) (ha : mvAfter w = false ∨ s.ownsChan t (mvTower w) (mvAfterCh w) = true)
include hc ha

/-- On its own channels an entry stays while the queue is full; else its local ranges decide. -/
theorem State.queueMove_owned :
    s.queueMove op t ring = if 32 ≤ (s.chan (mvTower w) (mvChan w)).queue.length then s
      else s.withNeeds t e (moveNeeds w) (State.joinChannel e t w) := by
  have owned : (!s.ownsChan t (mvTower w) (mvChan w) || (mvAfter w && !s.ownsChan t (mvTower w) (mvAfterCh w))) = false := by
    obtain h | h := ha <;> simp [hc, h]
  simp only [queueMove, hr, owned, Bool.false_eq_true, if_false]
  rfl

/-- With 32 descriptors queued the entry stays. -/
theorem State.queueMove_full (hl : 32 ≤ (s.chan (mvTower w) (mvChan w)).queue.length) : s.queueMove op t ring = s := by
  rw [queueMove_owned hr hc ha, if_pos hl]

/-- With room in the queue its local ranges decide. -/
theorem State.queueMove_room (hl : (s.chan (mvTower w) (mvChan w)).queue.length < 32) :
    s.queueMove op t ring = s.withNeeds t e (moveNeeds w) (State.joinChannel e t w) := by
  rw [queueMove_owned hr hc ha, if_neg (Nat.not_le.mpr hl)]

end

/-! ### The head of a channel (R611, R613 to R615; log 83) -/

/-- A change of the head of a channel whose queue is known. -/
theorem State.modifyHead_cons {s : State} {k c : Nat} {d : Descriptor} {q : List Descriptor} (hq : (s.chan k c).queue = d :: q)
    (f : Descriptor → Descriptor) : s.modifyHead k c f = s.setChan k c { s.chan k c with queue := f d :: q } := by
  simp only [modifyHead, hq]

/-- Nothing holds back a head whose trigger and whose slot have come. -/
theorem State.head_unheld {s : State} {k c : Nat} {d : Descriptor} (ht : s.triggerWaits d = false)
    (hb : s.boundChan k c = false ∨ d.slotOk = true) : (s.triggerWaits d || (s.boundChan k c && !d.slotOk)) = false := by
  obtain h | h := hb <;> simp [ht, h]

/-- On a channel with an empty queue nothing starts. -/
theorem exec_descriptorStart_empty {s : State} {k c : Nat} (hq : (s.chan k c).queue = []) : exec (.descriptorStart k c) s = .next s := by
  simp only [exec, execDescriptorStart, hq]

section
variable {s : State} {k c : Nat} {d : Descriptor} {q : List Descriptor} (hq : (s.chan k c).queue = d :: q)
include hq

/-- A head that is started already stays. -/
theorem exec_descriptorStart_started (hp : d.phase ≠ .queued) : exec (.descriptorStart k c) s = .next s := by
  simp only [exec, execDescriptorStart, hq, hp, ne_eq, not_false_eq_true, if_true]

variable (hp : d.phase = .queued)
include hp

/-- A head whose trigger had expired ends. -/
theorem exec_descriptorStart_expired (hx : d.expired = true) :
    exec (.descriptorStart k c) s = .next (s.popHead k c (fun d s => s.failEntry d.ref .scheduleMiss 0)) := by
  simp only [exec, execDescriptorStart, hq, hp, hx, ne_eq, not_true_eq_false, if_false, if_true]

variable (hx : d.expired = false)
include hx

section
variable (ha : s.afterReached k d.word = false)
include ha

/-- A head that has begun to wait for its AFTER count goes on waiting. -/
theorem exec_descriptorStart_waits (hw : d.waited = true) : exec (.descriptorStart k c) s = .next s := by
  simp only [exec, execDescriptorStart, hq, hp, hx, ha, hw, ne_eq, not_true_eq_false, Bool.false_eq_true, Bool.not_false, if_false, if_true]

/-- As a head begins to wait for its AFTER count, a loop is searched, and a head in one ends. -/
theorem exec_descriptorStart_searches {b : State} (hw : d.waited = false)
    (hb : b = s.setChan k c { s.chan k c with queue := { d with waited := true } :: q }) :
    exec (.descriptorStart k c) s = if b.afterLoop k c 16 c then
        .next (((b.bump d16_0103 k).bump d4_0102 d.tenant).popHead k c (fun d s =>
          s.failEntry d.ref .malformed (d.ref.pos + 256 * 37)))
      else .next b := by
  simp only [exec, execDescriptorStart, hq, hp, hx, ha, hw, hb, State.modifyHead_cons hq, ne_eq, not_true_eq_false, Bool.false_eq_true,
    Bool.not_false, if_false, if_true]

end

variable (ha : s.afterReached k d.word = true)
include ha

/-- A head whose trigger or whose slot has not come waits. -/
theorem exec_descriptorStart_held (hw : s.triggerWaits d = true ∨ (s.boundChan k c = true ∧ d.slotOk = false)) :
    exec (.descriptorStart k c) s = .next s := by
  have held : (s.triggerWaits d || (s.boundChan k c && !d.slotOk)) = true := by
    obtain h | ⟨hbound, h⟩ := hw
    · rw [h, Bool.true_or]
    · rw [hbound, h, Bool.not_false, Bool.and_self, Bool.or_true]
  simp only [exec, execDescriptorStart, hq, hp, hx, ha, held, ne_eq, not_true_eq_false, Bool.false_eq_true, Bool.not_true, if_false, if_true]

variable (hu : (s.triggerWaits d || (s.boundChan k c && !d.slotOk)) = false)
include hu

/-- A head of length 0 completes. -/
theorem exec_descriptorStart_completes (hl : entLength d.word = 0) :
    exec (.descriptorStart k c) s = .next (s.popHead k c (fun d s => s.endEntry d.ref)) := by
  simp only [exec, execDescriptorStart, hq, hp, hx, ha, hu, hl, ne_eq, not_true_eq_false, Bool.false_eq_true, Bool.not_true, if_false, if_true]

variable (hl : entLength d.word ≠ 0)
include hl

/-- A refused local range ends the head with its status. -/
theorem exec_descriptorStart_refused {r : Nat} (hn : s.checkNeeds d.tenant (moveNeeds d.word) = .fail r) :
    exec (.descriptorStart k c) s =
      .next ((s.countLocalRefused d.tenant).popHead k c (fun d s => s.failEntry d.ref (localStatus r) (r + 256))) := by
  simp only [exec, execDescriptorStart, hq, hp, hx, ha, hu, hl, hn, ne_eq, not_true_eq_false, Bool.false_eq_true, Bool.not_true, if_false]

section
variable {rs : List Realm} (hn : s.checkNeeds d.tenant (moveNeeds d.word) = .ok rs)
include hn

/-- In a closed domain the head ends. -/
theorem exec_descriptorStart_shut (hs : s.needsShut (moveNeeds d.word) rs = true ∨ s.domShut (domTower k) = true) :
    exec (.descriptorStart k c) s = .next (s.popHead k c (fun d s => s.failEntry d.ref .poweredDown 0)) := by
  simp only [exec, execDescriptorStart, hq, hp, hx, ha, hu, hl, hn, Bool.or_eq_true, hs, ne_eq, not_true_eq_false, Bool.false_eq_true,
    Bool.not_true, if_false, if_true]

/-- Otherwise the head runs. -/
theorem exec_descriptorStart_runs (hs : s.needsShut (moveNeeds d.word) rs = false) (ho : s.domShut (domTower k) = false) :
    exec (.descriptorStart k c) s = .next (s.setChan k c { s.chan k c with queue := { d with phase := .running } :: q }) := by
  simp only [exec, execDescriptorStart, hq, hp, hx, ha, hu, hl, hn, hs, ho, State.modifyHead_cons hq, Bool.or_self, ne_eq,
    not_true_eq_false, Bool.false_eq_true, Bool.not_true, if_false]

end

end

/-! ### The occurrences of MOVE slots (R311, R314, R319, R320, R322) -/

section
variable {tower entry : Nat} {s : State}

/-- Without a MOVE slot nothing changes. -/
theorem exec_moveSlotDue_noSlot (hx : s.stepSlot .move tower entry = none) : exec (.moveSlotDue tower entry) s = .next s := by
  simp only [exec, execMoveSlotDue, hx]

variable {x : Slot} (hx : s.stepSlot .move tower entry = some x)
include hx

/-- Before an occurrence, or after it has been taken, nothing changes. -/
theorem exec_moveSlotDue_notDue (hi : s.takeInstance tower entry x = none) : exec (.moveSlotDue tower entry) s = .next s := by
  simp only [exec, execMoveSlotDue, hx, hi]

variable {due : Nat} {a : State} (hi : s.takeInstance tower entry x = some (due, a))
include hi

/-- Outside a schedule the occurrence is skipped. -/
theorem exec_moveSlotDue_skipped (hs : a.scheduled = false) :
    exec (.moveSlotDue tower entry) s = .next ((a.count d7_0103 tower 1).setRo d7_0108 tower due) := by
  simp only [exec, execMoveSlotDue, hx, hi, hs, Bool.not_false, if_true, State.countSkipped_one]

variable (hs : a.scheduled = true) {b : State} (hb : b = a.bump d7_0100 tower)
include hs hb

/-- The oldest descriptor that waits is released. -/
theorem exec_moveSlotDue_releases {c : Channel} (hc : (b.chan tower x.target).release = some c) :
    exec (.moveSlotDue tower entry) s = .next (b.setChan tower x.target c) := by
  rw [hb] at hc
  simp only [exec, execMoveSlotDue, hx, hi, hs, hc, hb, Bool.not_true, Bool.false_eq_true, if_false]

variable (hc : (b.chan tower x.target).release = none) {waits : Bool}
  (hw : waits = b.entryWaits (fun w => (entOpcode w = 0x10 || entOpcode w = 0x11) && mvTower w = tower && mvChan w = x.target))
include hc hw

/-- With no descriptor that waits, an entry that is not yet queued is late; without one the occurrence is empty. -/
theorem exec_moveSlotDue_unreleased :
    exec (.moveSlotDue tower entry) s = if waits then .next (b.noteLate (1048576 + 16 * tower + x.target) due)
      else .next (b.emptyStep tower x due (cgTenant (b.dict.active.chanGrant tower x.target))) := by
  rw [hb] at hc
  simp only [exec, execMoveSlotDue, hx, hi, hs, hc, hw, hb, Bool.not_true, Bool.false_eq_true, if_false]

end

/-! ### Late starts (R320) -/

section
variable {target : Nat} {s : State} (ans : MemAns)

/-- Without a late occurrence of the channel no descriptor is released. -/
theorem exec_stepLateStart_noMove (hl : tgetD s.spire.lateSteps (1048576 + target) [] = []) :
    exec (.stepLateStart true target ans) s = .next s := by
  simp only [exec, execStepLateStart, hl, if_true]

/-- Without a late occurrence of the handle no step starts. -/
theorem exec_stepLateStart_noStep (hl : tgetD s.spire.lateSteps target [] = []) : exec (.stepLateStart false target ans) s = .next s := by
  simp only [exec, execStepLateStart, Bool.false_eq_true, if_false, hl]

/-- A late descriptor is released, and completes with SCHEDULE_MISS. -/
theorem exec_stepLateStart_releases {due : Nat} {l : List Nat} {c : Channel} {d : Descriptor}
    (hl : tgetD s.spire.lateSteps (1048576 + target) [] = due :: l) (hc : (s.chan (target / 16) (target % 16)).release = some c)
    (hd : (s.chan (target / 16) (target % 16)).waiter = some d) :
    exec (.stepLateStart true target ans) s =
      .next ((((s.useLate (1048576 + target)).setChan (target / 16) (target % 16) c).noteFail d.ref .scheduleMiss
        (s.roundOf due % 4294967296)).bump d7_0105 (target / 16)) := by
  simp only [exec, execStepLateStart, if_true, hl, hc, hd]

section
variable {due : Nat} {l : List Nat} (hl : tgetD s.spire.lateSteps target [] = due :: l)
include hl

/-- A late occurrence without a step that waits stays. -/
theorem exec_stepLateStart_noWork (hw : s.boundSteps target = []) : exec (.stepLateStart false target ans) s = .next s := by
  simp only [exec, execStepLateStart, Bool.false_eq_true, if_false, hl, hw]

variable {w : AccWork} {ws : List AccWork} (hw : s.boundSteps target = w :: ws)
include hw

/-- The oldest step that waits starts late when it is ready, and completes with SCHEDULE_MISS. -/
theorem exec_stepLateStart_starts (hr : s.stepReady w = true) : exec (.stepLateStart false target ans) s =
    .next ((((s.useLate target).noteFail w.ref .scheduleMiss (s.roundOf due % 4294967296)).bump d7_0105 w.tower).startBound w ans) := by
  simp only [exec, execStepLateStart, Bool.false_eq_true, if_false, hl, hw, hr, if_true]

/-- A step that is not ready goes on waiting. -/
theorem exec_stepLateStart_notReady (hr : s.stepReady w = false) : exec (.stepLateStart false target ans) s = .next s := by
  simp only [exec, execStepLateStart, Bool.false_eq_true, if_false, hl, hw, hr]

end

end

/-! ### The statement -/

/-- Settles O54, by the lemmas of the queueing of an entry, of the head of a channel, of the occurrences of MOVE slots and of late starts; that a
loop of AFTER is searched once, when the head first waits, and that with 32 descriptors queued an entry stays unstarted, are the model's
choices (log entries 46 and 83). -/
theorem moverQueue : Obligations.MoverQueue := by
  unfold Obligations.MoverQueue
  refine ⟨fun t ring op s i hi => ?entries, fun k c s => ⟨exec_descriptorStart_empty, fun d q hq => ⟨exec_descriptorStart_started hq,
      exec_descriptorStart_expired hq, fun hp hx ha => ⟨exec_descriptorStart_waits hq hp hx ha, fun b hw hb => ?search⟩,
      exec_descriptorStart_held hq, fun hp hx ha ht hs => ?unheld⟩⟩,
    fun tower entry s => ⟨exec_moveSlotDue_noSlot, fun x => exec_moveSlotDue_notDue, fun x due a b hx hi =>
      ⟨exec_moveSlotDue_skipped hx hi, fun hs hb => ⟨fun c => exec_moveSlotDue_releases hx hi hs hb, fun waits hc hw => ?unreleased⟩⟩⟩,
    fun target due l ans s => ⟨exec_stepLateStart_noMove ans, exec_stepLateStart_noStep ans, fun c d => exec_stepLateStart_releases ans,
      exec_stepLateStart_noWork ans, fun w ws hl hw => ⟨fun hr => ?ready, fun hw3 hr => ?notReady⟩⟩⟩
  case entries =>
    rw [exec_moverEntry s hi]
    refine ⟨fun hr => by rw [State.queueMove_notReady hr], ?_⟩
    rintro e w _ _ hr rfl rfl
    refine ⟨fun ho => by rw [State.queueMove_denied hr ho], fun hc ha => ⟨fun hl => by rw [State.queueMove_full hr hc ha hl], fun hl => ?_⟩⟩
    rw [State.queueMove_room hr hc ha hl]
    refine ⟨fun r hn => by rw [State.withNeeds_fail hn], fun x g hn => by rw [State.withNeeds_translate hn],
      fun rs hn hs => by rw [State.withNeeds_shut hn hs], ?_⟩
    rintro rs _ _ hn hs hm rfl rfl
    rw [State.withNeeds_ok hn hs (.inl hm)]
    rfl
  case search =>
    rw [exec_descriptorStart_searches hq hp hx ha hw hb]
    exact ⟨fun h => by rw [h, if_neg Bool.false_ne_true], fun h => if_pos h⟩
  case unheld =>
    have unheld := State.head_unheld ht hs
    exact ⟨exec_descriptorStart_completes hq hp hx ha unheld, fun hl => ⟨fun r => exec_descriptorStart_refused hq hp hx ha unheld hl,
      fun rs hn => ⟨exec_descriptorStart_shut hq hp hx ha unheld hl hn, exec_descriptorStart_runs hq hp hx ha unheld hl hn⟩⟩⟩
  case unreleased =>
    rw [exec_moveSlotDue_unreleased hx hi hs hb hc hw]
    exact ⟨fun h => if_pos h, fun h => by rw [h, if_neg Bool.false_ne_true, State.emptyStep]⟩
  case ready => exact exec_stepLateStart_starts ans hl hw ((State.stepReady_iff s w).mpr hr)
  case notReady => exact exec_stepLateStart_notReady ans hl hw (State.stepReady_readout hw3 hr)

end Sys2Proof.Machine

/-! PROOFS. Transit packets on their way to an egress, the residence limit, credit blocks, route-down notices and the path-down table, and
the statement about them. -/
namespace Sys2Proof.Machine

/-! ### From the port to the route tables (R363, R375; log 19) -/

/-- The ingress place of an arrived packet is free again. -/
def State.freeArrival (rx : Rx) (s : State) : State := s.freeIngress rx.port (hdrVc rx.pkt) rx.cls rx.pkt.len

section
variable {rx : Rx} {check : Nat} {s : State}

/-- A packet for this adapter is left to its own command. -/
theorem exec_transitRx_mine (hm : s.isMine rx.pkt = true) (hi : s.hasId = true) : exec (.transitRx rx check) s = .next s :=
  if_pos ⟨hm, hi⟩

variable (hp : s.isMine rx.pkt = false ∨ s.hasId = false)
include hp

theorem State.not_mine_of_passing : ¬ (s.isMine rx.pkt = true ∧ s.hasId = true) := by
  rintro ⟨hm, hi⟩
  obtain h | h := hp
  · exact Bool.false_ne_true (h.symm.trans hm)
  · exact Bool.false_ne_true (h.symm.trans hi)

/-- An expired transit packet is counted and discarded. -/
theorem exec_transitRx_expired (hx : s.tagExpired rx.pkt = true) :
    exec (.transitRx rx check) s = .next ((s.bump d6_0103 (portTower rx.port)).freeArrival rx) :=
  (if_neg (State.not_mine_of_passing hp)).trans (if_pos hx)

variable (hx : s.tagExpired rx.pkt = false) {a : State}
include hx

/-- A packet of an unknown route generation is discarded. -/
theorem exec_transitRx_unknownGen (hr : s.routeTables (portTower rx.port) (hdrGen rx.pkt) = (a, none)) :
    exec (.transitRx rx check) s = .next (a.freeArrival rx) := by
  simp only [exec, execTransitRx, if_neg (State.not_mine_of_passing hp), hx, Bool.false_eq_true, if_false, hr, State.freeArrival]

/-- Any other packet is forwarded under the tables that its generation names. -/
theorem exec_transitRx_routed {set : ParamSet} (hr : s.routeTables (portTower rx.port) (hdrGen rx.pkt) = (a, some set)) :
    exec (.transitRx rx check) s = .next (a.transit rx set check) := by
  simp only [exec, execTransitRx, if_neg (State.not_mine_of_passing hp), hx, Bool.false_eq_true, if_false, hr]

end

/-! ### To the egress (R366, R370, R376, R380, R382, R387; log 66) -/

/-- The class in which a transit packet leaves: one more where its egress crosses the dateline, up to the last of the egress. -/
def State.transitClass (rx : Rx) (e : PortEntry) (a : State) : Nat :=
  if e.dateline then min (rx.cls + 1) (a.par d9_0020 e.port - 1) else rx.cls

/-- A transit packet as it waits at its egress, with one hop more. -/
def State.transitItem (rx : Rx) (e : PortEntry) (check : Nat) (a : State) : EgressItem :=
  { pkt := { rx.pkt with hdr := putField 20 4 (hdrHops rx.pkt + 1) rx.pkt.hdr }, ready := true, tenant := 2048, owner := none
    encap := if (a.port e.port).modeCode = 0x10 then 0 else if rx.outer.length < 40 then 1 else 2
    outer := if (a.port e.port).modeCode = 0x10 then [] else rx.outer
    cls := classOf (hdrVc rx.pkt) (a.transitClass rx e), len := rx.pkt.len, entered := a.now, arrived := a.now
    ingress := some (rx.port, hdrVc rx.pkt, classOf (hdrVc rx.pkt) rx.cls), bad := check = 2 }

section
variable {rx : Rx} {e : PortEntry} {check : Nat} {a : State}

/-- A packet that fails its link check before it starts is not queued. -/
theorem State.forwardTo_failed (hc : check = 1) : a.forwardTo rx e check = (a.bump d9_0107 (portTower rx.port), false) :=
  if_pos hc

variable (hc : check ≠ 1)
include hc

/-- A packet that finds its Ethernet egress full is not queued. -/
theorem State.forwardTo_full (hm : (a.port e.port).modeCode ≠ 0x10)
    (hb : a.par d9_0024 e.port < (a.port e.port).transitBytes (hdrVc rx.pkt) + rx.pkt.len) :
    a.forwardTo rx e check = (a.bump d9_0108 (portTower e.port), false) := by
  have full : (!decide ((a.port e.port).modeCode = 0x10) &&
      decide ((a.port e.port).transitBytes (hdrVc rx.pkt) + rx.pkt.len > a.par d9_0024 e.port)) = true := by
    rw [decide_eq_false hm, decide_eq_true hb]
    rfl
  exact (if_neg hc).trans (if_pos full)

/-- Any other packet is queued, and holds its ingress place. -/
theorem State.forwardTo_queued (hr : (a.port e.port).modeCode = 0x10 ∨
      (a.port e.port).transitBytes (hdrVc rx.pkt) + rx.pkt.len ≤ a.par d9_0024 e.port) :
    a.forwardTo rx e check =
      ((a.holdIngress rx.port (hdrVc rx.pkt) rx.pkt.len).enqueue e.port (hdrVc rx.pkt) (a.transitItem rx e check), true) := by
  have room : ¬ (!decide ((a.port e.port).modeCode = 0x10) &&
      decide ((a.port e.port).transitBytes (hdrVc rx.pkt) + rx.pkt.len > a.par d9_0024 e.port)) = true := by
    obtain hm | hb := hr
    · rw [decide_eq_true hm, Bool.not_true, Bool.false_and]
      exact Bool.false_ne_true
    · rw [decide_eq_false (Nat.not_lt.mpr hb), Bool.and_false]
      exact Bool.false_ne_true
  refine (if_neg hc).trans ((if_neg room).trans ?_)
  simp only [State.transitItem, State.transitClass]

end

section
variable {rx : Rx} {set : ParamSet} {check : Nat} {a : State}

/-- Without forwarding, an id or a route a packet is counted and discarded. -/
theorem State.transit_noRoute
    (h : a.par d9_0000 0 = 0 ∨ a.hasId = false ∨ set.fwdChoice (hdrDstAdapter rx.pkt) (hdrPath rx.pkt) = none) :
    a.transit rx set check = (a.bump d9_0105 (portTower rx.port)).freeArrival rx := by
  by_cases off : a.par d9_0000 0 = 0 ∨ (!a.hasId) = true
  · exact if_pos off
  · have noRoute : set.fwdChoice (hdrDstAdapter rx.pkt) (hdrPath rx.pkt) = none := by
      obtain h | h | h := h
      · exact absurd (.inl h) off
      · exact absurd (.inr (by rw [h, Bool.not_false])) off
      · exact h
    simp only [State.transit, if_neg off, noRoute, State.freeArrival]

variable {e : PortEntry} (hon : a.par d9_0000 0 ≠ 0) (hid : a.hasId = true)
  (he : set.fwdChoice (hdrDstAdapter rx.pkt) (hdrPath rx.pkt) = some e)
include hon hid he

/-- What becomes of a packet that has a route: its hops are checked, then its egress. -/
theorem State.transit_routed :
    a.transit rx set check =
      if a.par d9_0003 0 ≤ hdrHops rx.pkt then (a.bump d9_0103 (portTower rx.port)).freeArrival rx
      else if (e.down || !a.carries e.port) = true then
        ((a.bump d9_0106 (portTower rx.port)).notice rx.pkt (a.downCause e)).freeArrival rx
      else if (a.forwardTo rx e check).2 then (a.forwardTo rx e check).1
      else (a.forwardTo rx e check).1.freeArrival rx := by
  have forwards : ¬ (a.par d9_0000 0 = 0 ∨ (!a.hasId) = true) := by
    rw [hid]
    exact not_or.mpr ⟨hon, Bool.false_ne_true⟩
  simp only [State.transit, if_neg forwards, he, ge_iff_le, State.freeArrival]

/-- A packet that made all its hops is counted and discarded. -/
theorem State.transit_hopLimit (hh : a.par d9_0003 0 ≤ hdrHops rx.pkt) :
    a.transit rx set check = (a.bump d9_0103 (portTower rx.port)).freeArrival rx :=
  (State.transit_routed hon hid he).trans (if_pos hh)

variable (hh : hdrHops rx.pkt < a.par d9_0003 0)
include hh

/-- A packet whose egress is out of service is counted and discarded, with a notice to its source. -/
theorem State.transit_egressDown (hd : e.down = true ∨ a.carries e.port = false) :
    a.transit rx set check = ((a.bump d9_0106 (portTower rx.port)).notice rx.pkt (a.downCause e)).freeArrival rx := by
  have down : (e.down || !a.carries e.port) = true := by
    obtain hd | hd := hd <;> simp only [hd, Bool.true_or, Bool.not_false, Bool.or_true]
  rw [State.transit_routed hon hid he, if_neg (Nat.not_le.mpr hh), if_pos down]

variable (hd : e.down = false) (hc : a.carries e.port = true)
include hd hc

/-- Any other packet goes to its egress, and leaves its ingress place where it is not queued there. -/
theorem State.transit_forwards :
    a.transit rx set check =
      if (a.forwardTo rx e check).2 then (a.forwardTo rx e check).1 else (a.forwardTo rx e check).1.freeArrival rx := by
  have up : ¬ (e.down || !a.carries e.port) = true := by
    rw [hd, hc]
    exact Bool.false_ne_true
  rw [State.transit_routed hon hid he, if_neg (Nat.not_le.mpr hh), if_neg up]

/-- What its egress refuses is discarded. -/
theorem State.transit_refused {b : State} (hf : a.forwardTo rx e check = (b, false)) : a.transit rx set check = b.freeArrival rx := by
  rw [State.transit_forwards hon hid he hh hd hc, hf, if_neg Bool.false_ne_true]

/-- What its egress takes waits there. -/
theorem State.transit_queued {b : State} (hf : a.forwardTo rx e check = (b, true)) : a.transit rx set check = b := by
  rw [State.transit_forwards hon hid he hh hd hc, hf, if_pos rfl]

end

/-! ### Residence and credits (R378, R379, R384, R529) -/

section
variable {port : Nat} {s : State}

/-- The head of a transit queue that outlived D9.0004 is discarded and counted, and frees its ingress place. -/
theorem exec_transitResidenceExpire_due {vc n v c : Nat} {i : EgressItem} {rest : List EgressItem}
    (hq : (s.port port).transitQueue vc = i :: rest) (hi : i.ingress = some (n, v, c)) (hd : i.arrived + s.par d9_0004 0 < s.now) :
    exec (.transitResidenceExpire port vc) s =
      .next (((s.setPort port ((s.port port).setQueue vc 2048 rest)).freeIngress n v c i.len).bump d9_0104 (portTower port)) := by
  simp only [exec, execTransitResidenceExpire, hq, hi, if_pos hd]

/-- A credit block that is due is sent with the freed counts, which are the sent ones from now on. -/
theorem exec_creditBlockSend_due (hu : s.fabricUp port = true)
    (hd : (s.port port).creditSent + s.par d9_0022 port ≤ s.now ∨ s.quarterFreed port = true) :
    exec (.creditBlockSend port) s =
      .next ((s.emit (.block port 4 (creditBlock 4 0 (fun vc j => tgetD (s.port port).freed (vcKey vc j) 0)))).setPort port
        { s.port port with creditSent := s.now, freedSent := (s.port port).freed }) :=
  if_pos ⟨hu, hd⟩

variable {block : Bytes}

theorem exec_creditRx_credit (hu : s.fabricUp port = true) (hb : leAt 0 1 block = 4) :
    exec (.creditRx port block) s = .next (s.setPort port { s.port port with peerFreed := blockCounts block }) :=
  if_pos ⟨hu, hb⟩

theorem exec_advertRx_advert (hm : (s.port port).mode = .train ∨ (s.port port).mode = .up) (hb : leAt 0 1 block = 5) :
    exec (.advertRx port block) s = .next (s.setPort port { s.port port with
      limit := blockCounts block, peerK := leAt 1 1 block, consumed := [], peerFreed := [], advertised := true }) :=
  if_pos ⟨hm, hb⟩

end

/-! ### Where a datagram goes (R687 to R689) -/

section
variable {rx : Rx} {f : State → State} {s : State}

/-- An expired datagram, and one for no adapter, is counted and discarded. -/
theorem State.takeDatagram_discarded (h : s.tagExpired rx.pkt = true ∨ hdrDstAdapter rx.pkt = 0xFFFF) :
    s.takeDatagram rx f = (s.bump d19_0107 0).freeIngress rx.port 5 0 rx.pkt.len := by
  rw [State.takeDatagram]
  by_cases hx : s.tagExpired rx.pkt = true
  · exact if_pos hx
  · exact (if_neg hx).trans (if_pos (h.resolve_left hx))

variable (hx : s.tagExpired rx.pkt = false) (hn : hdrDstAdapter rx.pkt ≠ 0xFFFF)
include hx hn

/-- A datagram for this adapter leaves its ingress place and is handled here. -/
theorem State.takeDatagram_mine (hm : s.isMine rx.pkt = true) :
    s.takeDatagram rx f = f (s.freeIngress rx.port 5 0 rx.pkt.len) := by
  simp only [State.takeDatagram, hx, Bool.false_eq_true, if_false, if_neg hn, hm, if_true]

variable (hm : s.isMine rx.pkt = false) {a : State}
include hm

/-- A passing datagram of an unknown route generation is discarded. -/
theorem State.takeDatagram_unknownGen (hr : s.routeTables (portTower rx.port) (hdrGen rx.pkt) = (a, none)) :
    s.takeDatagram rx f = a.freeIngress rx.port 5 0 rx.pkt.len := by
  simp only [State.takeDatagram, hx, Bool.false_eq_true, if_false, if_neg hn, hm, hr]

/-- Any other passing datagram is forwarded. -/
theorem State.takeDatagram_routed {set : ParamSet} (hr : s.routeTables (portTower rx.port) (hdrGen rx.pkt) = (a, some set)) :
    s.takeDatagram rx f = a.transit rx set 0 := by
  simp only [State.takeDatagram, hx, Bool.false_eq_true, if_false, if_neg hn, hm, hr]

end

/-! ### Route-down notices (R388 to R390) -/

section
variable {p : Packet} {a : State}

/-- A notice that does not open changes what its opening changes. -/
theorem State.takeNotice_unopened {b : State} (ho : a.openDatagram p = .error b) : a.takeNotice p = b := by
  simp only [State.takeNotice, ho]

variable {h body : Bytes} (ho : a.openDatagram p = .ok (h, body))
include ho

/-- A notice of another route generation is counted. -/
theorem State.takeNotice_otherGen (hg : leAt 5 1 body % 16 ≠ a.par d9_0001 0) : a.takeNotice p = a.bump d9_0115 0 := by
  simp only [State.takeNotice, ho, if_pos hg]

/-- A notice of the present generation is counted and enters the path-down table, and the path's copies are lost. -/
theorem State.takeNotice_entered {b : State} (hg : leAt 5 1 body % 16 = a.par d9_0001 0)
    (hb : b = (a.enterPathDown (leAt 2 2 body * 64 + leAt 4 1 body % 64)).bump d9_0114 0) :
    a.takeNotice p = (b.pathUsers (leAt 2 2 body) (leAt 4 1 body % 64)).foldl
      (fun s e => s.setConn e.1 (e.2.losePathCopies s.now (leAt 4 1 body % 64))) b := by
  simp only [State.takeNotice, ho, if_neg (not_not_intro hg), ← hb]

end

/-! ### The path-down table and the drain (R374, R391) -/

/-- An expired entry leaves the path-down table, and its path is reset. -/
theorem exec_pathDownExpire_due {d p t : Nat} {s : State} (ht : tget (d * 64 + p) s.fwd.pathDown = some t) (hd : t ≤ s.now) :
    exec (.pathDownExpire d p) s =
      .next (({ s with fwd := { s.fwd with pathDown := terase (d * 64 + p) s.fwd.pathDown } } : State).resetPath d p) := by
  simp only [exec, execPathDownExpire, ht, if_pos hd]

theorem exec_drainEnd_due {s : State} (hp : s.fwd.previous ≠ none) (hd : s.fwd.lastChange + s.par d9_0002 0 ≤ s.now) :
    exec .drainEnd s = .next { s with fwd := { s.fwd with previous := none } } :=
  if_pos ⟨Option.isSome_iff_ne_none.mpr hp, hd⟩

/-! ### The statement -/

/-- Settles O41, by the lemmas of a packet's way to its route tables and to its egress, of residence and credits, of a datagram's ways and
of a notice; that the expired tag of a transit packet is counted in D6.0103, and that a passing packet's link check has three values and its
ingress place is held until it starts to leave, are the model's choices (log entries 19 and 66). -/
theorem forwardingAndCredits : Obligations.ForwardingAndCredits := by
  unfold Obligations.ForwardingAndCredits
  refine ⟨fun rx check k s hk => ⟨exec_transitRx_mine, fun hp => ?transit⟩,
    fun port s => ⟨fun vc i rest n v c => exec_transitResidenceExpire_due, exec_creditBlockSend_due, fun block => exec_creditRx_credit,
      fun block => exec_advertRx_advert⟩,
    fun rx s => ⟨fun h => congrArg _ (State.takeDatagram_discarded h), fun a hx hn hm ha => ?notice, fun a hx hn hm =>
      ⟨fun hr => congrArg _ (State.takeDatagram_unknownGen hx hn hm hr),
        fun set hr => congrArg _ (State.takeDatagram_routed hx hn hm hr)⟩⟩,
    fun s => ⟨fun d p t => exec_pathDownExpire_due, exec_drainEnd_due⟩⟩
  case transit =>
    subst hk
    refine ⟨exec_transitRx_expired hp, fun a hx => exec_transitRx_unknownGen hp hx, fun a set hx hr => ?_⟩
    rw [exec_transitRx_routed hp hx hr]
    refine ⟨fun h => congrArg _ (State.transit_noRoute h), fun e hon hid he =>
      ⟨fun hh => congrArg _ (State.transit_hopLimit hon hid he hh),
      fun hh hd => congrArg _ (State.transit_egressDown hon hid he hh hd), fun hh hd hc =>
        ⟨fun h => congrArg _ (State.transit_refused hon hid he hh hd hc (State.forwardTo_failed h)),
          fun h hm hb => congrArg _ (State.transit_refused hon hid he hh hd hc (State.forwardTo_full h hm hb)), ?_⟩⟩⟩
    rintro cls item h hroom rfl rfl
    exact congrArg _ (State.transit_queued hon hid he hh hd hc (State.forwardTo_queued h hroom))
  case notice =>
    have handled : exec (.routeDownRx rx) s = .next (a.takeNotice rx.pkt) := by
      rw [ha, ← State.takeDatagram_mine (f := State.takeNotice rx.pkt) hx hn hm]
      rfl
    rw [handled]
    exact ⟨fun b ho => congrArg _ (State.takeNotice_unopened ho), fun h body ho =>
      ⟨fun hg => congrArg _ (State.takeNotice_otherGen ho hg), fun b hg hb => congrArg _ (State.takeNotice_entered ho hg hb)⟩⟩

end Sys2Proof.Machine

/-! PROOFS. DISPATCH of tokens and of weights, from the ready entry to what a started one keeps, and the statement about it. -/
namespace Sys2Proof.Machine

/-! ### What a DISPATCH works with (R451, R479) -/

/-- The place of an entry's local range number `i`. -/
abbrev placeAt (rs : List Realm) (i : Nat) : Place := (rs.map Realm.place).getD i ⟨1, 0, 0⟩

/-- Whether bytes of an entry's local range number `i` are reached on a second path. -/
abbrev crossAt (rs : List Realm) (i a n : Nat) : Bool := match rs[i]? with | some r => r.crossPath a n | none => false

/-- A DISPATCH that runs: its SPEC_ID is in use from now on. -/
def State.runDispatch (t : Nat) (e : EntryRef) (w : W512) (s : State) : State := (s.reuseSpec t w).runEntry e

section
variable {t ring : Nat} {e : EntryRef} {w : W512} {router rows ans : MemAns} {s : State}

/-- Without a ready DISPATCH neither command changes anything. -/
theorem exec_dispatch_notReady (hr : s.readyEntry t ring 0x30 = none) :
    exec (.dispatchTokens t ring router rows) s = .next s ∧ exec (.dispatchWeights t ring ans) s = .next s := by
  simp only [exec, execDispatchTokens, execDispatchWeights, hr, and_self]

end

/-! ### DISPATCH of tokens (R441, R450 to R458, R463) -/

/-- The DISPATCH that an entry of MODE 0 starts, before it takes slots. -/
def tokenDispatch (t : Nat) (e : EntryRef) (w : W512) (rs : List Realm) (desc : Bytes) : Dispatch :=
  { ref := e, tenant := t, desc := desc, round := dpRound w, tokens := dpTokens w, topk := dpTopk w
    tokenBase := dpTokenBase w, length := entLength w, rows := placeAt rs 0, rowAddr := entLocal w, key := entKey w
    recs := placeAt rs 3, recAddr := dpRecord w, spec := if entSpec w then some (dpSpecId w) else none }

/-- The choices `b` of a DISPATCH take their slots, and the rows are sent. -/
def State.sendChoices (d : Dispatch) (b : Bytes) (rows : MemAns) (s : State) : State × Dispatch :=
  let r := s.takeSlots d d.ref false (choices d.tokens d.topk b)
  r.1.sendRows d.ref { r.2.1 with contribs := r.2.2 } r.2.2 rows

/-- A DISPATCH is kept among those in progress, and its record entries are written. -/
def State.keepDispatch (q : State × Dispatch) : State :=
  ({ q.1 with experts := { q.1.experts with dispatches := q.1.experts.dispatches ++ [q.2] } } : State).putRecords q.2

/-- What becomes of a DISPATCH of MODE 0 whose local ranges `rs` may be used. -/
def State.startTokens (t : Nat) (e : EntryRef) (w : W512) (router rows : MemAns) (rs : List Realm) (s : State) : State :=
  match s.specRefused t e w with
  | some why => s.refuseSpec e why
  | none =>
    let a := s.runDispatch t e w
    let n := 8 * dpTokens w * dpTopk w
    match a.placeRead t (placeAt rs 1) (entRemote w) n router with
    | none => (a.readFailed t (placeAt rs 1) (entRemote w) n).failEntry e .busError 0
    | some b => State.keepDispatch (a.sendChoices (tokenDispatch t e w rs (a.expertDesc t)) b rows)

section
variable {t : Nat} {e : EntryRef} {w : W512} {router rows : MemAns} {rs : List Realm} {s : State}

/-- A speculative DISPATCH that may not begin is cancelled at once, with the reason. -/
theorem State.startTokens_refused {why : Nat} (hs : s.specRefused t e w = some why) :
    s.startTokens t e w router rows rs = s.refuseSpec e why := by
  simp only [startTokens, hs]

variable (hs : s.specRefused t e w = none) {a : State} (ha : a = s.runDispatch t e w)
include hs ha

/-- A failed read of the router output ends the entry with BUS_ERROR. -/
theorem State.startTokens_readFailed (hb : a.placeRead t (placeAt rs 1) (entRemote w) (8 * dpTokens w * dpTopk w) router = none) :
    s.startTokens t e w router rows rs =
      (a.readFailed t (placeAt rs 1) (entRemote w) (8 * dpTokens w * dpTopk w)).failEntry e .busError 0 := by
  subst ha
  simp only [startTokens, hs, hb]

/-- Else each choice of the router output takes a slot in order, the rows are sent and the DISPATCH is kept. -/
theorem State.startTokens_sends {b : Bytes}
    (hb : a.placeRead t (placeAt rs 1) (entRemote w) (8 * dpTokens w * dpTopk w) router = some b) :
    s.startTokens t e w router rows rs =
      State.keepDispatch (a.sendChoices (tokenDispatch t e w rs (a.expertDesc t)) b rows) := by
  subst ha
  simp only [startTokens, hs, hb]

end

section
variable {t ring : Nat} {e : EntryRef} {w : W512} {router rows : MemAns} {s : State} (hr : s.readyEntry t ring 0x30 = some (e, w))
include hr

/-- A DISPATCH of another MODE is left to its own command. -/
theorem exec_dispatchTokens_otherMode (hm : dpMode w ≠ 0) : exec (.dispatchTokens t ring router rows) s = .next s := by
  simp only [exec, execDispatchTokens, hr, if_pos hm]

variable (hm : dpMode w = 0)
include hm

/-- Without a VALID directory the entry fails with ACCESS_DENIED. -/
theorem exec_dispatchTokens_noDirectory (hv : edValid (s.expertDesc t) = false) :
    exec (.dispatchTokens t ring router rows) s = .next (s.failEntry e .accessDenied 0) := by
  simp only [exec, execDispatchTokens, hr, hm, hv, ne_eq, not_true_eq_false, if_false, Bool.not_false, if_true]

/-- With one its local ranges decide. -/
theorem exec_dispatchTokens_directory (hv : edValid (s.expertDesc t) = true) :
    exec (.dispatchTokens t ring router rows) s =
      .next (s.withNeeds t e (dispatchNeeds w) (State.startTokens t e w router rows)) := by
  simp only [exec, execDispatchTokens, hr, hm, hv, ne_eq, not_true_eq_false, if_false, Bool.not_true, Bool.false_eq_true]
  rfl

end

/-! ### DISPATCH of weights (R463, R477 to R480) -/

/-- The local ranges of a DISPATCH of MODE 1 into the stage `d`: the weights, the stage, its publication record. -/
def weightNeeds (w : W512) (d : Bytes) : List Need :=
  [⟨entKey w, 0, entLocal w, entLength w⟩, ⟨wsKey d, 1, wsBase d, entLength w⟩, ⟨wsKey d, 1, wsPub d, 16⟩]

/-- The prefetch that an entry of MODE 1 starts; `data` is what was read outside package memory. -/
def weightPrefetch (t : Nat) (e : EntryRef) (w : W512) (d : Bytes) (rs : List Realm) (data : Bytes) : Prefetch :=
  { ref := e, tenant := t, stage := dpStage w, expert := dpTokenBase w, length := entLength w, round := dpRound w
    src := placeAt rs 0, srcAddr := entLocal w, dst := placeAt rs 1, base := wsBase d, size := wsSize d, pub := wsPub d
    cross := crossAt rs 1 (wsBase d) (entLength w), pubCross := crossAt rs 2 (wsPub d) 16
    spec := if entSpec w then some (dpSpecId w) else none, data := data }

/-- The weights of a DISPATCH of MODE 1 that are read when it starts: none in package memory, all of them elsewhere. -/
def State.readWeights (t : Nat) (w : W512) (rs : List Realm) (ans : MemAns) (s : State) : Option Bytes :=
  if (placeAt rs 0).space = 1 then some [] else s.placeRead t (placeAt rs 0) (entLocal w) (entLength w) ans

/-- A prefetch is kept among those in progress, and its stage's record names no expert. -/
def State.keepPrefetch (p : Prefetch) (s : State) : State :=
  ({ s with experts := { s.experts with prefetches := s.experts.prefetches ++ [p] } } : State).writePub p 0xFFFFFFFF 1

/-- What becomes of a DISPATCH of MODE 1 into the stage `d` whose local ranges `rs` may be used. -/
def State.startWeights (t : Nat) (e : EntryRef) (w : W512) (d : Bytes) (ans : MemAns) (rs : List Realm) (s : State) : State :=
  match s.specRefused t e w with
  | some why => s.refuseSpec e why
  | none =>
    let a := s.runDispatch t e w
    match a.readWeights t w rs ans with
    | none => a.failEntry e .busError 0
    | some b => a.keepPrefetch (weightPrefetch t e w d rs b)

section
variable {t : Nat} {e : EntryRef} {w : W512} {d : Bytes} {ans : MemAns} {rs : List Realm} {s : State}

/-- A speculative DISPATCH that may not begin is cancelled at once, with the reason. -/
theorem State.startWeights_refused {why : Nat} (hs : s.specRefused t e w = some why) :
    s.startWeights t e w d ans rs = s.refuseSpec e why := by
  simp only [startWeights, hs]

variable (hs : s.specRefused t e w = none) {a : State} (ha : a = s.runDispatch t e w)
include hs ha

/-- A failed read of the weights ends the entry with BUS_ERROR. -/
theorem State.startWeights_readFailed (hb : a.readWeights t w rs ans = none) :
    s.startWeights t e w d ans rs = a.failEntry e .busError 0 := by
  subst ha
  simp only [startWeights, hs, hb]

/-- Else the prefetch is kept with what was read. -/
theorem State.startWeights_keeps {b : Bytes} (hb : a.readWeights t w rs ans = some b) :
    s.startWeights t e w d ans rs = a.keepPrefetch (weightPrefetch t e w d rs b) := by
  subst ha
  simp only [startWeights, hs, hb]

end

section
variable {t ring : Nat} {e : EntryRef} {w : W512} {ans : MemAns} {s : State} (hr : s.readyEntry t ring 0x30 = some (e, w))
include hr

/-- A DISPATCH of another MODE is left to its own command. -/
theorem exec_dispatchWeights_otherMode (hm : dpMode w ≠ 1) : exec (.dispatchWeights t ring ans) s = .next s := by
  simp only [exec, execDispatchWeights, hr, if_pos hm]

variable (hm : dpMode w = 1) {d : Bytes} (hd : d = s.stageDesc t (dpStage w))
include hm hd

/-- What the directory and the stage of a DISPATCH of MODE 1 decide. -/
theorem exec_dispatchWeights_judged :
    exec (.dispatchWeights t ring ans) s =
      .next (if (!edValid (s.expertDesc t) || !wsValid d || decide (wsSize d < entLength w)) = true then s.failEntry e .accessDenied 0
        else s.withNeeds t e (weightNeeds w d) (State.startWeights t e w d ans)) := by
  subst hd
  simp only [exec, execDispatchWeights, hr, hm, ne_eq, not_true_eq_false, if_false]
  exact (apply_ite Host.Outcome.next _ _ _).symm

/-- Without a VALID directory, a VALID stage or room in it the entry fails with ACCESS_DENIED. -/
theorem exec_dispatchWeights_noStage (h : edValid (s.expertDesc t) = false ∨ wsValid d = false ∨ wsSize d < entLength w) :
    exec (.dispatchWeights t ring ans) s = .next (s.failEntry e .accessDenied 0) := by
  have denied : (!edValid (s.expertDesc t) || !wsValid d || decide (wsSize d < entLength w)) = true := by
    obtain h | h | h := h <;> simp [h]
  rw [exec_dispatchWeights_judged hr hm hd, if_pos denied]

/-- With them its local ranges decide. -/
theorem exec_dispatchWeights_stage (hv : edValid (s.expertDesc t) = true) (hw : wsValid d = true) (hl : entLength w ≤ wsSize d) :
    exec (.dispatchWeights t ring ans) s = .next (s.withNeeds t e (weightNeeds w d) (State.startWeights t e w d ans)) := by
  have usable : ¬ (!edValid (s.expertDesc t) || !wsValid d || decide (wsSize d < entLength w)) = true := by
    simpa [hv, hw] using hl
  rw [exec_dispatchWeights_judged hr hm hd, if_neg usable]

end

/-! ### The statement -/

/-- Settles O51, by the lemma of each command up to its local ranges and of what an entry with usable ranges starts; that the record
entries written at the start name no row PLACED, and keep TENTATIVE for one whose sending failed, is the model's choice (log entry 79). -/
theorem expertDispatch : Obligations.ExpertDispatch := by
  unfold Obligations.ExpertDispatch
  refine ⟨fun t ring router rows s e w hr => ⟨exec_dispatchTokens_otherMode hr, exec_dispatchTokens_noDirectory hr, fun hm hv => ?tokens⟩,
    fun t ring router rows ans s => exec_dispatch_notReady,
    fun t ring ans s e w d ns hr hd hns => ⟨exec_dispatchWeights_otherMode hr, fun hm => exec_dispatchWeights_noStage hr hm hd,
      fun hm hv hw hl => ?weights⟩⟩
  case tokens =>
    rw [exec_dispatchTokens_directory hr hm hv]
    refine ⟨fun r hn => by rw [State.withNeeds_fail hn], fun rs hn hs => by rw [State.withNeeds_shut hn hs], ?_⟩
    rintro rs n p a hn hs ht rfl rfl ha
    rw [State.withNeeds_ok hn hs (.inl ht)]
    refine ⟨fun why h => congrArg _ (State.startTokens_refused h), fun h hb => congrArg _ (State.startTokens_readFailed h ha hb), ?_⟩
    rintro b d r q h hb rfl rfl rfl
    exact congrArg _ (State.startTokens_sends h ha hb)
  case weights =>
    obtain rfl : ns = weightNeeds w d := hns
    rw [exec_dispatchWeights_stage hr hm hd hv hw hl]
    refine ⟨fun r hn => congrArg _ (State.withNeeds_fail hn), fun rs a hn hs ht ha => ?_⟩
    rw [State.withNeeds_ok hn hs (.inl ht)]
    refine ⟨fun why h => congrArg _ (State.startWeights_refused h), ?_,
      fun h hp hb => congrArg _ (State.startWeights_readFailed h ha ((if_neg hp).trans hb))⟩
    rintro q h hp rfl
    exact congrArg _ (State.startWeights_keeps h ha (if_pos hp))

end Sys2Proof.Machine

/-! PROOFS. Publication, the end of a speculation by CONFIRM, CANCEL or its deadline, the release of freed slots, and the statement about
them. -/
namespace Sys2Proof.Machine

/-! ### Which DISPATCH or prefetch a command names (R459, R465) -/

/-- Rows of a DISPATCH are on their way. -/
abbrev Dispatch.rowsInFlight (d : Dispatch) : Bool := d.contribs.any (fun c => c.phase = .sent)

/-- The DISPATCH of an entry that is in progress. -/
abbrev State.dispatchOf? (s : State) (e : EntryRef) : Option Dispatch := s.experts.dispatches.find? (fun d => d.ref = e)

/-- The unresolved speculative DISPATCH of a SPEC_ID. -/
abbrev State.openDispatch? (s : State) (t : Nat) (id : W32) : Option Dispatch :=
  s.experts.dispatches.find? (fun d => d.tenant = t && d.spec = some id && d.phase = .open_)

/-- The unresolved speculative prefetch of a SPEC_ID. -/
abbrev State.openPrefetch? (s : State) (t : Nat) (id : W32) : Option Prefetch :=
  s.experts.prefetches.find? (fun p => p.tenant = t && p.spec = some id && p.confirm.isNone)

/-- A SPEC_ID names an unresolved speculation of the tenant. -/
abbrev State.unresolved (s : State) (t : Nat) (id : W32) : Bool :=
  s.experts.dispatches.any (fun d => d.tenant = t && d.spec = some id && d.phase = .open_) ||
    s.experts.prefetches.any (fun p => p.tenant = t && p.spec = some id && p.confirm.isNone)

/-! ### PUBLISH (R459 to R461, R466) -/

/-- The contributions that are confirmed and not yet announced are published, by the CONFIRM of the DISPATCH where it has one. -/
def State.publishReady (d : Dispatch) (s : State) : State × Dispatch :=
  s.publishAll (d.confirm.getD d.ref) d (d.contribs.filter Contribution.publishable)

/-- A DISPATCH takes its place among those in progress, and its record entries are written with PLACED for the placed rows. -/
def State.recordPublished (r : State × Dispatch) : State :=
  (r.1.putDispatch r.2).putRecords { r.2 with contribs := r.2.contribs.map (fun c =>
    { c with flags := if c.took && c.phase = .confirmed then c.flags ||| rfPlaced else c.flags }) }

section
variable {ring pos : Nat} {first : W32} {s : State}

/-- A DISPATCH that is not in progress is left alone. -/
theorem exec_publish_absent (hd : s.dispatchOf? ⟨ring, first, pos⟩ = none) : exec (.publish ring first pos) s = .next s := by
  simp only [exec, execPublish, hd]

variable {d : Dispatch} (hd : s.dispatchOf? ⟨ring, first, pos⟩ = some d)
include hd

/-- A speculative DISPATCH without a CONFIRM, or with rows in flight, is left alone. -/
theorem exec_publish_waits (hs : d.spec ≠ none) (hc : d.confirm = none ∨ d.rowsInFlight = true) :
    exec (.publish ring first pos) s = .next s := by
  have waits : (d.spec.isSome && (d.confirm.isNone || d.rowsInFlight)) = true := by
    rw [Option.isSome_iff_ne_none.mpr hs, Bool.true_and, Bool.or_eq_true, Option.isNone_iff_eq_none]
    exact hc
  simp only [exec, execPublish, hd, if_pos waits]

variable (hs : d.spec = none ∨ (d.confirm ≠ none ∧ d.rowsInFlight = false)) {r : State × Dispatch} (hr : r = s.publishReady d)
include hs hr

/-- Any other DISPATCH publishes, and ends when neither a row nor a header is outstanding. -/
theorem exec_publish_ready :
    exec (.publish ring first pos) s = .next (if (!d.rowsInFlight && r.2.headers.isEmpty) = true
      then (State.recordPublished r).endDispatch r.2 else State.recordPublished r) := by
  have ready : ¬ (d.spec.isSome && (d.confirm.isNone || d.rowsInFlight)) = true := by
    obtain h | ⟨hc, hw⟩ := hs
    · simp [h]
    · simp [hw, hc]
  subst hr
  simp only [exec, execPublish, hd, if_neg ready]
  rfl

/-- With a row or a header outstanding it stays in progress. -/
theorem exec_publish_outstanding (ho : d.rowsInFlight = true ∨ r.2.headers ≠ []) :
    exec (.publish ring first pos) s = .next (State.recordPublished r) := by
  have outstanding : ¬ (!d.rowsInFlight && r.2.headers.isEmpty) = true := by
    obtain h | h := ho <;> simp [h]
  rw [exec_publish_ready hd hs hr, if_neg outstanding]

/-- With none it ends. -/
theorem exec_publish_ends (hw : d.rowsInFlight = false) (hh : r.2.headers = []) :
    exec (.publish ring first pos) s = .next ((State.recordPublished r).endDispatch r.2) := by
  have done : (!d.rowsInFlight && r.2.headers.isEmpty) = true := by
    rw [hw, hh]
    rfl
  rw [exec_publish_ready hd hs hr, if_pos done]

end

/-! ### The deadline (R467) -/

section
variable {t : Nat} {id : W32} {s : State}

/-- The deadline of a speculation that has started, or is not there, does nothing. -/
theorem exec_specDeadline_notDue (h : s.specDue t id = false) : exec (.specDeadline t id) s = .next s :=
  congrArg _ (if_neg (h ▸ Bool.false_ne_true))

/-- The deadline of another is counted and cancels it. -/
theorem exec_specDeadline_due (h : s.specDue t id = true) :
    exec (.specDeadline t id) s = .next ((s.bump d11_0105 t).cancelSpec t id (some .cancelled)) :=
  congrArg _ (if_pos h)

end

/-! ### CANCEL (R465, R467, R469) -/

/-- Without a ready CANCEL nothing changes. -/
theorem exec_cancel_notReady {t ring : Nat} {s : State} (hr : s.readyEntry t ring 0x33 = none) : exec (.cancel t ring) s = .next s := by
  simp only [exec, execCancel, hr]

section
variable {t ring : Nat} {e : EntryRef} {w : W512} {s a : State} (hr : s.readyEntry t ring 0x33 = some (e, w))
  (ha : a = s.expireSpec t (dpSpecId w))
include hr ha

/-- An unresolved speculation is cancelled, and the entry ends. -/
theorem exec_cancel_unresolved (hl : a.unresolved t (dpSpecId w) = true) :
    exec (.cancel t ring) s = .next ((a.cancelSpec t (dpSpecId w) (some .cancelled)).endEntry e) := by
  subst ha
  simp only [exec, execCancel, hr, if_pos hl]

variable (hl : a.unresolved t (dpSpecId w) = false)
include hl

/-- Of a speculation that is cancelled already only the entry ends. -/
theorem exec_cancel_cancelled (hc : a.experts.cancelled.contains (t, dpSpecId w) = true) :
    exec (.cancel t ring) s = .next (a.endEntry e) := by
  subst ha
  simp only [exec, execCancel, hr, hl, Bool.false_eq_true, if_false, if_pos hc]

/-- A speculation that is not known makes the entry malformed at byte 44. -/
theorem exec_cancel_unknown (hc : a.experts.cancelled.contains (t, dpSpecId w) = false) :
    exec (.cancel t ring) s = .next (a.lateMalformed t e 44) := by
  subst ha
  simp only [exec, execCancel, hr, hl, hc, Bool.false_eq_true, if_false, State.unknownSpec]

end

/-! ### CONFIRM (R465 to R470, R480) -/

/-- Without a ready CONFIRM nothing changes. -/
theorem exec_confirm_notReady {t ring : Nat} {final rows : MemAns} {s : State} (hr : s.readyEntry t ring 0x32 = none) :
    exec (.confirm t ring final rows) s = .next s := by
  simp only [exec, execConfirm, hr]

/-- The local range of a CONFIRM of `d` that names a final output. -/
def finalNeeds (d : Dispatch) (w : W512) : List Need := [⟨entKey w, 0, entRemote w, 8 * d.tokens * d.topk⟩]

/-- What becomes of a CONFIRM of `d` whose final output may be read. -/
def State.confirmFinal (t : Nat) (e : EntryRef) (w : W512) (d : Dispatch) (final rows : MemAns) (rs : List Realm) (s : State) : State :=
  match s.placeRead t (placeAt rs 0) (entRemote w) (8 * d.tokens * d.topk) final with
  | none => (s.readFailed t (placeAt rs 0) (entRemote w) (8 * d.tokens * d.topk)).failEntry e .busError 0
  | some b => s.confirmDispatch e { d with started := true } (some b) rows

/-- A prefetch takes the place of the one with its entry. -/
def State.putPrefetch (p : Prefetch) (s : State) : State :=
  { s with experts := { s.experts with
      prefetches := s.experts.prefetches.map (fun (q : Prefetch) => if q.ref = p.ref then p else q) } }

section
variable {t ring : Nat} {e : EntryRef} {w : W512} {final rows : MemAns} {s a : State} (hr : s.readyEntry t ring 0x32 = some (e, w))
  (ha : a = s.expireSpec t (dpSpecId w))
include hr ha

section
variable {d : Dispatch} (hd : a.openDispatch? t (dpSpecId w) = some d)
include hd

/-- With rows in flight the speculation is started, and the entry waits. -/
theorem exec_confirm_rowsInFlight (hw : d.rowsInFlight = true) :
    exec (.confirm t ring final rows) s = .next (a.startSpec t (dpSpecId w)) := by
  subst ha
  simp only [exec, execConfirm, hr, hd, if_pos hw]

variable (hw : d.rowsInFlight = false)
include hw

/-- A placed speculation is confirmed as it is when no final output is named. -/
theorem exec_confirm_noFinal (hf : entRemote w = 0) :
    exec (.confirm t ring final rows) s = .next (a.confirmDispatch e d none rows) := by
  subst ha
  simp only [exec, execConfirm, hr, hd, hw, Bool.false_eq_true, if_false, if_pos hf]

/-- Where one is named its local range decides. -/
theorem exec_confirm_final (hf : entRemote w ≠ 0) :
    exec (.confirm t ring final rows) s =
      .next ((a.startSpec t (dpSpecId w)).withNeeds t e (finalNeeds d w) (State.confirmFinal t e w d final rows)) := by
  subst ha
  simp only [exec, execConfirm, hr, hd, hw, Bool.false_eq_true, if_false, if_neg hf]
  rfl

/-- A final output that can be read decides what is confirmed. -/
theorem exec_confirm_finalRead {p : Realm} {b : Bytes} {c : State} (hf : entRemote w ≠ 0) (hc : c = a.startSpec t (dpSpecId w))
    (hn : c.checkNeeds t (finalNeeds d w) = .ok [p]) (hs : c.needsShut (finalNeeds d w) [p] = false)
    (hm : (c.tenant t).mode ≠ .resetting) (hb : c.placeRead t p.place (entRemote w) (8 * d.tokens * d.topk) final = some b) :
    exec (.confirm t ring final rows) s = .next (c.confirmDispatch e { d with started := true } (some b) rows) := by
  have first : placeAt [p] 0 = p.place := rfl
  subst hc
  rw [exec_confirm_final hr ha hd hw hf, State.withNeeds_ok hn hs (.inl hm)]
  simp only [State.confirmFinal, first, hb]

end

variable (hd : a.openDispatch? t (dpSpecId w) = none)
include hd

section
variable {p : Prefetch} (hp : a.openPrefetch? t (dpSpecId w) = some p)
include hp

/-- With weights not yet copied the speculation is started, and the entry waits. -/
theorem exec_confirm_notCopied (hc : p.copied = false) :
    exec (.confirm t ring final rows) s = .next (a.startSpec t (dpSpecId w)) := by
  subst ha
  simp only [exec, execConfirm, hr, hd, hp, hc, Bool.not_false, if_true]

/-- Copied weights are published: the stage's record names the expert. -/
theorem exec_confirm_copied {q : Prefetch} (hc : p.copied = true) (hq : q = { p with confirm := some e, started := true }) :
    exec (.confirm t ring final rows) s = .next (((a.putPrefetch q).runEntry e).writePub q p.expert 0) := by
  subst ha hq
  simp only [exec, execConfirm, hr, hd, hp, hc, Bool.not_true, Bool.false_eq_true, if_false, State.putPrefetch]

end

variable (hp : a.openPrefetch? t (dpSpecId w) = none)
include hp

/-- Of a speculation that is cancelled the entry fails with CANCELLED. -/
theorem exec_confirm_cancelled (hc : a.experts.cancelled.contains (t, dpSpecId w) = true) :
    exec (.confirm t ring final rows) s = .next (a.failEntry e .cancelled 0) := by
  subst ha
  simp only [exec, execConfirm, hr, hd, hp, if_pos hc]

/-- A speculation that is not known makes the entry malformed at byte 44. -/
theorem exec_confirm_unknown (hc : a.experts.cancelled.contains (t, dpSpecId w) = false) :
    exec (.confirm t ring final rows) s = .next (a.lateMalformed t e 44) := by
  subst ha
  simp only [exec, execConfirm, hr, hd, hp, hc, Bool.false_eq_true, if_false, State.unknownSpec]

end

/-! ### The release of freed slots (R468; log 79) -/

/-- A freed slot of a share of an expert in a directory. -/
def FreedSlot.inShare (t expert share : Nat) (desc : Bytes) (g : FreedSlot) : Bool :=
  g.tenant = t && g.expert = expert && g.share = share && g.desc = desc

/-- NEXT of a share once the freed slots of its record's round at its top, with no message on its way, are released. -/
def State.releasedNext (t expert share : Nat) (desc b : Bytes) (s : State) : Nat :=
  let live := s.experts.freed.filter (fun g => g.inShare t expert share desc && leAt 0 4 b = g.round.toNat)
  lowerNext (fun j => live.any (fun g => g.slot = j && g.pending.isNone)) (srNext b share)

/-- Of the freed slots of a share those of its record's round below `next` are kept; the others are released or forgotten. -/
def State.keepFreed (t expert share : Nat) (desc b : Bytes) (next : Nat) (s : State) : State :=
  { s with experts := { s.experts with freed := s.experts.freed.filter (fun g =>
      !g.inShare t expert share desc || (leAt 0 4 b = g.round.toNat && g.slot < next)) } }

section
variable {t expert share : Nat} {s : State}

/-- Without a freed slot of the share nothing changes. -/
theorem exec_slotRelease_none
    (hf : s.experts.freed.find? (fun f => f.tenant = t && f.expert = expert && f.share = share) = none) :
    exec (.slotRelease t expert share) s = .next s := by
  simp only [exec, execSlotRelease, State.releaseShare, hf]

variable {f : FreedSlot} {b : Bytes} {next : Nat} {a : State}
  (hf : s.experts.freed.find? (fun f => f.tenant = t && f.expert = expert && f.share = share) = some f)
  (hb : s.tableRead t (edShares f.desc + 64 * expert) 64 = some b)
  (hn : next = s.releasedNext t expert share f.desc b) (ha : a = s.keepFreed t expert share f.desc b next)
include hf hb hn ha

/-- With one, NEXT in the share's record is lowered where it changes. -/
theorem exec_slotRelease_freed :
    exec (.slotRelease t expert share) s = .next (if next = srNext b share then a
      else (a.placeWrite t ⟨1, 0, 0⟩ (edShares f.desc + 64 * expert) (putBytes (8 + 8 * share) (leBytes 2 next) b)).getD a) := by
  subst ha hn
  simp only [exec, execSlotRelease, State.releaseShare, hf, hb]
  rfl

/-- Where no freed slot stands at the top the record keeps its NEXT. -/
theorem exec_slotRelease_held (h : next = srNext b share) : exec (.slotRelease t expert share) s = .next a := by
  rw [exec_slotRelease_freed hf hb hn ha, if_pos h]

/-- A lower NEXT is written to the record. -/
theorem exec_slotRelease_lowered {u : State} (h : next ≠ srNext b share)
    (hu : a.placeWrite t ⟨1, 0, 0⟩ (edShares f.desc + 64 * expert) (putBytes (8 + 8 * share) (leBytes 2 next) b) = some u) :
    exec (.slotRelease t expert share) s = .next u := by
  rw [exec_slotRelease_freed hf hb hn ha, if_neg h, hu, Option.getD_some]

end

/-! ### The statement -/

/-- Settles O52, by the lemma of each command on what its entry or its SPEC_ID names; that SLOT_RELEASE releases what CONFIRM and CANCEL
left at the top of a share, that PLACED is written for placed rows alone, and that a CONFIRM counts as started before its final output is
checked, are the model's choices (log entry 79). -/
theorem expertSpeculation : Obligations.ExpertSpeculation := by
  unfold Obligations.ExpertSpeculation
  refine ⟨fun ring first pos s => ⟨exec_publish_absent, fun d hd => ⟨exec_publish_waits hd, ?publish⟩⟩,
    fun t ring id s => ⟨exec_specDeadline_notDue, exec_specDeadline_due, exec_cancel_notReady, ?cancel⟩,
    fun t ring final rows s => ⟨exec_confirm_notReady, fun e w a hr ha => ⟨fun d hd => ?confirm, fun hd => ⟨fun p hp => ?prefetch, fun hp =>
      ⟨exec_confirm_cancelled hr ha hd hp, exec_confirm_unknown hr ha hd hp⟩⟩⟩⟩,
    fun t expert share s => ⟨exec_slotRelease_none, ?release⟩⟩
  case publish =>
    rintro r a hs hr rfl
    exact ⟨exec_publish_outstanding hd hs hr, exec_publish_ends hd hs hr⟩
  case cancel =>
    rintro e w live a hr ha rfl
    exact ⟨exec_cancel_unresolved hr ha, exec_cancel_cancelled hr ha, exec_cancel_unknown hr ha⟩
  case confirm =>
    exact ⟨exec_confirm_rowsInFlight hr ha hd, exec_confirm_noFinal hr ha hd,
      fun p b hw hf => exec_confirm_finalRead hr ha hd hw hf rfl⟩
  case prefetch =>
    refine ⟨exec_confirm_notCopied hr ha hd hp, ?_⟩
    rintro b hc rfl
    exact exec_confirm_copied hr ha hd hp hc rfl
  case release =>
    rintro f b live next keep mine a hf rfl hb rfl hn rfl ha
    exact ⟨exec_slotRelease_held hf hb hn ha, fun u => exec_slotRelease_lowered hf hb hn ha⟩

end Sys2Proof.Machine

/-! PROOFS. The step and the queue it takes from, that every command completes, and the statements about them. -/
namespace Sys2Proof.Machine

theorem step_of_cons {c : Instr} {rest : List Instr} {s : State} (h : s.pending = c :: rest) :
    step s = exec c { s with pending := rest } := by
  simp only [step, h]

theorem step_of_nil {s : State} (h : s.pending = []) : step s = .next s := by
  simp only [step, h]

/-- Settles O1: the step splits on its queue, and no word of the table spells a command (log entry 1). -/
theorem stepTakesTheFront : Obligations.StepTakesTheFront := by
  unfold Obligations.StepTakesTheFront
  exact ⟨fun c rest s => step_of_cons, fun s => step_of_nil, fun s n w => rfl⟩

/-- Settles O2: a command answers a next state, kept from the one it is executed on (`exec_kept`), and so does a step. -/
theorem everyCommandCompletes : Obligations.EveryCommandCompletes := by
  unfold Obligations.EveryCommandCompletes
  refine ⟨fun c s => ?command, fun s => ?step⟩
  case command =>
    obtain ⟨t, ht, -⟩ := exec_kept c (.refl s)
    exact ⟨t, ht⟩
  case step =>
    obtain ⟨t, ht, -⟩ := step_kept s
    exact ⟨t, ht⟩

end Sys2Proof.Machine

/-! PROOFS. Package memory as bytes: what a write leaves to be read, what poison it clears, and the statement about it. -/
namespace Sys2Proof.Machine

/-! ### Cells and blocks of a range (R487, R497, R503) -/

/-- A cell is one that the range touches. -/
theorem mem_cellsOf {a n c : Nat} : c ∈ cellsOf a n ↔ n ≠ 0 ∧ a / 64 ≤ c ∧ c ≤ (a + n - 1) / 64 := by
  unfold cellsOf
  split
  next h => simp [h]
  next h =>
    have order : a / 64 ≤ (a + n - 1) / 64 := by omega
    simp only [upTo, List.mem_map, List.mem_range]
    constructor
    · rintro ⟨k, hk, rfl⟩
      omega
    · rintro ⟨-, hlo, hhi⟩
      exact ⟨c - a / 64, by omega, by omega⟩

/-- The blocks of a range hold an address exactly where its block is one that the range touches. -/
theorem any_blocksOf {a n x : Nat} :
    (blocksOf a n).any (fun b => b / 16384 = x / 16384) = true ↔
      n ≠ 0 ∧ a / 16384 ≤ x / 16384 ∧ x / 16384 ≤ (a + n - 1) / 16384 := by
  unfold blocksOf
  split
  next h => simp [h]
  next h =>
    have order : a / 16384 ≤ (a + n - 1) / 16384 := by omega
    simp only [upTo, List.any_map, List.any_eq_true, List.mem_range, Function.comp_apply, decide_eq_true_eq]
    constructor
    · rintro ⟨k, hk, he⟩
      omega
    · rintro ⟨-, hlo, hhi⟩
      exact ⟨x / 16384 - a / 16384, by omega, by omega⟩

/-- A byte of a range lies in one of its blocks. -/
theorem any_blocksOf_of_mem {a n x : Nat} (hlo : a ≤ x) (hhi : x < a + n) :
    (blocksOf a n).any (fun b => b / 16384 = x / 16384) = true :=
  any_blocksOf.mpr (by omega)

/-- A cell that a range touches lies in one of its blocks. -/
theorem any_blocksOf_of_cell {a n c : Nat} (h : c ∈ cellsOf a n) : (blocksOf a n).any (fun b => b / 16384 = c * 64 / 16384) = true := by
  have := mem_cellsOf.mp h
  exact any_blocksOf.mpr (by omega)

/-- What holds neither inside nor outside a range holds nowhere: `b` pending, `l` in the range. -/
theorem and_not_inside_outside (p b l w : Bool) : (p && !(b && l) && !w && !(b && !l)) = (p && !b && !w) := by
  cases b <;> cases l <;> simp

/-! ### A write (R497, R503) -/

/-- The range of `n` bytes at `a` holds the whole cell. -/
def wholeCell (a n c : Nat) : Bool := a ≤ c * 64 && c * 64 + 64 ≤ a + n

/-- What a write stores, once the pending blocks that it touches are zeroed: the bytes, and the poison that stays. -/
def State.store (a : Nat) (bytes : Bytes) (s : State) : State :=
  { s with memory := { s.memory with
    mem := memStore a bytes s.memory.mem
    poison := s.memory.poison.filter (fun c => !wholeCell a bytes.length c) } }

/-- The state in which every pending block that a range touches is zeroed. -/
def State.cleanRange (a n : Nat) (s : State) : State := (blocksOf a n).foldl State.cleanBlock s

theorem State.memWrite_eq (s : State) (a : Nat) (bytes : Bytes) :
    s.memWrite a bytes =
      if (cellsOf a bytes.length).any (fun c => (s.cleanRange a bytes.length).memory.poison.contains c && !wholeCell a bytes.length c)
      then none else some ((s.cleanRange a bytes.length).store a bytes) := rfl

/-- Zeroing blocks changes memory and the counters alone. -/
theorem State.cleanBlock_frame (s : State) (a : Nat) :
    s.cleanBlock a = { s with memory := (s.cleanBlock a).memory, ro := (s.cleanBlock a).ro } := by
  unfold cleanBlock
  split <;> rfl

theorem State.cleanRange_frame (a n : Nat) (s : State) :
    s.cleanRange a n = { s with memory := (s.cleanRange a n).memory, ro := (s.cleanRange a n).ro } := by
  unfold cleanRange
  induction blocksOf a n generalizing s with
  | nil => rfl
  | cons b bs ih =>
    rw [List.foldl_cons, ih, cleanBlock_frame]

section
variable {s : State} {a : Nat} {bytes : Bytes} (hm : Memory.wf s.memory.mem = true) (he : twfD {} s.memory.extents = true)
include hm he

/-- A cell that the range touches is poisoned there exactly where it is poisoned and not pending here. -/
theorem State.cleanRange_poison {n c : Nat} (hc : c ∈ cellsOf a n) :
    (s.cleanRange a n).memory.poison.contains c = s.cellPoisoned c := by
  obtain ⟨-, -, poison, -⟩ := cleanBlocks_reads (blocksOf a n) hm he
  rw [cleanRange, poison, any_blocksOf_of_cell hc, Bool.and_true, cellPoisoned]

/-- A write is answered with an error exactly where it writes part of a poisoned cell. -/
theorem State.memWrite_none_iff :
    s.memWrite a bytes = none ↔ ∃ c ∈ cellsOf a bytes.length, s.cellPoisoned c = true ∧ wholeCell a bytes.length c = false := by
  have part : (cellsOf a bytes.length).any (fun c =>
        (s.cleanRange a bytes.length).memory.poison.contains c && !wholeCell a bytes.length c) = true ↔
      ∃ c ∈ cellsOf a bytes.length, s.cellPoisoned c = true ∧ wholeCell a bytes.length c = false := by
    simp only [List.any_eq_true, Bool.and_eq_true, Bool.not_eq_true']
    exact exists_congr fun c => and_congr_right fun hc => by rw [cleanRange_poison hm he hc]
  rw [memWrite_eq, ← part, ite_eq_left_iff]
  simp only [reduceCtorEq, imp_false, Decidable.not_not]

omit hm he in
/-- A write that is not answered with an error stores its bytes once the pending blocks are zeroed. -/
theorem State.eq_store_of_memWrite {t : State} (h : s.memWrite a bytes = some t) : t = (s.cleanRange a bytes.length).store a bytes := by
  rw [memWrite_eq, Option.ite_none_left_eq_some] at h
  exact (Option.some.inj h.2).symm

/-- After a write a byte of its range reads as written, every other byte as it did. -/
theorem State.memByte_store (x : Nat) :
    ((s.cleanRange a bytes.length).store a bytes).memByte x =
      if a ≤ x ∧ x < a + bytes.length then bytes.getD (x - a) 0 else s.memByte x := by
  obtain ⟨pending, byte, -, wf⟩ := cleanBlocks_reads (blocksOf a bytes.length) hm he
  have stored : ((s.cleanRange a bytes.length).store a bytes).memByte x =
      if (s.cleanRange a bytes.length).blockPending x then 0
      else tgetD (memStore a bytes (s.cleanRange a bytes.length).memory.mem) x 0 := rfl
  rw [stored, cleanRange, tgetD_memStore wf]
  by_cases h : a ≤ x ∧ x < a + bytes.length
  · rw [if_pos h, if_pos h, pending, any_blocksOf_of_mem h.1 h.2]
    simp
  · rw [if_neg h, if_neg h]
    exact byte x

/-- A write clears the poison of the cells that it writes whole, and of no other. -/
theorem State.cellPoisoned_store (c : Nat) :
    ((s.cleanRange a bytes.length).store a bytes).cellPoisoned c = (s.cellPoisoned c && !wholeCell a bytes.length c) := by
  obtain ⟨pending, -, poison, -⟩ := cleanBlocks_reads (blocksOf a bytes.length) hm he
  have stored : ((s.cleanRange a bytes.length).store a bytes).cellPoisoned c =
      (((s.cleanRange a bytes.length).memory.poison.filter (fun c => !wholeCell a bytes.length c)).contains c &&
        !(s.cleanRange a bytes.length).blockPending (c * 64)) := rfl
  have kept : ((s.cleanRange a bytes.length).memory.poison.filter (fun c => !wholeCell a bytes.length c)).contains c =
      ((s.cleanRange a bytes.length).memory.poison.contains c && !wholeCell a bytes.length c) := by
    rw [Bool.eq_iff_iff]
    simp
  rw [stored, kept, cleanRange, poison, pending, cellPoisoned, and_not_inside_outside]

end

/-- A range without a poisoned cell reads as its bytes. -/
theorem State.memRead_eq_some {s : State} {a : Nat} {bytes : Bytes} (hp : ∀ c ∈ cellsOf a bytes.length, s.cellPoisoned c = false)
    (hb : ∀ k < bytes.length, s.memByte (a + k) = bytes.getD k 0) : s.memRead a bytes.length = some bytes := by
  have clean : (cellsOf a bytes.length).any s.cellPoisoned = false := by simpa using hp
  rw [memRead, clean, if_neg Bool.false_ne_true, upTo]
  congr 1
  apply List.ext_getElem (by simp)
  intro k hk hk'
  simp [hb k hk', hk']

/-! ### The statement -/

/-- Settles O9, by what the zeroing of pending blocks leaves (`cleanBlocks_reads`) and what is then stored. -/
theorem packageMemory : Obligations.PackageMemory := by
  unfold Obligations.PackageMemory
  refine ⟨fun s t a bytes hm he ht => ?written, fun s a bytes hm he => ?refused⟩
  case refused =>
    rw [State.memWrite_none_iff hm he]
    simp only [wholeCell, Bool.and_eq_false_iff, decide_eq_false_iff_not, not_and_or]
  case written =>
    have whole : ∀ c ∈ cellsOf a bytes.length, s.cellPoisoned c = true → wholeCell a bytes.length c = true := by
      intro c hc hp
      by_contra hw
      have refused := (State.memWrite_none_iff hm he).mpr ⟨c, hc, hp, by simpa using hw⟩
      exact absurd (ht.symm.trans refused) (Option.some_ne_none t)
    have stored := State.eq_store_of_memWrite ht
    have byte : ∀ x, t.memByte x = if a ≤ x ∧ x < a + bytes.length then bytes.getD (x - a) 0 else s.memByte x :=
      stored ▸ State.memByte_store hm he
    have poison : ∀ c, t.cellPoisoned c = (s.cellPoisoned c && !wholeCell a bytes.length c) :=
      stored ▸ State.cellPoisoned_store hm he
    refine ⟨byte, fun c => ?_, State.memRead_eq_some (fun c hc => ?_) (fun k hk => ?_), ?_⟩
    · rw [poison, wholeCell]
    · rw [poison]
      cases hp : s.cellPoisoned c
      · rfl
      · simp [whole c hc hp]
    · rw [byte, if_pos (by omega), Nat.add_sub_cancel_left]
    · rw [stored, State.store, State.cleanRange_frame]

end Sys2Proof.Machine

/-! PROOFS. POWER_CLOSE and POWER_OPEN, the closing and opening of domains, the control period, and the statements about them. -/
namespace Sys2Proof.Machine

/-! ### POWER_CLOSE and POWER_OPEN (R721 to R723, R726) -/

section
variable {cmd : Bytes} {s : State}

theorem State.powerClose_noDomain (h : s.domainOf (pcCode cmd) = none) : s.powerClose cmd = s.powerResult 1 := by
  simp only [powerClose, h]

theorem State.powerOpen_noDomain (h : s.domainOf (pcCode cmd) = none) : s.powerOpen cmd = s.powerResult 1 := by
  simp only [powerOpen, h]

section
variable {d : Nat} (h : s.domainOf (pcCode cmd) = some d)
include h

/-- A CLOSE of a domain: its checks in order, then CLOSING from now with its deadline. -/
theorem State.powerClose_domain {limit : Nat} (hl : limit = if pcDeadline cmd = 0 then s.par d20_0063 0 else pcDeadline cmd) :
    s.powerClose cmd =
      if (s.domain d).mode ≠ .open_ then s.powerResult 2
      else if s.domainSpire d = true then s.powerResult 4
      else if 24 ≤ d ∧ d < 32 ∧ s.towerInUse (d - 24) = true then s.powerResult 3
      else (s.setDomain d ⟨.closing, s.now, limit⟩ 1).powerResult 0 := by
  simp only [powerClose, h, hl, Bool.and_eq_true, decide_eq_true_eq, and_assoc]

/-- An OPEN of a domain that is OPEN or OPENING is refused. -/
theorem State.powerOpen_badState (hm : (s.domain d).mode = .open_ ∨ (s.domain d).mode = .opening) :
    s.powerOpen cmd = s.powerResult 2 := by
  obtain hm | hm := hm <;> simp only [powerOpen, h, hm]

/-- An OPEN of a CLOSING domain makes it OPEN. -/
theorem State.powerOpen_closing (hm : (s.domain d).mode = .closing) : s.powerOpen cmd = (s.setDomain d {} 3).powerResult 0 := by
  simp only [powerOpen, h, hm]

/-- An OPEN of a CLOSED domain makes it OPENING, and its event carries a free reason. -/
theorem State.powerOpen_closed (hm : (s.domain d).mode = .closed) :
    s.powerOpen cmd = (({ s with free := s.free + 1 } : State).setDomain d { mode := .opening, since := s.now }
      (Config.freeByte s.free).toNat).powerResult 0 := by
  simp only [powerOpen, h, hm, takeFree]

end
end

/-- Settles O13, by the equations of a CLOSE and of an OPEN; the order of a CLOSE's checks, that an event's object is the domain's
number, and that a change to OPENING has a free reason, are the model's choices (log entry 81). -/
theorem powerDomainCommands : Obligations.PowerDomainCommands := by
  unfold Obligations.PowerDomainCommands
  refine ⟨fun cmd s hop hd => (if_pos hop).trans (congrArg _ (State.powerClose_noDomain hd)), fun cmd d s hop hd => ?close,
    fun cmd s hop hd => (if_pos hop).trans (congrArg _ (State.powerOpen_noDomain hd)), fun cmd d s hop hd => ?open_⟩
  case close =>
    have run : exec (.powerClose cmd) s = .next _ := (if_pos hop).trans (congrArg _ (State.powerClose_domain hd rfl))
    rw [run]
    refine ⟨fun hm => ?_, fun hm hs => ?_, fun hm hs hlo hhi hu => ?_, fun hm hs hu => ?_⟩
    · rw [if_pos hm]
      rfl
    · rw [if_neg (by simp [hm]), if_pos hs]
      rfl
    · rw [if_neg (by simp [hm]), if_neg (by simp [hs]), if_pos ⟨hlo, hhi, hu⟩]
      rfl
    · rw [if_neg (by simp [hm]), if_neg (by simp [hs]), if_neg hu]
      exact ⟨_, rfl, _, rfl, rfl⟩
  case open_ =>
    have run : exec (.powerOpen cmd) s = .next (s.powerOpen cmd) := if_pos hop
    rw [run]
    refine ⟨fun hm => ?_, fun hm => ?_, fun hm => ?_⟩
    · rw [State.powerOpen_badState hd hm]
      rfl
    · rw [State.powerOpen_closing hd hm]
      exact ⟨_, rfl, rfl⟩
    · rw [State.powerOpen_closed hd hm]
      exact ⟨_, _, rfl, rfl⟩

/-! ### The close and the opening of a domain (R724, R726) -/

/-- A domain of a pair closes: its change of state, its event and its count. -/
theorem State.closeDomain_pair {d : Nat} {s : State} (h : domainTower d = none) :
    s.closeDomain d = (s.setDomain d { mode := .closed, since := s.now } 2).bump d20_0102 0 := by
  simp only [closeDomain, h]

/-- A domain of a tower closes: its bays are written back and its links go down besides. -/
theorem State.closeDomain_tower {d k : Nat} {s a b : State} (h : domainTower d = some k)
    (ha : a = (s.setDomain d { mode := .closed, since := s.now } 2).bump d20_0102 0)
    (hb : b = if holdsCupola d k then a.dropBays k else a) :
    s.closeDomain d = (if holdsLanes d k then State.settlePorts else id)
      (if holdsAttach d k && (b.attachPort k).mode ≠ .down then b.attachTo k .down 0 0 else b) := by
  subst ha hb
  simp only [closeDomain, h]
  split <;> rfl

theorem exec_domainClosed_idle {d : Nat} {s : State} (hm : (s.domain d).mode = .closing) (hb : s.domainBusy d = false) :
    exec (.domainClosed d) s = .next (s.closeDomain d) :=
  if_pos (by simp [hm, hb])

/-- At its deadline what still runs in a closing domain is abandoned, it closes, and the fault is logged. -/
theorem exec_domainCloseDeadline_passed {d : Nat} {s : State} (hm : (s.domain d).mode = .closing)
    (hd : (s.domain d).since + (s.domain d).deadline ≤ s.now) :
    exec (.domainCloseDeadline d) s =
      .next (((s.abandonDomain d).closeDomain d).logFault .package .power (s.domainCode d) none 0 0 0) :=
  if_pos (by simp [hm, hd])

/-- An OPENING domain whose open time has passed is OPEN and wakes. -/
theorem exec_domainOpened_passed {d : Nat} {s : State} (hm : (s.domain d).mode = .opening)
    (hd : (s.domain d).since + openTime d ≤ s.now) :
    exec (.domainOpened d) s = .next ((s.setDomain d {} 3).wakeDomain d) :=
  if_pos (by simp [hm, hd])

theorem State.wakeDomain_pair {d : Nat} {s : State} (h : domainTower d = none) : s.wakeDomain d = s := by
  simp only [wakeDomain, h]

theorem State.wakeDomain_tower {d k : Nat} {s : State} (h : domainTower d = some k) :
    s.wakeDomain d = (if holdsAttach d k then s.startAttach k else s).settlePorts := by
  simp only [wakeDomain, h]

/-! ### The control period (R727) -/

/-- When a control period has passed the package level follows the one rule, a throttled period is counted, the towers are measured,
and each changed throttle level writes its event. -/
theorem exec_powerControl_due {power : Nat} {temps : List (Int × Int)} {s a b : State} {level : Nat} (hr : s.timeRuns = true)
    (hd : s.power.lastControl + s.par d20_0071 0 ≤ s.now)
    (hl : level = stepLevel s.power.level power (s.par d20_0070 0) (s.par d20_0072 0))
    (ha : a = { s with power := { s.power with level := level, power := power % 65536, lastControl := s.now } })
    (hb : b = if level = 0 then a else a.bump d20_0100 0) :
    exec (.powerControl power temps) s = .next
      (((temps.take s.towers).zipIdx.foldl (fun s e => s.measureTower e.2 e.1.1 e.1.2) b).throttleEvents
        ((upTo s.towers).map s.throttle)) := by
  have hb' : b = if level > 0 then a.bump d20_0100 0 else a := by
    rw [hb]
    by_cases h : level = 0
    · rw [if_pos h, if_neg (by omega)]
    · rw [if_neg h, if_pos (by omega)]
  have due : (s.timeRuns && decide (s.power.lastControl + s.par d20_0071 0 ≤ s.now)) = true := by simp [hr, hd]
  have towers : b.towers = s.towers := by
    rw [hb, ha]
    split <;> rfl
  rw [← congrArg (List.take · temps) towers]
  subst hb' ha hl
  exact if_pos due

/-! ### The statement about progress -/

/-- Settles O14, by the lemma of each command; what a deadline abandons, and how a tower's level follows its two temperatures, are
the model's choices (log entries 80 and 81). -/
theorem powerDomainProgress : Obligations.PowerDomainProgress := by
  unfold Obligations.PowerDomainProgress
  refine ⟨fun d s hm hb a b ha => ⟨fun hk => ?closedPair, fun k hk hbays => ?closedTower⟩, ?deadline,
    fun d s hm hd a ha => ⟨fun hk => ?openedPair, fun k hk => ?openedTower⟩,
    fun power temps s hr hd level a b hl => exec_powerControl_due hr hd hl⟩
  case closedPair => rw [exec_domainClosed_idle hm hb, State.closeDomain_pair hk, ha, State.setDomain]
  case closedTower => exact ⟨_, (exec_domainClosed_idle hm hb).trans (congrArg _ (State.closeDomain_tower hk ha hbays)), rfl⟩
  case deadline =>
    rintro d s hm hd a b rfl rfl
    exact exec_domainCloseDeadline_passed hm hd
  case openedPair => rw [exec_domainOpened_passed hm hd, State.wakeDomain_pair hk, ha, State.setDomain]
  case openedTower => rw [exec_domainOpened_passed hm hd, State.wakeDomain_tower hk, ha, State.setDomain]

end Sys2Proof.Machine

/-! PROOFS. Translations of host memory and page requests, the host's window into registered regions, and the statement about them. -/
namespace Sys2Proof.Machine

/-! ### Translation answers, page requests and invalidations (R558 to R560; log 74) -/

section
variable {t pasid page : Nat} {s : State} {ws : List AtsWait}

section
variable (write : Bool) (hw : ws = (s.pageWaits t pasid page).filter (fun w => w.pri.isNone)) (hn : ws ≠ [])
include hw hn

/-- An answer that does not allow reading makes every wait a page request. -/
theorem exec_atsTranslationResponse_denied :
    exec (.atsTranslationResponse t pasid page false write) s = .next (ws.foldl (fun s w => s.requestPage w) s) := by
  subst hw
  exact if_neg (by simpa using hn)

/-- One that allows reading replaces the translation; the waits whose access it allows go on, the others become page requests. -/
theorem exec_atsTranslationResponse_granted :
    exec (.atsTranslationResponse t pasid page true write) s = .next
      (ws.foldl (fun s w => if write || !w.write then s.wakeEntry w else s.requestPage w)
        { s with ats := s.ats.filter (fun (x : Translation) => !(x.fn = t && x.pasid = pasid && x.page = page)) ++
          [⟨t, pasid, page, write⟩] }) := by
  subst hw
  exact if_neg (by simpa using hn)

end

/-- A page request has waited for D14.0050. -/
theorem exec_priTimeout_eq (t pasid page : Nat) (s : State) :
    exec (.priTimeout t pasid page) s = .next (((s.pageWaits t pasid page).filter (fun w =>
      w.pri.any (fun a => a + s.par d14_0050 0 ≤ s.now))).foldl (fun s w => s.pageFailed w) s) := by
  have passed : (fun (w : AtsWait) => match w.pri with | some a => decide (a + s.par d14_0050 0 ≤ s.now) | none => false) =
      fun w => w.pri.any (fun a => decide (a + s.par d14_0050 0 ≤ s.now)) := by
    funext w
    cases w.pri <;> rfl
  rw [← passed]
  rfl

/-- An invalidation whose translations no access uses removes them, and is answered and counted. -/
theorem exec_atsInvalidate_unused {first pages : Nat} {hit : Translation → Bool}
    (hh : hit = fun (x : Translation) => x.fn = t && x.pasid = pasid && first ≤ x.page && x.page < first + pages)
    (hu : ∀ x ∈ s.ats, hit x = true → s.pageInUse t pasid x.page = false) :
    exec (.atsInvalidate t pasid first pages) s = .next
      (({ s with ats := s.ats.filter (fun x => !hit x), out := s.out ++ [.ats t 2 first] } : State).bump d14_0103 (tenantHost t)) := by
  have unused : s.ats.any (fun x => hit x && s.pageInUse t pasid x.page) = false :=
    List.any_eq_false.mpr fun x hx => by
      cases h : hit x
      · simp
      · simp [hu x hx h]
  subst hh
  exact if_neg (ne_true_of_eq_false unused)

end

/-! ### The window (R561, R562, R564 to R566; log 71, log 72) -/

/-- The window of a host port takes requests: its link is up and the package runs. -/
theorem State.windowGuard_open {s : State} {host : Nat} (hu : (s.host host).linkUp = true) (hp : s.pkg.phase = .running) :
    (!(s.host host).linkUp || decide (s.pkg.phase ≠ .running)) = false := by
  simp [hu, hp]

section
variable {host reqId offset : Nat} {s : State} {r : Region}

section
variable {data : Bytes} (hu : (s.host host).linkUp = true) (hp : s.pkg.phase = .running)
include hu hp

/-- A write that no region allows is counted. -/
theorem exec_windowWrite_noRegion (hr : s.regionFor host reqId offset data.length true = none) :
    exec (.windowWrite host reqId offset data) s = .next (s.bump d14_0100 host) := by
  simp only [exec, execWindowWrite, State.windowGuard_open hu hp, hr, Bool.false_eq_true, if_false]

variable (hr : s.regionFor host reqId offset data.length true = some r)
include hr

/-- A write whose target the region's tenant may not reach is counted. -/
theorem exec_windowWrite_denied (ho : s.placeOk r.tenant r.place (r.addr offset) data.length true = false) :
    exec (.windowWrite host reqId offset data) s = .next (s.bump d14_0100 host) := by
  simp only [exec, execWindowWrite, State.windowGuard_open hu hp, hr, ho, Bool.not_false, if_true, Bool.false_eq_true, if_false]

variable (ho : s.placeOk r.tenant r.place (r.addr offset) data.length true = true)
include ho

/-- A write that is answered with an error changes nothing. -/
theorem exec_windowWrite_failed (hw : s.placeWrite r.tenant r.place (r.addr offset) data = none) :
    exec (.windowWrite host reqId offset data) s = .next s := by
  simp only [exec, execWindowWrite, State.windowGuard_open hu hp, hr, ho, hw, Bool.not_true, Bool.false_eq_true, if_false]

/-- A write that is placed is remembered where it went to an attach port. -/
theorem exec_windowWrite_placed {t : State} (hw : s.placeWrite r.tenant r.place (r.addr offset) data = some t) :
    exec (.windowWrite host reqId offset data) s =
      if r.space = 2 then .next (t.setHost host { t.host host with
        winAttach := tset r.port (r.addr offset + (data.length - min 4 data.length)) (t.host host).winAttach
        winCross := if r.cross && !(t.host host).winCross.contains r.port then (t.host host).winCross ++ [r.port]
                    else (t.host host).winCross })
      else .next t := by
  simp only [exec, execWindowWrite, State.windowGuard_open hu hp, hr, ho, hw, Bool.not_true, Bool.false_eq_true, if_false]

end

section
variable {len : Nat} {ok : Bool} {ans : MemAns} (hu : (s.host host).linkUp = true) (hp : s.pkg.phase = .running)
include hu hp

/-- A read of the window is refused: it is counted, reported and answered with an error. -/
def State.refuseWindow (host : Nat) (s : State) : State :=
  ((s.bump d14_0101 host).aer (1024 * host) .windowRead).emit (.readData (1024 * host) [] true)

theorem exec_windowRead_noRegion (hr : s.regionFor host reqId offset len false = none) :
    exec (.windowRead host reqId offset len ok ans) s = .next (s.refuseWindow host) := by
  simp only [exec, execWindowRead, State.windowGuard_open hu hp, hr, Bool.false_eq_true, if_false]
  rfl

variable (hr : s.regionFor host reqId offset len false = some r)
include hr

theorem exec_windowRead_denied (ho : s.placeOk r.tenant r.place (r.addr offset) len false = false) :
    exec (.windowRead host reqId offset len ok ans) s = .next (s.refuseWindow host) := by
  simp only [exec, execWindowRead, State.windowGuard_open hu hp, hr, ho, Bool.not_false, if_true, Bool.false_eq_true, if_false]
  rfl

variable (ho : s.placeOk r.tenant r.place (r.addr offset) len false = true) {f : State}
  (hf : f = s.flushWindow host r (r.addr offset))
include ho hf

/-- Read-backs that do not complete answer the read with an error. -/
theorem exec_windowRead_unflushed (hn : (s.host host).winAttach ≠ []) (hok : ok = false) :
    exec (.windowRead host reqId offset len ok ans) s = .next (f.emit (.readData (1024 * host) [] true)) := by
  subst hf hok
  simp only [exec, execWindowRead, State.windowGuard_open hu hp, hr, ho, Bool.not_true, Bool.false_eq_true, if_false]
  exact if_pos (by simpa using hn)

/-- After its read-backs an allowed read answers the bytes, or an error. -/
theorem exec_windowRead_flushed (hn : (s.host host).winAttach = [] ∨ ok = true) {g : State}
    (hg : g = if r.space = 2 then f.emit (.memRead 2 r.port 0 (r.addr offset) len) else f) :
    exec (.windowRead host reqId offset len ok ans) s =
      match g.placeRead r.tenant r.place (r.addr offset) len ans with
      | some b => .next (g.emit (.readData (1024 * host) b false))
      | none => .next ((g.readFailed r.tenant r.place (r.addr offset) len).emit (.readData (1024 * host) [] true)) := by
  have flushed : (!(s.host host).winAttach.isEmpty && !ok) = false := by
    obtain hn | hn := hn <;> simp [hn]
  subst hg hf
  simp only [exec, execWindowRead, State.windowGuard_open hu hp, hr, ho, flushed, Bool.not_true, Bool.false_eq_true, if_false]
  rfl

end
end

/-! ### The statement -/

/-- Settles O16, by the lemmas of the answers and of the window; that the lowest of several regions serves a request, that a failed write
is dropped uncounted, and when a page request is not sent, are the model's choices (log entries 71, 72 and 74). -/
theorem translationAndWindow : Obligations.TranslationAndWindow := by
  unfold Obligations.TranslationAndWindow
  refine ⟨fun t pasid page read write s ws hw hn => ⟨?denied, ?granted⟩, ?pri, exec_priTimeout_eq,
    fun t pasid first pages s hit hh hu => exec_atsInvalidate_unused hh hu,
    fun host reqId offset data s hu hp => ⟨exec_windowWrite_noRegion hu hp, fun r hr => ⟨exec_windowWrite_denied hu hp hr, fun ho =>
      ⟨exec_windowWrite_failed hu hp hr ho, fun t hw => ?placed⟩⟩⟩, ?read⟩
  case denied =>
    rintro rfl
    exact exec_atsTranslationResponse_denied write hw hn
  case granted =>
    rintro rfl
    exact exec_atsTranslationResponse_granted write hw hn
  case pri =>
    rintro t pasid page s ws rfl
    exact ⟨rfl, rfl⟩
  case placed =>
    rw [exec_windowWrite_placed hu hp hr ho hw]
    exact ⟨fun h => if_neg h, fun h => if_pos h⟩
  case read =>
    rintro host reqId offset len ok ans s hu hp refused rfl
    refine ⟨exec_windowRead_noRegion hu hp, fun r hr => ⟨exec_windowRead_denied hu hp hr, fun ho f hf =>
      ⟨exec_windowRead_unflushed hu hp hr ho hf, fun hn g hg => ⟨fun b hb => ?_, fun hb => ?_⟩⟩⟩⟩
      <;> rw [exec_windowRead_flushed hu hp hr ho hf hn hg, hb]

end Sys2Proof.Machine

/-! PROOFS. Attach ports and the accelerators' aperture, and the statement about them. -/
namespace Sys2Proof.Machine

/-! ### Attach ports (R567, R568; log 75) -/

/-- A mode that the policy excludes, or that the partner does not answer, is not trained. -/
theorem not_allowed {policy other : Nat} {answers : Bool} (h : policy = other ∨ answers = false) :
    ¬(policy ≠ other ∧ answers = true) := by
  obtain h | h := h <;> simp [h]

section
variable {port : Nat} {s : State}

/-- A training port comes up native, else as CXL, each where its policy and its partner allow it, else it is in FAULT. -/
theorem exec_attachTrain_training (native cxl : Bool) (width bytes : Nat) (hm : (s.attachPort port).mode = .training) :
    exec (.attachTrain port native cxl width bytes) s =
      if s.par d14_0040 port ≠ 2 ∧ native = true then .next (s.attachTo port .nativeUp width (min bytes 1099511627776))
      else if s.par d14_0040 port ≠ 1 ∧ cxl = true then .next (s.attachTo port .cxlUp width (min bytes 1099511627776))
      else .next (s.attachTo port .fault 0 0) := by
  refine (if_neg (by simp [hm])).trans ?_
  simp only [Bool.and_eq_true, decide_eq_true_eq]

/-- A port in FAULT trains again when its retry time has passed. -/
theorem exec_attachFaultRetry_passed (hm : (s.attachPort port).mode = .fault)
    (hd : (s.attachPort port).since + s.par d14_0045 port ≤ s.now) (he : s.attachEnabled port = true) :
    exec (.attachFaultRetry port) s = .next ((s.attachTo port .training 0 0).bump d14_0107 port) := by
  have starts : s.startAttach port = s.attachTo port .training 0 0 := if_pos (by simp [he, hm])
  rw [← starts]
  exact if_pos (by simp [hm, hd, he])

/-! ### The aperture (R491, R569 to R571) -/

section
variable {addr n : Nat} {write : Bool}

theorem State.accessPackage_refused {data : Bytes} (hm : s.accelMem port addr n write = false) :
    s.accessPackage port addr write n data = s.refuseAperture port write :=
  if_pos (by simp [hm])

theorem State.accessPackage_closed {data : Bytes} (hm : s.accelMem port addr n write = true)
    (hc : s.placeClosed ⟨1, 0, 0⟩ addr n = true) :
    s.accessPackage port addr write n data = s.accelError port write :=
  (if_neg (by simp [hm])).trans (if_pos hc)

/-- An allowed write is performed, or answered with an error. -/
theorem State.accessPackage_write (data : Bytes) (hm : s.accelMem port addr n true = true)
    (hc : s.placeClosed ⟨1, 0, 0⟩ addr n = false) :
    s.accessPackage port addr true n data = (s.memWrite addr data).getD (s.accelError port true) := by
  simp only [accessPackage, hm, hc, answerAccel, Bool.not_true, Bool.false_eq_true, Bool.true_or, if_false, if_true]
  cases s.memWrite addr data <;> rfl

/-- An allowed read answers the bytes, or an error, with its poisoned cells counted. -/
theorem State.accessPackage_read (data : Bytes) (hm : s.accelMem port addr n false = true)
    (hc : s.placeClosed ⟨1, 0, 0⟩ addr n = false) :
    s.accessPackage port addr false n data = match s.memRead addr n with
      | some b => s.emit (.readData (4096 + port) b false)
      | none => (s.countPoison ⟨1, 0, 0⟩ addr n).emit (.readData (4096 + port) [] true) := by
  simp only [accessPackage, hm, hc, answerAccel, accelError, accelReader, Bool.not_true, Bool.false_eq_true, Bool.false_or, if_false]
  cases s.memRead addr n <;> rfl

end

/-- An accelerator's access of `n` bytes on a port whose link is up. -/
structure State.Accesses (s : State) (port : Nat) (write : Bool) (len : Nat) (data : Bytes) (n : Nat) : Prop where
  up : s.attachUp port = true
  bytes : n = if write then data.length else len
  some : n ≠ 0

section
variable {addr : Nat} {write : Bool} {len : Nat} {data : Bytes} {n : Nat} (h : s.Accesses port write len data n) (ans : MemAns)
include h

/-- An access goes, by its addresses, to package memory, to the attach memory of another port, or to a doorbell page; one that lies
wholly in none is refused. -/
theorem State.Accesses.exec_eq :
    exec (.apertureAccess port addr write len data ans) s =
      if addr + n ≤ 0x20000000000 then .next (s.accessPackage port addr write n data)
      else if 0x20000000000 ≤ addr ∧ addr + n ≤ 0xA0000000000 ∧ addr / 0x10000000000 = (addr + n - 1) / 0x10000000000 then
        .next (s.accessPeer port (addr / 0x10000000000 - 2) (addr % 0x10000000000) write n data ans)
      else if 0xA0000000000 ≤ addr ∧ addr + n ≤ 0xA0000000000 + 4096 * 2048 ∧ addr / 4096 = (addr + n - 1) / 4096 then
        if s.doorbellGranted ((addr - 0xA0000000000) / 4096) (.attach port) = false then .next (s.refuseAperture port write)
        else if write = true then .next (s.ringDoorbell ((addr - 0xA0000000000) / 4096) (BitVec.ofNat 64 (leNat data))
          (if addr % 8 = 0 then 8 * n else 0) (.attach port))
        else .next (s.emit (.readData (4096 + port) (List.replicate n 0) false))
      else .next (s.refuseAperture port write) := by
  obtain ⟨up, rfl, some⟩ := h
  refine (if_neg (by simp [up, some])).trans ?_
  simp only [Bool.and_eq_true, decide_eq_true_eq, and_assoc, Bool.not_eq_true', accelReader]

theorem State.Accesses.package (hp : addr + n ≤ 0x20000000000) :
    exec (.apertureAccess port addr write len data ans) s = .next (s.accessPackage port addr write n data) := by
  rw [h.exec_eq, if_pos hp]

theorem State.Accesses.peer (hlo : 0x20000000000 ≤ addr) (hhi : addr + n ≤ 0xA0000000000)
    (hw : addr / 0x10000000000 = (addr + n - 1) / 0x10000000000) :
    exec (.apertureAccess port addr write len data ans) s =
      .next (s.accessPeer port (addr / 0x10000000000 - 2) (addr % 0x10000000000) write n data ans) := by
  have := h.some
  rw [h.exec_eq, if_neg (by omega), if_pos ⟨hlo, hhi, hw⟩]

theorem State.Accesses.doorbell (hlo : 0xA0000000000 ≤ addr) (hhi : addr + n ≤ 0xA0000000000 + 4096 * 2048)
    (hw : addr / 4096 = (addr + n - 1) / 4096) {t : Nat} (ht : t = (addr - 0xA0000000000) / 4096) :
    exec (.apertureAccess port addr write len data ans) s =
      if s.doorbellGranted t (.attach port) = false then .next (s.refuseAperture port write)
      else if write = true then .next (s.ringDoorbell t (BitVec.ofNat 64 (leNat data)) (if addr % 8 = 0 then 8 * n else 0) (.attach port))
      else .next (s.emit (.readData (4096 + port) (List.replicate n 0) false)) := by
  have := h.some
  rw [h.exec_eq, if_neg (by omega), if_neg (by omega), if_pos ⟨hlo, hhi, hw⟩, ht]

/-- An access that begins below 2^41 and ends beyond it is refused, and so is one that ends beyond the doorbell pages. -/
theorem State.Accesses.beyond (hb : (0x20000000000 < addr + n ∧ addr < 0x20000000000) ∨
      (0xA0000000000 + 4096 * 2048 < addr + n ∧ 0xA0000000000 ≤ addr)) :
    exec (.apertureAccess port addr write len data ans) s = .next (s.refuseAperture port write) := by
  rw [h.exec_eq, if_neg (by omega), if_neg (by omega), if_neg (by omega)]

end
end

/-! ### The statement -/

/-- Settles O17, by the lemmas of a port's training and of an access by its addresses; that a CXL policy with a partner that is native
only gives FAULT, and that a doorbell of the aperture needs a grant, are the model's choices (log entries 75 and 98). -/
theorem attachPortsAndAperture : Obligations.AttachPortsAndAperture := by
  unfold Obligations.AttachPortsAndAperture
  refine ⟨?train, fun port s => exec_attachFaultRetry_passed, fun port s hu => if_pos hu, ?access⟩
  case train =>
    intro port native cxl width bytes s hm
    rw [exec_attachTrain_training native cxl width bytes hm]
    refine ⟨fun hp hn => if_pos ⟨hp, hn⟩, fun hn hp hc => ?_, fun hn hc => ?_⟩
    · rw [if_neg (not_allowed hn), if_pos ⟨hp, hc⟩]
    · rw [if_neg (not_allowed hn), if_neg (not_allowed hc)]
  case access =>
    intro port addr write len data ans s n hu hn h0
    have h : s.Accesses port write len data n := ⟨hu, hn, h0⟩
    refine ⟨fun hp => ?package, fun hlo hhi hw => h.peer ans hlo hhi hw, fun hlo hhi hw t ht => ?doorbell,
      fun hhi hlo => h.beyond ans (.inl ⟨hhi, hlo⟩), fun hhi hlo => h.beyond ans (.inr ⟨hhi, hlo⟩)⟩
    case package =>
      rw [h.package ans hp]
      refine ⟨fun hm => ?_, fun hm hc => ?_, fun hm hc => ⟨?_, ?_⟩⟩
      · rw [State.accessPackage_refused hm]
      · rw [State.accessPackage_closed hm hc]
      · rintro rfl
        rw [State.accessPackage_write data hm hc]
      · rintro rfl
        exact congrArg Host.Outcome.next (State.accessPackage_read data hm hc)
    case doorbell =>
      rw [h.doorbell ans hlo hhi hw ht]
      exact ⟨fun hg => if_pos hg, fun hg hw => by rw [if_neg (by simp [hg]), if_pos hw],
        fun hg hw => by rw [if_neg (by simp [hg]), if_neg (by simp [hw])]⟩

end Sys2Proof.Machine

/-! PROOFS. The bring-up of links: line check, negotiation, training, the timeouts, loss, retry and decode failures, and the statement
about them. -/
namespace Sys2Proof.Machine

section
variable {n : Nat} {s : State}

/-! ### The line check and negotiation (R513 to R516, R519; log 69) -/

/-- A line check in DETECT: `a` is the state with the failed lanes recorded, which decide what the port does next. -/
theorem exec_lineCheckDone_detect {faults f : BitVec 16} {a : State} (he : s.portEnabled n = true) (hh : s.portHeld n = false)
    (hm : (s.port n).mode = .detect) (hf : f = faults &&& 0x1FF) (ha : a = s.setPort n { s.port n with laneFaults := f }) :
    exec (.lineCheckDone n faults) s =
      if f.getLsbD 8 then .next (a.portTo n .fault 4)
      else if a.noModePasses n f then .next (a.portTo n .fault 5)
      else if a.par d13_0004 n = 2 then .next (a.startTrain n (a.auiMode n) (a.portWidth n))
      else .next (a.setPort n { a.port n with mode := .negotiate, since := a.now }) := by
  subst ha hf
  exact if_pos (by simp [he, hh, hm])

section
variable {fabric : Bool} {width : Nat} {modes : BitVec 8} (hm : (s.port n).mode = .negotiate)
include hm

/-- Where both sides have it the fabric mode is trained. -/
theorem exec_anComplete_fabric (hf : fabric = true) (ho : s.ownFabric n = true) :
    exec (.anComplete n fabric width modes) s = .next (s.startTrain n 0x10 (min (s.portWidth n) width)) :=
  (if_pos hm).trans (if_pos (by simp [hf, ho]))

variable (hf : fabric = false ∨ s.ownFabric n = false)
include hf

theorem exec_anComplete_noMode (hc : (s.ownModes n).find? (fun c => modes.getLsbD c) = none) :
    exec (.anComplete n fabric width modes) s = .next (s.portTo n .fault 1) := by
  have other : (fabric && s.ownFabric n) = false := Bool.and_eq_false_iff.mpr hf
  simp only [exec, execAnComplete, hm, other, hc, if_true, Bool.false_eq_true, if_false]

/-- Else the best common Ethernet mode is trained, unless one of its lanes has failed. -/
theorem exec_anComplete_ethernet {c : Nat} (hc : (s.ownModes n).find? (fun c => modes.getLsbD c) = some c) :
    exec (.anComplete n fabric width modes) s =
      if lanesFail (s.port n).laneFaults (modeLanes c) then .next (s.portTo n .fault 5) else .next (s.startTrain n c (modeLanes c)) := by
  have other : (fabric && s.ownFabric n) = false := Bool.and_eq_false_iff.mpr hf
  simp only [exec, execAnComplete, hm, other, hc, if_true, Bool.false_eq_true, if_false]

end

/-! ### Training (R517, R519) -/

section
variable (hm : (s.port n).mode = .train) (far inv : BitVec 8) (rev : Bool)
include hm

/-- An Ethernet link comes up at its width. -/
theorem exec_trainDone_ethernet (hc : (s.port n).modeCode ≠ 0x10) :
    exec (.trainDone n far inv rev) s = .next (s.portUp n (s.port n).linkWidth inv rev) :=
  (if_pos hm).trans (if_neg hc)

/-- A fabric link comes up at the widest group of passing lanes, once the partner has advertised. -/
theorem exec_trainDone_fabric (hc : (s.port n).modeCode = 0x10) {w : Nat}
    (hw : w = passingWidth (s.port n).linkWidth ((s.port n).laneFaults.toNat % 256 ||| far.toNat)) :
    exec (.trainDone n far inv rev) s =
      if w = 0 then .next (s.portTo n .fault 5) else if (s.port n).advertised then .next (s.portUp n w inv rev) else .next s := by
  subst hw
  exact (if_pos hm).trans (if_pos hc)

end

/-! ### Time limits, loss, retry and decode failures (R521, R523, R527) -/

theorem exec_negotiateTimeout_passed (hm : (s.port n).mode = .negotiate) (hd : (s.port n).since + s.par d13_0022 n ≤ s.now) :
    exec (.negotiateTimeout n) s = .next (s.portTo n .fault 2) :=
  if_pos (by simp [hm, hd])

theorem exec_trainTimeout_passed (hm : (s.port n).mode = .train) (hd : (s.port n).since + s.par d13_0022 n ≤ s.now) :
    exec (.trainTimeout n) s = .next (s.portTo n .fault 3) :=
  if_pos (by simp [hm, hd])

theorem exec_linkLoss_lost {silent : Bool} (hm : (s.port n).mode = .up)
    (h : silent = true ∨ (s.port n).modeCode = 0x10 ∧ (s.port n).lastStatus + 4 * s.par d13_0020 n ≤ s.now) :
    exec (.linkLoss n silent) s = .next (s.portTo n .detect 0) :=
  if_pos (by simpa [hm] using h)

theorem exec_faultRetry_passed (hm : (s.port n).mode = .fault) (hd : (s.port n).since + s.par d13_0024 n ≤ s.now) :
    exec (.faultRetry n) s = .next (s.portTo n .detect 0) :=
  if_pos (by simp [hm, hd])

/-- A codeword that fails to decode is counted, on a fabric link also as a lost block position. -/
theorem exec_codewordDecodeFail_up (hm : (s.port n).mode = .up) :
    exec (.codewordDecodeFail n) s =
      .next (if (s.port n).modeCode = 0x10 then (s.bump d13_0103 n).bump d13_0110 n else s.bump d13_0103 n) :=
  if_pos hm

end

/-! ### The statement -/

/-- Settles O43, by the lemma of each command; that a mode is coded at negotiation, and that an operand says whether the partner is
silent, are the model's choices (log entry 69). -/
theorem linkBringUp : Obligations.LinkBringUp := by
  unfold Obligations.LinkBringUp
  refine ⟨fun n faults f s a he hh hm hf ha => ?lineCheck, fun n width fabric modes s hm =>
    ⟨exec_anComplete_fabric hm, fun hf => ⟨exec_anComplete_noMode hm hf, fun c hc => ?ethernet⟩⟩,
    fun n w far inv rev s hm hw => ⟨exec_trainDone_ethernet hm far inv rev, ?noLane, ?up, ?waits⟩,
    fun n s => ⟨exec_negotiateTimeout_passed, exec_trainTimeout_passed, fun silent => exec_linkLoss_lost, exec_faultRetry_passed,
      ?codewordEthernet, ?codewordFabric⟩⟩
  case lineCheck =>
    rw [exec_lineCheckDone_detect he hh hm hf ha]
    refine ⟨fun hs => if_pos hs, fun hs hp => ?_, fun hs hp h2 => ?_, fun hs hp h2 => ?_⟩
    · rw [if_neg (ne_true_of_eq_false hs), if_pos hp]
    · rw [if_neg (ne_true_of_eq_false hs), if_neg (by simp [hp]), if_pos h2]
    · rw [if_neg (ne_true_of_eq_false hs), if_neg (by simp [hp]), if_neg h2]
  case ethernet =>
    rw [exec_anComplete_ethernet hm hf hc]
    exact ⟨fun hl => if_pos hl, fun hl => if_neg (by simp [hl])⟩
  case noLane =>
    intro hc h0
    rw [exec_trainDone_fabric hm far inv rev hc hw, if_pos h0]
  case up =>
    intro hc h0 ha
    rw [exec_trainDone_fabric hm far inv rev hc hw, if_neg h0, if_pos ha]
  case waits =>
    intro hc h0 ha
    rw [exec_trainDone_fabric hm far inv rev hc hw, if_neg h0, if_neg (by simp [ha])]
  case codewordEthernet =>
    intro hm hc
    rw [exec_codewordDecodeFail_up hm, if_neg hc]
  case codewordFabric =>
    intro hm hc
    rw [exec_codewordDecodeFail_up hm, if_pos hc]

end Sys2Proof.Machine

/-! PROOFS. Zeroing, requests that fail by time, uncorrectable errors, refresh and patrol of package memory, and the statement about
them. -/
namespace Sys2Proof.Machine

section
variable {s : State}

/-! ### Zeroing (R497, R498) -/

/-- The zeroing engine writes the next pending block with zeros and moves on, or ends. -/
theorem exec_zeroBlock_zeroing {x b : Nat} (hz : (s.extent x).zeroing = true)
    (ho : (extentDomains x).any (fun d => (s.domain d).mode = .closed) = false)
    (hb : b = skipClean (s.extent x).clean (s.extent x).clean.length (s.extent x).zeroNext) :
    exec (.zeroBlock x) s = if 65536 ≤ b then .next (s.endZeroing x) else .next ((s.zeroBlock x b).zeroTo x (b + 1)) := by
  subst hb
  exact if_pos (by rw [hz, ho]; rfl)

/-! ### Requests that fail by time (R495, R557, R561, R751) -/

section
variable {r : ReadOf}

/-- A request that is not outstanding does not fail by time. -/
theorem exec_requestTime_none (h : s.requestPlace r = none) :
    exec (.completionTimeout r) s = .next s ∧ exec (.staleRequestDiscard r) s = .next s := by
  simp only [exec, execCompletionTimeout, execStaleRequestDiscard, h, and_self]

variable {t a : Nat} {p : Place} (h : s.requestPlace r = some (t, p, a))
include h

/-- A request without an answer in its time ends as one answered with an error; one to host memory is counted and reported. -/
theorem exec_completionTimeout_outstanding :
    exec (.completionTimeout r) s =
      failRequest r (if p.space = 0 then (s.bump d14_0106 (tenantHost t)).aer t .completionTimeout else s) := by
  simp only [exec, execCompletionTimeout, h]

/-- A request that package memory has not received in its time is counted and ends so too. -/
theorem exec_staleRequestDiscard_outstanding :
    exec (.staleRequestDiscard r) s =
      if p.space = 1 then failRequest r (s.bump d12_0104 (extentTower (extentOf a))) else .next s := by
  simp only [exec, execStaleRequestDiscard, h]

end

/-! ### Uncorrectable errors (R503, R504; log 10, log 92) -/

/-- A cell that the part does not have, that makes no memory access or that is poisoned already finds no error. -/
theorem exec_uncorrectableError_unread {addr : Nat} (h : 2199023255552 ≤ addr ∨ extentAbsent s.towers (extentOf addr) = true ∨
      s.blockPending (addr / 64 * 64) = true ∨ addr / 64 ∈ s.memory.poison) :
    exec (.uncorrectableError addr) s = .next s :=
  if_pos (by simpa [or_assoc] using h)

/-- An error is counted by tier; in a reserved extent it acts by what stands there, else it poisons its cell and its extent. -/
theorem exec_uncorrectableError_found {addr : Nat} {b : State} (hr : addr < 2199023255552)
    (hx : extentAbsent s.towers (extentOf addr) = false) (hp : s.blockPending (addr / 64 * 64) = false) (hc : addr / 64 ∉ s.memory.poison)
    (hb : b = s.bump (if extentOf addr < 1024 then d12_0101 else d12_0103) (extentTower (extentOf addr))) :
    exec (.uncorrectableError addr) s =
      if extentReserved (extentOf addr) then .next (b.reservedError (addr / 64 * 64))
      else
        let d : State := { b with memory := { b.memory with poison := insertRising (addr / 64) b.memory.poison } }
        .next ((d.setExtent (extentOf addr) { d.extent (extentOf addr) with poisoned := true }).reportPoison (addr / 64 * 64)) := by
  subst hb
  exact if_neg (by simp [hr, hx, hp, hc])

/-! ### Refresh and patrol (R502, R505, R506; log 92) -/

/-- The interval of a bank has expired, and its domain is not closed. -/
theorem exec_refresh_due {k slice bank n : Nat} (hk : k < s.towers) (hs : slice < 8) (hb : bank < 32)
    (hn : n = (location 3 0 k 0 slice bank 0 0).toNat) (hm : (s.domain (domTower k)).mode ≠ .closed)
    (hd : tgetD s.memory.refreshed n 0 + s.refreshInterval k ≤ s.now) :
    exec (.refresh k slice bank) s = .next { s with memory := { s.memory with refreshed := tput 0 n s.now s.memory.refreshed } } := by
  subst hn
  exact if_pos (by simp [hk, hs, hb, hm, hd])

/-- A multiple of the pass time that no pass has served is reached, and no pass runs. -/
theorem exec_patrolStart_due {k n : Nat} (hk : k < s.towers) (hn : n = s.patrolMultiple k) (hp : s.par d12_0010 k ≠ 0)
    (hr : (tgetD s.memory.patrol k {}).running = false) (hd : (tgetD s.memory.patrol k {}).nextDue < n) :
    exec (.patrolStart k) s = .next { s with memory := { s.memory with
      patrol := tput {} k { running := true, started := s.now, nextDue := n } s.memory.patrol } } := by
  subst hn
  exact if_pos (by simp [hk, hp, hr, hd])

end

/-! ### The statement -/

/-- Settles O42, by the lemma of each command; what stands in a reserved extent, that work of some length is one command at its end,
and how errors, refresh and patrol come, are the model's choices (log entries 10, 14 and 92). -/
theorem packageMemoryWork : Obligations.PackageMemoryWork := by
  unfold Obligations.PackageMemoryWork
  refine ⟨?zero, fun r t a p s => ⟨exec_requestTime_none, fun h => ?time⟩, ?error, fun k s hk => ⟨?refresh, ?start, ?done⟩⟩
  case zero =>
    intro x b s hz ho hb
    rw [exec_zeroBlock_zeroing hz ho hb]
    exact ⟨fun h => if_pos h, fun h => if_neg (by omega)⟩
  case time =>
    rw [exec_completionTimeout_outstanding h, exec_staleRequestDiscard_outstanding h]
    exact ⟨fun hp => by rw [if_neg hp], fun hp => by rw [if_pos hp], fun hp => if_pos hp, fun hp => if_neg hp⟩
  case error =>
    rintro addr x a c s b d rfl rfl rfl
    refine ⟨exec_uncorrectableError_unread, fun hr hx hp hc hb => ?_⟩
    rw [exec_uncorrectableError_found hr hx hp hc hb]
    refine ⟨fun hres => if_pos hres, ?_⟩
    rintro hres rfl
    exact if_neg (by simp [hres])
  case refresh =>
    intro slice bank n hs hb hn hm hd
    exact exec_refresh_due hk hs hb hn hm hd
  case start =>
    rintro p n q rfl rfl hn hp hr hd
    exact exec_patrolStart_due hk hn hp hr hd
  case done =>
    rintro corrected q a rfl hr rfl
    exact if_pos hr

end Sys2Proof.Machine

/-! PROOFS. A tenant's reset from its start to its end, and QUIESCE, and the statement about them. -/
namespace Sys2Proof.Machine

section
variable {t : Nat} {s : State}

/-! ### The start of a reset (R583 to R588; log 93) -/

/-- The state in which a reset of a tenant has begun: the tenant is RESETTING in its next incarnation, its event ring and a migration
are stopped, its speculations are cancelled, and a PF's master is reset. -/
def State.resetBegun (t : Nat) (cause : BitVec 8) (squash : Bool) (s : State) : State :=
  let a := ((s.setTenant t { s.tenant t with
    mode := .resetting, inc := (s.tenant t).inc + 1, cause := cause, reset := some { squash := squash, since := s.now }
    mig := { (s.tenant t).mig with mode := .none, rebinds := [], rebindLeft := 0 }
    events := { (s.tenant t).events with mode := .stopped } }).bump d15_0100 t).cancelSpecs t
  if t = 0 then a.resetMaster 1 else if t = 1024 then a.resetMaster 2 else a

/-- A cause meets an ACTIVE or FROZEN tenant: its reset begins, and under mode SQUASH its work is squashed at once. -/
theorem State.startReset_begins {cause : Nat} {squash : Bool} (hm : (s.tenant t).mode = .active ∨ (s.tenant t).mode = .frozen)
    (hr : (s.tenant t).reset = none) {b : State}
    (hb : b = s.resetBegun t (BitVec.ofNat 8 cause) (squash || s.par d15_0010 t = 1)) :
    s.startReset t cause squash = if (squash || s.par d15_0010 t = 1) = true then b.squashTenant t else b := by
  subst hb
  simp only [startReset, hr]
  exact if_pos (by simpa using hm)

/-- A cause meets a tenant in another mode: nothing changes. -/
theorem State.startReset_otherMode (cause : Nat) (squash : Bool) (hr : (s.tenant t).reset = none) (ha : (s.tenant t).mode ≠ .active)
    (hf : (s.tenant t).mode ≠ .frozen) : s.startReset t cause squash = s := by
  simp only [startReset, hr]
  exact if_neg (by simp [ha, hf])

/-- A cause during a reset turns DRAIN into SQUASH, and changes nothing under SQUASH. -/
theorem State.startReset_again {r : ResetRun} (cause : Nat) (squash : Bool) (hr : (s.tenant t).reset = some r) :
    s.startReset t cause squash = if r.squash then s
      else (s.setTenant t { s.tenant t with reset := some { r with squash := true } }).squashTenant t := by
  simp only [startReset, hr]

/-! ### The DRAIN limit and the end of a reset (R588 to R592; log 94) -/

/-- D15.0011 has passed for a DRAIN reset with work left. -/
theorem exec_drainLimitExpire_passed {r : ResetRun} (hr : (s.tenant t).reset = some r) (hq : r.squash = false)
    (hd : r.since + s.par d15_0011 t ≤ s.now) (hw : s.drainWork t = true) :
    exec (.drainLimitExpire t) s =
      .next (((s.setTenant t { s.tenant t with reset := some { r with squash := true } }).bump d15_0101 t).squashTenant t) := by
  simp only [exec, execDrainLimitExpire, hr, hq, hd, hw, Bool.not_false, decide_true, Bool.and_self, if_true]

/-- No DRAIN reset with work left is beyond its limit. -/
theorem exec_drainLimitExpire_idle
    (h : ∀ r, (s.tenant t).reset = some r → r.squash = true ∨ s.now < r.since + s.par d15_0011 t ∨ s.drainWork t = false) :
    exec (.drainLimitExpire t) s = .next s := by
  simp only [exec, execDrainLimitExpire]
  cases hr : (s.tenant t).reset with
  | none => rfl
  | some r =>
    refine if_neg fun hg => ?_
    simp only [Bool.and_eq_true, Bool.not_eq_true', decide_eq_true_eq] at hg
    obtain ⟨⟨hq, hd⟩, hw⟩ := hg
    obtain h | h | h := h r hr
    · simp [h] at hq
    · omega
    · simp [h] at hw

/-- When nothing drains any more what the tenant holds is freed, it is ACTIVE or DISABLED by its function, and the PF gets the event. -/
theorem exec_tenantResetDone_drained {r : ResetRun} (hr : (s.tenant t).reset = some r) (hd : r.squash = true ∨ s.drainWork t = false)
    {f a : State} (hf : f = s.freeTenant t) (ha : a = f.setTenant t {
      mode := if f.fnEnabled t then .active else .disabled, inc := (f.tenant t).inc, cause := (f.tenant t).cause
      log := (f.tenant t).log, logCount := (f.tenant t).logCount, events := { mode := .stopped, lost := (f.tenant t).events.lost }
      mig := { result := (f.tenant t).mig.result, bytes := (f.tenant t).mig.bytes, lastSave := (f.tenant t).mig.lastSave } }) :
    exec (.tenantResetDone t) s = .next (if tenantPf t = t then a
      else a.event (tenantPf t) 8 1 t ((f.tenant t).reset.elim 0 ResetRun.squashed)
        ((f.tenant t).cause.toNat + (if r.squash then 256 else 0))) := by
  have drained : (!r.squash && s.drainWork t) = false := by obtain hd | hd := hd <;> simp [hd]
  subst ha hf
  simp only [exec, execTenantResetDone, hr, drained, Bool.false_eq_true, if_false]
  cases ((s.freeTenant t).tenant t).reset <;> rfl

/-- A reset that still drains, and one that is not under way, stay as they are. -/
theorem exec_tenantResetDone_waits
    (h : (s.tenant t).reset = none ∨ ∃ r, (s.tenant t).reset = some r ∧ r.squash = false ∧ s.drainWork t = true) :
    exec (.tenantResetDone t) s = .next s := by
  obtain hr | ⟨r, hr, hq, hw⟩ := h
  · simp only [exec, execTenantResetDone, hr]
  · simp only [exec, execTenantResetDone, hr, hq, hw, Bool.not_false, Bool.and_self, if_true]

/-! ### QUIESCE (R595 to R597, R600) -/

/-- The time of the first write of QUIESCE to 1 is kept. -/
theorem quiesceAt_or (q : Option Nat) (now : Nat) : q.or (some now) = if q.isSome then q else some now := by
  cases q <;> rfl

theorem State.quiesce_eq (t : Nat) (s : State) :
    s.quiesce t = (s.setTenant t { s.tenant t with
      quiesceAt := if (s.tenant t).quiesceAt.isSome then (s.tenant t).quiesceAt else some s.now }).setLive d15_8020 t 1 := by
  rw [quiesce, quiesceAt_or]

/-- A parameter's value leaves the tenants. -/
theorem State.tenant_setLive (p : Param) (i v n : Nat) (s : State) : (s.setLive p i v).tenant n = s.tenant n := rfl

/-- A quiesced tenant with no started work left is QUIESCED; nothing changes otherwise. -/
theorem exec_quiesced_eq (t : Nat) (s : State) :
    exec (.quiesced t) s = if (s.tenant t).quiesceAt.isSome = true ∧ s.startedWork t = false then
      .next (s.setTenant t { s.tenant t with quiesced := true }) else .next s := by
  simp only [exec, execQuiesced, Bool.and_eq_true, Bool.not_eq_true']

/-- From when D15.8022 counts for a tenant: a FREEZE under way, else QUIESCE. -/
def State.quiesceSince (s : State) (t : Nat) : Option Nat :=
  if (s.tenant t).mig.mode = .freezing then some (s.tenant t).mig.since else (s.tenant t).quiesceAt

/-- The chains of a freezing tenant in which an engine works. -/
def State.engineChains (s : State) (t : Nat) : List (Nat × Chain) :=
  (s.tenantRings t).flatMap (fun e => (e.2.running.filter (fun c => c.entries.any (fun y =>
    y.phase = .running && !(entOpcode y.word ≤ 4 || entOpcode y.word = 0x40)))).map (fun c => (e.1, c)))

/-- D15.8022 has passed with started work left and no reset under way. -/
theorem exec_quiesceLimit_passed {n : Nat} (hr : (s.tenant t).reset = none) (hd : n + s.par d15_8022 t ≤ s.now)
    (hw : s.startedWork t = true) (hn : s.quiesceSince t = some n) :
    exec (.quiesceLimit t) s =
      if (s.tenant t).mig.mode = .freezing then .next ((s.engineChains t).foldl (fun s p => s.abandonChain p.1 p.2 .squashed) s)
      else .next (s.squashWork t) := by
  rw [State.quiesceSince] at hn
  simp only [exec, execQuiesceLimit, hn]
  exact if_pos (by simp [hr, hd, hw])

/-- The limit has not passed, nothing is left, or a reset is under way: nothing changes. -/
theorem exec_quiesceLimit_idle (h : (s.tenant t).reset.isSome = true ∨ s.startedWork t = false ∨
      ∀ n, s.quiesceSince t = some n → s.now < n + s.par d15_8022 t) :
    exec (.quiesceLimit t) s = .next s := by
  have run : exec (.quiesceLimit t) s = match s.quiesceSince t with
      | some a =>
        if (s.tenant t).reset.isNone && a + s.par d15_8022 t ≤ s.now && s.startedWork t then
          if (s.tenant t).mig.mode = .freezing then .next ((s.engineChains t).foldl (fun s p => s.abandonChain p.1 p.2 .squashed) s)
          else .next (s.squashWork t)
        else .next s
      | none => .next s := rfl
  rw [run]
  cases hn : s.quiesceSince t with
  | none => rfl
  | some n =>
    refine if_neg fun hg => ?_
    simp only [Bool.and_eq_true, decide_eq_true_eq, Option.isNone_iff_eq_none] at hg
    obtain ⟨⟨hr, hd⟩, hw⟩ := hg
    obtain h | h | h := h
    · simp [hr] at h
    · simp [h] at hw
    · have := h n hn
      omega

end

/-! ### The statement -/

/-- Settles O45, by the lemmas of a reset's start, limit and end, and of QUIESCE; what counts as a request in progress, what a reset
clears, and that a migration's result stays over it, are the model's choices (log entries 93, 94 and 95). -/
theorem tenantResetAndQuiesce : Obligations.TenantResetAndQuiesce := by
  unfold Obligations.TenantResetAndQuiesce
  refine ⟨?begins, fun t s => ⟨fun r hr hq => ?again, fun r hr hq => ?squash,
      fun hr ha hf => congrArg _ (State.startReset_otherMode 4 false hr ha hf)⟩,
    fun t s => ⟨fun r => exec_drainLimitExpire_passed, exec_drainLimitExpire_idle⟩, ?done, fun t s => exec_tenantResetDone_waits,
    ?quiesce, ?limit, ?idle⟩
  case begins =>
    rintro t s hm hr a b rfl hb
    have start : s.startReset t 4 false = if s.par d15_0010 t = 1 then b.squashTenant t else b := by
      rw [State.startReset_begins hm hr hb]
      simp
    exact ⟨fun hq => congrArg _ (start.trans (if_pos hq)), fun hq => congrArg _ (start.trans (if_neg hq))⟩
  case again => exact congrArg _ ((State.startReset_again 4 false hr).trans (if_pos hq))
  case squash => exact congrArg _ ((State.startReset_again 4 false hr).trans (if_neg (by simp [hq])))
  case done =>
    intro t s r hr hd f a hf ha
    rw [exec_tenantResetDone_drained hr hd hf ha]
    exact ⟨fun hp => by rw [if_pos hp], fun q hp hq => by rw [if_neg hp, hq, Option.elim_some]⟩
  case quiesce =>
    rintro t s a b rfl rfl
    refine ⟨congrArg _ (s.quiesce_eq t), rfl, fun hw => ⟨fun hq => ?_, ?_, ?_, fun u hu => ⟨?_, ?_⟩⟩, rfl, rfl, rfl, rfl, rfl, rfl,
      fun hq hs => ?_, fun h => ?_⟩
    · rw [State.tenant_setLive, State.tenant_setTenant t _ hw, hq]
      rfl
    · rw [State.tenant_setLive, State.tenant_setTenant t _ hw]
    · rw [State.tenant_setLive, State.tenant_setTenant t _ hw]
    · rw [State.tenant_setLive, State.tenant_setTenant_ne hu]
    · rw [State.tenant_setLive, State.tenant_setTenant_ne hu]
    · rw [exec_quiesced_eq, if_pos ⟨hq, hs⟩]
    · rw [exec_quiesced_eq, if_neg (by obtain h | h := h <;> simp [h])]
  case limit =>
    intro t n s hr hd hw
    refine ⟨fun hm hn => ?_, fun hm hn => ?_⟩
    · rw [exec_quiesceLimit_passed hr hd hw ((if_neg hm).trans hn), if_neg hm]
    · rw [exec_quiesceLimit_passed hr hd hw ((if_pos hm).trans (congrArg some hn)), if_pos hm]
      rfl
  case idle =>
    rintro t s (hr | hw | ⟨hm, hn⟩ | ⟨hm, hd⟩)
    · exact exec_quiesceLimit_idle (.inl hr)
    · exact exec_quiesceLimit_idle (.inr (.inl hw))
    · exact exec_quiesceLimit_idle (.inr (.inr fun n h => hn n ((if_neg hm).symm.trans h)))
    · refine exec_quiesceLimit_idle (.inr (.inr fun n h => ?_))
      obtain rfl := Option.some.inj ((if_pos hm).symm.trans h)
      exact hd

end Sys2Proof.Machine

/-! PROOFS. Migration's FREEZE and SAVE: their refusals, what they leave under way and how they end, and the statement about them. -/
namespace Sys2Proof.Machine

section
variable {t : Nat} {s : State}

/-! ### FREEZE (R599, R600; log 95) -/

theorem State.migFreeze_badState (h : (s.tenant t).mig.mode ≠ .none ∨ (s.tenant t).mode ≠ .active) :
    s.migFreeze t = s.migResult t 1 :=
  if_pos (by simpa using h)

/-- The tenant owns a spire connection that is not in QUARANTINE. -/
def State.ownsSpire (s : State) (t : Nat) : Bool :=
  (s.tenantConns t).any (fun e => e.2.ctx.core.cls = 1 && e.2.ctx.core.mode ≠ .quarantine)

/-- A FREEZE of an ACTIVE tenant without a migration: SPIRE, or the tenant is FROZEN and FREEZING from now, in state `a`, with its
connections frozen in `b`. -/
theorem State.migFreeze_active (hg : (s.tenant t).mig.mode = .none) (hm : (s.tenant t).mode = .active) {a b : State}
    (ha : a = s.setTenant t { s.tenant t with
      mode := .frozen, mig := { (s.tenant t).mig with mode := .freezing, since := s.now, result := 0 } })
    (hb : b = (a.tenantConns t).foldl (fun s e => s.freeze e.1) a) :
    s.migFreeze t = if s.ownsSpire t then s.migResult t 2 else (b.cancelSpecs t).writeBays t := by
  subst hb ha
  exact if_neg (by simp [hg, hm])

/-- A connection of a freezing tenant that waits for nothing: it is FROZEN, or in QUARANTINE, INIT or ERROR. -/
abbrev Conn.Settled (x : Conn) : Prop :=
  (x.ctx.core.mode = .frozen ∧ x.freezeAt = none) ∨ x.ctx.core.mode = .quarantine ∨ x.ctx.core.mode = .init ∨
    x.ctx.core.mode = .error

/-- FREEZING ends when the engines are idle and every connection is settled; nothing changes otherwise. -/
theorem exec_migFrozen_eq (t : Nat) (s : State) :
    exec (.migFrozen t) s =
      if (s.tenant t).mig.mode = .freezing ∧ s.engineIdle t = true ∧ ∀ e ∈ s.tenantConns t, e.2.Settled then
        .next (s.setTenant t { s.tenant t with mig := { (s.tenant t).mig with mode := .frozen, frozenAt := s.now } })
      else .next s := by
  simp only [exec, execMigFrozen, State.setMig, Bool.and_eq_true, Bool.or_eq_true, decide_eq_true_eq, List.all_eq_true,
    Option.isNone_iff_eq_none, or_assoc, and_assoc]

/-! ### SAVE (R601, R672; log 95) -/

theorem State.migSave_badState (hf : (s.tenant t).mig.mode ≠ .frozen) (hs : (s.tenant t).mig.mode ≠ .saved) :
    s.migSave t = s.migResult t 1 :=
  if_pos (by simp [hf, hs])

/-- The bytes that the blob of a tenant needs. -/
def State.blobNeeds (s : State) (t : Nat) : Nat := 80 + (s.migRecords t).foldl (fun a r => a + r.length) 0

/-- The 65,536-tick period of a SAVE: the present one, or the next where this one had a SAVE. -/
def State.savePeriod (s : State) (t : Nat) : Nat :=
  if s.now / 65536 < (s.tenant t).mig.lastSave then (s.tenant t).mig.lastSave else s.now / 65536

/-- A SAVE of a FROZEN or SAVED tenant: AUTH, BUFFER with the length needed, or SAVING. -/
theorem State.migSave_frozen (hm : (s.tenant t).mig.mode = .frozen ∨ (s.tenant t).mig.mode = .saved) :
    s.migSave t =
      if s.slotUsable (s.par d15_8031 t) 3 = false then s.migResult t 4
      else if s.migBufOk t = false ∨ s.par d15_8035 t < s.blobNeeds t then
        (s.setTenant t { s.tenant t with mig := { (s.tenant t).mig with bytes := BitVec.ofNat 64 (s.blobNeeds t) } }).migResult t 3
      else s.setTenant t { s.tenant t with mig := { (s.tenant t).mig with
        mode := .saving, since := s.now, saveAt := s.savePeriod t, lastSave := s.savePeriod t + 1, result := 0 } } := by
  refine (if_neg (by obtain hm | hm := hm <;> simp [hm])).trans ?_
  simp only [Bool.not_eq_true', Bool.or_eq_true, decide_eq_true_eq, gt_iff_lt]
  rfl

/-- When the period of a SAVE has come its blob is written, `a` being the state that shows its length; a blob that does not fit or
whose write fails gives BUFFER. -/
theorem exec_migSaveDone_due {b : Bytes} {a : State} (hm : (s.tenant t).mig.mode = .saving) (hd : (s.tenant t).mig.saveAt ≤ s.now / 65536)
    (hb : b = s.migBlob t ((s.tenant t).mig.saveAt % 4294967296))
    (ha : a = s.setTenant t { s.tenant t with mig := { (s.tenant t).mig with bytes := BitVec.ofNat 64 b.length } }) :
    exec (.migSaveDone t) s =
      match (if b.length ≤ s.par d15_8035 t then a.placeWrite (tenantPf t) ⟨1, 0, 0⟩ (s.par d15_8034 t) b else none) with
      | some w => .next (w.setTenant t { w.tenant t with mig := { (w.tenant t).mig with mode := .saved, result := 0 } })
      | none => .next ((a.setTenant t { a.tenant t with mig := { (a.tenant t).mig with mode := .frozen } }).migResult t 3) := by
  subst ha hb
  exact if_pos (by simp [hm, hd])

theorem exec_migSaveDone_idle (h : (s.tenant t).mig.mode ≠ .saving ∨ s.now / 65536 < (s.tenant t).mig.saveAt) :
    exec (.migSaveDone t) s = .next s :=
  if_neg (by obtain h | h := h <;> simp [h])

end

/-! ### The statement -/

/-- Settles O46, by the lemmas of FREEZE, of its end, of SAVE and of its end; the order of their checks, and that the bodies of the
blob's records are uninterpreted, are the model's choices (log entry 95). -/
theorem migrationFreezeAndSave : Obligations.MigrationFreezeAndSave := by
  unfold Obligations.MigrationFreezeAndSave
  refine ⟨fun t s => ⟨fun h => congrArg _ (State.migFreeze_badState h), fun hg hm => ⟨fun hs => ?spire, fun a b hs ha hb => ?freezes⟩⟩,
    fun t s => ⟨fun hm hi hc => ?frozen, fun h => ?freezing⟩, ?save, ?saveDone⟩
  case spire => exact congrArg _ ((State.migFreeze_active hg hm rfl rfl).trans (if_pos hs))
  case freezes => exact congrArg _ ((State.migFreeze_active hg hm ha hb).trans (if_neg (ne_true_of_eq_false hs)))
  case frozen => rw [exec_migFrozen_eq, if_pos ⟨hm, hi, hc⟩]
  case freezing =>
    rw [exec_migFrozen_eq, if_neg]
    rintro ⟨hm, hi, hc⟩
    obtain h | h | ⟨e, he, hr⟩ := h
    · exact h hm
    · simp [h] at hi
    · simpa [Conn.Settled, hr] using hc e he
  case save =>
    rintro t n s rfl
    refine ⟨fun hf hs => congrArg _ (State.migSave_badState hf hs), fun hm => ?_⟩
    have run := State.migSave_frozen hm
    refine ⟨fun hk => congrArg Host.Outcome.next (run.trans (if_pos hk)), fun hk hb => ?_, ?_⟩
    · exact congrArg Host.Outcome.next (run.trans ((if_neg (by simp [hk])).trans (if_pos hb)))
    · rintro p hk hb hn rfl
      have fits : ¬(s.migBufOk t = false ∨ s.par d15_8035 t < s.blobNeeds t) := by
        simpa [State.migBufOk, State.blobNeeds, hb] using hn
      exact congrArg Host.Outcome.next (run.trans ((if_neg (by simp [hk])).trans (if_neg fits)))
  case saveDone =>
    intro t s a b hb ha
    refine ⟨fun hm hd => ?_, exec_migSaveDone_idle⟩
    rw [exec_migSaveDone_due hm hd hb ha]
    refine ⟨fun w hl hw => ?_, fun h => ?_⟩
    · rw [if_pos hl, hw]
    · have none_ : (if b.length ≤ s.par d15_8035 t then a.placeWrite (tenantPf t) ⟨1, 0, 0⟩ (s.par d15_8034 t) b else none) = none := by
        obtain h | h := h
        · exact if_neg (by omega)
        · rw [h, ite_self]
      rw [none_]

end Sys2Proof.Machine

/-! PROOFS. Accesses to a Belfry: mailboxes, doorbell bits and semaphores, and the statements about them. -/
namespace Sys2Proof.Machine

/-! ### What an access reaches (R579, R627) -/

/-- A Belfry that is not open to the master, or an entry that it does not have, fails the guard of an access. -/
theorem State.belfryGuard_shut {s : State} {k m i n : Nat} (h : s.belfryOpen k m = false ∨ n ≤ i) :
    ¬(s.belfryOpen k m && decide (i < n)) = true := by
  obtain h | h := h
  · simp [h]
  · simp [Nat.not_lt.mpr h]

theorem State.belfryGuard_open {s : State} {k m i n : Nat} (ho : s.belfryOpen k m = true) (hi : i < n) :
    (s.belfryOpen k m && decide (i < n)) = true := by
  simp [ho, hi]

section
variable {s : State} {k m b : Nat}

/-! ### MB_DATA (R629, R632 to R635, R638) -/

/-- A write by a master that may not make it, or that is not whole, is refused and counted. -/
theorem exec_mbDataWrite_refused {whole : Bool} (v : W64) (ho : s.belfryOpen k m = true) (hb : b < 16)
    (h : whole = false ∨ boxReceiver (s.boxConfig k b) = 0 ∨ boxSender (s.boxConfig k b) m = false) :
    exec (.mbDataWrite k m b whole v) s = .next (s.bump d17_0101 k) :=
  (if_pos (State.belfryGuard_open ho hb)).trans (if_pos (by simpa [or_assoc] using h))

/-- A whole write by a sender of a mailbox that has a receiver is permitted. -/
theorem exec_mbDataWrite_permitted {whole : Bool} (v : W64) (ho : s.belfryOpen k m = true) (hb : b < 16) (hw : whole = true)
    (hr : boxReceiver (s.boxConfig k b) ≠ 0) (hs : boxSender (s.boxConfig k b) m = true) :
    exec (.mbDataWrite k m b whole v) s = .next (s.postMail k m b v) :=
  (if_pos (State.belfryGuard_open ho hb)).trans (if_neg (by simp [hw, hr, hs]))

/-- During the receiver's reset a mailbox is in state RESET, with a notice where it was not. -/
theorem State.postMail_resetting (v : W64) (h : s.receiverResetting (boxReceiver (s.boxConfig k b)) = true) :
    s.postMail k m b v =
      if (s.mailbox k b).mode = .reset then s.setMailbox k b { s.mailbox k b with mode := .reset }
      else (s.setMailbox k b { s.mailbox k b with mode := .reset }).ackNotice k b :=
  if_pos h

/-- A full mailbox keeps its data: the sender's OVERRUN is set, and the write is answered with an error. -/
theorem State.postMail_full (v : W64) (h : s.receiverResetting (boxReceiver (s.boxConfig k b)) = false) (hf : (s.mailbox k b).full = true)
    {a : State}
    (ha : a = (s.setMailbox k b { s.mailbox k b with overrun := (s.mailbox k b).overrun ||| (1 <<< (m - 1)) }).bump d17_0100 k) :
    s.postMail k m b v = match masterPf m with | some t => a.aer t .belfry | none => a.emit (.readData (belfryReader m) [] true) := by
  subst ha
  exact (if_neg (by simp [h])).trans (if_pos hf)

/-- A mailbox that is not full takes the message, with a notice for its receiver where POST_EVT asks for it. -/
theorem State.postMail_free {v : W64} (h : s.receiverResetting (boxReceiver (s.boxConfig k b)) = false)
    (hf : (s.mailbox k b).full = false) {a : State} (ha : a = s.setMailbox k b { s.mailbox k b with
      data := v, full := true, sender := m, stale := false, senderInc := s.masterInc m, postTime := s.tag, code := 0, mode := .posted }) :
    s.postMail k m b v =
      if boxPostEvt (s.boxConfig k b) then a.belfryNotice (boxReceiver (s.boxConfig k b)) 1 k b 0 else a := by
  subst ha
  exact (if_neg (by simp [h])).trans (if_neg (by simp [hf]))

/-- What a master reads that is not the receiver, or in part, is refused, counted and answered with zeros. -/
theorem exec_mbDataRead_refused {whole : Bool} (ho : s.belfryOpen k m = true) (hb : b < 16)
    (h : whole = false ∨ boxReceiver (s.boxConfig k b) ≠ m) :
    exec (.mbDataRead k m b whole) s = .next ((s.bump d17_0101 k).belfryAnswer m 0) :=
  (if_pos (State.belfryGuard_open ho hb)).trans (if_pos (by simpa using h))

section
variable (ho : s.belfryOpen k m = true) (hb : b < 16) (hr : boxReceiver (s.boxConfig k b) = m)
include ho hb hr

/-- The receiver's whole read takes the message of a full mailbox; a stale one is counted. -/
theorem exec_mbDataRead_full (hf : (s.mailbox k b).full = true) {a : State}
    (ha : a = s.setMailbox k b { s.mailbox k b with full := false, mode := .taken }) :
    exec (.mbDataRead k m b true) s =
      .next ((if (s.mailbox k b).stale then a.bump d17_0103 k else a).belfryAnswer m (s.mailbox k b).data.toNat) := by
  subst ha
  exact (if_pos (State.belfryGuard_open ho hb)).trans ((if_neg (by simp [hr])).trans (if_pos hf))

/-- The receiver's whole read of a mailbox that is not full answers zeros. -/
theorem exec_mbDataRead_empty (hf : (s.mailbox k b).full = false) :
    exec (.mbDataRead k m b true) s = .next (s.belfryAnswer m 0) :=
  (if_pos (State.belfryGuard_open ho hb)).trans ((if_neg (by simp [hr])).trans (if_neg (by simp [hf])))

end

/-! ### MB_ACK (R628, R629, R632, R636) -/

/-- The receiver's whole write makes a TAKEN mailbox ACKED with its CODE, and is counted where it is not TAKEN. -/
theorem exec_mbAckCodeWrite_receiver {v : W64} {x : Mailslot} (ho : s.belfryOpen k m = true) (hb : b < 16)
    (hx : x = (s.mailbox k b).clearOverrun m v) (hr : boxReceiver (s.boxConfig k b) = m) :
    exec (.mbAckCodeWrite k m b true v) s =
      if x.mode = .taken then .next ((s.setMailbox k b { x with code := field 0 16 v, mode := .acked }).ackNotice k b)
      else .next ((s.setMailbox k b x).bump d17_0105 k) := by
  subst hx
  exact (if_pos (State.belfryGuard_open ho hb)).trans ((if_neg (by simp)).trans (if_pos hr))

/-- Another master's whole write clears its own OVERRUN where it writes 1 there, and is refused and counted where it does not. -/
theorem exec_mbAckCodeWrite_sender {v : W64} {x : Mailslot} (ho : s.belfryOpen k m = true) (hb : b < 16)
    (hx : x = (s.mailbox k b).clearOverrun m v) (hr : boxReceiver (s.boxConfig k b) ≠ m) :
    exec (.mbAckCodeWrite k m b true v) s = if flag (19 + m) v then .next (s.setMailbox k b x) else .next (s.bump d17_0101 k) := by
  subst hx
  exact (if_pos (State.belfryGuard_open ho hb)).trans ((if_neg (by simp)).trans (if_neg hr))

/-- A write that is not whole is refused and counted. -/
theorem exec_mbAckCodeWrite_part (v : W64) (ho : s.belfryOpen k m = true) (hb : b < 16) :
    exec (.mbAckCodeWrite k m b false v) s = .next (s.bump d17_0101 k) :=
  (if_pos (State.belfryGuard_open ho hb)).trans (if_pos rfl)

/-! ### Doorbell bits (R641, R642) -/

/-- A Belfry that is not open takes no write of its doorbell. -/
theorem exec_doorbellBits_shut (whole : Bool) (v : BitVec 32) (h : s.belfryOpen k m = false) :
    exec (.dbSetWrite k m whole v) s = .next s ∧ exec (.dbPendWrite k m v) s = .next s ∧ exec (.dbMaskWrite k m v) s = .next s :=
  have shut : ¬s.belfryOpen k m = true := by simp [h]
  ⟨if_neg shut, if_neg shut, if_neg shut⟩

/-- A write of the master's mask; it owes it a notice where a pending bit is newly unmasked. -/
theorem exec_dbMaskWrite_open (v : BitVec 32) (ho : s.belfryOpen k m = true) {a : BelfryTower}
    (ha : a = { s.belfryAt k with masks := tput 0 m v (s.belfryAt k).masks }) :
    exec (.dbMaskWrite k m v) s = .next (s.setBelfry k
      (if (s.belfryAt k).pend &&& (v &&& ~~~(s.belfryAt k).mask m) = 0 then a else a.owe m)) := by
  subst ha
  exact if_pos ho

/-! ### Semaphores (R643, R644) -/

/-- A whole read of a free semaphore takes it for the master; a held one stays. Both answer its value. -/
theorem exec_semRead_whole {i : Nat} (ho : s.belfryOpen k m = true) (hi : i < 32) {x y : Sem} (hx : x = tgetD (s.belfryAt k).sems i {})
    (hy : y = { owner := m, inc := s.masterInc m }) :
    exec (.semRead k m i true) s =
      if x.owner = 0 then
        .next ((s.setBelfry k { s.belfryAt k with sems := tput {} i y (s.belfryAt k).sems }).belfryAnswer m y.value)
      else .next (s.belfryAnswer m x.value) := by
  subst hx hy
  exact (if_pos (State.belfryGuard_open ho hi)).trans (if_neg (by simp))

/-- The owner's whole write of 0 frees the semaphore. -/
theorem exec_semWrite_release {i : Nat} (ho : s.belfryOpen k m = true) (hi : i < 32)
    (hx : (tgetD (s.belfryAt k).sems i {}).owner = m) :
    exec (.semWrite k m i true 0) s =
      .next (s.setBelfry k { s.belfryAt k with sems := tput {} i {} (s.belfryAt k).sems }) :=
  (if_pos (State.belfryGuard_open ho hi)).trans (if_pos (by rw [decide_eq_true hx]; rfl))

/-- Every other write of a semaphore is refused and counted. -/
theorem exec_semWrite_refused {i : Nat} {whole : Bool} {v : W64} (ho : s.belfryOpen k m = true) (hi : i < 32)
    (h : whole = false ∨ v ≠ 0 ∨ (tgetD (s.belfryAt k).sems i {}).owner ≠ m) :
    exec (.semWrite k m i whole v) s = .next (s.bump d17_0101 k) :=
  (if_pos (State.belfryGuard_open ho hi)).trans (if_neg (by
    simp only [Bool.and_eq_true, decide_eq_true_eq, not_and_or, Bool.not_eq_true, ← ne_eq, or_assoc]
    exact h))

end

/-! ### The statement about accesses -/

/-- Settles O57, by the lemma of each access; that a notice's OBJECT is uninterpreted, that a read writes a semaphore only where it is
free, and that a restart of firmware or of the management agent is one command, are the model's choices (log entry 84). -/
theorem belfryAccesses : Obligations.BelfryAccesses := by
  unfold Obligations.BelfryAccesses
  refine ⟨?write, ?read, ?ack, ?doorbell, ?semaphore, fun s => ⟨rfl, rfl⟩⟩
  case write =>
    rintro k m b c whole v s x rfl rfl
    refine ⟨fun h => if_neg (State.belfryGuard_shut h), fun ho hb => ⟨exec_mbDataWrite_refused v ho hb,
      fun hw hr hs hn => ⟨fun a hf ha => ⟨fun t hm => ?_, fun hm => ?_⟩, fun a hf ha => ⟨fun he => ?_, fun he => ?_⟩⟩,
      fun hw hr hs hn => ⟨fun hm => ?_, fun hm => ?_⟩⟩⟩
      <;> rw [exec_mbDataWrite_permitted v ho hb hw hr hs]
    · rw [State.postMail_full v hn hf ha, hm]
    · rw [State.postMail_full v hn hf ha, hm]
    · rw [State.postMail_free hn hf ha, if_pos he]
    · rw [State.postMail_free hn hf ha, if_neg (by simp [he])]
    · rw [State.postMail_resetting v hn, if_pos hm]
    · rw [State.postMail_resetting v hn, if_neg hm]
  case read =>
    rintro k m b whole s x rfl
    refine ⟨fun h => if_neg (State.belfryGuard_shut h), fun ho hb => ⟨exec_mbDataRead_refused ho hb, ?_⟩⟩
    rintro rfl hr
    refine ⟨exec_mbDataRead_empty ho hb hr, fun a hf ha => ⟨fun hs => ?_, fun hs => ?_⟩⟩
    · rw [exec_mbDataRead_full ho hb hr hf ha, if_pos hs]
    · rw [exec_mbDataRead_full ho hb hr hf ha, if_neg (by simp [hs])]
  case ack =>
    intro k m b whole v s x hx
    refine ⟨fun h => if_neg (State.belfryGuard_shut h), fun ho hb => ⟨?_, ?_, ?_⟩⟩
    · rintro rfl
      exact exec_mbAckCodeWrite_part v ho hb
    · rintro rfl hr
      rw [exec_mbAckCodeWrite_receiver ho hb hx hr]
      exact ⟨fun hm => if_pos hm, fun hm => if_neg hm⟩
    · rintro rfl hr
      rw [exec_mbAckCodeWrite_sender ho hb hx hr]
      exact ⟨fun hv => if_pos hv, fun hv => if_neg (by simp [hv])⟩
  case doorbell =>
    rintro k m whole v s b rfl
    refine ⟨exec_doorbellBits_shut whole v, fun ho => ⟨(if_pos ho).trans (if_pos rfl), (if_pos ho).trans (if_neg (by simp)),
      if_pos ho, fun h => ?_, fun h => ?_⟩⟩
    · rw [exec_dbMaskWrite_open v ho rfl, if_pos h]
    · rw [exec_dbMaskWrite_open v ho rfl, if_neg h]
  case semaphore =>
    intro k m i v whole s b x hb hx
    subst hb
    refine ⟨fun h => ⟨if_neg (State.belfryGuard_shut h), if_neg (State.belfryGuard_shut h)⟩, fun ho hi =>
      ⟨(if_pos (State.belfryGuard_open ho hi)).trans (if_pos rfl), fun y hf hy => ?_, fun hf => ?_, ?_, fun h => ?_⟩⟩
    · rw [exec_semRead_whole ho hi hx hy, if_pos hf]
    · rw [exec_semRead_whole ho hi hx rfl, if_neg hf]
    · rintro rfl rfl hm
      exact exec_semWrite_release ho hi (hx ▸ hm)
    · exact exec_semWrite_refused ho hi (hx ▸ h)

/-! ### What a receiver takes and an owner releases stays otherwise as it was (R635, R644) -/

theorem State.belfryAt_setBelfry {s : State} (k : Nat) (b : BelfryTower) (h : twfD {} s.belfry = true) :
    (s.setBelfry k b).belfryAt k = b :=
  tgetD_tput_self k b h

theorem State.belfryAt_setBelfry_ne {n k : Nat} (h : n ≠ k) (s : State) (b : BelfryTower) :
    (s.setBelfry k b).belfryAt n = s.belfryAt n :=
  tgetD_tput_ne h b s.belfry

theorem State.mailbox_setMailbox {s : State} (k b : Nat) (x : Mailslot) (h : twfD {} s.belfry = true)
    (hb : twfD {} (s.belfryAt k).boxes = true) : (s.setMailbox k b x).mailbox k b = x := by
  rw [mailbox, setMailbox, belfryAt_setBelfry k _ h]
  exact tgetD_tput_self b x hb

theorem State.mailbox_setMailbox_ne {s : State} {k b n j : Nat} (hn : n ≠ k ∨ j ≠ b) (x : Mailslot) (h : twfD {} s.belfry = true) :
    (s.setMailbox k b x).mailbox n j = s.mailbox n j := by
  rw [mailbox, setMailbox]
  by_cases hk : n = k
  · subst hk
    rw [belfryAt_setBelfry n _ h]
    exact tgetD_tput_ne (hn.resolve_left (absurd rfl)) x _
  · rw [belfryAt_setBelfry_ne hk]
    rfl

/-- Counting a stale message and answering a read leave the mailboxes. -/
theorem State.mailbox_belfryAnswer_stale (c : Bool) (p : Param) (a : State) (k m v n j : Nat) :
    ((if c then a.bump p k else a).belfryAnswer m v).mailbox n j = a.mailbox n j := by
  cases c <;> rfl

/-- Settles O58, by what reads back after the receiver's read of MB_DATA and after the owner's write of SEM. -/
theorem mailIsTakenAndSemaphoreReleased : Obligations.MailIsTakenAndSemaphoreReleased := by
  unfold Obligations.MailIsTakenAndSemaphoreReleased
  refine ⟨?taken, fun k m b s => exec_mbDataRead_empty, ?released, fun k m i whole v s => exec_semWrite_refused⟩
  case taken =>
    rintro k m b s t x y ho hb hr hw hbox rfl rfl hf ht
    rw [exec_mbDataRead_full ho hb hr hf rfl] at ht
    obtain rfl := Host.Outcome.next.inj ht
    rw [State.mailbox_belfryAnswer_stale, State.mailbox_setMailbox k b _ hw hbox]
    refine ⟨?out, rfl, rfl, rfl, rfl, rfl, rfl, rfl,
      fun n j hn => (State.mailbox_belfryAnswer_stale ..).trans (State.mailbox_setMailbox_ne hn _ hw), ?memory, ?rings, ?conns⟩
    all_goals cases (s.mailbox k b).stale <;> rfl
  case released =>
    intro k m i s t ho hi hw hsems hm ht
    rw [exec_semWrite_release ho hi hm] at ht
    obtain rfl := Host.Outcome.next.inj ht
    rw [State.belfryAt_setBelfry k _ hw]
    exact ⟨tgetD_tput_self (d := ({} : Sem)) i {} hsems, fun j hj => tgetD_tput_ne (d := ({} : Sem)) hj {} _, rfl, rfl, rfl,
      fun n hn => State.belfryAt_setBelfry_ne hn s _, rfl, rfl⟩

end Sys2Proof.Machine

/-! PROOFS. The management segment and the fabric's management datagrams: how a request is judged, what a frame is answered, and the
statement about them. -/
namespace Sys2Proof.Machine

section
variable {s : State}

/-! ### The segment's port (R682 to R684; log 90) -/

/-- The segment's port takes frames: the package runs and D19.0010 enables it. -/
theorem State.segGuard_open (hp : s.pkg.phase = .running) (he : s.par d19_0010 0 ≠ 0) :
    (s.pathServed (.segment 0 0 0 0) && s.parFlag d19_0010 0) = true := by
  simp [State.pathServed, State.parFlag, hp, he]

/-- A management datagram is taken, whichever command brings it. -/
theorem exec_segFrame_request {frame : Bytes} {collisions : Nat} {c : Instr}
    (hc : c = .segRequestRx frame collisions ∨ c = .segFrameRx frame collisions)
    (hp : s.pkg.phase = .running) (he : s.par d19_0010 0 ≠ 0) (hr : s.segRequest frame = true) :
    exec c s = .next (s.takeSegment frame collisions) := by
  have open_ := State.segGuard_open hp he
  obtain rfl | rfl := hc
  · exact if_pos (by rw [open_, hr]; rfl)
  · exact (if_pos open_).trans (if_pos hr)

/-- A frame that is no management datagram is answered as a solicitation or an echo request, or counted. -/
theorem exec_segFrameRx_other {frame : Bytes} (collisions : Nat) (hp : s.pkg.phase = .running) (he : s.par d19_0010 0 ≠ 0)
    (hr : s.segRequest frame = false) :
    exec (.segFrameRx frame collisions) s =
      match s.segIcmp frame with | some f => .next (s.segSend collisions f) | none => .next (s.bump d19_0107 0) :=
  (if_pos (State.segGuard_open hp he)).trans (if_neg (by simp [hr]))

/-- The line check keeps the pair's state; a change is reported and counted. -/
theorem exec_segLineCheck_served {line : Nat} {inverted : Bool} {a : State} (hp : s.pkg.phase = .running) (he : s.par d19_0010 0 ≠ 0)
    (hl : line < 3) (ha : a = { s with mgmt := { s.mgmt with line := line, inverted := inverted } }) :
    exec (.segLineCheck line inverted) s =
      .next (if line = s.mgmt.line then a else (a.packageEvent 0x05 0x03 0 0 line).bump d19_0106 0) := by
  have served : (s.pathServed (.segment 0 0 0 0) && s.parFlag d19_0010 0 && decide (line < 3)) = true := by
    rw [State.segGuard_open hp he, decide_eq_true hl, Bool.and_self]
  subst ha
  simp only [exec, execSegLineCheck, served, if_true, ne_eq, ite_not]

theorem exec_plcaBeaconTimeout_node (beacon : Bool) (he : s.par d19_0010 0 ≠ 0) (hp : s.par d19_0013 0 ≠ 0) (hn : s.par d19_0014 0 ≠ 0) :
    exec (.plcaBeaconTimeout beacon) s = .next { s with mgmt := { s.mgmt with plca := beacon } } :=
  if_pos (by simp [State.parFlag, he, hp, hn])

/-! ### A management request (R676, R678, R679) -/

/-- What becomes of a request `seq` that came by route `r`, as it is judged: a wrong tag counts `tagCount`, and an accepted request waits in
the state `kept`, in which its SEQ is the source's last. -/
def State.answerJudged (s : State) (judged : MgmtCheck) (r : Route) (seq : W32) (body : Bytes) (tagCount : Param) (collisions : Nat)
    (kept : State) : State :=
  match judged with
  | .bad => s.bump d19_0107 0
  | .noKey => s.mgmtReply r 2 seq [] collisions
  | .tagFail => s.bump tagCount 0
  | .full => s.bump d19_0108 0
  | .stale last => (s.bump d19_0104 0).mgmtReply r 1 last [] collisions
  | .accept => kept.queueRequest r body

section
variable {frame : Bytes} (collisions : Nat) {b : Bytes} (hb : b = (sgBody frame).drop 8)
include hb

/-- A datagram of the segment that is too short for a header and a tag is counted. -/
theorem State.takeSegment_short (hl : b.length < 32) : s.takeSegment frame collisions = s.bump d19_0107 0 := by
  subst hb
  exact if_pos hl

/-- A datagram of the segment that is long enough is answered as it is judged. -/
theorem State.takeSegment_judged (hl : 32 ≤ b.length) {h body tag : Bytes} {seq : W32} {r : Route} {judged : MgmtCheck}
    (hh : h = b.take 16) (hbody : body = slice 16 (b.length - 32) b) (htag : tag = b.drop (b.length - 16))
    (hseq : seq = BitVec.ofNat 32 (leAt 4 4 h))
    (hr : r = .segment (BitVec.ofNat 48 (sgSrc frame)) (BitVec.ofNat 128 (sgFrom frame))
      (BitVec.ofNat 16 (beNat (slice 0 2 (sgBody frame)))) seq)
    (hj : judged = s.mgmtJudge h body s.mgmt.segKey (tag = segTag s.segKeyBytes (h ++ body)) s.mgmt.segSources (sgFrom frame)) :
    s.takeSegment frame collisions = s.answerJudged judged r seq body d19_0102 collisions
      { s with mgmt := { s.mgmt with segSources := tset (sgFrom frame) seq s.mgmt.segSources } } := by
  subst hj hr hseq htag hbody hh hb
  exact if_neg (Nat.not_lt.mpr hl)

end

section
variable {p : Packet} (mk : W32 → Route)

/-- A DICT_REQUEST that names no source, or is too short for a header, is counted. -/
theorem State.takeDictRequest_short (h : hdrSrcAdapter p = 0xFFFF ∨ p.payload.length < 16) :
    s.takeDictRequest p mk = s.bump d19_0107 0 :=
  if_pos (by simpa using h)

/-- Any other is answered as it is judged. -/
theorem State.takeDictRequest_judged (hs : hdrSrcAdapter p ≠ 0xFFFF) (hl : 16 ≤ p.payload.length) {h body : Bytes} {seq : W32}
    {judged : MgmtCheck} (hh : h = p.payload.take 16) (hbody : body = p.payload.drop 16) (hseq : seq = BitVec.ofNat 32 (leAt 4 4 h))
    (hj : judged = s.mgmtJudge h body s.mgmt.fabKey (p.trailer = datagramTag s.fabricKey p.hdr p.payload) s.mgmt.fabSources
      (hdrSrcAdapter p)) :
    s.takeDictRequest p mk = s.answerJudged judged (mk seq) seq body d19_0103 0
      { s with mgmt := { s.mgmt with fabSources := tset (hdrSrcAdapter p) seq s.mgmt.fabSources } } := by
  subst hj hseq hbody hh
  exact if_neg (by simp [hs, hl])

end

/-! ### Datagrams on VC5 (R687 to R690; log 90) -/

section
variable {rx : Rx}

/-- A datagram of PTYPE 0x20 is taken where it is for this adapter; one whose PTYPE is not in the table is counted. -/
theorem exec_dictRequestRx_request (hv : hdrVc rx.pkt = 5) (hd : hdrDstAdapter rx.pkt ≠ 0xFFFF) (ht : hdrType rx.pkt = 0x20) :
    exec (.dictRequestRx rx) s = .next
      (s.takeDatagram rx (State.takeDictRequest rx.pkt (fun q => .fabric (hdrSrcAdapter rx.pkt) (hdrPath rx.pkt) q))) :=
  (if_neg (by simp [hv, hd, ht])).trans (if_neg (by simp [ht]))

theorem exec_dictRequestRx_unlisted (hv : hdrVc rx.pkt = 5) (hd : hdrDstAdapter rx.pkt ≠ 0xFFFF)
    (ht : hdrType rx.pkt < 0x20 ∨ 0x23 < hdrType rx.pkt) :
    exec (.dictRequestRx rx) s = .next ((s.bump d19_0107 0).freeIngress rx.port 5 0 rx.pkt.len) := by
  have outside : (decide (0x21 ≤ hdrType rx.pkt) && decide (hdrType rx.pkt ≤ 0x23)) = false := by
    rw [Bool.and_eq_false_iff, decide_eq_false_iff_not, decide_eq_false_iff_not]
    omega
  exact (if_neg (by simp [hv, hd, outside])).trans (if_pos (by omega))

/-- A link-scoped datagram is a request where it has not expired, has PTYPE 0x20 and no hop, and came over a fabric link to an adapter
without an ID; else it is counted. -/
theorem exec_linkScopedRequestRx_eq {a : State} (hv : hdrVc rx.pkt = 5) (hd : hdrDstAdapter rx.pkt = 0xFFFF)
    (ha : a = s.freeIngress rx.port 5 0 rx.pkt.len) :
    exec (.linkScopedRequestRx rx) s =
      if a.tagExpired rx.pkt = true ∨ hdrType rx.pkt ≠ 0x20 ∨ a.hasId = true ∨ hdrHops rx.pkt ≠ 0 ∨ a.fabricUp rx.port = false then
        .next (a.bump d19_0107 0)
      else .next (a.takeDictRequest rx.pkt (fun q => .link rx.port (hdrSrcAdapter rx.pkt) q)) := by
  subst ha
  refine (if_neg (by simp [hv, hd])).trans ?_
  simp only [Bool.or_eq_true, decide_eq_true_eq, Bool.not_eq_true', or_assoc]

/-- A response for this adapter is taken; only that of an unconfigured partner is kept. -/
theorem exec_dictResponseRx_response (hv : hdrVc rx.pkt = 5) (ht : hdrType rx.pkt = 0x21) (hd : hdrDstAdapter rx.pkt ≠ 0xFFFF) :
    exec (.dictResponseRx rx) s = .next (s.takeDatagram rx (State.takeDictResponse rx.port rx.pkt)) :=
  if_pos (by simp [hv, ht, hd])

end

theorem State.takeDictResponse_configured {port : Nat} {p : Packet} (s : State) (hs : hdrSrcAdapter p ≠ 0xFFFF) :
    s.takeDictResponse port p = s :=
  if_pos hs

theorem State.takeDictResponse_unconfigured {port : Nat} {p : Packet} {h body : Bytes} (hs : hdrSrcAdapter p = 0xFFFF)
    (ho : s.openDatagram p = .ok (h, body)) :
    s.takeDictResponse port p = ({ s with mgmt := { s.mgmt with
      linkResp := slice 0 1024 (leBytes 1 port ++ [1, 0, 0] ++ h ++ body.take 1004) } } : State).bump d19_0052 0 := by
  refine (if_neg (not_not_intro hs)).trans ?_
  simp only [ho]

end

/-! ### The statement -/

/-- Settles O26, by the lemmas of the segment's port, of a request as it is judged, and of datagrams on VC5; that the source table is
checked for room before a request is STALE, and that an unknown datagram is counted, are the model's choices (log entry 90). -/
theorem segmentAndDatagrams : Obligations.SegmentAndDatagrams := by
  unfold Obligations.SegmentAndDatagrams
  refine ⟨?segment, fun frame collisions s hp he hr => ⟨fun f hf => ?icmp, fun hn => ?counted⟩,
    fun line inverted s a hp he hl ha => ⟨fun h => ?same, fun h => ?changed⟩, fun beacon s => exec_plcaBeaconTimeout_node beacon, ?fabric,
    fun rx s hv hd => ⟨exec_dictRequestRx_request hv hd, exec_dictRequestRx_unlisted hv hd⟩,
    fun rx s a hv hd ha => ⟨fun h => ?discarded, fun hx ht hi hh hu => ?linkScoped⟩,
    fun rx s hv ht hd => ⟨exec_dictResponseRx_response hv ht hd, fun hs s => State.takeDictResponse_configured s hs,
      fun hs s h body => State.takeDictResponse_unconfigured hs⟩⟩
  case segment =>
    intro frame collisions s b h body tag seq r c hc hp he hr hb hh hbody htag hseq hroute judged hj
    rw [exec_segFrame_request hc hp he hr]
    have long (hl : 32 ≤ b.length) := State.takeSegment_judged collisions hb hl hh hbody htag hseq hroute hj
    refine ⟨fun hbad => ?_, fun hl => ?_⟩
    · by_cases hl : b.length < 32
      · rw [State.takeSegment_short collisions hb hl]
      · rw [long (Nat.not_lt.mp hl), hbad.resolve_left hl]
        rfl
    · rw [long hl]
      refine ⟨?_, ?_, ?_, fun last => ?_, ?_⟩ <;> rintro rfl <;> rfl
  case icmp => rw [exec_segFrameRx_other collisions hp he hr, hf]
  case counted => rw [exec_segFrameRx_other collisions hp he hr, hn]
  case same => rw [exec_segLineCheck_served hp he hl ha, if_pos h]
  case changed => rw [exec_segLineCheck_served hp he hl ha, if_neg h]
  case fabric =>
    intro p mk s h body seq judged hh hbody hseq hj
    have long (hs : hdrSrcAdapter p ≠ 0xFFFF) (hl : 16 ≤ p.payload.length) := State.takeDictRequest_judged mk hs hl hh hbody hseq hj
    refine ⟨fun hbad => ?_, fun hs hl => ?_⟩
    · by_cases hshort : hdrSrcAdapter p = 0xFFFF ∨ p.payload.length < 16
      · exact State.takeDictRequest_short mk hshort
      · rw [not_or, Nat.not_lt] at hshort
        obtain ⟨hs, hl⟩ := hshort
        rw [long hs hl, (hbad.resolve_left hs).resolve_left (Nat.not_lt.mpr hl)]
        rfl
    · rw [long hs hl]
      refine ⟨?_, ?_, ?_, fun last => ?_, ?_⟩ <;> rintro rfl <;> rfl
  case discarded => rw [exec_linkScopedRequestRx_eq hv hd ha, if_pos h]
  case linkScoped => rw [exec_linkScopedRequestRx_eq hv hd ha, if_neg (by simp [hx, ht, hi, hh, hu])]

end Sys2Proof.Machine
